-- ==== Sys2Proof/Word.lean ====
section
/-! DEFINITION. Word.lean: the widths in which software sees the part's words: a byte, a 16-bit flag field and a 32-bit register. -/
namespace Sys2Proof

/-- One byte of a packet, a unit body or memory. -/
abbrev Byte := BitVec 8

/-- A 16-bit flag field, such as FLAGS of a line stamp (R13). -/
abbrev Word16 := BitVec 16

/-- A 32-bit register of a window (R5). -/
abbrev Word32 := BitVec 32

end Sys2Proof
end

