-- ==== Sys2Proof/Machine/Bits.lean ====
section
/-! DEFINITION. Machine/Bits.lean: byte order (R3), the arithmetic helpers of R25 and R26, and bit fields of registers. -/
namespace Sys2Proof.Machine

/-- `n` bytes of a number, least significant first (R3). -/
def leBytes : Nat → Nat → List Byte
  | 0, _ => []
  | n + 1, v => BitVec.ofNat 8 v :: leBytes n (v / 256)

/-- The number that bytes spell, least significant first (R3). -/
def ofLe : List Byte → Nat
  | [] => 0
  | b :: bs => b.toNat + 256 * ofLe bs

/-- `n` bytes of a number in network order, most significant first (R3). -/
def beBytes (n v : Nat) : List Byte := (leBytes n v).reverse

/-- Two's complement code of an integer in `n` bits. -/
def toCode (n : Nat) (x : Int) : Nat := (x % (2 ^ n : Int)).toNat

/-- The integer that `n` bits spell in two's complement. -/
def ofCode (n v : Nat) : Int := if v % 2 ^ n < 2 ^ (n - 1) then (v % 2 ^ n : Nat) else (v % 2 ^ n : Nat) - (2 ^ n : Int)

/-- A field of `n` bytes taken from an offset of a byte string; bytes beyond the end read 0. -/
def leAt (bs : List Byte) (off n : Nat) : Nat := ofLe ((bs.drop off).take n)

/-- Zero bytes appended up to a multiple of `n`. -/
def padTo (n : Nat) (bs : List Byte) : List Byte := bs ++ List.replicate ((n - bs.length % n) % n) 0

/-- A length rounded up to a multiple of `n`. -/
def roundUp (n v : Nat) : Nat := (v + n - 1) / n * n

/-- R25: saturation to `b` unsigned bits. -/
def satU (x : Int) (b : Nat) : Nat := if x < 0 then 0 else if x > 2 ^ b - 1 then 2 ^ b - 1 else x.toNat

/-- R25: saturation to `b` signed bits. -/
def satS (x : Int) (b : Nat) : Int :=
  if x < -(2 ^ (b - 1)) then -(2 ^ (b - 1)) else if x > 2 ^ (b - 1) - 1 then 2 ^ (b - 1) - 1 else x

/-- R25, R26: round half up to `n` fewer fraction bits. -/
def rnd (x : Int) (n : Nat) : Int := if n = 0 then x else Int.fdiv (x + 2 ^ (n - 1)) (2 ^ n)

/-- A rational rounded half up to an integer (R26). -/
def rndRat (q : Rat) : Int := (q + 1 / 2).floor

/-- A counter of `b` bits that stops at its largest value. -/
def satInc (b v : Nat) : Nat := if v + 1 < 2 ^ b then v + 1 else 2 ^ b - 1

/-- One bit of a number. -/
def bitOf (v i : Nat) : Bool := v.testBit i

/-- Bits `hi..lo` of a number. -/
def field (v hi lo : Nat) : Nat := v / 2 ^ lo % 2 ^ (hi + 1 - lo)

/-- A flag as 0 or 1. -/
def b2n (b : Bool) : Nat := if b then 1 else 0

/-- Bit `i` of a flag register set (R6, the hardware's side). -/
def setFlag {n : Nat} (f : BitVec n) (i : Nat) : BitVec n := f ||| BitVec.ofNat n (2 ^ i)

/-- Bit `i` of a flag register. -/
def hasFlag {n : Nat} (f : BitVec n) (i : Nat) : Bool := f.getLsbD i

/-- A flag set only where a condition holds. -/
def setFlagIf {n : Nat} (c : Bool) (f : BitVec n) (i : Nat) : BitVec n := if c then setFlag f i else f

/-- R6, W1C: the bits written as 1 become 0. -/
def w1c {n : Nat} (f w : BitVec n) : BitVec n := f &&& ~~~ w

/-- The floor of the square root, by bisection on at most `fuel` bits. -/
def isqrtAux : Nat → Nat → Nat → Nat
  | 0, _, r => r
  | k + 1, v, r => let t := r + 2 ^ k; if t * t ≤ v then isqrtAux k v t else isqrtAux k v r

/-- The floor of the square root of a number below 2 ^ 256. -/
def isqrt (v : Nat) : Nat := isqrtAux 128 v 0

/-- Gray code to binary for a word of `n` bits. -/
def grayToBin : Nat → Nat → Nat
  | 0, v => v
  | n + 1, v => Nat.xor v (grayToBin n (v / 2))

/-- The lowest index below `n` at which a condition holds. -/
def firstIdx (p : Nat → Bool) : Nat → Option Nat := fun n => (List.range n).find? p

/-- Apply a state change for each item of a list, in order. -/
def forEach {σ α : Type} (xs : List α) (f : α → σ → σ) (s : σ) : σ := xs.foldl (fun s x => f x s) s

end Sys2Proof.Machine
end

