-- ==== Sys2Proof/Machine/Maps.lean ====
section
/-! DEFINITION. Machine/Maps.lean: finite tables of the part (lanes, ports, queues, parameters, units of a flow) held as
lists of key and value pairs. A key that stands in no pair has the table's reset value, which the accessor of each
table names. Keys stand in strictly rising order and no pair holds the reset value, so equal tables are equal lists. -/
namespace Sys2Proof.Machine

/-- A table keyed by instance, identifier or sequence number. -/
abbrev Map (α : Type) := List (Nat × α)

/-- The value of a key, or `d` where the table lists none. -/
def Map.get {α : Type} (d : α) : Map α → Nat → α
  | [], _ => d
  | (k, v) :: m, n => if n = k then v else Map.get d m n

/-- The pair of a key, if the table lists one. -/
def Map.find? {α : Type} : Map α → Nat → Option α
  | [], _ => none
  | (k, v) :: m, n => if n = k then some v else Map.find? m n

/-- Remove a key. -/
def Map.erase {α : Type} (m : Map α) (n : Nat) : Map α := m.filter (fun p => p.1 ≠ n)

/-- Insert a pair in key order, replacing the key's earlier value. -/
def Map.insert {α : Type} : Map α → Nat → α → Map α
  | [], n, v => [(n, v)]
  | (k, w) :: m, n, v =>
    if n < k then (n, v) :: (k, w) :: m
    else if n = k then (n, v) :: m
    else (k, w) :: Map.insert m n v

/-- Give a key a value; the reset value `d` is held by listing nothing. -/
def Map.set {α : Type} [DecidableEq α] (d : α) (m : Map α) (n : Nat) (v : α) : Map α :=
  if v = d then m.erase n else Map.insert m n v

/-- The form every table keeps: keys strictly rising. -/
def Map.sorted {α : Type} (m : Map α) : Bool := decide ((m.map Prod.fst).Pairwise (· < ·))

end Sys2Proof.Machine
end

