-- ==== Sys2Proof/Types.lean ====
section
/-! DEFINITION. Types.lean: the plain data that commands carry and State holds: principals and transports (R7, R48), the
header of a Xesil command (R46), line stamps (R9) and lines, rows of the parameter dictionary (R69), PTP messages (R323)
and the payloads of the part's events. -/
namespace Sys2Proof

/-- R7: the principals. -/
inductive Principal where
  | sup | twin | appS | appN | mgmt | hosttw | dbg
  deriving DecidableEq, Repr

/-- The code of a principal (R7). -/
def Principal.code : Principal → Nat
  | .sup => 0 | .twin => 1 | .appS => 2 | .appN => 3 | .mgmt => 4 | .hosttw => 5 | .dbg => 6

/-- R50: the sender of a frame: its MAC address, IP address (an IPv4 address as ::ffff:a.b.c.d) and UDP port. -/
structure Peer where
  mac  : Nat := 0
  ip   : Nat := 0
  port : Nat := 0
  deriving DecidableEq, Repr

/-- R48: the transport a packet arrives on. A mailbox is named by its pair (0, 1 of APP-S and 2, 3 of APP-N), a datagram
by its sender, key slot and NONCE (R50). -/
inductive Via where
  | mailbox (pair : Fin 4)
  | udp (peer : Peer) (slot nonce : Nat)
  | ht
  | shaesh
  deriving DecidableEq, Repr

/-- The code of a transport (R48). -/
def Via.code : Via → Nat
  | .mailbox _ => 0 | .udp _ _ _ => 1 | .ht => 2 | .shaesh => 3

/-- The principal of a transport (R48). -/
def Via.principal : Via → Principal
  | .mailbox p => if p.val < 2 then .appS else .appN
  | .udp _ _ _ => .mgmt
  | .ht => .hosttw
  | .shaesh => .twin

/-- R46: the header fields of a command that its sender chooses; `reserved` is the byte offset in the parameter field of the first
reserved field of its packet that is not 0, and `raw` that parameter field as received. -/
structure Hdr where
  via        : Via
  session    : Nat
  seq        : Nat
  tag        : Nat
  force      : Bool := false
  epochCheck : Bool := false
  quiet      : Bool := false
  mirrored   : Bool := false
  epoch      : Nat := 0
  reserved   : Option Nat := none
  raw        : Option (List Byte) := none
  deriving DecidableEq, Repr

/-- What identifies a Xesil command: opcode, header, parameter field, and the SUBJECT, COUNT and VALUE of its log entry (R92). `logged` are the bytes that DIGEST
covers where these are not the parameter field, `noDigest` that DIGEST is 0 (R94). `bad` is the status of a packet that fails step 8 or 9 of R63. -/
structure Cmd where
  op       : Nat
  h        : Hdr
  params   : List Byte := []
  subject  : Nat := 0
  count    : Nat := 0
  logged   : Option (List Byte) := none
  noDigest : Bool := false
  value    : Nat := 0
  bad      : Option Nat := none
  deriving DecidableEq, Repr

/-- The principal of a command (R48). -/
def Cmd.who (c : Cmd) : Principal := c.h.via.principal

/-- R77: the apply classes. -/
inductive Cls where
  | I | L | F | S
  deriving DecidableEq, Repr

/-- One range of values: from `lo` to `hi` in steps. -/
structure Rng where
  lo   : Int
  hi   : Int
  step : Nat
  deriving DecidableEq, Repr

/-- A row of a parameter table (R69, R70, R72, R77): instances, numbers (num, num + step, … , count of them), format,
ranges, default (plus `dfltStep` per number), class, owner (255: the Rein's own OWNER, R427), and a property of the value
itself (1: R114, 2: R313, 3: R140). -/
structure ParamRow where
  instLo   : Nat
  instHi   : Nat
  num      : Nat
  step     : Nat
  count    : Nat
  signed   : Bool
  bits     : Nat
  ranges   : List Rng
  dflt     : Int
  dfltStep : Int
  cls      : Cls
  owner    : Nat
  extra    : Nat
  deriving DecidableEq, Repr

/-- A table parameter (R71). -/
structure TabRow where
  unit   : Nat
  instLo : Nat
  instHi : Nat
  num    : Nat
  size   : Nat
  cls    : Cls
  deriving DecidableEq, Repr

/-- R9: the line stamp. -/
structure Stamp where
  port       : Nat := 0xFF
  flags      : Word16 := 0
  lineInFrame : Nat := 0
  frame      : Nat := 0
  epoch      : Nat := 0
  globalLine : Nat := 0
  timeS      : Nat := 0
  timeNs     : Nat := 0
  position   : Int := 0
  lineCheck  : Nat := 0
  deriving DecidableEq, Repr

/-- A corrected or stitched line: its stamp, its samples in column order with the components of a pixel together (R12),
the components per pixel, for a stitched line the coverage mask, one Bool per column (R207), and whether it is the first of its port's run (R10). -/
structure Line where
  stamp : Stamp
  comps : Nat
  px    : List Nat
  mask  : List Bool := []
  first : Bool := false
  deriving DecidableEq, Repr

/-- A port line as received: its stamp and its bytes in stream order (R12, R124). -/
structure RawLine where
  stamp : Stamp
  bytes : List Byte
  deriving DecidableEq, Repr

/-- R67: one entry of a detail block. -/
structure Detail where
  status : Nat
  id     : Nat
  value  : Nat
  deriving DecidableEq, Repr

/-- R46: a reply packet. FLAGS and EPOCH are those of the reply; `params` is its parameter field. -/
structure Reply where
  via       : Via
  opcode    : Nat
  tag       : Nat
  session   : Nat
  seq       : Nat
  status    : Nat
  interim   : Bool := false
  more      : Bool := false
  epoch     : Nat
  principal : Nat
  params    : List Byte := []
  deriving DecidableEq, Repr

/-- R92: a change-log entry before it is laid out in 64 bytes. A TEXT entry keeps its text in `text`. -/
structure LogEntry where
  index     : Nat := 0
  timeS     : Nat := 0
  timeNs    : Nat := 0
  kind      : Nat
  principal : Nat := 0
  transport : Nat := 5
  flags     : Word16 := 0
  opcode    : Nat := 0
  tag       : Nat := 0
  status    : Nat := 0
  epoch     : Nat := 0
  subject   : Nat := 0
  count     : Nat := 0
  session   : Nat := 0
  value     : Nat := 0
  digest    : Nat := 0
  text      : List Byte := []
  deriving DecidableEq, Repr

/-- R338: the sequence and acknowledgement fields of a received Shaesh message. -/
structure MsgHdr where
  mseq : Nat
  ack  : Nat
  deriving DecidableEq, Repr

/-- R338: a Shaesh message that this device sends. -/
structure TwinMsg where
  typ     : Nat
  mseq    : Nat := 0
  ack     : Nat := 0
  payload : List Byte := []
  deriving DecidableEq, Repr

/-- R338, DIGESTS: one entry. -/
structure DigestEntry where
  product : Nat
  source  : Nat
  flow    : Nat
  epoch   : Nat
  firstId : Nat
  seq     : Nat
  digest  : Nat
  deriving DecidableEq, Repr

/-- R338, DISPOSED: one entry. -/
structure DisposedEntry where
  flow        : Nat
  disposition : Nat
  seq         : Nat
  deriving DecidableEq, Repr

/-- R338, HEARTBEAT: what the peer reports. -/
structure Heartbeat where
  state   : Nat
  unitId  : Nat
  lineHigh : Bool
  driving : Bool
  epoch   : Nat
  slots   : List Nat
  deriving DecidableEq, Repr

/-- R352 step 3: the Active's counts at the trigger that the joiner paired, the difference of their TIMEs, and B_p of R197. -/
structure JoinCounts where
  port       : Nat
  globalLine : Nat
  frame      : Nat
  lineInFrame : Nat
  axis       : Nat
  position   : Int
  ltgAcc     : Int
  timeDeltaNs : Int
  base       : Option Nat := none
  deriving DecidableEq, Repr

/-- The common fields of a received PTP message (IEEE 1588-2019, as R323 uses them); `correction` is the correctionField in
units of 2^-16 ns, `logInterval` the logMessageInterval. -/
structure PtpHdr where
  version      : Nat := 2
  minorVersion : Nat := 1
  domain       : Nat := 0
  transport    : Nat := 0
  sourceId     : Nat := 0
  sourcePort   : Nat := 1
  seqId        : Nat := 0
  correction   : Int := 0
  logInterval  : Int := 0
  deriving DecidableEq, Repr

/-- The data set an Announce carries (R323). -/
structure AnnounceData where
  priority1    : Nat
  clockClass   : Nat
  accuracy     : Nat
  variance     : Nat
  priority2    : Nat
  identity     : Nat
  stepsRemoved : Nat
  utcOffset    : Int
  deriving DecidableEq, Repr

/-- A frame that leaves a network port, recorded in the order sent, with its bytes but for the FCS. -/
inductive NetOut where
  /-- A segment of a product unit (R297, R303). -/
  | segment (port flow seq offset : Nat) (frame : List Byte)
  /-- An answer to an address request for the port's own address (R296), or an unsolicited one (R347). -/
  | arpReply (port : Nat) (v6 : Bool) (frame : List Byte)
  /-- An ICMP or ICMPv6 echo reply with the request's data (R296). -/
  | echoReply (port : Nat) (v6 : Bool) (data frame : List Byte)
  /-- A PTP message by its messageType, with its sequenceId and the instant at which it crosses the PCS (R323, R324). -/
  | ptp (port typ seqId : Nat) (time : Rat) (frame : List Byte)
  /-- A Xesil reply in a datagram (R50). -/
  | reply (port : Nat) (frame : List Byte)
  deriving DecidableEq, Repr

/-- R322, R323: a PTP message before it is built: its messageType and sequenceId, the correctionField of the request it answers, a time that it
carries (a receive time, or the send time that a follow-up reports), and the port identity of the requester. -/
structure PtpOut where
  typ   : Nat
  seqId : Nat
  corr  : Int := 0
  time  : Rat := 0
  reqId : Nat := 0
  reqPort : Nat := 0
  deriving DecidableEq, Repr

/-- R297: what waits ahead of every transmit queue: a frame, or a PTP message whose send time is not fixed yet (R324). -/
inductive Urgent where
  | frame (out : NetOut)
  | ptp (m : PtpOut)
  deriving DecidableEq, Repr

/-- R49, R50, R63: what a transport delivers before any check: a fragment of a datagram, a mailbox packet with an error mark, a datagram with its
sender, destination port and payload, or a packet's bytes. -/
inductive BadPacket where
  | fragment
  | errorMark (pair : Fin 4)
  | datagram (peer : Peer) (dst : Nat) (payload : List Byte)
  | packet (via : Via) (bytes : List Byte)
  deriving DecidableEq, Repr

/-- R59: what a deferred command brings back from outside the supervisor: a status, result data, and whether a signature
or measurement it needed was good. -/
structure DeferredResult where
  status : Nat := 0
  data   : List Byte := []
  good   : Bool := true
  deriving DecidableEq, Repr

/-- R124: a word as a lane receives it, before its framing: 32 bits in word modes 0 and 2, the 64 scrambled bits of a block in mode 1; `ctl` marks the K
characters of a word in mode 0, bit by character, and is the sync header of a block in mode 1 (1 for 0b01, 2 for 0b10); `errs` counts the characters with
a code or disparity error in mode 0. -/
structure RawWord where
  bits : Nat
  ctl  : Nat := 0
  errs : Nat := 0
  deriving DecidableEq, Repr

/-- R124, R126: a raw LINE segment as one lane received it: LINE_COUNT, FS, FE, the reserved bit of H1, WORD_COUNT, the data words, the CRC word where
H1.CRC is 1, the code errors in it and those between the segment before and it, and whether the lane ran too far ahead. `header` tells that H1 and H2 alone
have come so far. Where `wire` is not empty it holds the words of the lane as received, idle words, START and segment, and the fields above but `skew` and
`header` are read from it. -/
structure RawSegment where
  count   : Nat
  fs      : Bool := false
  fe      : Bool := false
  wordCount : Nat
  words   : List Nat := []
  crc     : Option Nat := none
  res     : Bool := false
  codeErrs : Nat := 0
  idleErrs : Nat := 0
  skew    : Bool := false
  header  : Bool := false
  wire    : List RawWord := []
  deriving DecidableEq, Repr

/-- R125, R126: what a CONTROL_REPLY or EVENT segment carries on the master lane: its bytes, the CRC word where H1.CRC is 1, LINE_COUNT, and the code errors in it
and before it. -/
structure RawMessage where
  data  : List Byte := []
  crc   : Option Nat := none
  count : Nat := 0
  codeErrs : Nat := 0
  idleErrs : Nat := 0
  deriving DecidableEq, Repr

/-- R122: a CoaXPress stream data packet: its packet tag, its payload, and whether its CRC and its characters were without error. -/
structure StreamPacket where
  tag     : Nat
  payload : List Byte
  crcOk   : Bool := true
  codeOk  : Bool := true
  deriving DecidableEq, Repr

/-- R122: where a stream data packet came: the connection and its packet tag. -/
structure StreamPlace where
  conn : Fin 4
  tag  : Nat
  deriving DecidableEq, Repr

/-- R6: a write of 32 bits to a register that stands once in each of `n` blocks. -/
structure BlockWrite (n : Nat) where
  block : Fin n
  value : Word32 := 0
  deriving DecidableEq, Repr

/-- R118: a write of a lane's LN_CONTROL, and the bits that its checker has counted since the last update. -/
structure LaneWrite where
  block : Fin 64
  value : Word32 := 0
  bits  : Nat := 0
  deriving DecidableEq, Repr

/-- R296: a request for an address, with its sender. -/
structure AddressAsk where
  addr : Nat
  peer : Peer := {}
  deriving DecidableEq, Repr

/-- R296: an echo request: the address it came to, its identifier and sequence number, its data and its sender. -/
structure EchoAsk where
  addr  : Nat
  ident : Nat := 0
  data  : List Byte := []
  peer  : Peer := {}
  deriving DecidableEq, Repr

/-- R296, R311: why a frame is discarded, and the codewords that the port's FEC has corrected, or failed to correct, since the last such
frame. -/
structure BadFrame where
  badOrLong : Bool := false
  fecOk     : Nat := 0
  fecBad    : Nat := 0
  deriving DecidableEq, Repr

/-- R431, R434: who accesses a register window: the principal fixed at issue, and the SOURCE code of REFUSE_INFO (0 to 7 a
core, 0x40 + c a DMA channel). -/
structure Acc where
  principal : Principal
  source    : Nat := 0
  deriving DecidableEq, Repr

/-- R363, R364: a transaction that a requester issues: its requester (R363), address, whether it writes, the data that a core
writes, its length where it carries none, how long it has waited in ns when it reaches its channel, the bits of its first code word that a read finds
flipped (R360: 512 data bits, then 16 check bits), and the compress engine or the unit (port, flow, sequence number) that a read of CMPR or NETW serves, and the line of the history and the first of its 32 samples that
a read of RTP7 serves. -/
structure MemTxn where
  req    : Nat
  addr   : Nat
  write  : Bool := false
  data   : List Byte := []
  waited : Nat := 0
  len    : Nat := 64
  flips  : List (Fin 528) := []
  engine : Option Nat := none
  unit   : Option (Nat × Nat × Nat) := none
  line   : Option (Nat × Nat) := none
  deriving DecidableEq, Repr

/-- The bytes that a transaction moves. -/
def MemTxn.size (t : MemTxn) : Nat := if t.data = [] then t.len else t.data.length

/-- R404: what memory errors do to a line that a stage reads, and to its output as PROF and as the unit former read it: elements with the values as read,
those of the last two by index and value. -/
structure LineUpset (α : Type) where
  entry  : List α := []
  prof   : List (Nat × Nat) := []
  former : List (Nat × Nat) := []
  deriving DecidableEq, Repr

/-- PORT_LINE_DELIVERED: the port, and the bytes of the line that the unit former reads otherwise than they stood (R404). -/
structure PortRead where
  port   : Fin 16
  former : List (Nat × Nat) := []
  deriving DecidableEq, Repr

/-- R365: ELASTIC_OVERFLOW: what the 16 channel slices of a real-time port would hold, in bytes. -/
structure SliceFill where
  rtp   : Fin 8
  bytes : List Nat := []
  deriving DecidableEq, Repr

end Sys2Proof
end

