-- ==== Sys2Proof/Machine/Units/Insp.lean ====
section
/-! DEFINITION. Machine/Units/Insp.lean: the state of SEGM, unit 0x09, and RECD, unit 0x0A (chapters "Segmentation of the
Stitched Image" and "Object Records, Patches and Marking"). -/
namespace Sys2Proof.Machine

/-- An object (R239 to R246). `alt` is ALT_CHAIN (none: no other chain), `lo` is L_o, `frontier` the runs of its frontier, `held` how many entries of the store are its own (R244), and
`newRuns` those it received on the present line, `region` that of an overflow object, `due` the mark of R245, `loss` LINE_LOSS
so far, `empty` tells that no run has been added to the segment yet, `numRead` is OBJECT as
an uncorrectable error left it. -/
structure Obj where
  num      : Nat
  chain    : Nat
  alt      : Option Nat := none
  flags    : Word16 := 0
  set      : Nat
  first    : Nat
  last     : Nat
  posFirst : Int
  posLast  : Int
  xMin     : Nat := 0
  xMax     : Nat := 0
  area     : Nat := 0
  nDark    : Nat := 0
  nBright  : Nat := 0
  nSat     : Nat := 0
  sumX     : Nat := 0
  sumY     : Nat := 0
  sumD     : Int := 0
  sumD2    : Nat := 0
  vMin     : Nat := 0
  vMax     : Nat := 0
  runs     : Nat := 0
  merges   : Nat := 0
  ports    : Nat := 0
  loss     : Nat := 0
  lo       : Nat
  frontier : List (Nat × Nat) := []
  held     : Nat := 0
  newRuns  : List (Nat × Nat) := []
  region   : Option Nat := none
  due      : Bool := false
  empty    : Bool := true
  numRead  : Option Nat := none
  deriving DecidableEq, Repr

/-- An object handed over (R246): its epoch, the stitcher's run, the line at whose end it was handed over, the TIME of that line, its
stitched frame's first line and whether it is the last object of a FRAME_END line. -/
structure ClosedObj where
  obj     : Obj
  epoch   : Nat
  runNo   : Nat := 0
  h       : Nat
  refNs   : Nat
  rowZero : Nat
  lastOf  : Bool := false
  deriving DecidableEq, Repr

/-- The published set of a stitched channel as a frame is classed against it (R226): the channel, C0, C1, ref, σ and the valid bit. -/
structure RefSet where
  chan  : Nat
  c0    : Nat
  c1    : Nat
  ref   : List Nat
  sigma : List Nat
  valid : Bool
  deriving DecidableEq, Repr

/-- The counters of R250, in order. -/
structure SegmCounts where
  lines : Nat := 0
  dark : Nat := 0
  bright : Nat := 0
  sat : Nat := 0
  noref : Nat := 0
  runs : Nat := 0
  opened : Nat := 0
  handed : Nat := 0
  small : Nat := 0
  merges : Nat := 0
  cuts : Nat := 0
  ovfCtx : Nat := 0
  ovfFront : Nat := 0
  ovfClosed : Nat := 0
  high : Nat := 0
  held : Nat := 0
  deriving DecidableEq, Repr

/-- SEGM. `inq` holds the stitched lines to come, with the published sets at each FRAME_START; `refs` are those in use, `objs` the
open objects in ascending number, `next` the object counter, `runNo` the stitcher's run that its lines are of, `lastLine` the stamp of the line done last, `rowZero` the first line
of the present stitched frame, `stopping` tells that the stitched stream has ended behind the lines of `inq`. -/
structure Segm where
  run      : Bool := false
  runNo    : Nat := 0
  epoch    : Nat := 0
  inq      : List (Line × Option (List RefSet)) := []
  refs     : List RefSet := []
  skip     : Bool := false
  objs     : List Obj := []
  next     : Nat := 0
  lastLine : Option Stamp := none
  rowZero  : Nat := 0
  stopping : Bool := false
  counts   : SegmCounts := {}
  deriving DecidableEq, Repr

/-- A requested patch (R262): the object and its epoch, the stitcher's run, columns, lines, n_cut, the TRUNC and clamp marks, and the TIME of the
record's hand-over line. -/
structure PatchReq where
  object : Nat
  epoch  : Nat
  runNo  : Nat
  x0     : Nat
  x1     : Nat
  top    : Nat
  bottom : Nat
  nCut   : Nat
  truncTop   : Bool
  clampLeft  : Bool
  clampRight : Bool
  deriving DecidableEq, Repr

/-- The counters of R269, in order. -/
structure RecdCounts where
  formed : Nat := 0
  emitted : Nat := 0
  suppressed : Nat := 0
  noRule : Nat := 0
  patches : Nat := 0
  trunc : Nat := 0
  oversize : Nat := 0
  markReq : Nat := 0
  marked : Nat := 0
  missed : Nat := 0
  late : Nat := 0
  refused : Nat := 0
  dropped : Nat := 0
  held : Nat := 0
  deriving DecidableEq, Repr

/-- RECD. `inq` holds the objects handed over, `hist` the line history (oldest first, each line with its mask and the stitcher's run), `patches` the
requests that wait, `stopping` as for SEGM. -/
structure Recd where
  run      : Bool := false
  inq      : List ClosedObj := []
  hist     : List (Nat × Line) := []
  patches  : List PatchReq := []
  stopping : Bool := false
  counts   : RecdCounts := {}
  deriving DecidableEq, Repr

end Sys2Proof.Machine
end

