-- ==== Sys2Proof/Machine/Units/Port.lean ====
section
/-! DEFINITION. Machine/Units/Port.lean: the state of PORT, unit 0x03 (chapter "Camera Ports"). -/
namespace Sys2Proof.Machine

/-- The TIME and POSITION latched for a line (R11, R152), with the stamp flags HOLDOVER, TIME_FREE and POS_INVALID and the
steps that the Timekeeper had taken (R318) and the illegal transitions that the axis had flagged (R13). -/
structure Latch where
  timeS  : Nat := 0
  timeNs : Nat := 0
  pos    : Int := 0
  flags  : Word16 := 0
  steps  : Nat := 0
  ills   : Nat := 0
  deriving DecidableEq, Repr

/-- A line as received: its bytes, the check-value errors that cover it, its raw LINE_COUNT and frame flags, the latch at
its first pixel word, whether every camera-side setting was acknowledged by then (R138), the trigger it answers, and its
fate: 0 kept, 1 late, 2 unsolicited (R130). -/
structure GotLine where
  bytes : List Byte := []
  errs  : Nat := 0
  count : Nat := 0
  fs    : Bool := false
  fe    : Bool := false
  start : Latch := {}
  camOk : Bool := true
  num   : Nat := 0
  fate  : Nat := 0
  deriving DecidableEq, Repr

/-- A line that is due (R129, R130), or on an area port a frame: its trigger number and latch, whether its line has begun to
arrive, the line that answers it, and whether it became LOSS: 1 by timeout, 2 by overflow (R130, R153). -/
structure Due where
  num   : Nat
  latch : Latch
  begun : Bool := false
  got   : Option GotLine := none
  repl  : Nat := 0
  count : Option Nat := none
  deriving DecidableEq, Repr

/-- One lane's raw segment (R124): `done` tells that it has come whole, not its header alone. -/
structure RawSeg where
  lane  : Nat
  count : Nat
  words : List Nat := []
  want  : Nat := 0
  errs  : Nat := 0
  fs    : Bool := false
  fe    : Bool := false
  done  : Bool := false
  deriving DecidableEq, Repr

/-- What a port puts on its uplink: a CoaXPress trigger packet with its delay field in ns, a control command (R123), a raw trigger character, or a raw
control message as its characters, K characters marked (R127); the acknowledgement of a camera event (R122), the messages of discovery and of link
establishment (R121); and the PRBS pattern in place of traffic, with its injection and its first bits (R110), until the port's idle bits stand again. -/
inductive UplOut where
  | trigger (delay : Nat)
  | command (tag kind addr len : Nat) (data : List Byte)
  | rawTrigger
  | rawMessage (chars : List (Bool × Byte))
  | eventAck
  | discovery
  | establishment
  | pattern (code injection rate : Nat) (bits : List Bool)
  | idle
  deriving DecidableEq, Repr

/-- R116: what left on an uplink, with the rate, inversion and swing of its output. -/
structure UplSent where
  what   : UplOut
  rate   : Nat
  invert : Bool
  swing  : Nat
  deriving DecidableEq, Repr

/-- A control access (R136, R137): tag, 0 read, 1 write, 2 camera-side setting, the deferred command it serves, and the
milliseconds by which wait acknowledgements extend CAM_TIMEOUT (R122). -/
structure CamAcc where
  tag     : Nat
  kind    : Nat
  session : Nat := 0
  seq     : Nat := 0
  addr    : Nat
  len     : Nat := 0
  data    : List Byte := []
  sent    : Bool := false
  extra   : Nat := 0
  deriving DecidableEq, Repr

/-- Camera-side settings of an epoch (R137, R138): its entries, how many were sent and acknowledged, and a failure.
`prior` is the epoch before, whose settings were not all acknowledged when this set was armed, with `priorLeft` of them still to be acknowledged, `frame`
the boundary frame. -/
structure CamSet where
  epoch   : Nat := 0
  frame   : Nat := 0
  prior   : Option Nat := none
  priorLeft : Nat := 0
  entries : List (Nat × Nat) := []
  sent    : Nat := 0
  acked   : Nat := 0
  failed  : Bool := false
  deriving DecidableEq, Repr

/-- The counters of R139, in order. -/
structure PortCounts where
  crc : Nat := 0
  code : Nat := 0
  seq : Nat := 0
  header : Nat := 0
  skew : Nat := 0
  length : Nat := 0
  received : Nat := 0
  delivered : Nat := 0
  lossTimeout : Nat := 0
  lossOverflow : Nat := 0
  fill : Nat := 0
  excess : Nat := 0
  late : Nat := 0
  unsolicited : Nat := 0
  hbLost : Nat := 0
  dropped : Nat := 0
  deriving DecidableEq, Repr

/-- What the frame report of the frame in progress gathers (R139). -/
structure FrameAcc where
  flags   : Word16 := 0
  epoch   : Nat := 0
  first   : Nat := 0
  lines   : Nat := 0
  missing : Nat := 0
  excess  : Nat := 0
  lost    : Nat := 0
  errs    : Nat := 0
  deriving DecidableEq, Repr

/-- A stamped line in the ingress buffer, with the frame report that goes with a FRAME_END line; `first` tells that it is the first of its port's run (R10). -/
structure OutLine where
  line   : RawLine
  report : Option (List Byte) := none
  first  : Bool := false
  deriving DecidableEq, Repr

/-- A camera port. `run` tells that RUN is in force and `everRun` that lines are due (R129). `cur` is the line in progress on a
CoaXPress port or the raw line started, `conns` the stream packets waiting per connection with the connection `turn` that is next and its packet
tag `tagNext` (R122), `segs` the raw segments in their order, `ready` the lines received whole and not yet paired, `incoming` the
triggers that LTGi has issued (with the mark of R153), `due` the pending triggers or due times, `trigNum` the number of the
next trigger, `sendNum` that of the next trigger that the camera counts (R126), `debt` that of R130,
`lostCounts` the LINE_COUNTs of the triggers that became LOSS. On an area port `inFrame`, `frameLatch` (`frameDue` until row 0 of a
free-running frame begins), `row`, `height`, `gotRows` and `mismatch`
describe the frame in progress, `excessing` that further lines are excess, `hold` the held last line (R133). `globalLine`,
`frame`, `lineInFrame`, `frameLen` and `epoch` are those of the next line, `lastSteps` the Timekeeper steps at the
last latch and `lastIlls` the illegal transitions of its axis, `fresh` that no line of the run has been stamped, `uncertain` UNCERTAIN_EPOCH of the frame, `out` the ingress buffer's stamped lines, `uplink` what left on the uplink in the order sent,
`seen` the frame report as the delivered lines give it (R37). -/
structure Port where
  run       : Bool := false
  state     : Nat := 0
  everRun   : Bool := false
  cur       : Option GotLine := none
  conns     : Map (List StreamPacket) := []
  turn      : Nat := 0
  tagNext   : Option Nat := none
  segs      : List RawSeg := []
  ready     : List GotLine := []
  incoming  : List (Latch × Bool) := []
  due       : List Due := []
  trigNum   : Nat := 0
  sendNum   : Nat := 0
  debt      : Nat := 0
  lostCounts : List Nat := []
  inFrame   : Bool := false
  frameLatch : Option Latch := none
  frameDue  : Option Latch := none
  row       : Nat := 0
  height    : Nat := 0
  gotRows   : Nat := 0
  excessing : Bool := false
  hold      : Option OutLine := none
  lineInFrame : Nat := 0
  frameLen  : Nat := 0
  frame     : Nat := 0
  globalLine : Nat := 0
  epoch     : Nat := 0
  lastSteps : Nat := 0
  lastIlls  : Nat := 0
  fresh     : Bool := true
  uncertain : Bool := false
  report    : FrameAcc := {}
  seen      : FrameAcc := {}
  mismatch  : Bool := false
  out       : List OutLine := []
  trigAcks  : Nat := 0
  trigSent  : Nat := 0
  trigPulse : Bool := false
  eventsAcked : Nat := 0
  tests     : Nat := 0
  nextTag   : Nat := 0
  access    : List CamAcc := []
  cam       : CamSet := {}
  uplink    : List UplSent := []
  delivered : Bool := false
  counts    : PortCounts := {}
  deriving DecidableEq, Repr

end Sys2Proof.Machine
end

