-- ==== Sys2Proof/Machine/Units/Motn.lean ====
section
/-! DEFINITION. Machine/Units/Motn.lean: the state of MOTN, unit 0x04 (chapter "Encoders, Line Triggers and Position
Compare"). -/
namespace Sys2Proof.Machine

/-- The read-out registers that a read of AX_POS_LO captures together (R158). -/
structure AxCapture where
  pos   : Int := 0
  speed : Int := 0
  accel : Int := 0
  index : Int := 0
  deriving DecidableEq, Repr

/-- An axis (R143 to R150). `a`, `b` are the decoder's reference levels, `d` the last applied direction, `pend` an absorbed
count, `illegal` an illegal transition since the last applied count, `illegals` all of them since reset, `same` the run of equal-signed applied counts and
`sign` its sign, `clearNs` when VALID was cleared, `gained` tells that a BANDWIDTH has been staged and applied (R148). -/
structure Axis where
  run     : Bool := false
  p       : Int := 0
  a       : Bool := false
  b       : Bool := false
  d       : Int := 1
  pend    : Bool := false
  ssiPrev : Option Nat := none
  flags   : Word32 := 0
  illegal : Bool := false
  illegals : Nat := 0
  index   : Int := 0
  xh      : Int := 0
  vt      : Int := 0
  ah      : Int := 0
  v       : Int := 0
  dir     : Bool := false
  still   : Bool := false
  valid   : Bool := false
  same    : Nat := 0
  sign    : Int := 1
  ssiBig  : Bool := false
  clearNs : Nat := 0
  gained  : Bool := false
  cap     : AxCapture := {}
  nIllegal : Nat := 0
  nSsiErr : Nat := 0
  nAbsorbed : Nat := 0
  nStill  : Nat := 0
  deriving DecidableEq, Repr

/-- A line-trigger generator (R151 to R153): its accumulator, the triggers it holds, the time of its last issued trigger and
the timer steps it has taken. -/
structure Ltg where
  run     : Bool := false
  acc     : Int := 0
  held    : List Latch := []
  lastNs  : Option Nat := none
  timer   : Nat := 0
  issued  : Nat := 0
  heldN   : Nat := 0
  dropped : Nat := 0
  deriving DecidableEq, Repr

/-- An entry of a compare list (R154). -/
structure PcEntry where
  pos   : Int
  late  : Bool := false
  bidir : Bool := false
  tag   : Nat := 0
  width : Nat := 0
  deriving DecidableEq, Repr

/-- A record of the fired FIFO (R157). -/
structure PcFired where
  tag     : Nat
  late    : Bool := false
  reverse : Bool := false
  deriving DecidableEq, Repr

/-- A position-compare unit (R154 to R158). `pulseEnd` is the end of the pulse in progress in ns. -/
structure Pc where
  run      : Bool := false
  list     : List PcEntry := []
  fired    : List PcFired := []
  flags    : Word32 := 0
  result   : Nat := 0
  insLo    : Word32 := 0
  insHi    : Word32 := 0
  missed   : Option Nat := none
  pulseEnd : Option Nat := none
  nFired   : Nat := 0
  nLate    : Nat := 0
  nMissed  : Nat := 0
  nRefused : Nat := 0
  nOvf     : Nat := 0
  deriving DecidableEq, Repr

/-- The whole of MOTN. -/
structure Motn where
  axes : Map Axis := []
  ltgs : Map Ltg := []
  pcs  : Map Pc := []
  deriving DecidableEq, Repr

end Sys2Proof.Machine
end

