-- ==== Sys2Proof/Machine/Units/Stch.lean ====
section
/-! DEFINITION. Machine/Units/Stch.lean: the state of STCH, unit 0x07, and PROF, unit 0x08 (chapters "Alignment and Stitching"
and "Profiles, Decimation and Detectors"). -/
namespace Sys2Proof.Machine

/-- An input of the stitcher: the corrected lines that wait to be written, B_p once it is known (R197), and the delay ring or
tile store as (index, row, line): the row is 0 in line mode (R200, R211). `ended` lists the frame indices whose
FRAME_END line, or a LOSS line in its place, has come, `bad` the lines (index, row) whose read-back was uncorrectable, `times`
TIME of the lines written, by index (R197), `readTo` the lowest index whose line has not been read (R200). -/
structure StchIn where
  inq   : List Line := []
  base  : Option Nat := none
  ring  : List (Nat × Nat × Line) := []
  ended : List Nat := []
  bad   : List (Nat × Nat) := []
  times : Map Nat := []
  readTo : Nat := 0
  deriving DecidableEq, Repr

/-- The preview row in progress (R213): the stamp of its first line with the flags ORed, the sums, and the lines taken. -/
structure PrevRow where
  stamp : Stamp
  sums  : List Nat
  lines : Nat
  deriving DecidableEq, Repr

/-- The stitched output. `runNo` counts the runs, `startEpoch` is the epoch whose Cinch started it, `next` the index n of the next line, `mispaired`
the flag of R197. -/
structure Stch where
  run        : Bool := false
  runNo      : Nat := 0
  startEpoch : Nat := 0
  epoch      : Nat := 0
  ins        : Map StchIn := []
  next       : Nat := 0
  globalLine : Nat := 0
  frame      : Nat := 0
  lineInFrame : Nat := 0
  frameLen   : Nat := 0
  mispaired  : Bool := false
  prevRow    : Option PrevRow := none
  emitted    : Nat := 0
  lost       : Nat := 0
  gaps       : Nat := 0
  discarded  : Nat := 0
  nMispaired : Nat := 0
  readErrs   : Nat := 0
  rowsLost   : Nat := 0
  waited     : Nat := 0
  deriving DecidableEq, Repr

/-- The group in progress of a profile channel (R220): the lines taken, the contributing lines n, A and Q per column, the
stamp of its first line with the flags ORed, and TIME of its last line. -/
structure ProfGroup where
  lines : Nat
  n     : Nat
  a     : List Nat
  q     : List Nat
  stamp : Stamp
  refNs : Nat
  deriving DecidableEq, Repr

/-- A channel of PROF. `w`, `ring` (oldest first), `s1`, `s2`, `ref`, `sigma` are those of R222, `hi`, `lo`, `env` those of R224,
`restart` marks the next non-empty sample (R223), `data` tells that the frame has a line without LOSS or FILL, `pub*`
are the published set (R225), `held` the samples that DELAY holds back: the stamp, the bytes
that follow it, and the reference time of each, or none for a sample formed with OUT_EN 0 (R227). -/
structure Prof where
  run      : Bool := false
  epoch    : Nat := 0
  group    : Option ProfGroup := none
  w        : Nat := 0
  ring     : List (List Nat × List Nat) := []
  s1       : List Nat := []
  s2       : List Nat := []
  ref      : List Nat := []
  sigma    : List Nat := []
  hi       : List Nat := []
  lo       : List Nat := []
  env      : List Nat := []
  restart  : Bool := true
  data     : Bool := false
  pubRef   : List Nat := []
  pubSigma : List Nat := []
  pubValid : Bool := false
  held     : List (Option (Stamp × List Byte × Nat)) := []
  samples  : Nat := 0
  empties  : Nat := 0
  shorts   : Nat := 0
  latches  : Nat := 0
  waited   : Nat := 0
  deriving DecidableEq, Repr

end Sys2Proof.Machine
end

