-- ==== Sys2Proof/Machine/Units/JoinData.lean ====
section
/-! DEFINITION. Machine/Units/JoinData.lean: what a JOIN_DATA message carries (R352). -/
namespace Sys2Proof

/-- R352: what a JOIN_DATA message carries: a scalar or bytes of a table of the configuration; the Active's epoch, which ends the configuration;
the GLOBAL_LINE at which frame F of a port begins; the stitched line n0; a flow's first unit and its first item; a strip's sets m_F and
m_F+1; the captured state of a port-source channel; and the captured stitched-side state: the stitched channels, the open objects
with their contexts, frontiers and overflow objects, the object counter, and the compare lists. -/
inductive JoinItem where
  | scalar (id : Nat) (value : Int)
  | table (id off : Nat) (data : List Byte)
  | epoch (e : Nat)
  | portStart (port line : Nat)
  | stitchedLine (line : Nat)
  | flowStart (flow seq firstItem : Nat)
  | shading (strip : Nat) (m0 m1 : List Nat)
  | portState (channel : Nat) (x : Machine.Prof)
  | stitchedState (profs : List (Nat × Machine.Prof)) (objs : List Machine.Obj) (next : Nat) (lists : List (Nat × List Machine.PcEntry))
  deriving DecidableEq, Repr

/-- R338, R352: the item code and the data of a JOIN_DATA item, whose codes and layouts the spec does not state. -/
opaque Config.joinItem : JoinItem → Nat × List Byte

/-- R337, R338, R352: the payloads of the messages that carry an item: code, offset and data, of at most 8,192 bytes each. -/
def joinMsgs (i : JoinItem) : List (List Byte) :=
  let data := (Config.joinItem i).2
  (List.range (data.length / 8184 + 1)).map (fun k => Machine.leBytes 2 (Config.joinItem i).1 ++ Machine.leBytes 2 0 ++ Machine.leBytes 4 (8184 * k) ++ (data.drop (8184 * k)).take 8184)

end Sys2Proof
end

