-- ==== Sys2Proof/Syntax.lean ====
section
/-! DEFINITION. Syntax.lean: the commands of the block, one constructor per row of the opcode table: Xesil opcodes (R65),
accesses to registers with an effect of their own, and the events of the part. They stand in the order of the table, but those without
operands come last: compiled Lean code builds no term of a constructor that has fields and a number above 243. -/
namespace Sys2Proof

/-- A command: a row of the opcode table with its operands. -/
inductive Instr where
  /-- SESSION_OPEN (R55). Opens an MGMT session with a random identifier, a negotiated packet size and an idle time. -/
  | sessionOpen (h : Hdr) (pktSize idleMs : Nat)
  /-- SESSION_CLOSE (R55). Closes the MGMT session and cancels its cancellable commands. -/
  | sessionClose (h : Hdr)
  /-- SESSION_RESYNC (R56). Restarts the sequence of a session so that the next expected SEQ is 1. -/
  | sessionResync (h : Hdr)
  /-- ECHO (R65). Returns the parameter bytes unchanged. -/
  | echo (h : Hdr) (data : List Byte)
  /-- DEVICE_INFO (R65). Returns the order code, revision, twin role, firmware version and unique identifier. -/
  | deviceInfo (h : Hdr)
  /-- RESET (R507). After its reply, restarts the device as a warm restart, a restart with DRAM held, or a full restart. -/
  | reset (h : Hdr) (kind : Nat)
  /-- CANCEL (R61). Cancels a deferred command of the same session that has not yet committed, or returns 0x0508 once it has. -/
  | cancel (h : Hdr) (tag : Nat)
  /-- DETAIL_READ (R67). Returns the kept detail block of the session's last error reply, from the entry named. -/
  | detailRead (h : Hdr) (first : Nat)
  /-- STAGE_OPEN (R73). Gives a FREE staging set to the session in state OPEN, or is refused with 0x0602. -/
  | stageOpen (h : Hdr)
  /-- STAGE_WRITE (R74). Stages up to 253 scalar values into an open staging set after checking format and range. -/
  | stageWrite (h : Hdr) (set : Nat) (entries : List (Nat × Nat))
  /-- STAGE_READ (R74). Returns, per identifier, the value that the parameter takes if the set is cinched. -/
  | stageRead (h : Hdr) (set : Nat) (ids : List Nat)
  /-- STAGE_DISCARD (R73). Empties a staging set and returns it to FREE. -/
  | stageDiscard (h : Hdr) (set : Nat)
  /-- STAGE_BLOCK (R71). Stages bytes of a table at an offset from the packet data. -/
  | stageBlock (h : Hdr) (set id off : Nat) (data : List Byte)
  /-- STAGE_BLOCK_DMA (R71). Stages bytes of a table at an offset from a DRAM range, as a deferred command. -/
  | stageBlockDma (h : Hdr) (set id off len addr : Nat)
  /-- STAGE_LOAD_SAVED (R76). Verifies a saved set from the store and merges its scalars and table blocks into a staging set, all or nothing. -/
  | stageLoadSaved (h : Hdr) (set item : Nat)
  /-- STAGE_SAVE (R76). Writes every parameter and table of the applied configuration to a store item as a saved set. -/
  | stageSave (h : Hdr) (item : Nat)
  /-- CINCH (R84). Accepts a staging set for a Cinch, sends the interim reply, runs the checks and begins arming. -/
  | cinch (h : Hdr) (set btype axis mask value limitMs : Nat)
  /-- CINCH_CHECK (R86). Runs every check except 1 and 3 over a staging set and returns the violation list. -/
  | cinchCheck (h : Hdr) (set : Nat)
  /-- PARAM_READ (R71). Returns applied values of scalars, and the CRC-64/XZ of table contents. -/
  | paramRead (h : Hdr) (ids : List Nat)
  /-- STATUS_READ (R65). Returns the status block of a unit instance. -/
  | statusRead (h : Hdr) (unit inst : Nat)
  /-- COUNTERS_READ (R65). Returns the counter block of a unit instance, clearing it if requested. -/
  | countersRead (h : Hdr) (unit inst clear : Nat)
  /-- TELEMETRY_READ (R485). Returns the latest telemetry snapshot. -/
  | telemetryRead (h : Hdr)
  /-- DIGEST_READ (R302). Returns sequence numbers and digests of the last kept units of a flow. -/
  | digestRead (h : Hdr) (flow first count : Nat)
  /-- LOG_READ (R96). Returns up to 63 change-log entries from the requested index, or from the mirror ring. -/
  | logRead (h : Hdr) (first count : Nat)
  /-- LOG_MARK (R92). Enters a MARK entry and its TEXT entry in the change log. -/
  | logMark (h : Hdr) (text : List Byte)
  /-- LOG_PERSIST (R97). Persists the newest 65,536 log entries to the configuration store. -/
  | logPersist (h : Hdr)
  /-- TEST_RUN (R487). Runs a self-test at once, defers it to a gap window, or refuses it, according to its class and FORCE. -/
  | testRun (h : Hdr) (test unit inst arg : Nat)
  /-- CALIBRATE (R487). Runs a calibration such as a DRAM retraining or lane adaptation under the class rules of tests. -/
  | calibrate (h : Hdr) (test unit inst arg : Nat)
  /-- PRBS_CONTROL (R110). Sets the PRBS mode, pattern and error injection of a lane or uplink. -/
  | prbsControl (h : Hdr) (lane pattern mode injection rate : Nat)
  /-- EYE_SCAN (R112). Measures the eye of a LOCKED lane along four arms with the shadow sampler. -/
  | eyeScan (h : Hdr) (lane : Nat)
  /-- CAM_READ (R136). Performs one control read access to the camera over the uplink. -/
  | camRead (h : Hdr) (port addr len : Nat)
  /-- CAM_WRITE (R136). Performs one control write access to the camera without changing the epoch. -/
  | camWrite (h : Hdr) (port addr : Nat) (data : List Byte)
  /-- CAM_DISCOVER (R121). Performs CoaXPress discovery on a stopped port and reports what it found. -/
  | camDiscover (h : Hdr) (port : Nat)
  /-- JOB_COMPRESS (R290). Codes a DRAM body into a coded unit on a job engine. -/
  | jobCompress (h : Hdr) (src len product pred source dst cap : Nat)
  /-- JOB_DECOMPRESS (R291). Decodes one coded unit from DRAM on a decompress engine. -/
  | jobDecompress (h : Hdr) (src len dst cap : Nat)
  /-- JOB_CRC (R410). Computes a CRC preset over a DRAM range on a SUP-owned CRC unit fed by DC63. -/
  | jobCrc (h : Hdr) (preset addr len init : Nat)
  /-- TWIN_STATUS (R355). Returns the twin state, link state and the last digest comparison. -/
  | twinStatus (h : Hdr)
  /-- TWIN_ATTACH (R351). Invites or starts a join, or claims when the line is high. -/
  | twinAttach (h : Hdr)
  /-- TWIN_DETACH (R354). Sends DETACH and takes this device or its peer out of the pair. -/
  | twinDetach (h : Hdr)
  /-- TWIN_YIELD (R350). Hands the Active role to the Shadow without a duplicate unit. -/
  | twinYield (h : Hdr)
  /-- STORE_LIST (R490). Lists store items with their size and state. -/
  | storeList (h : Hdr) (first count : Nat)
  /-- STORE_READ (R490). Reads bytes of the valid copy of highest generation of a store item. -/
  | storeRead (h : Hdr) (item off len : Nat)
  /-- STORE_WRITE (R490). Writes a new version of a store item in two copies under the A/B rule. -/
  | storeWrite (h : Hdr) (item off : Nat) (data : List Byte)
  /-- STORE_ERASE (R65). Erases a store item. -/
  | storeErase (h : Hdr) (item : Nat)
  /-- FW_STAGE (R441). Writes a firmware image chunk into the 16 MiB staging buffer. -/
  | fwStage (h : Hdr) (off : Nat) (data : List Byte)
  /-- FW_COMMIT (R441). Verifies the staged image, writes it to the inactive boot slot and marks that slot preferred. -/
  | fwCommit (h : Hdr) (len : Nat)
  /-- KEY_PROVISION (R51). Writes a 32-byte key and its role into a key slot. -/
  | keyProvision (h : Hdr) (slot role : Nat) (key : List Byte)
  /-- KEY_REVOKE (R51). Revokes a key slot and closes the sessions it opened. -/
  | keyRevoke (h : Hdr) (slot : Nat)
  /-- POWER_STATUS (R481). Returns the thermal state, cap step, theta, lambda, hottest site and estimated power. -/
  | powerStatus (h : Hdr)
  /-- POWER_CAP_LIMIT (R466). Sets the host limit lambda of the cap step. -/
  | powerCapLimit (h : Hdr) (lowest : Nat)
  /-- THERMAL_RESTART (R476). Restarts a stopped or tripped device after re-arm. -/
  | thermalRestart (h : Hdr)
  /-- ORDERLY_STOP (R473). Begins the orderly stop at any temperature. -/
  | orderlyStop (h : Hdr)
  /-- PACKET_REJECTED (R63). A received packet that fails framing, magic, size, CRC, version or reserved checks is discarded or answered with an error. -/
  | packetRejected (p : BadPacket)
  /-- MAILBOX_END_MARK_MISSING (R49). When no end mark has arrived within 512 words, the supervisor discards them and answers 0x0104. -/
  | mailboxEndMarkMissing (pair : Fin 4)
  /-- UDP_AUTH_FAILURE (R51). A datagram with a disabled or wrong slot, bad ALG or bad tag is discarded, counted and logged per source per second. -/
  | udpAuthFailure (addr : Nat)
  /-- SEQ_HOLD_TIMEOUT (R56). Commands held for a SEQ gap that has not filled within 50 ms receive 0x0107. -/
  | seqHoldTimeout (session : Nat)
  /-- SESSION_IDLE_TIMEOUT (R55). A session with no packet within its idle time closes. -/
  | sessionIdleTimeout (session : Nat)
  /-- AUTH_BLOCK_EXPIRY (R64). A source ignored after 16 authentication failures is heard again after 10 s. -/
  | authBlockExpiry (addr : Nat)
  /-- DEFERRED_TIME_LIMIT (R59). A deferred command whose own time limit passes first fails with 0x0507. -/
  | deferredTimeLimit (session seq : Nat)
  /-- DEFERRED_COMPLETION (R59). A deferred command completes and sends its final reply with INTERIM clear. -/
  | deferredCompletion (session seq : Nat) (res : DeferredResult)
  /-- LOG_REGISTER_WINDOW_CLOSE (R95). A REGISTER entry's 1 ms coalescing window closes and the entry is committed. -/
  | logRegisterWindowClose (principal : Principal) (addr : Nat)
  /-- LOGGED_REGISTER_WRITE (R95). A write to a register marked L opens or extends a REGISTER entry. -/
  | loggedRegisterWrite (principal : Principal) (addr : Nat) (value : Word32)
  /-- LANE_SIGNAL_DETECT (R104). The signal stays at or above LOS_LEVEL for LOS_DEBOUNCE and the lane enters ACQUIRE or RELOCK. -/
  | laneSignalDetect (lane : Fin 64)
  /-- LANE_SIGNAL_LOSS (R104). The signal stays below LOS_LEVEL for LOS_DEBOUNCE and the lane enters IDLE or NOSIGNAL. -/
  | laneSignalLoss (lane : Fin 64)
  /-- LANE_BIAS_SETTLED (R104). After RUN becomes 1 and 20 µs of bias settling the lane enters NOSIGNAL. -/
  | laneBiasSettled (lane : Fin 64)
  /-- FULL_ADAPTATION_DONE (R102). Full adaptation ends with an open eye and the lane enters LOCKED, or retries from step 1. -/
  | fullAdaptationDone (lane : Fin 64) (eyeOpen : Bool) (ctle : Nat) (dfe : List Int)
  /-- LANE_LOSS_OF_LOCK (R107). LOL_DEBOUNCE windows beyond LOL_PPM, or a CDR cycle slip, take the lane to NOSIGNAL. -/
  | laneLossOfLock (lane : Fin 64)
  /-- LANE_IDLE_MAX (R104). An idle that outlasts IDLE_MAX takes the lane to NOSIGNAL with LOS and IDLE_LONG. -/
  | laneIdleMax (lane : Fin 64)
  /-- RELOCK_DONE (R106). Relock from retained state confirms lock within 1 µs, or falls back to ACQUIRE with RELOCK_SLOW. -/
  | relockDone (lane : Fin 64) (confirmed : Bool)
  /-- ADAPTATION_STEP (R103). A LOCKED lane with ADAPT 0 moves CTLE or a DFE tap by one step per 2^16 bits. -/
  | adaptationStep (lane : Fin 64) (dCtle : Int) (tap : Fin 5) (dTap : Int)
  /-- WORD_ALIGNMENT_GAINED (R108). The deserialiser achieves comma, sync-header or sync-word alignment and ALIGNED becomes 1. -/
  | wordAlignmentGained (lane : Fin 64)
  /-- ALIGN_LOST (R108). Word alignment is lost and sought again. -/
  | alignLost (lane : Fin 64)
  /-- BITSLIP (R113). A write of LN_CONTROL.BITSLIP delays the word boundary by one bit, or is refused with SLIP_REFUSED. -/
  | bitslip (a : Acc) (lane : Fin 64)
  /-- SNAP (R118). A write of LN_CONTROL.SNAP copies the live PRBS counters into LN_ERR and LN_BITS. -/
  | snap (a : Acc) (w : BlockWrite 64) (errs bits : Nat)
  /-- CNT_CLEAR (R118). A write of LN_CONTROL.CNT_CLEAR clears both live PRBS counters and CNT_SAT. -/
  | cntClear (a : Acc) (w : LaneWrite)
  /-- COMPARATOR_WINDOW_END (R113). At the end of a comparator window VALID, SEEN, INV_SEEN and HITS are set. -/
  | comparatorWindowEnd (lane : Fin 64) (hits invHits : Nat)
  /-- PRBS_SYNC_LOSS (R111). 32 or more wrong bits in an aligned block take the checker out of sync and reload it. -/
  | prbsSyncLoss (lane : Fin 64) (errs bits : Nat)
  /-- PRBS_SYNC_GAINED (R111). 64 consecutive correctly predicted bits bring the checker into sync. -/
  | prbsSyncGained (lane : Fin 64)
  /-- PORT_LINK_ESTABLISHMENT (R121). When RUN becomes 1 the port performs CoaXPress discovery and connection configuration. -/
  | portLinkEstablishment (port : Fin 16) (accepted : Bool)
  /-- LINK_DOWN (R121). Link establishment fails within 500 ms or a lane leaves LOCKED, and the port enters DOWN. -/
  | linkDown (port : Fin 16)
  /-- LINK_RETRY (R121). A DOWN port retries link establishment every 1 s. -/
  | linkRetry (port : Fin 16)
  /-- STREAM_DATA_PACKET (R122). A stream data packet is merged, sequence-checked, CRC-checked and placed into line order. -/
  | streamDataPacket (port : Fin 16) (payload : List Byte) (crcOk codeOk : Bool) (place : StreamPlace)
  /-- RECTANGULAR_IMAGE_HEADER (R122). An image header starts a camera image and is compared with the port's parameters. -/
  | rectangularImageHeader (port : Fin 16) (xsize ysize bits comps : Nat)
  /-- LINE_MARKER (R122). A line marker ends the line in progress. -/
  | lineMarker (port : Fin 16)
  /-- CONTROL_ACKNOWLEDGEMENT (R122). A control acknowledgement completes the control access with the same tag, or extends its timeout. -/
  | controlAcknowledgement (port : Fin 16) (tag : Nat) (waitMs : Option Nat) (refused : Bool) (data : List Byte)
  /-- TRIGGER_PACKET_RECEIVED (R122). A device-to-host trigger packet raises CAM_TRIGGER. -/
  | triggerPacketReceived (port : Fin 16)
  /-- TRIGGER_ACKNOWLEDGEMENT (R122). A trigger acknowledgement is counted, or counted as an error when no trigger is outstanding. -/
  | triggerAcknowledgement (port : Fin 16)
  /-- HEARTBEAT (R122). A camera heartbeat restarts the heartbeat timer and returns a DEGRADED port to RUNNING. -/
  | heartbeat (port : Fin 16)
  /-- EVENT_PACKET (R122). A camera event packet is acknowledged, raises CAM_EVENT and goes to EVENT_QUEUE or is dropped. -/
  | eventPacket (port : Fin 16) (payload : List Byte)
  /-- TEST_PACKET (R122). A test packet is counted and discarded. -/
  | testPacket (port : Fin 16)
  /-- UNKNOWN_PACKET (R122). A packet of an unnamed type is discarded and counted as a header error. -/
  | unknownPacket (port : Fin 16)
  /-- RAW_LINE_SEGMENT (R126). A raw LINE segment is received on a lane and the line starts when all lanes have its header. -/
  | rawLineSegment (port : Fin 16) (k : Fin 4) (seg : RawSegment)
  /-- CONTROL_REPLY (R125). A raw CONTROL_REPLY segment completes a raw control access. -/
  | controlReply (port : Fin 16) (tag status : Nat) (m : RawMessage)
  /-- RAW_EVENT_SEGMENT (R125). A raw EVENT segment is handled as a CoaXPress event packet. -/
  | rawEventSegment (port : Fin 16) (m : RawMessage)
  /-- LINE_DUE_TRIGGER (R129). A trigger of LTGi makes a line due, becomes a pending trigger and reaches the camera by TRIG_PATH. -/
  | lineDueTrigger (port : Fin 16)
  /-- FREE_RUN_DUE (R129). On a free-running port the next line falls due FREE_PERIOD after the previous one. -/
  | freeRunDue (port : Fin 16)
  /-- LINE_TIMEOUT (R130). A pending trigger or due time whose line has not begun within LINE_TIMEOUT becomes a LOSS line. -/
  | lineTimeout (port : Fin 16)
  /-- PORT_LINE_ASSEMBLED (R130). A received line is paired with its trigger, stamped, or discarded as late or unsolicited. -/
  | portLineAssembled (port : Fin 16)
  /-- PORT_LINE_DELIVERED (R8). A port delivers one stamped line, received or substituted, to its strip. -/
  | portLineDelivered (line : PortRead)
  /-- LONG_FRAME_HOLD_END (R133). The held last line of an area frame leaves once the frame end is known or LINE_TIMEOUT passes. -/
  | longFrameHoldEnd (port : Fin 16)
  /-- HEARTBEAT_LOST (R135). No heartbeat for HB_TIMEOUT takes a CoaXPress port to DEGRADED. -/
  | heartbeatLost (port : Fin 16)
  /-- CAMSET_SEND (R137). Once ARMED and frame F − 1 has ended, the port sends its CAMSET entries in table order. -/
  | camsetSend (port : Fin 16)
  /-- CAMSET_FAIL (R138). A refused, unacknowledged or unsent CAMSET entry raises CAMSET_FAIL and marks the epoch uncertain. -/
  | camsetFail (port : Fin 16) (timeout : Bool)
  /-- CAM_ACCESS_TIMEOUT (R136). A control access without answer within CAM_TIMEOUT ends with 0x0705. -/
  | camAccessTimeout (port : Fin 16) (tag : Nat)
  /-- QUADRATURE_EDGE (R143). A filtered A or B change is decoded into a count and passed through hysteresis to P. -/
  | quadratureEdge (axis : Fin 8) (ab : Bool × Bool)
  /-- ILLEGAL_TRANSITION (R144). A change of both A and B in one cycle yields no count, sets ILLEGAL and raises ENC_ILLEGAL. -/
  | illegalTransition (axis : Fin 8)
  /-- ENC_INDEX (R147). A rising filtered Z copies P into AX_INDEX and raises ENC_INDEX. -/
  | encIndex (axis : Fin 8)
  /-- SSI_READ (R146). Every SSI_PERIOD the axis reads one SSI word and applies its delta as counts, or discards it with SSI_ERR. -/
  | ssiRead (axis : Fin 8) (word : Option Nat)
  /-- OBSERVER_UPDATE (R148). Every 1.000 µs the tracking observer updates position, speed and acceleration estimates. -/
  | observerUpdate (axis : Fin 8)
  /-- ENC_STILL (R149). No applied count for STILL_TIME declares standstill and resets the observer. -/
  | encStill (axis : Fin 8)
  /-- VALID_SETTLED (R150). VALID is set once four same-sign counts and the settling time have passed. -/
  | validSettled (axis : Fin 8)
  /-- LTG_TIMER_STEP (R151). Every 2 ns of rate-corrected time a timer-mode generator takes a step. -/
  | ltgTimerStep (ltg : Fin 16)
  /-- LTG_HELD_ISSUE (R153). A held trigger is issued once MIN_PERIOD has passed since the previous issued trigger. -/
  | ltgHeldIssue (ltg : Fin 16)
  /-- PC_PULSE_END (R155). A compare pulse ends when its width has passed. -/
  | pcPulseEnd (pc : Fin 8)
  /-- PC_INS_CMD (R154). A write of PC_INS_CMD inserts an entry, or reports it missed, late-fired or refused. -/
  | pcInsCmd (a : Acc) (pc : Fin 8) (value : Word32)
  /-- CLEAR (R158). A write of PC_CONTROL.CLEAR removes every entry of a compare unit. -/
  | clear (a : Acc) (pc : Fin 8)
  /-- DELETE (R158). A write of PC_CONTROL.DELETE removes every entry with the given tag. -/
  | delete (a : Acc) (pc : Fin 8) (tag : Word16)
  /-- PC_FIRED_READ (R158). A read of PC_FIRED removes and returns the oldest fired record. -/
  | pcFiredRead (a : Acc) (pc : Fin 8)
  /-- PC_MISSED_READ (R158). A read of PC_MISSED returns and clears the latest missed tag. -/
  | pcMissedRead (a : Acc) (pc : Fin 8)
  /-- AX_POS_CAPTURE (R158). A read of AX_POS_LO captures the axis read-out registers together. -/
  | axPosCapture (a : Acc) (axis : Fin 8)
  /-- STRIP_LINE (R160). A strip unpacks, linearises, calibrates, replaces defects, shades, clips and gathers statistics of a line. -/
  | stripLine (strip : Fin 16) (soft hard : List Nat) (upset : LineUpset (Nat × Nat))
  /-- SHADE_UPDATE (R173). At a FRAME_END the strip computes the multipliers for frame F + 2, or freezes them. -/
  | shadeUpdate (strip : Fin 16)
  /-- CALIB_LOAD (R177). The CALIB loader writes the staged entries behind the last old-epoch line. -/
  | calibLoad (strip : Fin 16)
  /-- COLOUR_LINE (R185). The colour unit emits the reconstructed output of row c once row c + 2 has arrived or cannot take part. -/
  | colourLine (strip : Fin 16) (upset : LineUpset (Nat × Nat))
  /-- STCH_DELAY_WRITE (R200). A corrected port line is written to its DRAM delay ring or tile store and its TIME compared with the reference line. -/
  | stchDelayWrite (port : Fin 16)
  /-- STITCHED_LINE (R198). Once every port has delivered its line the stitcher forms one stitched line with its mask and stamp. -/
  | stitchedLine (readErr : List (Nat × Nat)) (upset : LineUpset (Nat × Nat × Nat × Nat))
  /-- AREA_COMPOSITION (R211). Once every tile's frame has ended the stitcher composes the stitched frame row by row. -/
  | areaComposition (readErr : List Nat) (upset : LineUpset (Nat × Nat × Nat))
  /-- COMPOSE_LATE (R212). A row held during composition overflows its elastic buffer and becomes a LOSS line. -/
  | composeLate (port : Fin 16)
  /-- SEGM_LINE (R245). Segmentation classes a stitched line, forms runs, connects objects, and closes, cuts and hands over objects. -/
  | segmLine (ecc : List (Nat × Fin 26)) (upset : List (Nat × Nat))
  /-- UNIT_FORMED (R300). A flow closes a product unit, computes its digest and passes it to coding, a queue or its transmit buffer. -/
  | unitFormed (f : Fin 1024)
  /-- LOG_UNIT_TIMEOUT (R300). A LOG unit closes 1 s after its first entry. -/
  | logUnitTimeout (f : Fin 1024)
  /-- ENGINE_STOP (R288). An engine whose output space is exhausted stops with its state kept. -/
  | engineStop (e : Fin 16) (inDone outDone : Nat)
  /-- ENGINE_RESUME (R288). A stopped engine resumes when output space returns. -/
  | engineResume (e : Fin 16)
  /-- CODING_DONE (R286). An engine reaches END, writes the coding header and passes the coded unit on. -/
  | codingDone (e : Fin 20)
  /-- ENGINE_OUT_OF_SERVICE (R289). An engine taken out of service leaves at the END of its unit or job. -/
  | engineOutOfService (e : Fin 16)
  /-- JOB_TIMEOUT (R291). A compress or decompress job not completed within 10 s ends with 0x0507. -/
  | jobTimeout (session seq : Nat)
  /-- SEGMENT_SEND (R304). At a frame boundary the port sends one segment from the highest eligible queue. -/
  | segmentSend (port : Fin 3)
  /-- NET_LINK (R295). A change of a port's link state raises NET_LINK and holds or releases its queues. -/
  | netLink (port : Fin 3) (up : Bool)
  /-- PAUSE_FRAME_RECEIVED (R296). A received pause or PFC frame stops transmission or is counted and ignored. -/
  | pauseFrameReceived (port : Fin 3) (pfc : Bool) (stop go : List (Fin 8))
  /-- PAUSE_EXPIRY (R296). The pause time of a received pause frame runs out and transmission resumes. -/
  | pauseExpiry (port : Fin 3) (prio : Option (Fin 8))
  /-- ARP_REQUEST (R296). An ARP request or neighbour solicitation for the port's address is answered. -/
  | arpRequest (port : Fin 3) (v6 : Bool) (ask : AddressAsk)
  /-- ICMP_ECHO_REQUEST (R296). MGT answers an ICMP or ICMPv6 echo request. -/
  | icmpEchoRequest (port : Fin 3) (v6 : Bool) (ask : EchoAsk)
  /-- FRAME_DISCARDED (R296). A frame with bad FCS, excess length or no claimant is discarded and counted. -/
  | frameDiscarded (port : Fin 3) (f : BadFrame)
  /-- ANNOUNCE (R323). A received Announce enters the BMCA data set and restarts the receipt timer from the parent. -/
  | announce (port : Fin 3) (m : PtpHdr) (d : AnnounceData)
  /-- SYNC (R320). A Sync from the parent forms an offset that is accepted or discarded as an outlier. -/
  | sync (port : Fin 3) (m : PtpHdr) (twoStep : Bool) (origin : Nat)
  /-- FOLLOW_UP (R320). A Follow_Up from the parent completes a two-step offset. -/
  | followUp (port : Fin 3) (m : PtpHdr) (origin : Nat)
  /-- DELAY_REQ (R323). A Delay_Req on a MASTER port is answered with Delay_Resp. -/
  | delayReq (port : Fin 3) (m : PtpHdr)
  /-- DELAY_RESP (R323). A Delay_Resp is matched to its Delay_Req and forms a path-delay measurement. -/
  | delayResp (port : Fin 3) (m : PtpHdr) (receipt : Nat)
  /-- PDELAY_REQ (R323). A Pdelay_Req is answered on every enabled port in the peer-to-peer profile. -/
  | pdelayReq (port : Fin 3) (m : PtpHdr)
  /-- PDELAY_RESP (R323). A Pdelay_Resp or its follow-up forms a path-delay measurement. -/
  | pdelayResp (port : Fin 3) (m : PtpHdr) (followUp twoStep : Bool) (time : Nat)
  /-- ANNOUNCE_RECEIPT_TIMEOUT (R316). No Announce from the parent within the timeout moves the clock to HOLDOVER. -/
  | announceReceiptTimeout (port : Fin 3)
  /-- PTP_MESSAGE_INTERVAL (R322). A port sends its periodic Sync, Announce, Delay_Req or Pdelay_Req at its interval. -/
  | ptpMessageInterval (port : Fin 3) (typ : Nat)
  /-- TWIN_CLAIMING (R332). On entering CLAIMING the device decides ISOLATED or claims after CLAIM_SETTLE + UNIT_ID ms. -/
  | twinClaiming (lineHigh : Bool)
  /-- HEARTBEAT_RECEIVED (R338). A twin heartbeat is accepted with the peer's state, epoch and consumer line slots. -/
  | heartbeatReceived (hb : Heartbeat) (ack : Nat)
  /-- ACK (R338). An ACK message acknowledges sequenced messages cumulatively. -/
  | ack (ack : Nat)
  /-- NAK (R338). A NAK makes the sender replay from the named message. -/
  | nak (expected : Nat) (ack : Nat)
  /-- COMMAND (R53). A Shadow executes a mirrored Xesil packet as TWIN without the permission check. -/
  | command (m : MsgHdr) (packet : List Byte)
  /-- REPLY (R54). The Active receives the Shadow's reply to a mirrored command and compares the outcome. -/
  | reply (m : MsgHdr) (reply : Reply)
  /-- ARMED (R85). The Shadow reports that it has armed the mirrored set, releasing the Active's fire. -/
  | armed (m : MsgHdr) (epoch : Nat)
  /-- WINDOW_WRITE (R340). The Shadow executes a forwarded compare-unit window write as the same principal. -/
  | windowWrite (m : MsgHdr) (principal : Principal) (addr : Nat) (value : Word32)
  /-- STAMPS (R341). The Shadow receives Active stamps and adopts them onto its held lines. -/
  | stamps (m : MsgHdr) (port : Fin 16) (stamps : List Stamp)
  /-- ADOPT_WAIT_EXPIRY (R341). A held line whose stamp or heartbeat has not arrived within ADOPT_WAIT leaves with its own stamp and the Shadow enters UNHEALTHY. -/
  | adoptWaitExpiry (slot : Nat)
  /-- EVENT (R342). The Shadow receives a data-path event to act at its named GLOBAL_LINE. -/
  | event (m : MsgHdr) (consumer : Nat) (kind : Nat) (line : Nat)
  /-- DIGESTS (R344). The Shadow compares the Active's unit digests with its own. -/
  | digests (m : MsgHdr) (entries : List DigestEntry)
  /-- DISPOSED (R343). The Shadow receives unit dispositions and discards the named units. -/
  | disposed (m : MsgHdr) (entries : List DisposedEntry)
  /-- LOG (R98). The Shadow stores mirrored log entries in its mirror ring. -/
  | log (m : MsgHdr) (entries : List LogEntry)
  /-- DIVERGENCE (R345). The Active receives a divergence report and applies its DIVERGE_POLICY. -/
  | divergence (m : MsgHdr) (e : DigestEntry) (own : Nat)
  /-- YIELD (R350). The Shadow receives YIELD and takes over without a duplicate unit. -/
  | yield (m : MsgHdr)
  /-- DETACH (R354). The receiver of DETACH enters DETACHED or ACTIVE. -/
  | detach (m : MsgHdr)
  /-- JOIN_REQ (R352). An invitation or request to join starts or answers a join. -/
  | joinReq (m : MsgHdr)
  /-- JOIN_DATA (R352). The joiner applies configuration, alignment values, boundaries and captured state from the Active. -/
  | joinData (m : MsgHdr) (items : List JoinItem)
  /-- JOIN_DONE (R352). The Active receives JOIN_DONE and enters PAIRED, or the join fails. -/
  | joinDone (m : MsgHdr) (status : Nat) (detail : Nat)
  /-- MEMORY_TRANSACTION (R364). A channel grants one eligible transaction at a command slot by priority, row hit and age. -/
  | memoryTransaction (ch : Fin 16) (waiting : List MemTxn)
  /-- REFRESH_INTERVAL (R367). A bank's refresh interval passes and a refresh falls due, is issued or postponed. -/
  | refreshInterval (ch : Fin 16) (bk : Fin 16) (burst idle : Bool)
  /-- MR4_READ (R367). Every 4 ms the controller reads MR4 and adjusts the refresh rate. -/
  | mr4Read (pkg : Fin 4) (rate : Nat) (hot : Bool)
  /-- RH_WINDOW_END (R369). At the end of a row-disturbance window unaffected requesters return to step 0. -/
  | rhWindowEnd (ch : Fin 16)
  /-- MEM_PANIC (R366). A real-time slice lag beyond PANIC_LEVEL puts the port in panic. -/
  | memPanic (r : Fin 8) (ch : Fin 16) (lag : Nat)
  /-- PANIC_EXIT (R366). When every slice falls below half the level the port leaves panic. -/
  | panicExit (r : Fin 8) (lags : List Nat)
  /-- RETRAIN_START (R370). A channel retraining begins once no panic exists and all lags are below 25 %. -/
  | retrainStart (ch : Fin 16)
  /-- RETRAIN_DONE (R370). Training completes and the channel resumes, or keeps its old settings on failure. -/
  | retrainDone (ch : Fin 16) (eye : Bool)
  /-- MC_ERR_HI_READ (R376). A read of MC_ERR_HI returns and clears the error record. -/
  | mcErrHiRead (a : Acc) (ch : Fin 16)
  /-- RTP_STATUS_READ (R376). A read of RTP_STATUS returns and clears LAG_PEAK. -/
  | rtpStatusRead (a : Acc) (r : Fin 8)
  /-- Q_PUSH_HI (R393). A write of Q_PUSH_HI commits a word with its marks to the queue, or sets OVERFLOW. -/
  | qPushHi (a : Acc) (q : Fin 1024) (value : Word32)
  /-- Q_POP_LO (R393). A read of Q_POP_LO removes the head word and captures its high half and marks, or sets UNDERFLOW. -/
  | qPopLo (a : Acc) (q : Fin 1024)
  /-- FLUSH (R382). A write of Q_CONTROL.FLUSH empties the queue in that cycle. -/
  | flush (a : Acc) (q : Fin 1024) (unitMid : Bool) (beatsLeft : Nat)
  /-- UNIT_QUEUE_PUSH (R381). A unit producer pushes a packet whole or drops it. -/
  | unitQueuePush (q : Fin 1024) (words : List Nat)
  /-- QUEUE_TIMEOUT (R383). A queue's read timer runs out, sets TIMEOUT and pushes its tail to its consumer. -/
  | queueTimeout (q : Fin 1024)
  /-- START (R386). A write of DC_CTRL.START checks and starts a DMA channel, or refuses it. -/
  | start (a : Acc) (chan : Fin 64) (ctrl : Word32)
  /-- STOP (R389). A write of DC_CTRL.STOP withdraws the channel's request. -/
  | stop (a : Acc) (w : BlockWrite 64)
  /-- DMA_BURST_COMPLETE (R389). A burst completes and the channel may enter DONE, STOPPED or ERROR. -/
  | dmaBurstComplete (chan : Fin 64)
  /-- PRESET (R407). A write of CK_CONFIG.PRESET selects the preset and loads the init state. -/
  | preset (a : Acc) (unit : Fin 8) (value : Word32)
  /-- INIT (R407). A write of CK_CONTROL.INIT loads the init state and clears COUNT and flags. -/
  | init (a : Acc) (unit : Fin 8)
  /-- CK_STATE_CAPTURE (R409). A read of CK_STATE_LO captures state, result and count at a 64-byte boundary. -/
  | ckStateCapture (a : Acc) (unit : Fin 8)
  /-- CK_STATE_RESTORE (R409). A write of CK_STATE restores a saved CRC context, or is refused while BUSY. -/
  | ckStateRestore (a : Acc) (unit : Fin 8) (hi : Bool) (value : Word32)
  /-- CRC_FEED (R408). A CRC unit consumes a DMA word's bytes up to CK_LIMIT. -/
  | crcFeed (unit : Fin 8)
  /-- CHK_ECC_HI_READ (R411). A read of CHK_ECC_HI returns and clears the SRAM error record. -/
  | chkEccHiRead (a : Acc)
  /-- CHK_ECC_UE (R404). An uncorrectable SRAM error acts by memory and is recorded and logged. -/
  | chkEccUe (memory : Fin 9) (index : Word32) (place : Nat × Nat)
  /-- CHK_ECC_CE (R404). A correctable SRAM error is corrected, written back and counted. -/
  | chkEccCe (memory : Fin 9) (index : Word32)
  /-- EVENT_ROUTED (R418). A source event is gated and counted by each Rein naming it and reaches its consumers. -/
  | eventRouted (n : Nat)
  /-- GPX_EDGE (R414). A GPX input edge held for two cycles raises its source with the Timekeeper nanoseconds. -/
  | gpxEdge (pin : Fin 32) (high : Bool)
  /-- GPX_PULSE_END (R415). A GPX pulse of PULSE_NS ends. -/
  | gpxPulseEnd (pin : Fin 32)
  /-- RN_FIRE (R425). A write of RN_FIRE injects an event into Rein n alone. -/
  | rnFire (a : Acc) (rein : Fin 256) (value : Word32)
  /-- RG_ENABLE (R425). A write of RG_ENABLE enables the groups written as 1. -/
  | rgEnable (a : Acc) (mask : Word32)
  /-- RG_DISABLE (R425). A write of RG_DISABLE disables the groups written as 1. -/
  | rgDisable (a : Acc) (mask : Word32)
  /-- SW_FIRE (R425). A write of SW_FIRE raises the software sources SW0–SW7. -/
  | swFire (a : Acc) (value : Word32)
  /-- CC_INPUT_CLEAR (R531). The supervisor clears a CC input's pending state within 100 µs. -/
  | ccInputClear (input : Fin 40)
  /-- AC_WORLD_SET (R431). A write of AC_WORLD_SET from the core in secure machine mode changes its world. -/
  | acWorldSet (a : Acc) (core : Fin 8) (machine : Bool) (value : Word32)
  /-- AC_IP_WRITE (R436). A write of AC_IP clears pending interrupt bits within the writer's rights. -/
  | acIpWrite (a : Acc) (core : Fin 8) (value : Word32)
  /-- TIMER_INTERRUPT (R437). MTIME reaching AC_TIMECMP raises the core's machine timer interrupt. -/
  | timerInterrupt (core : Fin 8)
  /-- MSIP (R437). A write of AC_SWI.MSIP raises or clears the machine software interrupt. -/
  | msip (a : Acc) (core : Fin 8) (value : Word32)
  /-- MTIME_CAPTURE (R442). A read of MTIME_LO captures both halves of MTIME. -/
  | mtimeCapture (a : Acc)
  /-- REFUSE_INFO_READ (R442). A read of REFUSE_INFO returns and clears the first recorded refusal. -/
  | refuseInfoRead (a : Acc)
  /-- WINDOW_ACCESS (R434). A write to a window register without a row of its own is checked and executed, ignored or refused. -/
  | windowAccess (a : Acc) (write aligned : Bool) (addr : Nat) (value : Word32)
  /-- DRAM_ACCESS_REFUSED (R433). A core DRAM access outside its regions ends with a bus error and is recorded. -/
  | dramAccessRefused (a : Acc) (addr len : Nat) (write : Bool)
  /-- CORE_BOOT (R440). A fire taking a core RUN from all 0 to 1 loads, verifies and releases the core loader. -/
  | coreBoot (hdr : List Byte)
  /-- CORE_LOADER_DONE (R440). Loader copy and verification complete and the cores are released at ENTRY, or the boot fails. -/
  | coreLoaderDone (body : List Byte) (digest signature : Bool)
  /-- DEBUG_UNLOCK (R438). A signed unlock request through the debug port unlocks debug access. -/
  | debugUnlock (request : List Byte) (good : Bool)
  /-- GO (R448). A write of TW_CMD.GO starts a two-wire transaction, or is refused. -/
  | go (a : Acc) (ch : Fin 8) (cmd : Word32)
  /-- TWB_CLEAR (R452). A write of TW_CMD.CLEAR on TW0–TW1 starts a bus clear. -/
  | twbClear (a : Acc) (ch : Fin 8) (cmd : Word32)
  /-- TWB_RESET (R451). A write of TW_CMD.RESET on TW2–TW7 pulses TWRST_N. -/
  | twbReset (a : Acc) (ch : Fin 8) (cmd : Word32)
  /-- TW_DONE (R448). A two-wire transaction ends, sets RESULT and BYTES and raises TW_DONE. -/
  | twDone (ch : Fin 8) (result : Fin 3) (acked : Nat) (data : List Byte)
  /-- TW_ARB_LOST (R449). Lost arbitration ends the byte, waits for a free bus and resends, up to RETRY times. -/
  | twArbLost (ch : Fin 8) (byte : Nat)
  /-- TW_TIMEOUT (R450). A line held low for LOW_TIMEOUT is released, recorded and logged, and a cure begins. -/
  | twTimeout (ch : Fin 8) (sda scl atStart : Bool)
  /-- CURE_DONE (R451). A reset pulse or bus clear ends with CURED or CURE_FAILED. -/
  | cureDone (ch : Fin 8) (freed : Bool)
  /-- TW_ALERT (R453). A low TWALERT_N on an idle channel triggers an alert-response read into the FIFO. -/
  | twAlert (ch : Fin 8) (low : Bool) (answer : Option (Fin 128))
  /-- TW_ALERT_READ (R459). A read of TW_ALERT removes the oldest alerting address. -/
  | twAlertRead (a : Acc) (ch : Fin 8)
  /-- BUS_FREE (R445). Both lines high for BUF after a STOP mark the bus free. -/
  | busFree (ch : Fin 8)
  /-- HT_ADDRESS (R455). HT acknowledges an address in its range and selects a function. -/
  | htAddress (addr : Fin 128) (reading again : Bool)
  /-- HT_WRITE_BYTE (R456). A written byte sets the pointer or is stored at it with page-wrap advance. -/
  | htWriteByte (value : Byte)
  /-- HT_ALERT_RESPONSE (R458). HT answers the alert response address and releases HALERT_N if it wins. -/
  | htAlertResponse (wins : Bool)
  /-- SENSOR_READING (R462). Every 10 µs each site yields a reading, checked against the hard-trip code. -/
  | sensorReading (codes : List Int)
  /-- DRAM_SCRUB (R483). Burnish reads a DRAM block at priority 6 and corrects it. -/
  | dramScrub (which : Option Nat) (flips : List (Fin 528))
  /-- SRAM_SCRUB (R483). Burnish scrubs SRAM words and restores uncorrectable entries from DRAM masters. -/
  | sramScrub (corrected : Nat) (found : List (Fin 16 × Nat))
  /-- EYE_TRACKING (R483). Every EYE_PERIOD Burnish measures one LOCKED lane's eye. -/
  | eyeTracking (horizontal vertical : Nat)
  /-- RETRAIN_PERIOD (R483). Every RETRAIN_PERIOD or on a temperature change of RETRAIN_DELTA Burnish requests a channel retraining. -/
  | retrainPeriod (ch : Option (Fin 16))
  /-- GAP_WINDOW_TEST (R487). A deferred gap test runs in the window from a FRAME_END line of its unit's stream. -/
  | gapWindowTest (unit inst : Nat)
  /-- TEST_DONE (R488). A test completes with its result block and raises BKGD_DONE or BKGD_FAIL. -/
  | testDone (unit inst : Nat) (outcome : Fin 3) (usecs detail measured : Nat)
  /-- STORE_BLOCK_DONE (R491). A store block program or erase completes and is verified. -/
  | storeBlockDone (good : Bool)
  /-- PENDING_COMPLETION (R490). Burnish completes a PENDING store item once the inhibit has ended. -/
  | pendingCompletion (item : Nat)
  /-- PORST_N_RELEASE (R503). Release of PORST_N starts MTIME and HT at defaults and begins start-up. -/
  | porstNRelease (banks : Fin 4)
  /-- SYNTHESISER_LOCK (R498). A synthesiser locks after its domain is up and begins delivering its clock. -/
  | synthesiserLock (clk : Fin 6) (m : Nat)
  /-- BOOT_ROM (R502). The boot ROM reads the descriptors and tries the preferred slot, then the other. -/
  | bootRom (descA descB : List Byte)
  /-- IMAGE_LOADED (R501). The supervisor image copy completes and its digest and signature are verified. -/
  | imageLoaded (hdr : List Byte) (good : Bool)
  /-- TRIG_PULSE_END (R129). The GPX trigger pulse of TRIG_WIDTH that a port with TRIG_PATH 1 drives ends and the pin returns to its inactive level. -/
  | trigPulseEnd (port : Fin 16)
  /-- PTP_MESSAGE_DISCARDED (R323). Signaling, Management and non-matching PTP messages are counted and discarded. -/
  | ptpMessageDiscarded (port : Fin 3)
  /-- CLAIM_CONFLICT_WINDOW (R332). Within 5 ms after claiming, a peer also holding the claim makes the device with UNIT_ID 1 release. -/
  | claimConflictWindow (elapsed : Bool)
  /-- SHAESH_MESSAGE_REJECTED (R338). A sequenced message with a bad CRC or unexpected MSEQ is discarded and a NAK is sent. -/
  | shaeshMessageRejected (frame : List Byte)
  /-- DIGEST_UNMATCHED_TIMEOUT (R344). A digest entry without a corresponding unit within 1 s is a divergence. -/
  | digestUnmatchedTimeout (e : DigestEntry)
  /-- JOIN_ALIGNMENT (R352). The joiner pairs its triggers with received stamps and takes the Active's counts within 100 ms. -/
  | joinAlignment (counts : List JoinCounts)
  /-- JOIN_CAPTURE (R352). At frame F or line n0 the Active captures profile and segmentation state for the joiner. -/
  | joinCapture (stitched : Bool)
  /-- ELASTIC_OVERFLOW (R365). A real-time slice overflows and the port's stream is held. -/
  | elasticOverflow (f : SliceFill)
  /-- RETRAIN_READ_AHEAD_FULL (R370). Read slices are full and the channel enters self-refresh for retraining. -/
  | retrainReadAheadFull (ch : Fin 16)
  /-- RETRAIN_ABANDONED (R370). A panic before step 3 abandons the retraining attempt. -/
  | retrainAbandoned (ch : Fin 16)
  /-- L2_ECC_ERROR (R430). A level-2 cache error is corrected, or invalidates or loses the line. -/
  | l2EccError (cluster : Fin 2) (index line : Nat) (uncorr dirty : Bool)
  /-- RESTART_DRAM_HELD (R507). A kind 1 restart keeps DRAM in self-refresh, checks the kept image digest and retrains. -/
  | restartDramHeld (good : Bool)
  /-- HT_DOORBELL (R52). A doorbell of 0x01 at the STOP that ends the write starts execution of the packet in the HT command buffer. -/
  | htDoorbell
  /-- HT_REPLY_CONSUMED (R52). Reading the last byte of the HT reply returns the state byte to 0. -/
  | htReplyConsumed
  /-- CINCH_ARMED (R84). The staged values and table moves reach every unit's shadow copy and the set enters ARMED. -/
  | cinchArmed
  /-- CINCH_FIRE (R84). At T* or the anchor trigger the new epoch and T* are broadcast and I-class values take effect. -/
  | cinchFire
  /-- CINCH_FINISH (R84). When the last affected stream has passed its switch line the set returns to FREE, the final reply is sent and the CINCH entry is logged. -/
  | cinchFinish
  /-- CINCH_TIME_LIMIT (R84). A Cinch whose time limit expires before the fire ends with 0x0507 and applies nothing. -/
  | cinchTimeLimit
  /-- LOG_PERSIST_PERIOD (R97). Every LOG_PERSIST_PERIOD the supervisor persists the newest log entries. -/
  | logPersistPeriod
  /-- LOG_PERSIST_RETRY (R97). A persistence refused by the store is retried every 60 s. -/
  | logPersistRetry
  /-- RECORD_FORMED (R260). RECD accepts a closed object, derives its values, classifies it and forms its record. -/
  | recordFormed
  /-- PATCH_CUT (R262). Once line n_cut is in the ring and pacing allows, the patch is read and a PATCH unit formed. -/
  | patchCut
  /-- ENGINE_TAKES_UNIT (R286). The lowest idle engine takes the oldest waiting unit or job and begins coding. -/
  | engineTakesUnit
  /-- TIMEKEEPER_TICK (R314). Each CLK_TIME cycle adds INC to the Timekeeper. -/
  | timekeeperTick
  /-- CLAIM_SETTLE_EXPIRY (R332). The line stays high for the settle time and the device drives it low and enters ACTIVE. -/
  | claimSettleExpiry
  /-- CLAIM_TIMER_EXPIRY (R331). A claim timer not refreshed for 20 µs releases TWIN_CLAIM_N and shared outputs go to high impedance. -/
  | claimTimerExpiry
  /-- CLAIM_REFRESH (R331). The supervisor refreshes the claim timer every 5 µs. -/
  | claimRefresh
  /-- SHAESH_LINK_UP (R336). All four Shaesh lanes hold block lock with deskewed markers and the link comes UP. -/
  | shaeshLinkUp
  /-- SHAESH_LINK_DOWN (R336). A lane loses lock or three marker periods pass without a marker and the link goes DOWN. -/
  | shaeshLinkDown
  /-- HEARTBEAT_SEND (R338). Every 10 µs each twin sends an unsequenced HEARTBEAT. -/
  | heartbeatSend
  /-- REPLAY_TIMEOUT (R338). 50 µs without acknowledgement replays from the oldest unacknowledged message; a third replay takes the link down. -/
  | replayTimeout
  /-- MIRROR_ACK_TIMEOUT (R54). No acknowledgement of a mirrored packet within 1 ms marks the Shadow unhealthy and the Active replies. -/
  | mirrorAckTimeout
  /-- JOIN_RETRY (R352). Under AUTO_REJOIN a failed join is retried after 1 s. -/
  | joinRetry
  /-- TWIN_HB_LOST (R346). No heartbeat for 32 µs or link DOWN releases holds and leads to takeover or ISOLATED. -/
  | twinHbLost
  /-- TAKEOVER (R347). After the line has been high for CLAIM_SETTLE the device claims, enables shared outputs and resumes flows. -/
  | takeover
  /-- ZQ_LATCH (R358). Every 64 ms the ZQ calibration is latched. -/
  | zqLatch
  /-- DMA_BURST_DECISION (R388). The read engine issues one burst for the next eligible channel. -/
  | dmaBurstDecision
  /-- HT_READ_BYTE (R456). A read returns the byte at the pointer and advances it, with log reader loads. -/
  | htReadByte
  /-- HT_HOST_HOLD (R457). A host that holds SCL low beyond 25 ms makes HT release SDA and end the transaction. -/
  | htHostHold
  /-- RISE_WINDOW (R464). Every 1 ms the rate of rise is computed and may raise THRM_RISE. -/
  | riseWindow
  /-- SITE_CROSS_CHECK (R463). Every 100 ms each site is compared with the median and its health updated. -/
  | siteCrossCheck
  /-- THETA_STEP_PERIOD (R465). After each STEP_PERIOD at or above THROTTLE_TJ theta rises by one. -/
  | thetaStepPeriod
  /-- THETA_RECOVER (R465). After RECOVER_TIME below the hysteresis band theta falls by one. -/
  | thetaRecover
  /-- POWER_ESTIMATE (R468). Every 1 ms the supervisor estimates power and applies or releases one enforcement increment. -/
  | powerEstimate
  /-- ORDERLY_STOP_STEP (R474). The orderly stop proceeds through drain, log, self-refresh and power-off to STOPPED. -/
  | orderlyStopStep
  /-- QUAD_BIAS (R478). Lane quads being started are biased one after another QUAD_SPACING apart. -/
  | quadBias
  /-- STRIP_UNGATE (R479). A strip or compress engine being started is ungated at a line boundary or after 10 µs. -/
  | stripUngate
  /-- WEAR_LEVELLING (R491). Every 10 min Burnish moves the least-worn block into the most-worn free block when counts differ too much. -/
  | wearLevelling
  /-- TELE_SNAP (R485). Every TELE_PERIOD or on TELE_SNAP a telemetry snapshot is taken. -/
  | teleSnap
  /-- PORST_N_ASSERT (R497). PORST_N low puts the device in reset with outputs in high impedance. -/
  | porstNAssert
  /-- POWER_DOMAIN_UP (R477). The next power domain comes up POWER_SPACING after the previous one. -/
  | powerDomainUp
  /-- BOOT_FAILED (R502). Both slots are refused and the device enters stage FAILED. -/
  | bootFailed
  /-- STORE_MOUNTED (R503). The supervisor mounts the store, continues the log index and enters stage 5. -/
  | storeMounted
  /-- DRAM_INITIALISED (R505). The DRAM initialisation write ends and the device enters stage 6. -/
  | dramInitialised
  /-- BOOT_SET_CINCH (R506). At stage 6 the supervisor loads the boot set and cinches it with a TIME boundary. -/
  | bootSetCinch
  /-- JOIN_ALIGNMENT_TIMEOUT (R352). A join whose trigger alignment has not completed within 100 ms fails with 0x0905 and the joiner enters UNHEALTHY. -/
  | joinAlignmentTimeout
  deriving DecidableEq, Repr

end Sys2Proof
end

