-- ==== Sys2Proof/Decode.lean ====
section
/-! DEFINITION. Decode.lean: the reading of command words. The opcode table gives no row any bits: commands come as packets,
register accesses and events, not as instruction words. -/
namespace Sys2Proof

/-- No word spells a command of this block. -/
def decodeTableWord (_nbits _w : Nat) : Option Instr := none

end Sys2Proof
end

