-- ==== Sys2Proof/Config.lean ====
section
/-! DEFINITION. Config.lean: what one part fixes for itself and the spec leaves open. Each constant has no body, so no proof
can see its value and a statement about the model holds for every value. -/
namespace Sys2Proof

/-- The free value of index `n`: wherever the spec leaves a value open, the machine takes the next index (State.freeCtr). -/
opaque Config.free : Nat → Nat

/-- R324: the fixed internal latency, in picoseconds, that the fuses hold per port and FEC setting, for one direction. -/
opaque Config.ptpLatency : Nat → Nat → Bool → Int

/-- DEVICE_INFO (R65): the unique identifier of the part, held in fuses. -/
opaque Config.uniqueId : Nat

/-- DEVICE_INFO (R65, R530): the code of silicon revision A1. -/
opaque Config.revision : Nat

/-- R463: the expected gradient of a site against the median, in 1/16 °C. -/
opaque Config.siteGradient : Nat → Int

/-- R86, check 9: the detail of an entry whose rule names no limit, by the parameter it concerns. -/
opaque Config.limit : Nat → Nat

/-- R67: the identifier of a detail entry of a status for which no rule names what it concerns. -/
opaque Config.detailIdent : Nat → Nat

/-- R67: the detail of an entry of a status for which no rule states one. -/
opaque Config.detailValue : Nat → Nat

/-- R50, R296, R323: the DSCP (0) and TTL or hop limit (1) of packets that no flow sends, which the spec does not state. -/
opaque Config.hostHeader : Nat → Nat

/-- R323: timeSource of the Announce messages that the device sends, which the spec does not state. -/
opaque Config.timeSource : Nat

/-- R65: the status block of a unit instance whose layout the spec does not give, from a free value and the values that the spec says it reports. -/
opaque Config.statusBlock : Nat → Nat → List Int → List Byte

/-- R255, R259: a derived value (0 a mean, 1 SD_D, 2 the fill ratio) of an object whose fields, as an uncorrectable error left them (R246),
admit none: from its two operands. -/
opaque Config.derived : Nat → Int → Int → Int

/-- R368: the rolling accumulated activation count beyond which the package demands an RFM, by which an RFM lowers the count; the spec states none. -/
opaque Config.raaLimit : Nat

/-- R368: what a refresh of the bank takes off that count. -/
opaque Config.raaRefresh : Nat

/-- R392, R433: the first 64-byte block of an area of the supervisor's in DRAM, outside all regions: 0 its staging area, 1 its log ring, 2 the store's buffer, 3 a
join snapshot, 4 the buffer it is sent from; the spec places none. -/
opaque Config.supArea : Nat → Nat

/-- R97, R489: the store item, below 0x0001_0000, that holds the persisted log. -/
opaque Config.logItem : Nat

end Sys2Proof
end

