-- ==== Sys2Proof/Machine/Crc.lean ====
section
/-! DEFINITION. Machine/Crc.lean: the CRC presets of R406, used wherever the manual names one (LINE_CHECK, UNIT_CRC,
packet trailers, digests). -/
namespace Sys2Proof.Machine

/-- A CRC preset (R406). -/
structure CrcPreset where
  width  : Nat
  poly   : Nat
  init   : Nat
  refl   : Bool
  xorOut : Nat
  deriving DecidableEq, Repr

/-- The `n` low bits of a number in reverse order. -/
def reflect : Nat → Nat → Nat
  | 0, _ => 0
  | n + 1, v => (v % 2) * 2 ^ n + reflect n (v / 2)

/-- R406, the preset table. -/
def crcPreset : Nat → CrcPreset
  | 0 => ⟨32, 0x04C11DB7, 0xFFFFFFFF, true, 0xFFFFFFFF⟩
  | 1 => ⟨32, 0x1EDC6F41, 0xFFFFFFFF, true, 0xFFFFFFFF⟩
  | 2 => ⟨16, 0x1021, 0xFFFF, false, 0⟩
  | _ => ⟨64, 0x42F0E1EBA9EA3693, 0xFFFFFFFFFFFFFFFF, true, 0xFFFFFFFFFFFFFFFF⟩

/-- One bit of a reflected CRC (polynomial `p` already reflected). -/
def crcBitR (p st : Nat) : Nat := if st % 2 = 1 then Nat.xor (st / 2) p else st / 2

/-- One bit of an unreflected CRC of width `w`. -/
def crcBitF (w p st : Nat) : Nat :=
  if st / 2 ^ (w - 1) % 2 = 1 then Nat.xor (st * 2 % 2 ^ w) p else st * 2 % 2 ^ w

/-- `k` bits of a reflected CRC. -/
def crcBitsR (p : Nat) : Nat → Nat → Nat
  | 0, st => st
  | k + 1, st => crcBitsR p k (crcBitR p st)

/-- `k` bits of an unreflected CRC. -/
def crcBitsF (w p : Nat) : Nat → Nat → Nat
  | 0, st => st
  | k + 1, st => crcBitsF w p k (crcBitF w p st)

/-- One byte entering the raw state of a preset; reflected presets hold the state in reflected form (R407). -/
def crcByte (c : CrcPreset) (rp st : Nat) (b : Byte) : Nat :=
  if c.refl then crcBitsR rp 8 (Nat.xor st b.toNat)
  else crcBitsF c.width c.poly 8 (Nat.xor st (b.toNat * 2 ^ (c.width - 8)))

/-- Bytes entering the raw state of a preset, in order (R408). -/
def crcFeed (c : CrcPreset) (st : Nat) (bs : List Byte) : Nat :=
  let rp := reflect c.width c.poly
  bs.foldl (crcByte c rp) st

/-- The result of a raw state: state XOR XOROUT (R407). -/
def crcResult (c : CrcPreset) (st : Nat) : Nat := Nat.xor st c.xorOut

/-- The CRC of a byte string under a preset. -/
def crcOf (c : CrcPreset) (bs : List Byte) : Nat := crcResult c (crcFeed c c.init bs)

/-- CRC-32C (R406). -/
def crc32c (bs : List Byte) : Nat := crcOf (crcPreset 1) bs

/-- CRC-64/XZ (R406). -/
def crc64 (bs : List Byte) : Nat := crcOf (crcPreset 3) bs

end Sys2Proof.Machine
end

