-- ==== Sys2Proof/Machine/Params.lean ====
section
/-! DEFINITION. Machine/Params.lean: the parameter dictionary (R69): for every scalar parameter the instances and numbers
it has, its format, its range at staging (R70), its default, its apply class (R77) and its owner (R72), as the parameter
table of its chapter gives them; and every table parameter. -/
namespace Sys2Proof.Machine

/-- R4: the identifier 0xUUII_PPPP. -/
def pid (unit inst num : Nat) : Nat := unit * 0x1000000 + inst * 0x10000 + num

/-- The unit code of an identifier (R4). -/
def pidUnit (id : Nat) : Nat := id / 0x1000000 % 256

/-- The instance of an identifier (R4). -/
def pidInst (id : Nat) : Nat := id / 0x10000 % 256

/-- The parameter number of an identifier (R4). -/
def pidNum (id : Nat) : Nat := id % 0x10000

/-- CHK[0].DIGEST_SCOPE (R43). -/
def P.CHK_DIGEST_SCOPE : Nat := pid 0x15 0 0x100

/-- SYS[0].MGT_UDP_PORT (R64). -/
def P.SYS_MGT_UDP_PORT : Nat := pid 0x01 0 0x1

/-- SYS[0].SESSION_IDLE (R64). -/
def P.SYS_SESSION_IDLE : Nat := pid 0x01 0 0x2

/-- SYS[0].UDP_RATE (R64). -/
def P.SYS_UDP_RATE : Nat := pid 0x01 0 0x3

/-- SYS[0].AUTH_FAIL_LIMIT (R64). -/
def P.SYS_AUTH_FAIL_LIMIT : Nat := pid 0x01 0 0x4

/-- SYS[0].LOG_PERSIST_PERIOD (R98). -/
def P.SYS_LOG_PERSIST_PERIOD : Nat := pid 0x01 0 0x10

/-- SYS[0].LOG_TWIN_MIRROR (R98). -/
def P.SYS_LOG_TWIN_MIRROR : Nat := pid 0x01 0 0x11

/-- SYS[0].HT_SECURE (R98). -/
def P.SYS_HT_SECURE : Nat := pid 0x01 0 0x12

/-- SYS[0].GRANT_uu (R98). -/
def P.SYS_GRANT (k : Nat) : Nat := pid 0x01 0 (0x100 + k)

/-- LANE[i].RUN (R119). -/
def P.LANE_RUN (i : Nat) : Nat := pid 0x02 i 0x0

/-- LANE[i].RATE (R119). -/
def P.LANE_RATE (i : Nat) : Nat := pid 0x02 i 0x1

/-- LANE[i].WORD_MODE (R119). -/
def P.LANE_WORD_MODE (i : Nat) : Nat := pid 0x02 i 0x2

/-- LANE[i].INVERT (R119). -/
def P.LANE_INVERT (i : Nat) : Nat := pid 0x02 i 0x3

/-- LANE[i].QMODE (R119). -/
def P.LANE_QMODE (i : Nat) : Nat := pid 0x02 i 0x4

/-- LANE[i].ADAPT (R119). -/
def P.LANE_ADAPT (i : Nat) : Nat := pid 0x02 i 0x5

/-- LANE[i].LOS_LEVEL (R119). -/
def P.LANE_LOS_LEVEL (i : Nat) : Nat := pid 0x02 i 0x6

/-- LANE[i].LOS_DEBOUNCE (R119). -/
def P.LANE_LOS_DEBOUNCE (i : Nat) : Nat := pid 0x02 i 0x7

/-- LANE[i].LOL_PPM (R119). -/
def P.LANE_LOL_PPM (i : Nat) : Nat := pid 0x02 i 0x8

/-- LANE[i].LOL_DEBOUNCE (R119). -/
def P.LANE_LOL_DEBOUNCE (i : Nat) : Nat := pid 0x02 i 0x9

/-- LANE[i].IDLE_EN (R119). -/
def P.LANE_IDLE_EN (i : Nat) : Nat := pid 0x02 i 0xA

/-- LANE[i].IDLE_MAX (R119). -/
def P.LANE_IDLE_MAX (i : Nat) : Nat := pid 0x02 i 0xB

/-- LANE[i].IDLE_RETAIN (R119). -/
def P.LANE_IDLE_RETAIN (i : Nat) : Nat := pid 0x02 i 0xC

/-- LANE[i].SYNC_WORD (R119). -/
def P.LANE_SYNC_WORD (i : Nat) : Nat := pid 0x02 i 0xD

/-- LANE[i].CMP_WINDOW (R119). -/
def P.LANE_CMP_WINDOW (i : Nat) : Nat := pid 0x02 i 0xE

/-- LANE[i].EYE_DWELL (R119). -/
def P.LANE_EYE_DWELL (i : Nat) : Nat := pid 0x02 i 0xF

/-- LANE[i].OWNER (R119). -/
def P.LANE_OWNER (i : Nat) : Nat := pid 0x02 i 0x10

/-- LANE[i].SECURE (R119). -/
def P.LANE_SECURE (i : Nat) : Nat := pid 0x02 i 0x11

/-- LANE[i].UPL_RATE (R119). -/
def P.LANE_UPL_RATE (i : Nat) : Nat := pid 0x02 i 0x20

/-- LANE[i].UPL_INVERT (R119). -/
def P.LANE_UPL_INVERT (i : Nat) : Nat := pid 0x02 i 0x21

/-- LANE[i].UPL_SWING (R119). -/
def P.LANE_UPL_SWING (i : Nat) : Nat := pid 0x02 i 0x22

/-- PORT[i].RUN (R140). -/
def P.PORT_RUN (i : Nat) : Nat := pid 0x03 i 0x0

/-- PORT[i].PROTOCOL (R140). -/
def P.PORT_PROTOCOL (i : Nat) : Nat := pid 0x03 i 0x1

/-- PORT[i].MODE (R140). -/
def P.PORT_MODE (i : Nat) : Nat := pid 0x03 i 0x2

/-- PORT[i].WIDTH (R140). -/
def P.PORT_WIDTH (i : Nat) : Nat := pid 0x03 i 0x3

/-- PORT[i].HEIGHT (R140). -/
def P.PORT_HEIGHT (i : Nat) : Nat := pid 0x03 i 0x4

/-- PORT[i].FRAME_LENGTH (R140). -/
def P.PORT_FRAME_LENGTH (i : Nat) : Nat := pid 0x03 i 0x5

/-- PORT[i].BITS (R140). -/
def P.PORT_BITS (i : Nat) : Nat := pid 0x03 i 0x6

/-- PORT[i].COMPONENTS (R140). -/
def P.PORT_COMPONENTS (i : Nat) : Nat := pid 0x03 i 0x7

/-- PORT[i].CXP_RATE (R140). -/
def P.PORT_CXP_RATE (i : Nat) : Nat := pid 0x03 i 0x8

/-- PORT[i].CONNECTIONS (R140). -/
def P.PORT_CONNECTIONS (i : Nat) : Nat := pid 0x03 i 0x9

/-- PORT[i].GANG (R140). -/
def P.PORT_GANG (i : Nat) : Nat := pid 0x03 i 0xA

/-- PORT[i].TIMING (R140). -/
def P.PORT_TIMING (i : Nat) : Nat := pid 0x03 i 0xB

/-- PORT[i].TRIG_PATH (R140). -/
def P.PORT_TRIG_PATH (i : Nat) : Nat := pid 0x03 i 0xC

/-- PORT[i].TRIG_GPX (R140). -/
def P.PORT_TRIG_GPX (i : Nat) : Nat := pid 0x03 i 0xD

/-- PORT[i].TRIG_WIDTH (R140). -/
def P.PORT_TRIG_WIDTH (i : Nat) : Nat := pid 0x03 i 0xE

/-- PORT[i].LINE_TIMEOUT (R140). -/
def P.PORT_LINE_TIMEOUT (i : Nat) : Nat := pid 0x03 i 0xF

/-- PORT[i].FREE_PERIOD (R140). -/
def P.PORT_FREE_PERIOD (i : Nat) : Nat := pid 0x03 i 0x10

/-- PORT[i].FILL_VALUE (R140). -/
def P.PORT_FILL_VALUE (i : Nat) : Nat := pid 0x03 i 0x11

/-- PORT[i].HB_TIMEOUT (R140). -/
def P.PORT_HB_TIMEOUT (i : Nat) : Nat := pid 0x03 i 0x12

/-- PORT[i].CAM_TIMEOUT (R140). -/
def P.PORT_CAM_TIMEOUT (i : Nat) : Nat := pid 0x03 i 0x13

/-- PORT[i].RAW_CRC (R140). -/
def P.PORT_RAW_CRC (i : Nat) : Nat := pid 0x03 i 0x14

/-- PORT[i].EVENT_QUEUE (R140). -/
def P.PORT_EVENT_QUEUE (i : Nat) : Nat := pid 0x03 i 0x15

/-- PORT[i].PLAN_RATE (R140). -/
def P.PORT_PLAN_RATE (i : Nat) : Nat := pid 0x03 i 0x16

/-- PORT[i].CAMSET_COUNT (R140). -/
def P.PORT_CAMSET_COUNT (i : Nat) : Nat := pid 0x03 i 0x20

/-- MOTN[i].RUN (R159). -/
def P.MOTN_RUN (i : Nat) : Nat := pid 0x04 i 0x0

/-- MOTN[a].INPUT (R159). -/
def P.MOTN_AX_INPUT (i : Nat) : Nat := pid 0x04 i 0x1

/-- MOTN[a].INVERT (R159). -/
def P.MOTN_AX_INVERT (i : Nat) : Nat := pid 0x04 i 0x2

/-- MOTN[a].FILTER (R159). -/
def P.MOTN_AX_FILTER (i : Nat) : Nat := pid 0x04 i 0x3

/-- MOTN[a].HYSTERESIS (R159). -/
def P.MOTN_AX_HYSTERESIS (i : Nat) : Nat := pid 0x04 i 0x4

/-- MOTN[a].PRESET (R159). -/
def P.MOTN_AX_PRESET (i : Nat) : Nat := pid 0x04 i 0x5

/-- MOTN[a].BANDWIDTH (R159). -/
def P.MOTN_AX_BANDWIDTH (i : Nat) : Nat := pid 0x04 i 0x6

/-- MOTN[a].STILL_TIME (R159). -/
def P.MOTN_AX_STILL_TIME (i : Nat) : Nat := pid 0x04 i 0x7

/-- MOTN[a].SSI_BITS (R159). -/
def P.MOTN_AX_SSI_BITS (i : Nat) : Nat := pid 0x04 i 0x8

/-- MOTN[a].SSI_CODE (R159). -/
def P.MOTN_AX_SSI_CODE (i : Nat) : Nat := pid 0x04 i 0x9

/-- MOTN[a].SSI_CLKDIV (R159). -/
def P.MOTN_AX_SSI_CLKDIV (i : Nat) : Nat := pid 0x04 i 0xA

/-- MOTN[a].SSI_PERIOD (R159). -/
def P.MOTN_AX_SSI_PERIOD (i : Nat) : Nat := pid 0x04 i 0xB

/-- MOTN[a].SSI_PAUSE (R159). -/
def P.MOTN_AX_SSI_PAUSE (i : Nat) : Nat := pid 0x04 i 0xC

/-- MOTN[a].SSI_MAX_DELTA (R159). -/
def P.MOTN_AX_SSI_MAX_DELTA (i : Nat) : Nat := pid 0x04 i 0xD

/-- MOTN[a].OWNER (R159). -/
def P.MOTN_AX_OWNER (i : Nat) : Nat := pid 0x04 i 0x10

/-- MOTN[a].SECURE (R159). -/
def P.MOTN_AX_SECURE (i : Nat) : Nat := pid 0x04 i 0x11

/-- MOTN[k].SOURCE (R159). -/
def P.MOTN_LTG_SOURCE (i : Nat) : Nat := pid 0x04 i 0x1

/-- MOTN[k].AXIS (R159). -/
def P.MOTN_LTG_AXIS (i : Nat) : Nat := pid 0x04 i 0x2

/-- MOTN[k].DIV_N (R159). -/
def P.MOTN_LTG_DIV_N (i : Nat) : Nat := pid 0x04 i 0x3

/-- MOTN[k].DIV_M (R159). -/
def P.MOTN_LTG_DIV_M (i : Nat) : Nat := pid 0x04 i 0x4

/-- MOTN[k].PHASE (R159). -/
def P.MOTN_LTG_PHASE (i : Nat) : Nat := pid 0x04 i 0x5

/-- MOTN[k].REV_MODE (R159). -/
def P.MOTN_LTG_REV_MODE (i : Nat) : Nat := pid 0x04 i 0x6

/-- MOTN[k].MIN_PERIOD (R159). -/
def P.MOTN_LTG_MIN_PERIOD (i : Nat) : Nat := pid 0x04 i 0x7

/-- MOTN[k].REIN (R159). -/
def P.MOTN_LTG_REIN (i : Nat) : Nat := pid 0x04 i 0x8

/-- MOTN[n].AXIS (R159). -/
def P.MOTN_PC_AXIS (i : Nat) : Nat := pid 0x04 i 0x1

/-- MOTN[n].GPX (R159). -/
def P.MOTN_PC_GPX (i : Nat) : Nat := pid 0x04 i 0x2

/-- MOTN[n].POLARITY (R159). -/
def P.MOTN_PC_POLARITY (i : Nat) : Nat := pid 0x04 i 0x3

/-- MOTN[n].WIDTH (R159). -/
def P.MOTN_PC_WIDTH (i : Nat) : Nat := pid 0x04 i 0x4

/-- MOTN[n].OWNER (R159). -/
def P.MOTN_PC_OWNER (i : Nat) : Nat := pid 0x04 i 0x10

/-- MOTN[n].SECURE (R159). -/
def P.MOTN_PC_SECURE (i : Nat) : Nat := pid 0x04 i 0x11

/-- STRP[i].RUN (R180). -/
def P.STRP_RUN (i : Nat) : Nat := pid 0x05 i 0x0

/-- STRP[i].CLIP_LO (R180). -/
def P.STRP_CLIP_LO (i : Nat) : Nat := pid 0x05 i 0x1

/-- STRP[i].CLIP_HI (R180). -/
def P.STRP_CLIP_HI (i : Nat) : Nat := pid 0x05 i 0x2

/-- STRP[i].NBR_STEP (R180). -/
def P.STRP_NBR_STEP (i : Nat) : Nat := pid 0x05 i 0x3

/-- STRP[i].CLASS_EN (R180). -/
def P.STRP_CLASS_EN (i : Nat) : Nat := pid 0x05 i 0x4

/-- STRP[i].DYN_EN (R180). -/
def P.STRP_DYN_EN (i : Nat) : Nat := pid 0x05 i 0x5

/-- STRP[i].DYN_HOT (R180). -/
def P.STRP_DYN_HOT (i : Nat) : Nat := pid 0x05 i 0x6

/-- STRP[i].DYN_COLD (R180). -/
def P.STRP_DYN_COLD (i : Nat) : Nat := pid 0x05 i 0x7

/-- STRP[i].SHADE_EN (R180). -/
def P.STRP_SHADE_EN (i : Nat) : Nat := pid 0x05 i 0x8

/-- STRP[i].SHADE_CHANNEL (R180). -/
def P.STRP_SHADE_CHANNEL (i : Nat) : Nat := pid 0x05 i 0x9

/-- STRP[i].TARGET (R180). -/
def P.STRP_TARGET (i : Nat) : Nat := pid 0x05 i 0xA

/-- STRP[i].SLEW (R180). -/
def P.STRP_SLEW (i : Nat) : Nat := pid 0x05 i 0xB

/-- STRP[i].M_MIN (R180). -/
def P.STRP_M_MIN (i : Nat) : Nat := pid 0x05 i 0xC

/-- STRP[i].M_MAX (R180). -/
def P.STRP_M_MAX (i : Nat) : Nat := pid 0x05 i 0xD

/-- STRP[i].COL_FLOOR (R180). -/
def P.STRP_COL_FLOOR (i : Nat) : Nat := pid 0x05 i 0xE

/-- STRP[i].ABSENT_FLOOR (R180). -/
def P.STRP_ABSENT_FLOOR (i : Nat) : Nat := pid 0x05 i 0xF

/-- STRP[i].OUT_BAND (R180). -/
def P.STRP_OUT_BAND (i : Nat) : Nat := pid 0x05 i 0x10

/-- STRP[i].DEFECT_LIMIT (R180). -/
def P.STRP_DEFECT_LIMIT (i : Nat) : Nat := pid 0x05 i 0x11

/-- STRP[i].STAT_SHIFT (R180). -/
def P.STRP_STAT_SHIFT (i : Nat) : Nat := pid 0x05 i 0x12

/-- COLR[i].RUN (R194). -/
def P.COLR_RUN (i : Nat) : Nat := pid 0x06 i 0x0

/-- COLR[i].MODE (R194). -/
def P.COLR_MODE (i : Nat) : Nat := pid 0x06 i 0x1

/-- COLR[i].PHASE (R194). -/
def P.COLR_PHASE (i : Nat) : Nat := pid 0x06 i 0x2

/-- COLR[i].RATIO (R194). -/
def P.COLR_RATIO (i : Nat) : Nat := pid 0x06 i 0x3

/-- COLR[i].MATRIX_EN (R194). -/
def P.COLR_MATRIX_EN (i : Nat) : Nat := pid 0x06 i 0x4

/-- COLR[i].M00–M22 (R194). -/
def P.COLR_M (i : Nat) (k : Nat) : Nat := pid 0x06 i (0x10 + 1 * k)

/-- COLR[i].OFF_R (R194). -/
def P.COLR_OFF_R (i : Nat) : Nat := pid 0x06 i 0x20

/-- COLR[i].OFF_G (R194). -/
def P.COLR_OFF_G (i : Nat) : Nat := pid 0x06 i 0x21

/-- COLR[i].OFF_B (R194). -/
def P.COLR_OFF_B (i : Nat) : Nat := pid 0x06 i 0x22

/-- STCH[p].RUN (R217). -/
def P.STCH_RUN (i : Nat) : Nat := pid 0x07 i 0x0

/-- STCH[p].MD_DELAY (R217). -/
def P.STCH_MD_DELAY (i : Nat) : Nat := pid 0x07 i 0x1

/-- STCH[p].MD_FRAC (R217). -/
def P.STCH_MD_FRAC (i : Nat) : Nat := pid 0x07 i 0x2

/-- STCH[p].CD_MODE (R217). -/
def P.STCH_CD_MODE (i : Nat) : Nat := pid 0x07 i 0x3

/-- STCH[p].X0 (R217). -/
def P.STCH_X0 (i : Nat) : Nat := pid 0x07 i 0x4

/-- STCH[p].X1 (R217). -/
def P.STCH_X1 (i : Nat) : Nat := pid 0x07 i 0x5

/-- STCH[p].CD_SCALE (R217). -/
def P.STCH_CD_SCALE (i : Nat) : Nat := pid 0x07 i 0x6

/-- STCH[p].CD_OFFSET (R217). -/
def P.STCH_CD_OFFSET (i : Nat) : Nat := pid 0x07 i 0x7

/-- STCH[p].CD_SHIFT (R217). -/
def P.STCH_CD_SHIFT (i : Nat) : Nat := pid 0x07 i 0x8

/-- STCH[p].CD_SET (R217). -/
def P.STCH_CD_SET (i : Nat) : Nat := pid 0x07 i 0x9

/-- STCH[p].RAMP_L (R217). -/
def P.STCH_RAMP_L (i : Nat) : Nat := pid 0x07 i 0xA

/-- STCH[p].RAMP_R (R217). -/
def P.STCH_RAMP_R (i : Nat) : Nat := pid 0x07 i 0xB

/-- STCH[p].RAMP_T (R217). -/
def P.STCH_RAMP_T (i : Nat) : Nat := pid 0x07 i 0xC

/-- STCH[p].RAMP_B (R217). -/
def P.STCH_RAMP_B (i : Nat) : Nat := pid 0x07 i 0xD

/-- STCH[p].TILE_X (R217). -/
def P.STCH_TILE_X (i : Nat) : Nat := pid 0x07 i 0xE

/-- STCH[p].TILE_Y (R217). -/
def P.STCH_TILE_Y (i : Nat) : Nat := pid 0x07 i 0xF

/-- STCH[p].MOSAIC (R217). -/
def P.STCH_MOSAIC (i : Nat) : Nat := pid 0x07 i 0x10

/-- STCH[16].RUN (R217). -/
def P.STCH_OUT_RUN : Nat := pid 0x07 16 0x0

/-- STCH[16].MODE (R217). -/
def P.STCH_OUT_MODE : Nat := pid 0x07 16 0x1

/-- STCH[16].OUT_WIDTH (R217). -/
def P.STCH_OUT_WIDTH : Nat := pid 0x07 16 0x2

/-- STCH[16].OUT_HEIGHT (R217). -/
def P.STCH_OUT_HEIGHT : Nat := pid 0x07 16 0x3

/-- STCH[16].COMPONENTS (R217). -/
def P.STCH_OUT_COMPONENTS : Nat := pid 0x07 16 0x4

/-- STCH[16].REF_PORT (R217). -/
def P.STCH_OUT_REF_PORT : Nat := pid 0x07 16 0x5

/-- STCH[16].FRAME_LENGTH (R217). -/
def P.STCH_OUT_FRAME_LENGTH : Nat := pid 0x07 16 0x6

/-- STCH[16].FILL_VALUE (R217). -/
def P.STCH_OUT_FILL_VALUE : Nat := pid 0x07 16 0x7

/-- STCH[16].PREV_DX (R217). -/
def P.STCH_OUT_PREV_DX : Nat := pid 0x07 16 0x8

/-- STCH[16].PREV_DY (R217). -/
def P.STCH_OUT_PREV_DY : Nat := pid 0x07 16 0x9

/-- PROF[c].RUN (R232). -/
def P.PROF_RUN (i : Nat) : Nat := pid 0x08 i 0x0

/-- PROF[c].SRC (R232). -/
def P.PROF_SRC (i : Nat) : Nat := pid 0x08 i 0x1

/-- PROF[c].COMP (R232). -/
def P.PROF_COMP (i : Nat) : Nat := pid 0x08 i 0x2

/-- PROF[c].C0 (R232). -/
def P.PROF_C0 (i : Nat) : Nat := pid 0x08 i 0x3

/-- PROF[c].C1 (R232). -/
def P.PROF_C1 (i : Nat) : Nat := pid 0x08 i 0x4

/-- PROF[c].K (R232). -/
def P.PROF_K (i : Nat) : Nat := pid 0x08 i 0x5

/-- PROF[c].L (R232). -/
def P.PROF_L (i : Nat) : Nat := pid 0x08 i 0x6

/-- PROF[c].REF_MIN (R232). -/
def P.PROF_REF_MIN (i : Nat) : Nat := pid 0x08 i 0x7

/-- PROF[c].PEAK_DECAY (R232). -/
def P.PROF_PEAK_DECAY (i : Nat) : Nat := pid 0x08 i 0x8

/-- PROF[c].ATTACK (R232). -/
def P.PROF_ATTACK (i : Nat) : Nat := pid 0x08 i 0x9

/-- PROF[c].RELEASE (R232). -/
def P.PROF_RELEASE (i : Nat) : Nat := pid 0x08 i 0xA

/-- PROF[c].DELAY (R232). -/
def P.PROF_DELAY (i : Nat) : Nat := pid 0x08 i 0xB

/-- PROF[c].FIELDS (R232). -/
def P.PROF_FIELDS (i : Nat) : Nat := pid 0x08 i 0xC

/-- PROF[c].PROF_GROUP (R232). -/
def P.PROF_PROF_GROUP (i : Nat) : Nat := pid 0x08 i 0xD

/-- PROF[c].OUT_EN (R232). -/
def P.PROF_OUT_EN (i : Nat) : Nat := pid 0x08 i 0xE

/-- SEGM[0].RUN (R252). -/
def P.SEGM_RUN : Nat := pid 0x09 0 0x0

/-- SEGM[0].COMP (R252). -/
def P.SEGM_COMP : Nat := pid 0x09 0 0x1

/-- SEGM[0].X_START (R252). -/
def P.SEGM_X_START : Nat := pid 0x09 0 0x2

/-- SEGM[0].X_END (R252). -/
def P.SEGM_X_END : Nat := pid 0x09 0 0x3

/-- SEGM[0].CLASS_EN (R252). -/
def P.SEGM_CLASS_EN : Nat := pid 0x09 0 0x4

/-- SEGM[0].SAT_LEVEL (R252). -/
def P.SEGM_SAT_LEVEL : Nat := pid 0x09 0 0x5

/-- SEGM[0].T_DARK (R252). -/
def P.SEGM_T_DARK : Nat := pid 0x09 0 0x6

/-- SEGM[0].T_BRIGHT (R252). -/
def P.SEGM_T_BRIGHT : Nat := pid 0x09 0 0x7

/-- SEGM[0].K_DARK (R252). -/
def P.SEGM_K_DARK : Nat := pid 0x09 0 0x8

/-- SEGM[0].K_BRIGHT (R252). -/
def P.SEGM_K_BRIGHT : Nat := pid 0x09 0 0x9

/-- SEGM[0].NOREF_MODE (R252). -/
def P.SEGM_NOREF_MODE : Nat := pid 0x09 0 0xA

/-- SEGM[0].FIX_REF (R252). -/
def P.SEGM_FIX_REF : Nat := pid 0x09 0 0xB

/-- SEGM[0].MERGE_CLASSES (R252). -/
def P.SEGM_MERGE_CLASSES : Nat := pid 0x09 0 0xC

/-- SEGM[0].GAP_X (R252). -/
def P.SEGM_GAP_X : Nat := pid 0x09 0 0xD

/-- SEGM[0].GAP_Y (R252). -/
def P.SEGM_GAP_Y : Nat := pid 0x09 0 0xE

/-- SEGM[0].MAX_LENGTH (R252). -/
def P.SEGM_MAX_LENGTH : Nat := pid 0x09 0 0xF

/-- SEGM[0].MIN_AREA (R252). -/
def P.SEGM_MIN_AREA : Nat := pid 0x09 0 0x10

/-- RECD[0].RUN (R271). -/
def P.RECD_RUN : Nat := pid 0x0A 0 0x0

/-- RECD[0].HIST_EN (R271). -/
def P.RECD_HIST_EN : Nat := pid 0x0A 0 0x1

/-- RECD[0].HIST_DEPTH (R271). -/
def P.RECD_HIST_DEPTH : Nat := pid 0x0A 0 0x2

/-- RECD[0].UM_PER_COUNT (R271). -/
def P.RECD_UM_PER_COUNT : Nat := pid 0x0A 0 0x3

/-- RECD[0].MD_ORIGIN (R271). -/
def P.RECD_MD_ORIGIN : Nat := pid 0x0A 0 0x4

/-- RECD[0].UM_PER_COL (R271). -/
def P.RECD_UM_PER_COL : Nat := pid 0x0A 0 0x5

/-- RECD[0].CD_ORIGIN_UM (R271). -/
def P.RECD_CD_ORIGIN_UM : Nat := pid 0x0A 0 0x6

/-- RECD[0].PATCH_MARGIN_X (R271). -/
def P.RECD_PATCH_MARGIN_X : Nat := pid 0x0A 0 0x7

/-- RECD[0].PATCH_MARGIN_Y (R271). -/
def P.RECD_PATCH_MARGIN_Y : Nat := pid 0x0A 0 0x8

/-- RECD[0].PATCH_MAX_COLS (R271). -/
def P.RECD_PATCH_MAX_COLS : Nat := pid 0x0A 0 0x9

/-- RECD[0].PATCH_MAX_LINES (R271). -/
def P.RECD_PATCH_MAX_LINES : Nat := pid 0x0A 0 0xA

/-- RECD[0].PATCH_BUDGET (R271). -/
def P.RECD_PATCH_BUDGET : Nat := pid 0x0A 0 0xB

/-- RECD[0].OBJ_BATCH (R271). -/
def P.RECD_OBJ_BATCH : Nat := pid 0x0A 0 0xC

/-- RECD[0].DEF_CLASS (R271). -/
def P.RECD_DEF_CLASS : Nat := pid 0x0A 0 0xD

/-- RECD[0].DEF_SEVERITY (R271). -/
def P.RECD_DEF_SEVERITY : Nat := pid 0x0A 0 0xE

/-- RECD[0].DEF_EMIT (R271). -/
def P.RECD_DEF_EMIT : Nat := pid 0x0A 0 0xF

/-- RECD[0].RECORD_QUEUE (R271). -/
def P.RECD_RECORD_QUEUE : Nat := pid 0x0A 0 0x10

/-- RECD[0].MARKs_PC (R271). -/
def P.RECD_MARK_PC (k : Nat) : Nat := pid 0x0A 0 (0x20 + 16 * k)

/-- RECD[0].MARKs_OFFSET (R271). -/
def P.RECD_MARK_OFFSET (k : Nat) : Nat := pid 0x0A 0 (0x21 + 16 * k)

/-- RECD[0].MARKs_REF (R271). -/
def P.RECD_MARK_REF (k : Nat) : Nat := pid 0x0A 0 (0x22 + 16 * k)

/-- RECD[0].MARKs_WIDTH (R271). -/
def P.RECD_MARK_WIDTH (k : Nat) : Nat := pid 0x0A 0 (0x23 + 16 * k)

/-- RECD[0].MARKs_ATTR (R271). -/
def P.RECD_MARK_ATTR (k : Nat) : Nat := pid 0x0A 0 (0x24 + 16 * k)

/-- CMPR[0].RUN (R294). -/
def P.CMPR_RUN : Nat := pid 0x0B 0 0x0

/-- CMPR[0].PRODUCT_ENGINES (R294). -/
def P.CMPR_PRODUCT_ENGINES : Nat := pid 0x0B 0 0x1

/-- CMPR[0].JOB_ENGINES (R294). -/
def P.CMPR_JOB_ENGINES : Nat := pid 0x0B 0 0x2

/-- CMPR[0].BACKLOG (R294). -/
def P.CMPR_BACKLOG : Nat := pid 0x0B 0 0x3

/-- NETW[p].RUN (R313). -/
def P.NETW_RUN (i : Nat) : Nat := pid 0x0C i 0x0

/-- NETW[p].MAC (R313). -/
def P.NETW_MAC (i : Nat) : Nat := pid 0x0C i 0x1

/-- NETW[p].IPV4 (R313). -/
def P.NETW_IPV4 (i : Nat) : Nat := pid 0x0C i 0x2

/-- NETW[p].IPV6_HI (R313). -/
def P.NETW_IPV6_HI (i : Nat) : Nat := pid 0x0C i 0x3

/-- NETW[p].IPV6_LO (R313). -/
def P.NETW_IPV6_LO (i : Nat) : Nat := pid 0x0C i 0x4

/-- NETW[p].MAX_FRAME (R313). -/
def P.NETW_MAX_FRAME (i : Nat) : Nat := pid 0x0C i 0x5

/-- NETW[p].PAUSE_EN (R313). -/
def P.NETW_PAUSE_EN (i : Nat) : Nat := pid 0x0C i 0x6

/-- NETW[p].TXBUF (R313). -/
def P.NETW_TXBUF (i : Nat) : Nat := pid 0x0C i 0x7

/-- NETW[p].FEC (R313). -/
def P.NETW_FEC (i : Nat) : Nat := pid 0x0C i 0x8

/-- NETW[p].TX_INVERT (R313). -/
def P.NETW_TX_INVERT (i : Nat) : Nat := pid 0x0C i 0x9

/-- NETW[p].RX_INVERT (R313). -/
def P.NETW_RX_INVERT (i : Nat) : Nat := pid 0x0C i 0xA

/-- NETW[2].MGT_MODE (R313). -/
def P.NETW_MGT_MODE : Nat := pid 0x0C 2 0xB

/-- NETW[p].Qq_BUF (R313). -/
def P.NETW_Q_BUF (i : Nat) (k : Nat) : Nat := pid 0x0C i (0x10 + 8 * k)

/-- NETW[p].Qq_RATE (R313). -/
def P.NETW_Q_RATE (i : Nat) (k : Nat) : Nat := pid 0x0C i (0x11 + 8 * k)

/-- NETW[p].Qq_LATE_TOL (R313). -/
def P.NETW_Q_LATE_TOL (i : Nat) (k : Nat) : Nat := pid 0x0C i (0x12 + 8 * k)

/-- NETW[p].Qq_LATE_POLICY (R313). -/
def P.NETW_Q_LATE_POLICY (i : Nat) (k : Nat) : Nat := pid 0x0C i (0x13 + 8 * k)

/-- TIME[0].RUN (R329). -/
def P.TIME_RUN : Nat := pid 0x0D 0 0x0

/-- TIME[0].PROFILE (R329). -/
def P.TIME_PROFILE : Nat := pid 0x0D 0 0x1

/-- TIME[0].DOMAIN (R329). -/
def P.TIME_DOMAIN : Nat := pid 0x0D 0 0x2

/-- TIME[0].TWO_STEP (R329). -/
def P.TIME_TWO_STEP : Nat := pid 0x0D 0 0x3

/-- TIME[0].SLAVE_ONLY (R329). -/
def P.TIME_SLAVE_ONLY : Nat := pid 0x0D 0 0x4

/-- TIME[0].CLOCK_ID (R329). -/
def P.TIME_CLOCK_ID : Nat := pid 0x0D 0 0x5

/-- TIME[0].PRIORITY1 (R329). -/
def P.TIME_PRIORITY1 : Nat := pid 0x0D 0 0x6

/-- TIME[0].PRIORITY2 (R329). -/
def P.TIME_PRIORITY2 : Nat := pid 0x0D 0 0x7

/-- TIME[0].CLOCK_CLASS (R329). -/
def P.TIME_CLOCK_CLASS : Nat := pid 0x0D 0 0x8

/-- TIME[0].SERVO_BW (R329). -/
def P.TIME_SERVO_BW : Nat := pid 0x0D 0 0x9

/-- TIME[0].RATE_LIMIT (R329). -/
def P.TIME_RATE_LIMIT : Nat := pid 0x0D 0 0xA

/-- TIME[0].LOCK_BAND (R329). -/
def P.TIME_LOCK_BAND : Nat := pid 0x0D 0 0xB

/-- TIME[0].LOCK_COUNT (R329). -/
def P.TIME_LOCK_COUNT : Nat := pid 0x0D 0 0xC

/-- TIME[0].OUTLIER_NS (R329). -/
def P.TIME_OUTLIER_NS : Nat := pid 0x0D 0 0xD

/-- TIME[0].OUTLIER_RUN (R329). -/
def P.TIME_OUTLIER_RUN : Nat := pid 0x0D 0 0xE

/-- TIME[0].FREE_RATE (R329). -/
def P.TIME_FREE_RATE : Nat := pid 0x0D 0 0xF

/-- TIME[0].RESTEP (R329). -/
def P.TIME_RESTEP : Nat := pid 0x0D 0 0x10

/-- TIME[n].PTP_EN (R329). -/
def P.TIMEP_PTP_EN (i : Nat) : Nat := pid 0x0D i 0x1

/-- TIME[n].TRANSPORT (R329). -/
def P.TIMEP_TRANSPORT (i : Nat) : Nat := pid 0x0D i 0x2

/-- TIME[n].LOG_SYNC (R329). -/
def P.TIMEP_LOG_SYNC (i : Nat) : Nat := pid 0x0D i 0x3

/-- TIME[n].LOG_ANNOUNCE (R329). -/
def P.TIMEP_LOG_ANNOUNCE (i : Nat) : Nat := pid 0x0D i 0x4

/-- TIME[n].ANNOUNCE_TIMEOUT (R329). -/
def P.TIMEP_ANNOUNCE_TIMEOUT (i : Nat) : Nat := pid 0x0D i 0x5

/-- TIME[n].LOG_DELAY (R329). -/
def P.TIMEP_LOG_DELAY (i : Nat) : Nat := pid 0x0D i 0x6

/-- TIME[n].TX_DELAY (R329). -/
def P.TIMEP_TX_DELAY (i : Nat) : Nat := pid 0x0D i 0x7

/-- TIME[n].RX_DELAY (R329). -/
def P.TIMEP_RX_DELAY (i : Nat) : Nat := pid 0x0D i 0x8

/-- TIME[n].ASYMMETRY (R329). -/
def P.TIMEP_ASYMMETRY (i : Nat) : Nat := pid 0x0D i 0x9

/-- TWIN[0].RUN (R357). -/
def P.TWIN_RUN : Nat := pid 0x0E 0 0x0

/-- TWIN[0].UNIT_ID (R357). -/
def P.TWIN_UNIT_ID : Nat := pid 0x0E 0 0x1

/-- TWIN[0].DIVERGE_POLICY (R357). -/
def P.TWIN_DIVERGE_POLICY : Nat := pid 0x0E 0 0x2

/-- TWIN[0].TAKEOVER (R357). -/
def P.TWIN_TAKEOVER : Nat := pid 0x0E 0 0x3

/-- TWIN[0].AUTO_REJOIN (R357). -/
def P.TWIN_AUTO_REJOIN : Nat := pid 0x0E 0 0x4

/-- TWIN[0].ADOPT_WAIT (R357). -/
def P.TWIN_ADOPT_WAIT : Nat := pid 0x0E 0 0x5

/-- TWIN[0].ALIGN_TOL (R357). -/
def P.TWIN_ALIGN_TOL : Nat := pid 0x0E 0 0x6

/-- TWIN[0].SNAP_RATE (R357). -/
def P.TWIN_SNAP_RATE : Nat := pid 0x0E 0 0x7

/-- TWIN[0].ROLE_GPX (R357). -/
def P.TWIN_ROLE_GPX : Nat := pid 0x0E 0 0x8

/-- TWIN[0].TW_QUIET (R357). -/
def P.TWIN_TW_QUIET : Nat := pid 0x0E 0 0x9

/-- TWIN[0].SL_TX_INVERT (R357). -/
def P.TWIN_SL_TX_INVERT : Nat := pid 0x0E 0 0xA

/-- TWIN[0].SL_RX_INVERT (R357). -/
def P.TWIN_SL_RX_INVERT : Nat := pid 0x0E 0 0xB

/-- TWIN[0].CLAIM_SETTLE (R357). -/
def P.TWIN_CLAIM_SETTLE : Nat := pid 0x0E 0 0xC

/-- MEMC[0].INTERLEAVE (R378). -/
def P.MEMC_INTERLEAVE : Nat := pid 0x0F 0 0x1

/-- MEMC[0].AGE_MAX (R378). -/
def P.MEMC_AGE_MAX : Nat := pid 0x0F 0 0x2

/-- MEMC[0].RH_THRESHOLD (R378). -/
def P.MEMC_RH_THRESHOLD : Nat := pid 0x0F 0 0x3

/-- MEMC[0].RH_WINDOW (R378). -/
def P.MEMC_RH_WINDOW : Nat := pid 0x0F 0 0x4

/-- MEMC[0].CE_LIMIT (R378). -/
def P.MEMC_CE_LIMIT : Nat := pid 0x0F 0 0x5

/-- MEMC[r].PANIC_LEVEL (R378). -/
def P.MEMC_PANIC_LEVEL (i : Nat) : Nat := pid 0x0F i 0x1

/-- QDMA[c].PRIORITY (R395). -/
def P.QDMA_PRIORITY (i : Nat) : Nat := pid 0x10 i 0x1

/-- QDMA[c].OWNER (R395). -/
def P.QDMA_OWNER (i : Nat) : Nat := pid 0x10 i 0x10

/-- QDMA[c].SECURE (R395). -/
def P.QDMA_SECURE (i : Nat) : Nat := pid 0x10 i 0x11

/-- QDMA[Qq].SIZE (R395). -/
def P.QUEUE_SIZE (q : Nat) : Nat := pid 0x10 (0x40 + q / 16) (0x100 + 0x10 * (q % 16))

/-- QDMA[Qq].READY_MARK (R395). -/
def P.QUEUE_READY_MARK (q : Nat) : Nat := pid 0x10 (0x40 + q / 16) (0x101 + 0x10 * (q % 16))

/-- QDMA[Qq].TIMEOUT (R395). -/
def P.QUEUE_TIMEOUT (q : Nat) : Nat := pid 0x10 (0x40 + q / 16) (0x102 + 0x10 * (q % 16))

/-- QDMA[Qq].OWNER (R395). -/
def P.QUEUE_OWNER (q : Nat) : Nat := pid 0x10 (0x40 + q / 16) (0x103 + 0x10 * (q % 16))

/-- QDMA[Qq].SECURE (R395). -/
def P.QUEUE_SECURE (q : Nat) : Nat := pid 0x10 (0x40 + q / 16) (0x104 + 0x10 * (q % 16))

/-- CHK[k].OWNER (R413). -/
def P.CHK_OWNER (i : Nat) : Nat := pid 0x15 i 0x10

/-- CHK[k].SECURE (R413). -/
def P.CHK_SECURE (i : Nat) : Nat := pid 0x15 i 0x11

/-- EVNT[n].SRC (R427). -/
def P.EVNT_SRC (i : Nat) : Nat := pid 0x11 i 0x1

/-- EVNT[n].GROUP (R427). -/
def P.EVNT_GROUP (i : Nat) : Nat := pid 0x11 i 0x2

/-- EVNT[n].LINE_ARG (R427). -/
def P.EVNT_LINE_ARG (i : Nat) : Nat := pid 0x11 i 0x3

/-- EVNT[n].OWNER (R427). -/
def P.EVNT_OWNER (i : Nat) : Nat := pid 0x11 i 0x10

/-- EVNT[n].SECURE (R427). -/
def P.EVNT_SECURE (i : Nat) : Nat := pid 0x11 i 0x11

/-- EVNT[0].GROUP_INIT (R427). -/
def P.EVNT_GROUP_INIT : Nat := pid 0x11 0 0x100

/-- EVNT[0].PULSE_NS (R427). -/
def P.EVNT_PULSE_NS : Nat := pid 0x11 0 0x101

/-- EVNT[0].GPX_EDGE (R427). -/
def P.EVNT_GPX_EDGE : Nat := pid 0x11 0 0x102

/-- CORE[k].RUN (R443). -/
def P.CORE_RUN (i : Nat) : Nat := pid 0x16 i 0x0

/-- CORE[0].BOOT_SRC (R443). -/
def P.CORE_BOOT_SRC : Nat := pid 0x16 0 0x1

/-- CORE[0].BOOT_ITEM (R443). -/
def P.CORE_BOOT_ITEM : Nat := pid 0x16 0 0x2

/-- CORE[0].BOOT_VERIFY (R443). -/
def P.CORE_BOOT_VERIFY : Nat := pid 0x16 0 0x3

/-- CORE[0].BOOT_KEY_ITEM (R443). -/
def P.CORE_BOOT_KEY_ITEM : Nat := pid 0x16 0 0x4

/-- CORE[0].CLK_MAX (R443). -/
def P.CORE_CLK_MAX : Nat := pid 0x16 0 0x5

/-- CORE[0].REFUSE_FAULT (R443). -/
def P.CORE_REFUSE_FAULT : Nat := pid 0x16 0 0x6

/-- CORE[k].INT_WORLD (R443). -/
def P.CORE_INT_WORLD (i : Nat) : Nat := pid 0x16 i 0x10

/-- CORE[0].REGIONr_BASE (R443). -/
def P.CORE_REGION_BASE (k : Nat) : Nat := pid 0x16 0 (0x100 + 4 * k)

/-- CORE[0].REGIONr_SIZE (R443). -/
def P.CORE_REGION_SIZE (k : Nat) : Nat := pid 0x16 0 (0x101 + 4 * k)

/-- CORE[0].REGIONr_PRINCIPAL (R443). -/
def P.CORE_REGION_PRINCIPAL (k : Nat) : Nat := pid 0x16 0 (0x102 + 4 * k)

/-- TWB[i].RUN (R461). -/
def P.TWB_RUN (i : Nat) : Nat := pid 0x12 i 0x0

/-- TWB[t].MODE (R461). -/
def P.TWB_MODE (i : Nat) : Nat := pid 0x12 i 0x1

/-- TWB[t].LOW (R461). -/
def P.TWB_LOW (i : Nat) : Nat := pid 0x12 i 0x2

/-- TWB[t].HIGH (R461). -/
def P.TWB_HIGH (i : Nat) : Nat := pid 0x12 i 0x3

/-- TWB[t].HOLD (R461). -/
def P.TWB_HOLD (i : Nat) : Nat := pid 0x12 i 0x4

/-- TWB[t].SU_STA (R461). -/
def P.TWB_SU_STA (i : Nat) : Nat := pid 0x12 i 0x5

/-- TWB[t].HD_STA (R461). -/
def P.TWB_HD_STA (i : Nat) : Nat := pid 0x12 i 0x6

/-- TWB[t].SU_STO (R461). -/
def P.TWB_SU_STO (i : Nat) : Nat := pid 0x12 i 0x7

/-- TWB[t].BUF (R461). -/
def P.TWB_BUF (i : Nat) : Nat := pid 0x12 i 0x8

/-- TWB[t].FILTER (R461). -/
def P.TWB_FILTER (i : Nat) : Nat := pid 0x12 i 0x9

/-- TWB[t].RETRY (R461). -/
def P.TWB_RETRY (i : Nat) : Nat := pid 0x12 i 0xA

/-- TWB[t].LOW_TIMEOUT (R461). -/
def P.TWB_LOW_TIMEOUT (i : Nat) : Nat := pid 0x12 i 0xB

/-- TWB[t].ALERT_AUTO (R461). -/
def P.TWB_ALERT_AUTO (i : Nat) : Nat := pid 0x12 i 0xC

/-- TWB[t].RST_TIME (R461). -/
def P.TWB_RST_TIME (i : Nat) : Nat := pid 0x12 i 0xD

/-- TWB[t].RST_AUTO (R461). -/
def P.TWB_RST_AUTO (i : Nat) : Nat := pid 0x12 i 0xE

/-- TWB[t].CLEAR_POLICY (R461). -/
def P.TWB_CLEAR_POLICY (i : Nat) : Nat := pid 0x12 i 0xF

/-- TWB[t].OWNER (R461). -/
def P.TWB_OWNER (i : Nat) : Nat := pid 0x12 i 0x10

/-- TWB[t].SECURE (R461). -/
def P.TWB_SECURE (i : Nat) : Nat := pid 0x12 i 0x11

/-- TWB[8].HT_BASE (R461). -/
def P.TWB_HT_BASE : Nat := pid 0x12 8 0x1

/-- TWB[8].HT_MASK (R461). -/
def P.TWB_HT_MASK : Nat := pid 0x12 8 0x2

/-- TWB[8].HT_ALERT (R461). -/
def P.TWB_HT_ALERT : Nat := pid 0x12 8 0x3

/-- THRM[0].THROTTLE_TJ (R482). -/
def P.THRM_THROTTLE_TJ : Nat := pid 0x13 0 0x1

/-- THRM[0].THROTTLE_HYST (R482). -/
def P.THRM_THROTTLE_HYST : Nat := pid 0x13 0 0x2

/-- THRM[0].STEP_PERIOD (R482). -/
def P.THRM_STEP_PERIOD : Nat := pid 0x13 0 0x3

/-- THRM[0].RECOVER_TIME (R482). -/
def P.THRM_RECOVER_TIME : Nat := pid 0x13 0 0x4

/-- THRM[0].ORDERLY_TJ (R482). -/
def P.THRM_ORDERLY_TJ : Nat := pid 0x13 0 0x5

/-- THRM[0].REARM_TJ (R482). -/
def P.THRM_REARM_TJ : Nat := pid 0x13 0 0x6

/-- THRM[0].DRAIN_MAX (R482). -/
def P.THRM_DRAIN_MAX : Nat := pid 0x13 0 0x7

/-- THRM[0].CORE_MIN (R482). -/
def P.THRM_CORE_MIN : Nat := pid 0x13 0 0x8

/-- THRM[0].MIN_DUTY (R482). -/
def P.THRM_MIN_DUTY : Nat := pid 0x13 0 0x9

/-- THRM[0].POWER_SPACING (R482). -/
def P.THRM_POWER_SPACING : Nat := pid 0x13 0 0xA

/-- THRM[0].QUAD_SPACING (R482). -/
def P.THRM_QUAD_SPACING : Nat := pid 0x13 0 0xB

/-- THRM[s].RISE_LIMIT (R482). -/
def P.THRM_RISE_LIMIT (i : Nat) : Nat := pid 0x13 i 0x20

/-- BKGD[0].TASK_EN (R495). -/
def P.BKGD_TASK_EN : Nat := pid 0x14 0 0x1

/-- BKGD[0].SCRUB_PERIOD (R495). -/
def P.BKGD_SCRUB_PERIOD : Nat := pid 0x14 0 0x2

/-- BKGD[0].RETRAIN_PERIOD (R495). -/
def P.BKGD_RETRAIN_PERIOD : Nat := pid 0x14 0 0x3

/-- BKGD[0].RETRAIN_DELTA (R495). -/
def P.BKGD_RETRAIN_DELTA : Nat := pid 0x14 0 0x4

/-- BKGD[0].EYE_PERIOD (R495). -/
def P.BKGD_EYE_PERIOD : Nat := pid 0x14 0 0x5

/-- BKGD[0].EYE_MIN (R495). -/
def P.BKGD_EYE_MIN : Nat := pid 0x14 0 0x6

/-- BKGD[0].TELE_PERIOD (R495). -/
def P.BKGD_TELE_PERIOD : Nat := pid 0x14 0 0x7

/-- STOR[0].WEAR_SPREAD (R495). -/
def P.STOR_WEAR_SPREAD : Nat := pid 0x17 0 0x1

/-- STOR[0].WEAR_LIMIT (R495). -/
def P.STOR_WEAR_LIMIT : Nat := pid 0x17 0 0x2

/-- SYS scalar parameters (R64, R98). -/
def rowsSys0 : List ParamRow :=
  [⟨0, 0, 0x1, 1, 1, false, 16, [⟨1024, 65535, 1⟩], 47120, 0, .I, 2, 0⟩,
   ⟨0, 0, 0x2, 1, 1, false, 32, [⟨1000, 3600000, 1⟩], 60000, 0, .I, 2, 0⟩,
   ⟨0, 0, 0x3, 1, 1, false, 16, [⟨100, 4000, 1⟩], 4000, 0, .I, 2, 0⟩,
   ⟨0, 0, 0x4, 1, 1, false, 8, [⟨4, 64, 1⟩], 16, 0, .I, 2, 0⟩,
   ⟨0, 0, 0x10, 1, 1, false, 32, [⟨60, 86400, 1⟩], 3600, 0, .I, 2, 0⟩,
   ⟨0, 0, 0x11, 1, 1, false, 1, [⟨0, 1, 1⟩], 1, 0, .I, 2, 0⟩,
   ⟨0, 0, 0x12, 1, 1, false, 1, [⟨0, 1, 1⟩], 1, 0, .I, 2, 0⟩,
   ⟨0, 0, 0x101, 1, 23, false, 8, [⟨0, 255, 1⟩], 255, 0, .I, 2, 0⟩]

/-- Every SYS scalar parameter. -/
def rowsSys : List ParamRow := rowsSys0

/-- LANE scalar parameters (R119). -/
def rowsLane0 : List ParamRow :=
  [⟨0, 79, 0x0, 1, 1, false, 1, [⟨0, 1, 1⟩], 0, 0, .L, 2, 0⟩,
   ⟨0, 63, 0x1, 1, 1, false, 32, [⟨1250000, 16000000, 1⟩], 12500000, 0, .S, 2, 0⟩,
   ⟨0, 63, 0x2, 1, 1, false, 2, [⟨0, 2, 1⟩], 0, 0, .S, 2, 0⟩,
   ⟨0, 63, 0x3, 1, 1, false, 1, [⟨0, 1, 1⟩], 0, 0, .S, 2, 0⟩,
   ⟨0, 63, 0x4, 1, 1, false, 1, [⟨0, 1, 1⟩], 0, 0, .S, 2, 0⟩,
   ⟨0, 63, 0x5, 1, 1, false, 1, [⟨0, 1, 1⟩], 0, 0, .I, 2, 0⟩,
   ⟨0, 63, 0x6, 1, 1, false, 8, [⟨25, 200, 1⟩], 60, 0, .I, 2, 0⟩,
   ⟨0, 63, 0x7, 1, 1, false, 16, [⟨1, 10000, 1⟩], 10, 0, .I, 2, 0⟩,
   ⟨0, 63, 0x8, 1, 1, false, 16, [⟨100, 5000, 1⟩], 1000, 0, .I, 2, 0⟩,
   ⟨0, 63, 0x9, 1, 1, false, 8, [⟨1, 255, 1⟩], 4, 0, .I, 2, 0⟩,
   ⟨0, 63, 0xA, 1, 1, false, 1, [⟨0, 1, 1⟩], 0, 0, .S, 2, 0⟩,
   ⟨0, 63, 0xB, 1, 1, false, 32, [⟨1, 10000000, 1⟩], 100000, 0, .I, 2, 0⟩]

/-- LANE scalar parameters (R119). -/
def rowsLane1 : List ParamRow :=
  [⟨0, 63, 0xC, 1, 1, false, 32, [⟨1, 60000, 1⟩], 1000, 0, .I, 2, 0⟩,
   ⟨0, 63, 0xD, 1, 1, false, 32, [⟨0, 4294967295, 1⟩], 4041331395, 0, .S, 2, 1⟩,
   ⟨0, 63, 0xE, 1, 1, false, 16, [⟨16, 65535, 1⟩], 1024, 0, .I, 2, 0⟩,
   ⟨0, 63, 0xF, 1, 1, false, 8, [⟨16, 32, 1⟩], 24, 0, .I, 2, 0⟩,
   ⟨0, 63, 0x10, 1, 1, false, 3, [⟨0, 0, 1⟩, ⟨2, 2, 1⟩, ⟨3, 3, 1⟩], 2, 0, .S, 2, 0⟩,
   ⟨0, 63, 0x11, 1, 1, false, 1, [⟨0, 1, 1⟩], 1, 0, .S, 2, 0⟩,
   ⟨64, 79, 0x20, 1, 1, false, 1, [⟨0, 1, 1⟩], 0, 0, .S, 2, 0⟩,
   ⟨64, 79, 0x21, 1, 1, false, 1, [⟨0, 1, 1⟩], 0, 0, .S, 2, 0⟩,
   ⟨64, 79, 0x22, 1, 1, false, 2, [⟨0, 2, 1⟩], 1, 0, .I, 2, 0⟩]

/-- Every LANE scalar parameter. -/
def rowsLane : List ParamRow := rowsLane0 ++ rowsLane1

/-- PORT scalar parameters (R140). -/
def rowsPort0 : List ParamRow :=
  [⟨0, 15, 0x0, 1, 1, false, 1, [⟨0, 1, 1⟩], 0, 0, .L, 2, 0⟩,
   ⟨0, 15, 0x1, 1, 1, false, 1, [⟨0, 1, 1⟩], 0, 0, .S, 2, 0⟩,
   ⟨0, 15, 0x2, 1, 1, false, 1, [⟨0, 1, 1⟩], 0, 0, .S, 2, 0⟩,
   ⟨0, 15, 0x3, 1, 1, false, 16, [⟨16, 32768, 16⟩], 16384, 0, .S, 2, 0⟩,
   ⟨0, 15, 0x4, 1, 1, false, 16, [⟨1, 32768, 1⟩], 4096, 0, .F, 2, 0⟩,
   ⟨0, 15, 0x5, 1, 1, false, 24, [⟨1, 1048576, 1⟩], 4096, 0, .F, 2, 0⟩,
   ⟨0, 15, 0x6, 1, 1, false, 8, [⟨8, 8, 1⟩, ⟨10, 10, 1⟩, ⟨12, 12, 1⟩, ⟨14, 14, 1⟩, ⟨16, 16, 1⟩], 12, 0, .S, 2, 0⟩,
   ⟨0, 15, 0x7, 1, 1, false, 2, [⟨1, 1, 1⟩, ⟨3, 3, 1⟩], 1, 0, .S, 2, 0⟩,
   ⟨0, 15, 0x8, 1, 1, false, 3, [⟨1, 7, 1⟩], 7, 0, .S, 2, 0⟩,
   ⟨0, 15, 0x9, 1, 1, false, 3, [⟨1, 4, 1⟩], 4, 0, .S, 2, 0⟩,
   ⟨0, 15, 0xA, 1, 1, false, 1, [⟨0, 1, 1⟩], 0, 0, .S, 2, 3⟩,
   ⟨0, 15, 0xB, 1, 1, false, 1, [⟨0, 1, 1⟩], 0, 0, .S, 2, 0⟩]

/-- PORT scalar parameters (R140). -/
def rowsPort1 : List ParamRow :=
  [⟨0, 15, 0xC, 1, 1, false, 2, [⟨0, 2, 1⟩], 0, 0, .S, 2, 0⟩,
   ⟨0, 15, 0xD, 1, 1, false, 5, [⟨0, 31, 1⟩], 0, 0, .S, 2, 0⟩,
   ⟨0, 15, 0xE, 1, 1, false, 16, [⟨20, 65535, 1⟩], 1000, 0, .L, 2, 0⟩,
   ⟨0, 15, 0xF, 1, 1, false, 32, [⟨100, 100000000, 1⟩], 100000, 0, .L, 2, 0⟩,
   ⟨0, 15, 0x10, 1, 1, false, 32, [⟨100, 100000000, 1⟩], 8333, 0, .L, 2, 0⟩,
   ⟨0, 15, 0x11, 1, 1, false, 16, [⟨0, 65535, 1⟩], 0, 0, .F, 2, 0⟩,
   ⟨0, 15, 0x12, 1, 1, false, 16, [⟨0, 10000, 1⟩], 1000, 0, .I, 2, 0⟩,
   ⟨0, 15, 0x13, 1, 1, false, 16, [⟨1, 10000, 1⟩], 100, 0, .I, 2, 0⟩,
   ⟨0, 15, 0x14, 1, 1, false, 1, [⟨0, 1, 1⟩], 1, 0, .S, 2, 0⟩,
   ⟨0, 15, 0x15, 1, 1, false, 16, [⟨0, 1015, 1⟩, ⟨65535, 65535, 1⟩], 65535, 0, .I, 2, 0⟩,
   ⟨0, 15, 0x16, 1, 1, false, 32, [⟨0, 200000000, 1⟩], 0, 0, .F, 2, 0⟩,
   ⟨0, 15, 0x20, 1, 1, false, 5, [⟨0, 16, 1⟩], 0, 0, .F, 2, 0⟩]

/-- Every PORT scalar parameter. -/
def rowsPort : List ParamRow := rowsPort0 ++ rowsPort1

/-- MOTN scalar parameters (R159). -/
def rowsMotn0 : List ParamRow :=
  [⟨0, 7, 0x0, 1, 1, false, 1, [⟨0, 1, 1⟩], 0, 0, .L, 2, 0⟩,
   ⟨16, 31, 0x0, 1, 1, false, 1, [⟨0, 1, 1⟩], 0, 0, .L, 2, 0⟩,
   ⟨32, 39, 0x0, 1, 1, false, 1, [⟨0, 1, 1⟩], 0, 0, .L, 2, 0⟩,
   ⟨0, 7, 0x1, 1, 1, false, 1, [⟨0, 1, 1⟩], 0, 0, .S, 2, 0⟩,
   ⟨0, 7, 0x2, 1, 1, false, 1, [⟨0, 1, 1⟩], 0, 0, .S, 2, 0⟩,
   ⟨0, 7, 0x3, 1, 1, false, 8, [⟨0, 255, 1⟩], 8, 0, .S, 2, 0⟩,
   ⟨0, 7, 0x4, 1, 1, false, 1, [⟨0, 1, 1⟩], 1, 0, .S, 2, 0⟩,
   ⟨0, 7, 0x5, 1, 1, true, 48, [⟨(-140737488355328), 140737488355327, 1⟩], 0, 0, .S, 2, 0⟩,
   ⟨0, 7, 0x6, 1, 1, false, 16, [⟨1, 10000, 1⟩], 200, 0, .I, 2, 0⟩,
   ⟨0, 7, 0x7, 1, 1, false, 32, [⟨100, 10000000, 1⟩], 10000, 0, .I, 2, 0⟩,
   ⟨0, 7, 0x8, 1, 1, false, 6, [⟨8, 48, 1⟩], 25, 0, .S, 2, 0⟩,
   ⟨0, 7, 0x9, 1, 1, false, 1, [⟨0, 1, 1⟩], 1, 0, .S, 2, 0⟩]

/-- MOTN scalar parameters (R159). -/
def rowsMotn1 : List ParamRow :=
  [⟨0, 7, 0xA, 1, 1, false, 16, [⟨25, 2500, 1⟩], 50, 0, .S, 2, 0⟩,
   ⟨0, 7, 0xB, 1, 1, false, 16, [⟨2, 1000, 1⟩], 50, 0, .S, 2, 0⟩,
   ⟨0, 7, 0xC, 1, 1, false, 8, [⟨1, 100, 1⟩], 20, 0, .S, 2, 0⟩,
   ⟨0, 7, 0xD, 1, 1, false, 32, [⟨1, 2147483648, 1⟩], 4096, 0, .S, 2, 0⟩,
   ⟨0, 7, 0x10, 1, 1, false, 3, [⟨0, 0, 1⟩, ⟨2, 2, 1⟩, ⟨3, 3, 1⟩], 2, 0, .S, 2, 0⟩,
   ⟨0, 7, 0x11, 1, 1, false, 1, [⟨0, 1, 1⟩], 1, 0, .S, 2, 0⟩,
   ⟨16, 31, 0x1, 1, 1, false, 2, [⟨0, 2, 1⟩], 0, 0, .S, 2, 0⟩,
   ⟨16, 31, 0x2, 1, 1, false, 8, [⟨0, 7, 1⟩, ⟨255, 255, 1⟩], 0, 0, .S, 2, 0⟩,
   ⟨16, 31, 0x3, 1, 1, false, 16, [⟨1, 65535, 1⟩], 1, 0, .S, 2, 0⟩,
   ⟨16, 31, 0x4, 1, 1, false, 16, [⟨1, 65535, 1⟩], 1, 0, .S, 2, 0⟩,
   ⟨16, 31, 0x5, 1, 1, false, 16, [⟨0, 65534, 1⟩], 0, 0, .S, 2, 0⟩,
   ⟨16, 31, 0x6, 1, 1, false, 1, [⟨0, 1, 1⟩], 0, 0, .S, 2, 0⟩]

/-- MOTN scalar parameters (R159). -/
def rowsMotn2 : List ParamRow :=
  [⟨16, 31, 0x7, 1, 1, false, 32, [⟨0, 1000000, 1⟩], 0, 0, .I, 2, 0⟩,
   ⟨16, 31, 0x8, 1, 1, false, 8, [⟨0, 255, 1⟩], 0, 0, .S, 2, 0⟩,
   ⟨32, 39, 0x1, 1, 1, false, 3, [⟨0, 7, 1⟩], 0, 0, .S, 2, 0⟩,
   ⟨32, 39, 0x2, 1, 1, false, 8, [⟨0, 31, 1⟩, ⟨255, 255, 1⟩], 255, 0, .S, 2, 0⟩,
   ⟨32, 39, 0x3, 1, 1, false, 1, [⟨0, 1, 1⟩], 0, 0, .S, 2, 0⟩,
   ⟨32, 39, 0x4, 1, 1, false, 16, [⟨1, 65535, 1⟩], 1000, 0, .I, 2, 0⟩,
   ⟨32, 39, 0x10, 1, 1, false, 3, [⟨0, 0, 1⟩, ⟨2, 2, 1⟩, ⟨3, 3, 1⟩], 2, 0, .S, 2, 0⟩,
   ⟨32, 39, 0x11, 1, 1, false, 1, [⟨0, 1, 1⟩], 1, 0, .S, 2, 0⟩]

/-- Every MOTN scalar parameter. -/
def rowsMotn : List ParamRow := rowsMotn0 ++ rowsMotn1 ++ rowsMotn2

/-- STRP scalar parameters (R180). -/
def rowsStrp0 : List ParamRow :=
  [⟨0, 15, 0x0, 1, 1, false, 1, [⟨0, 1, 1⟩], 0, 0, .L, 2, 0⟩,
   ⟨0, 15, 0x1, 1, 1, false, 16, [⟨0, 65535, 1⟩], 0, 0, .F, 2, 0⟩,
   ⟨0, 15, 0x2, 1, 1, false, 16, [⟨0, 65535, 1⟩], 65535, 0, .F, 2, 0⟩,
   ⟨0, 15, 0x3, 1, 1, false, 2, [⟨1, 3, 1⟩], 1, 0, .S, 2, 0⟩,
   ⟨0, 15, 0x4, 1, 1, false, 16, [⟨0, 65535, 1⟩], 65534, 0, .F, 2, 0⟩,
   ⟨0, 15, 0x5, 1, 1, false, 1, [⟨0, 1, 1⟩], 0, 0, .F, 2, 0⟩,
   ⟨0, 15, 0x6, 1, 1, false, 16, [⟨0, 65535, 1⟩], 512, 0, .F, 2, 0⟩,
   ⟨0, 15, 0x7, 1, 1, false, 16, [⟨0, 65535, 1⟩], 512, 0, .F, 2, 0⟩,
   ⟨0, 15, 0x8, 1, 1, false, 1, [⟨0, 1, 1⟩], 0, 0, .F, 2, 0⟩,
   ⟨0, 15, 0x9, 1, 1, false, 4, [⟨0, 15, 1⟩], 0, 0, .F, 2, 0⟩,
   ⟨0, 15, 0xA, 1, 1, false, 16, [⟨1, 65535, 1⟩], 2048, 0, .F, 2, 0⟩,
   ⟨0, 15, 0xB, 1, 1, false, 16, [⟨0, 16384, 1⟩], 16, 0, .F, 2, 0⟩]

/-- STRP scalar parameters (R180). -/
def rowsStrp1 : List ParamRow :=
  [⟨0, 15, 0xC, 1, 1, false, 16, [⟨0, 65535, 1⟩], 8192, 0, .F, 2, 0⟩,
   ⟨0, 15, 0xD, 1, 1, false, 16, [⟨0, 65535, 1⟩], 32768, 0, .F, 2, 0⟩,
   ⟨0, 15, 0xE, 1, 1, false, 16, [⟨0, 65535, 1⟩], 64, 0, .F, 2, 0⟩,
   ⟨0, 15, 0xF, 1, 1, false, 16, [⟨0, 65535, 1⟩], 256, 0, .F, 2, 0⟩,
   ⟨0, 15, 0x10, 1, 1, false, 16, [⟨0, 65535, 1⟩], 1024, 0, .F, 2, 0⟩,
   ⟨0, 15, 0x11, 1, 1, false, 16, [⟨0, 65535, 1⟩], 655, 0, .F, 2, 0⟩,
   ⟨0, 15, 0x12, 1, 1, false, 3, [⟨0, 6, 1⟩], 6, 0, .F, 2, 0⟩]

/-- Every STRP scalar parameter. -/
def rowsStrp : List ParamRow := rowsStrp0 ++ rowsStrp1

/-- COLR scalar parameters (R194). -/
def rowsColr0 : List ParamRow :=
  [⟨0, 15, 0x0, 1, 1, false, 1, [⟨0, 1, 1⟩], 0, 0, .L, 2, 0⟩,
   ⟨0, 15, 0x1, 1, 1, false, 2, [⟨0, 3, 1⟩], 0, 0, .S, 2, 0⟩,
   ⟨0, 15, 0x2, 1, 1, false, 2, [⟨0, 3, 1⟩], 0, 0, .S, 2, 0⟩,
   ⟨0, 15, 0x3, 1, 1, false, 8, [⟨64, 255, 1⟩], 80, 0, .F, 2, 0⟩,
   ⟨0, 15, 0x4, 1, 1, false, 1, [⟨0, 1, 1⟩], 0, 0, .F, 2, 0⟩,
   ⟨0, 15, 0x10, 1, 1, true, 15, [⟨(-16384), 16383, 1⟩], 4096, 0, .F, 2, 0⟩,
   ⟨0, 15, 0x11, 1, 1, true, 15, [⟨(-16384), 16383, 1⟩], 0, 0, .F, 2, 0⟩,
   ⟨0, 15, 0x12, 1, 1, true, 15, [⟨(-16384), 16383, 1⟩], 0, 0, .F, 2, 0⟩,
   ⟨0, 15, 0x13, 1, 1, true, 15, [⟨(-16384), 16383, 1⟩], 0, 0, .F, 2, 0⟩,
   ⟨0, 15, 0x14, 1, 1, true, 15, [⟨(-16384), 16383, 1⟩], 4096, 0, .F, 2, 0⟩,
   ⟨0, 15, 0x15, 1, 1, true, 15, [⟨(-16384), 16383, 1⟩], 0, 0, .F, 2, 0⟩,
   ⟨0, 15, 0x16, 1, 1, true, 15, [⟨(-16384), 16383, 1⟩], 0, 0, .F, 2, 0⟩]

/-- COLR scalar parameters (R194). -/
def rowsColr1 : List ParamRow :=
  [⟨0, 15, 0x17, 1, 1, true, 15, [⟨(-16384), 16383, 1⟩], 0, 0, .F, 2, 0⟩,
   ⟨0, 15, 0x18, 1, 1, true, 15, [⟨(-16384), 16383, 1⟩], 4096, 0, .F, 2, 0⟩,
   ⟨0, 15, 0x20, 1, 1, true, 16, [⟨(-32768), 32767, 1⟩], 0, 0, .F, 2, 0⟩,
   ⟨0, 15, 0x21, 1, 1, true, 16, [⟨(-32768), 32767, 1⟩], 0, 0, .F, 2, 0⟩,
   ⟨0, 15, 0x22, 1, 1, true, 16, [⟨(-32768), 32767, 1⟩], 0, 0, .F, 2, 0⟩]

/-- Every COLR scalar parameter. -/
def rowsColr : List ParamRow := rowsColr0 ++ rowsColr1

/-- STCH scalar parameters (R217). -/
def rowsStch0 : List ParamRow :=
  [⟨0, 15, 0x0, 1, 1, false, 1, [⟨0, 1, 1⟩], 0, 0, .L, 2, 0⟩,
   ⟨0, 15, 0x1, 1, 1, false, 16, [⟨0, 65535, 1⟩], 0, 0, .S, 2, 0⟩,
   ⟨0, 15, 0x2, 1, 1, false, 4, [⟨0, 15, 1⟩], 0, 0, .F, 2, 0⟩,
   ⟨0, 15, 0x3, 1, 1, false, 1, [⟨0, 1, 1⟩], 0, 0, .F, 2, 0⟩,
   ⟨0, 15, 0x4, 1, 1, false, 18, [⟨0, 262143, 1⟩], 0, 0, .F, 2, 0⟩,
   ⟨0, 15, 0x5, 1, 1, false, 18, [⟨0, 262143, 1⟩], 16383, 0, .F, 2, 0⟩,
   ⟨0, 15, 0x6, 1, 1, false, 32, [⟨536870912, 4294967295, 1⟩], 1073741824, 0, .F, 2, 0⟩,
   ⟨0, 15, 0x7, 1, 1, true, 48, [⟨(-140737488355328), 140737488355327, 1⟩], 0, 0, .F, 2, 0⟩,
   ⟨0, 15, 0x8, 1, 1, false, 16, [⟨0, 32767, 1⟩], 0, 0, .F, 2, 0⟩,
   ⟨0, 15, 0x9, 1, 1, false, 2, [⟨0, 3, 1⟩], 0, 0, .F, 2, 0⟩,
   ⟨0, 15, 0xA, 1, 1, false, 16, [⟨0, 32768, 1⟩], 0, 0, .F, 2, 0⟩,
   ⟨0, 15, 0xB, 1, 1, false, 16, [⟨0, 32768, 1⟩], 0, 0, .F, 2, 0⟩]

/-- STCH scalar parameters (R217). -/
def rowsStch1 : List ParamRow :=
  [⟨0, 15, 0xC, 1, 1, false, 16, [⟨0, 32768, 1⟩], 0, 0, .F, 2, 0⟩,
   ⟨0, 15, 0xD, 1, 1, false, 16, [⟨0, 32768, 1⟩], 0, 0, .F, 2, 0⟩,
   ⟨0, 15, 0xE, 1, 1, false, 15, [⟨0, 32767, 1⟩], 0, 0, .S, 2, 0⟩,
   ⟨0, 15, 0xF, 1, 1, false, 15, [⟨0, 32767, 1⟩], 0, 0, .S, 2, 0⟩,
   ⟨0, 15, 0x10, 1, 1, false, 1, [⟨0, 1, 1⟩], 0, 0, .S, 2, 0⟩,
   ⟨16, 16, 0x0, 1, 1, false, 1, [⟨0, 1, 1⟩], 0, 0, .L, 2, 0⟩,
   ⟨16, 16, 0x1, 1, 1, false, 1, [⟨0, 1, 1⟩], 0, 0, .S, 2, 0⟩,
   ⟨16, 16, 0x2, 1, 1, false, 19, [⟨16, 262144, 1⟩], 16384, 0, .S, 2, 0⟩,
   ⟨16, 16, 0x3, 1, 1, false, 16, [⟨1, 32768, 1⟩], 4096, 0, .S, 2, 0⟩,
   ⟨16, 16, 0x4, 1, 1, false, 2, [⟨1, 1, 1⟩, ⟨3, 3, 1⟩], 1, 0, .S, 2, 0⟩,
   ⟨16, 16, 0x5, 1, 1, false, 4, [⟨0, 15, 1⟩], 0, 0, .S, 2, 0⟩,
   ⟨16, 16, 0x6, 1, 1, false, 24, [⟨1, 1048576, 1⟩], 4096, 0, .F, 2, 0⟩]

/-- STCH scalar parameters (R217). -/
def rowsStch2 : List ParamRow :=
  [⟨16, 16, 0x7, 1, 1, false, 16, [⟨0, 65535, 1⟩], 0, 0, .F, 2, 0⟩,
   ⟨16, 16, 0x8, 1, 1, false, 9, [⟨1, 1, 1⟩, ⟨2, 2, 1⟩, ⟨4, 4, 1⟩, ⟨8, 8, 1⟩, ⟨16, 16, 1⟩, ⟨32, 32, 1⟩, ⟨64, 64, 1⟩, ⟨128, 128, 1⟩, ⟨256, 256, 1⟩], 16, 0, .F, 2, 0⟩,
   ⟨16, 16, 0x9, 1, 1, false, 9, [⟨1, 1, 1⟩, ⟨2, 2, 1⟩, ⟨4, 4, 1⟩, ⟨8, 8, 1⟩, ⟨16, 16, 1⟩, ⟨32, 32, 1⟩, ⟨64, 64, 1⟩, ⟨128, 128, 1⟩, ⟨256, 256, 1⟩], 16, 0, .F, 2, 0⟩]

/-- Every STCH scalar parameter. -/
def rowsStch : List ParamRow := rowsStch0 ++ rowsStch1 ++ rowsStch2

/-- PROF scalar parameters (R232). -/
def rowsProf0 : List ParamRow :=
  [⟨0, 15, 0x0, 1, 1, false, 1, [⟨0, 1, 1⟩], 0, 0, .L, 2, 0⟩,
   ⟨0, 15, 0x1, 1, 1, false, 5, [⟨0, 16, 1⟩], 16, 0, .S, 2, 0⟩,
   ⟨0, 15, 0x2, 1, 1, false, 2, [⟨0, 2, 1⟩], 0, 0, .S, 2, 0⟩,
   ⟨0, 15, 0x3, 1, 1, false, 18, [⟨0, 262143, 1⟩], 0, 0, .S, 2, 0⟩,
   ⟨0, 15, 0x4, 1, 1, false, 18, [⟨0, 262143, 1⟩], 16383, 0, .S, 2, 0⟩,
   ⟨0, 15, 0x5, 1, 1, false, 17, [⟨1, 65536, 1⟩], 256, 0, .F, 2, 0⟩,
   ⟨0, 15, 0x6, 1, 1, false, 11, [⟨1, 1024, 1⟩], 16, 0, .F, 2, 0⟩,
   ⟨0, 15, 0x7, 1, 1, false, 11, [⟨1, 1024, 1⟩], 16, 0, .F, 2, 0⟩,
   ⟨0, 15, 0x8, 1, 1, false, 24, [⟨0, 16777215, 1⟩], 256, 0, .F, 2, 0⟩,
   ⟨0, 15, 0x9, 1, 1, false, 17, [⟨0, 65536, 1⟩], 65536, 0, .F, 2, 0⟩,
   ⟨0, 15, 0xA, 1, 1, false, 17, [⟨0, 65536, 1⟩], 655, 0, .F, 2, 0⟩,
   ⟨0, 15, 0xB, 1, 1, false, 12, [⟨0, 4095, 1⟩], 0, 0, .S, 2, 0⟩]

/-- PROF scalar parameters (R232). -/
def rowsProf1 : List ParamRow :=
  [⟨0, 15, 0xC, 1, 1, false, 6, [⟨1, 63, 1⟩], 7, 0, .F, 2, 0⟩,
   ⟨0, 15, 0xD, 1, 1, false, 9, [⟨1, 256, 1⟩], 16, 0, .F, 2, 0⟩,
   ⟨0, 15, 0xE, 1, 1, false, 1, [⟨0, 1, 1⟩], 0, 0, .F, 2, 0⟩]

/-- Every PROF scalar parameter. -/
def rowsProf : List ParamRow := rowsProf0 ++ rowsProf1

/-- SEGM scalar parameters (R252). -/
def rowsSegm0 : List ParamRow :=
  [⟨0, 0, 0x0, 1, 1, false, 1, [⟨0, 1, 1⟩], 0, 0, .L, 2, 0⟩,
   ⟨0, 0, 0x1, 1, 1, false, 2, [⟨0, 2, 1⟩], 0, 0, .S, 2, 0⟩,
   ⟨0, 0, 0x2, 1, 1, false, 18, [⟨0, 262143, 1⟩], 0, 0, .F, 2, 0⟩,
   ⟨0, 0, 0x3, 1, 1, false, 18, [⟨0, 262143, 1⟩], 16383, 0, .F, 2, 0⟩,
   ⟨0, 0, 0x4, 1, 1, false, 4, [⟨0, 15, 1⟩], 14, 0, .L, 2, 0⟩,
   ⟨0, 0, 0x5, 1, 1, false, 16, [⟨0, 65535, 1⟩], 65535, 0, .L, 2, 0⟩,
   ⟨0, 0, 0x6, 1, 1, false, 16, [⟨0, 65535, 1⟩], 64, 0, .L, 2, 0⟩,
   ⟨0, 0, 0x7, 1, 1, false, 16, [⟨0, 65535, 1⟩], 64, 0, .L, 2, 0⟩,
   ⟨0, 0, 0x8, 1, 1, false, 12, [⟨0, 4095, 1⟩], 1024, 0, .L, 2, 0⟩,
   ⟨0, 0, 0x9, 1, 1, false, 12, [⟨0, 4095, 1⟩], 1024, 0, .L, 2, 0⟩,
   ⟨0, 0, 0xA, 1, 1, false, 1, [⟨0, 1, 1⟩], 0, 0, .F, 2, 0⟩,
   ⟨0, 0, 0xB, 1, 1, false, 16, [⟨0, 65535, 1⟩], 0, 0, .F, 2, 0⟩]

/-- SEGM scalar parameters (R252). -/
def rowsSegm1 : List ParamRow :=
  [⟨0, 0, 0xC, 1, 1, false, 1, [⟨0, 1, 1⟩], 0, 0, .S, 2, 0⟩,
   ⟨0, 0, 0xD, 1, 1, false, 4, [⟨0, 15, 1⟩], 0, 0, .S, 2, 0⟩,
   ⟨0, 0, 0xE, 1, 1, false, 3, [⟨0, 7, 1⟩], 0, 0, .S, 2, 0⟩,
   ⟨0, 0, 0xF, 1, 1, false, 17, [⟨1, 65536, 1⟩], 4096, 0, .F, 2, 0⟩,
   ⟨0, 0, 0x10, 1, 1, false, 16, [⟨1, 65535, 1⟩], 1, 0, .F, 2, 0⟩]

/-- Every SEGM scalar parameter. -/
def rowsSegm : List ParamRow := rowsSegm0 ++ rowsSegm1

/-- RECD scalar parameters (R271). -/
def rowsRecd0 : List ParamRow :=
  [⟨0, 0, 0x0, 1, 1, false, 1, [⟨0, 1, 1⟩], 0, 0, .L, 2, 0⟩,
   ⟨0, 0, 0x1, 1, 1, false, 1, [⟨0, 1, 1⟩], 1, 0, .S, 2, 0⟩,
   ⟨0, 0, 0x2, 1, 1, false, 17, [⟨1, 65536, 1⟩], 4096, 0, .S, 2, 0⟩,
   ⟨0, 0, 0x3, 1, 1, false, 32, [⟨1, 4294967295, 1⟩], 65536, 0, .F, 2, 0⟩,
   ⟨0, 0, 0x4, 1, 1, true, 48, [⟨(-140737488355328), 140737488355327, 1⟩], 0, 0, .F, 2, 0⟩,
   ⟨0, 0, 0x5, 1, 1, false, 32, [⟨1, 4294967295, 1⟩], 1048576, 0, .F, 2, 0⟩,
   ⟨0, 0, 0x6, 1, 1, true, 32, [⟨(-2147483648), 2147483647, 1⟩], 0, 0, .F, 2, 0⟩,
   ⟨0, 0, 0x7, 1, 1, false, 8, [⟨0, 255, 1⟩], 8, 0, .F, 2, 0⟩,
   ⟨0, 0, 0x8, 1, 1, false, 8, [⟨0, 255, 1⟩], 8, 0, .F, 2, 0⟩,
   ⟨0, 0, 0x9, 1, 1, false, 13, [⟨16, 4096, 1⟩], 1024, 0, .F, 2, 0⟩,
   ⟨0, 0, 0xA, 1, 1, false, 13, [⟨1, 4096, 1⟩], 1024, 0, .F, 2, 0⟩,
   ⟨0, 0, 0xB, 1, 1, false, 16, [⟨0, 16000, 1⟩], 1000, 0, .S, 2, 0⟩]

/-- RECD scalar parameters (R271). -/
def rowsRecd1 : List ParamRow :=
  [⟨0, 0, 0xC, 1, 1, false, 9, [⟨1, 256, 1⟩], 64, 0, .F, 2, 0⟩,
   ⟨0, 0, 0xD, 1, 1, false, 8, [⟨0, 255, 1⟩], 0, 0, .L, 2, 0⟩,
   ⟨0, 0, 0xE, 1, 1, false, 8, [⟨0, 255, 1⟩], 0, 0, .L, 2, 0⟩,
   ⟨0, 0, 0xF, 1, 1, false, 1, [⟨0, 1, 1⟩], 1, 0, .L, 2, 0⟩,
   ⟨0, 0, 0x10, 1, 1, false, 16, [⟨0, 1015, 1⟩, ⟨65535, 65535, 1⟩], 65535, 0, .I, 2, 0⟩,
   ⟨0, 0, 0x20, 16, 8, false, 3, [⟨0, 7, 1⟩], 0, 1, .L, 2, 0⟩,
   ⟨0, 0, 0x21, 16, 8, true, 32, [⟨(-2147483648), 2147483647, 1⟩], 0, 0, .L, 2, 0⟩,
   ⟨0, 0, 0x22, 16, 8, false, 2, [⟨0, 2, 1⟩], 1, 0, .L, 2, 0⟩,
   ⟨0, 0, 0x23, 16, 8, false, 16, [⟨0, 65535, 1⟩], 0, 0, .L, 2, 0⟩,
   ⟨0, 0, 0x24, 16, 8, false, 2, [⟨0, 3, 1⟩], 0, 0, .L, 2, 0⟩]

/-- Every RECD scalar parameter. -/
def rowsRecd : List ParamRow := rowsRecd0 ++ rowsRecd1

/-- CMPR scalar parameters (R294). -/
def rowsCmpr0 : List ParamRow :=
  [⟨0, 0, 0x0, 1, 1, false, 1, [⟨0, 1, 1⟩], 0, 0, .L, 2, 0⟩,
   ⟨0, 0, 0x1, 1, 1, false, 16, [⟨0, 65535, 1⟩], 65535, 0, .I, 2, 0⟩,
   ⟨0, 0, 0x2, 1, 1, false, 16, [⟨0, 65535, 1⟩], 32768, 0, .I, 2, 0⟩,
   ⟨0, 0, 0x3, 1, 1, false, 16, [⟨16, 8192, 1⟩], 1024, 0, .S, 2, 0⟩]

/-- Every CMPR scalar parameter. -/
def rowsCmpr : List ParamRow := rowsCmpr0

/-- NETW scalar parameters (R313). -/
def rowsNetw0 : List ParamRow :=
  [⟨0, 2, 0x0, 1, 1, false, 1, [⟨0, 1, 1⟩], 0, 0, .L, 2, 0⟩,
   ⟨0, 2, 0x1, 1, 1, false, 48, [⟨0, 281474976710655, 1⟩], 0, 0, .S, 2, 2⟩,
   ⟨0, 2, 0x2, 1, 1, false, 32, [⟨0, 4294967295, 1⟩], 0, 0, .S, 2, 0⟩,
   ⟨0, 2, 0x3, 1, 1, false, 64, [⟨0, 18446744073709551615, 1⟩], 0, 0, .S, 2, 0⟩,
   ⟨0, 2, 0x4, 1, 1, false, 64, [⟨0, 18446744073709551615, 1⟩], 0, 0, .S, 2, 0⟩,
   ⟨0, 1, 0x5, 1, 1, false, 16, [⟨1518, 9216, 1⟩], 9216, 0, .S, 2, 0⟩,
   ⟨2, 2, 0x5, 1, 1, false, 16, [⟨1518, 9216, 1⟩], 1518, 0, .S, 2, 0⟩,
   ⟨0, 2, 0x6, 1, 1, false, 2, [⟨0, 2, 1⟩], 1, 0, .I, 2, 0⟩,
   ⟨0, 1, 0x7, 1, 1, false, 16, [⟨16, 16384, 1⟩], 1024, 0, .S, 2, 0⟩,
   ⟨2, 2, 0x7, 1, 1, false, 16, [⟨16, 16384, 1⟩], 16, 0, .S, 2, 0⟩,
   ⟨0, 1, 0x8, 1, 1, false, 1, [⟨0, 1, 1⟩], 1, 0, .S, 2, 0⟩,
   ⟨0, 1, 0x9, 1, 1, false, 4, [⟨0, 15, 1⟩], 0, 0, .S, 2, 0⟩]

/-- NETW scalar parameters (R313). -/
def rowsNetw1 : List ParamRow :=
  [⟨0, 1, 0xA, 1, 1, false, 4, [⟨0, 15, 1⟩], 0, 0, .S, 2, 0⟩,
   ⟨2, 2, 0xB, 1, 1, false, 2, [⟨0, 2, 1⟩], 0, 0, .S, 2, 0⟩,
   ⟨0, 1, 0x10, 8, 8, false, 16, [⟨1, 16384, 1⟩], 128, 0, .S, 2, 0⟩,
   ⟨2, 2, 0x10, 8, 2, false, 16, [⟨1, 16384, 1⟩], 4, 0, .S, 2, 0⟩,
   ⟨0, 1, 0x11, 8, 8, false, 32, [⟨0, 100000, 1⟩], 0, 0, .I, 2, 0⟩,
   ⟨2, 2, 0x11, 8, 2, false, 32, [⟨0, 100000, 1⟩], 0, 0, .I, 2, 0⟩,
   ⟨0, 1, 0x12, 8, 8, false, 32, [⟨0, 4294967295, 1⟩], 1000000, 0, .I, 2, 0⟩,
   ⟨2, 2, 0x12, 8, 2, false, 32, [⟨0, 4294967295, 1⟩], 1000000, 0, .I, 2, 0⟩,
   ⟨0, 1, 0x13, 8, 8, false, 1, [⟨0, 1, 1⟩], 0, 0, .I, 2, 0⟩,
   ⟨2, 2, 0x13, 8, 2, false, 1, [⟨0, 1, 1⟩], 0, 0, .I, 2, 0⟩]

/-- Every NETW scalar parameter. -/
def rowsNetw : List ParamRow := rowsNetw0 ++ rowsNetw1

/-- TIME scalar parameters (R329). -/
def rowsTime0 : List ParamRow :=
  [⟨0, 0, 0x0, 1, 1, false, 1, [⟨0, 1, 1⟩], 0, 0, .L, 2, 0⟩,
   ⟨0, 0, 0x1, 1, 1, false, 1, [⟨0, 1, 1⟩], 0, 0, .S, 2, 0⟩,
   ⟨0, 0, 0x2, 1, 1, false, 8, [⟨0, 127, 1⟩], 0, 0, .S, 2, 0⟩,
   ⟨0, 0, 0x3, 1, 1, false, 1, [⟨0, 1, 1⟩], 1, 0, .S, 2, 0⟩,
   ⟨0, 0, 0x4, 1, 1, false, 1, [⟨0, 1, 1⟩], 1, 0, .S, 2, 0⟩,
   ⟨0, 0, 0x5, 1, 1, false, 64, [⟨0, 18446744073709551615, 1⟩], 0, 0, .S, 2, 0⟩,
   ⟨0, 0, 0x6, 1, 1, false, 8, [⟨0, 255, 1⟩], 128, 0, .I, 2, 0⟩,
   ⟨0, 0, 0x7, 1, 1, false, 8, [⟨0, 255, 1⟩], 128, 0, .I, 2, 0⟩,
   ⟨0, 0, 0x8, 1, 1, false, 8, [⟨0, 255, 1⟩], 248, 0, .I, 2, 0⟩,
   ⟨0, 0, 0x9, 1, 1, false, 16, [⟨1, 10000, 1⟩], 125, 0, .I, 2, 0⟩,
   ⟨0, 0, 0xA, 1, 1, false, 32, [⟨1, 500000, 1⟩], 100000, 0, .I, 2, 0⟩,
   ⟨0, 0, 0xB, 1, 1, false, 32, [⟨1, 1000000, 1⟩], 100, 0, .I, 2, 0⟩]

/-- TIME scalar parameters (R329). -/
def rowsTime1 : List ParamRow :=
  [⟨0, 0, 0xC, 1, 1, false, 8, [⟨1, 255, 1⟩], 8, 0, .I, 2, 0⟩,
   ⟨0, 0, 0xD, 1, 1, false, 32, [⟨10, 100000000, 1⟩], 1000, 0, .I, 2, 0⟩,
   ⟨0, 0, 0xE, 1, 1, false, 8, [⟨2, 255, 1⟩], 16, 0, .I, 2, 0⟩,
   ⟨0, 0, 0xF, 1, 1, true, 48, [⟨(-140737488355), 140737488355, 1⟩], 0, 0, .I, 2, 0⟩,
   ⟨0, 0, 0x10, 1, 1, false, 8, [⟨0, 255, 1⟩], 0, 0, .I, 2, 0⟩,
   ⟨1, 3, 0x1, 1, 1, false, 1, [⟨0, 1, 1⟩], 0, 0, .S, 2, 0⟩,
   ⟨1, 3, 0x2, 1, 1, false, 2, [⟨0, 2, 1⟩], 0, 0, .S, 2, 0⟩,
   ⟨1, 3, 0x3, 1, 1, true, 8, [⟨(-7), 4, 1⟩], (-3), 0, .S, 2, 0⟩,
   ⟨1, 3, 0x4, 1, 1, true, 8, [⟨(-3), 4, 1⟩], 1, 0, .S, 2, 0⟩,
   ⟨1, 3, 0x5, 1, 1, false, 8, [⟨2, 10, 1⟩], 3, 0, .S, 2, 0⟩,
   ⟨1, 3, 0x6, 1, 1, true, 8, [⟨(-7), 5, 1⟩], 0, 0, .S, 2, 0⟩,
   ⟨1, 3, 0x7, 1, 1, true, 32, [⟨(-2147483648), 2147483647, 1⟩], 0, 0, .I, 2, 0⟩]

/-- TIME scalar parameters (R329). -/
def rowsTime2 : List ParamRow :=
  [⟨1, 3, 0x8, 1, 1, true, 32, [⟨(-2147483648), 2147483647, 1⟩], 0, 0, .I, 2, 0⟩,
   ⟨1, 3, 0x9, 1, 1, true, 32, [⟨(-2147483648), 2147483647, 1⟩], 0, 0, .I, 2, 0⟩]

/-- Every TIME scalar parameter. -/
def rowsTime : List ParamRow := rowsTime0 ++ rowsTime1 ++ rowsTime2

/-- TWIN scalar parameters (R357). -/
def rowsTwin0 : List ParamRow :=
  [⟨0, 0, 0x0, 1, 1, false, 1, [⟨0, 1, 1⟩], 0, 0, .L, 2, 0⟩,
   ⟨0, 0, 0x1, 1, 1, false, 1, [⟨0, 1, 1⟩], 0, 0, .S, 2, 0⟩,
   ⟨0, 0, 0x2, 1, 1, false, 2, [⟨0, 2, 1⟩], 0, 0, .I, 2, 0⟩,
   ⟨0, 0, 0x3, 1, 1, false, 2, [⟨0, 2, 1⟩], 1, 0, .I, 2, 0⟩,
   ⟨0, 0, 0x4, 1, 1, false, 1, [⟨0, 1, 1⟩], 1, 0, .I, 2, 0⟩,
   ⟨0, 0, 0x5, 1, 1, false, 16, [⟨5, 200, 1⟩], 50, 0, .S, 2, 0⟩,
   ⟨0, 0, 0x6, 1, 1, false, 16, [⟨100, 4000, 1⟩], 2000, 0, .S, 2, 0⟩,
   ⟨0, 0, 0x7, 1, 1, false, 16, [⟨1000, 10000, 1⟩], 8000, 0, .I, 2, 0⟩,
   ⟨0, 0, 0x8, 1, 1, false, 8, [⟨0, 31, 1⟩, ⟨255, 255, 1⟩], 255, 0, .S, 2, 0⟩,
   ⟨0, 0, 0x9, 1, 1, false, 8, [⟨0, 255, 1⟩], 255, 0, .S, 2, 0⟩,
   ⟨0, 0, 0xA, 1, 1, false, 4, [⟨0, 15, 1⟩], 0, 0, .S, 2, 0⟩,
   ⟨0, 0, 0xB, 1, 1, false, 4, [⟨0, 15, 1⟩], 0, 0, .S, 2, 0⟩]

/-- TWIN scalar parameters (R357). -/
def rowsTwin1 : List ParamRow :=
  [⟨0, 0, 0xC, 1, 1, false, 16, [⟨2, 1000, 1⟩], 2, 0, .S, 2, 0⟩]

/-- Every TWIN scalar parameter. -/
def rowsTwin : List ParamRow := rowsTwin0 ++ rowsTwin1

/-- MEMC scalar parameters (R378). -/
def rowsMemc0 : List ParamRow :=
  [⟨0, 0, 0x1, 1, 1, false, 2, [⟨0, 2, 1⟩], 2, 0, .S, 2, 0⟩,
   ⟨0, 0, 0x2, 1, 1, false, 16, [⟨100, 65535, 1⟩], 2000, 0, .I, 2, 0⟩,
   ⟨0, 0, 0x3, 1, 1, false, 16, [⟨256, 65535, 1⟩], 4096, 0, .I, 2, 0⟩,
   ⟨0, 0, 0x4, 1, 1, false, 8, [⟨1, 64, 1⟩], 32, 0, .I, 2, 0⟩,
   ⟨0, 0, 0x5, 1, 1, false, 16, [⟨1, 65535, 1⟩], 64, 0, .I, 2, 0⟩,
   ⟨16, 23, 0x1, 1, 1, false, 8, [⟨25, 95, 1⟩], 75, 0, .I, 2, 0⟩]

/-- Every MEMC scalar parameter. -/
def rowsMemc : List ParamRow := rowsMemc0

/-- QDMA scalar parameters (R395). -/
def rowsQdma0 : List ParamRow :=
  [⟨0, 62, 0x1, 1, 1, false, 2, [⟨0, 3, 1⟩], 1, 0, .I, 2, 0⟩,
   ⟨63, 63, 0x1, 1, 1, false, 2, [⟨0, 3, 1⟩], 1, 0, .I, 0, 0⟩,
   ⟨0, 62, 0x10, 1, 1, false, 3, [⟨0, 0, 1⟩, ⟨2, 2, 1⟩, ⟨3, 3, 1⟩], 2, 0, .S, 2, 0⟩,
   ⟨63, 63, 0x10, 1, 1, false, 3, [⟨0, 0, 1⟩, ⟨2, 2, 1⟩, ⟨3, 3, 1⟩], 0, 0, .S, 0, 0⟩,
   ⟨0, 62, 0x11, 1, 1, false, 1, [⟨0, 1, 1⟩], 1, 0, .S, 2, 0⟩,
   ⟨63, 63, 0x11, 1, 1, false, 1, [⟨0, 1, 1⟩], 1, 0, .S, 0, 0⟩,
   ⟨64, 126, 0x100, 16, 16, false, 21, [⟨0, 0, 1⟩, ⟨8, 1048576, 8⟩], 0, 0, .S, 2, 0⟩,
   ⟨127, 127, 0x100, 16, 8, false, 21, [⟨0, 0, 1⟩, ⟨8, 1048576, 8⟩], 0, 0, .S, 2, 0⟩,
   ⟨127, 127, 0x180, 16, 8, false, 21, [⟨0, 0, 1⟩, ⟨8, 1048576, 8⟩], 1024, 0, .S, 0, 0⟩,
   ⟨64, 126, 0x101, 16, 16, false, 21, [⟨1, 1048576, 1⟩], 1, 0, .I, 2, 0⟩,
   ⟨127, 127, 0x101, 16, 8, false, 21, [⟨1, 1048576, 1⟩], 1, 0, .I, 2, 0⟩,
   ⟨127, 127, 0x181, 16, 8, false, 21, [⟨1, 1048576, 1⟩], 1, 0, .I, 0, 0⟩]

/-- QDMA scalar parameters (R395). -/
def rowsQdma1 : List ParamRow :=
  [⟨64, 126, 0x102, 16, 16, false, 20, [⟨0, 1000000, 1⟩], 0, 0, .I, 2, 0⟩,
   ⟨127, 127, 0x102, 16, 8, false, 20, [⟨0, 1000000, 1⟩], 0, 0, .I, 2, 0⟩,
   ⟨127, 127, 0x182, 16, 8, false, 20, [⟨0, 1000000, 1⟩], 0, 0, .I, 0, 0⟩,
   ⟨64, 126, 0x103, 16, 16, false, 3, [⟨0, 0, 1⟩, ⟨2, 2, 1⟩, ⟨3, 3, 1⟩], 2, 0, .S, 2, 0⟩,
   ⟨127, 127, 0x103, 16, 8, false, 3, [⟨0, 0, 1⟩, ⟨2, 2, 1⟩, ⟨3, 3, 1⟩], 2, 0, .S, 2, 0⟩,
   ⟨127, 127, 0x183, 16, 8, false, 3, [⟨0, 0, 1⟩, ⟨2, 2, 1⟩, ⟨3, 3, 1⟩], 0, 0, .S, 0, 0⟩,
   ⟨64, 126, 0x104, 16, 16, false, 1, [⟨0, 1, 1⟩], 1, 0, .S, 2, 0⟩,
   ⟨127, 127, 0x104, 16, 8, false, 1, [⟨0, 1, 1⟩], 1, 0, .S, 2, 0⟩,
   ⟨127, 127, 0x184, 16, 4, false, 1, [⟨0, 1, 1⟩], 1, 0, .S, 0, 0⟩,
   ⟨127, 127, 0x1C4, 16, 4, false, 1, [⟨0, 1, 1⟩], 0, 0, .S, 0, 0⟩]

/-- Every QDMA scalar parameter. -/
def rowsQdma : List ParamRow := rowsQdma0 ++ rowsQdma1

/-- EVNT scalar parameters (R427). -/
def rowsEvnt0 : List ParamRow :=
  [⟨0, 255, 0x1, 1, 1, false, 10, [⟨0, 639, 1⟩, ⟨1023, 1023, 1⟩], 1023, 0, .L, 255, 0⟩,
   ⟨0, 255, 0x2, 1, 1, false, 5, [⟨0, 31, 1⟩], 0, 0, .L, 255, 0⟩,
   ⟨0, 255, 0x3, 1, 1, false, 1, [⟨0, 1, 1⟩], 0, 0, .L, 255, 0⟩,
   ⟨0, 255, 0x10, 1, 1, false, 3, [⟨0, 0, 1⟩, ⟨2, 2, 1⟩, ⟨3, 3, 1⟩], 2, 0, .S, 2, 0⟩,
   ⟨0, 255, 0x11, 1, 1, false, 1, [⟨0, 1, 1⟩], 1, 0, .S, 2, 0⟩,
   ⟨0, 0, 0x100, 1, 1, false, 32, [⟨0, 4294967295, 1⟩], 4294967295, 0, .L, 2, 0⟩,
   ⟨0, 0, 0x101, 1, 1, false, 16, [⟨4, 65535, 1⟩], 1000, 0, .L, 2, 0⟩,
   ⟨0, 0, 0x102, 1, 1, false, 64, [⟨0, 18446744073709551615, 1⟩], 0, 0, .L, 2, 0⟩]

/-- Every EVNT scalar parameter. -/
def rowsEvnt : List ParamRow := rowsEvnt0

/-- TWB scalar parameters (R461). -/
def rowsTwb0 : List ParamRow :=
  [⟨0, 7, 0x0, 1, 1, false, 1, [⟨0, 1, 1⟩], 0, 0, .L, 2, 0⟩,
   ⟨8, 8, 0x0, 1, 1, false, 1, [⟨0, 1, 1⟩], 1, 0, .L, 2, 0⟩,
   ⟨0, 7, 0x1, 1, 1, false, 2, [⟨0, 2, 1⟩], 1, 0, .I, 2, 0⟩,
   ⟨0, 7, 0x2, 1, 1, false, 12, [⟨1, 4095, 1⟩], 400, 0, .I, 2, 0⟩,
   ⟨0, 7, 0x3, 1, 1, false, 12, [⟨1, 4095, 1⟩], 210, 0, .I, 2, 0⟩,
   ⟨0, 7, 0x4, 1, 1, false, 12, [⟨0, 4095, 1⟩], 75, 0, .I, 2, 0⟩,
   ⟨0, 7, 0x5, 1, 1, false, 12, [⟨1, 4095, 1⟩], 150, 0, .I, 2, 0⟩,
   ⟨0, 7, 0x6, 1, 1, false, 12, [⟨1, 4095, 1⟩], 150, 0, .I, 2, 0⟩,
   ⟨0, 7, 0x7, 1, 1, false, 12, [⟨1, 4095, 1⟩], 150, 0, .I, 2, 0⟩,
   ⟨0, 7, 0x8, 1, 1, false, 12, [⟨1, 4095, 1⟩], 325, 0, .I, 2, 0⟩,
   ⟨0, 7, 0x9, 1, 1, false, 6, [⟨0, 63, 1⟩], 13, 0, .I, 2, 0⟩,
   ⟨0, 7, 0xA, 1, 1, false, 4, [⟨0, 15, 1⟩], 3, 0, .I, 2, 0⟩]

/-- TWB scalar parameters (R461). -/
def rowsTwb1 : List ParamRow :=
  [⟨0, 7, 0xB, 1, 1, false, 16, [⟨1, 1000, 1⟩], 25, 0, .I, 2, 0⟩,
   ⟨0, 7, 0xC, 1, 1, false, 1, [⟨0, 1, 1⟩], 1, 0, .I, 2, 0⟩,
   ⟨2, 7, 0xD, 1, 1, false, 16, [⟨1, 65535, 1⟩], 100, 0, .I, 2, 0⟩,
   ⟨2, 7, 0xE, 1, 1, false, 1, [⟨0, 1, 1⟩], 1, 0, .I, 2, 0⟩,
   ⟨0, 1, 0xF, 1, 1, false, 1, [⟨0, 1, 1⟩], 1, 0, .I, 2, 0⟩,
   ⟨0, 1, 0x10, 1, 1, false, 3, [⟨0, 0, 1⟩, ⟨2, 2, 1⟩, ⟨3, 3, 1⟩], 0, 0, .S, 2, 0⟩,
   ⟨2, 7, 0x10, 1, 1, false, 3, [⟨0, 0, 1⟩, ⟨2, 2, 1⟩, ⟨3, 3, 1⟩], 2, 0, .S, 2, 0⟩,
   ⟨0, 7, 0x11, 1, 1, false, 1, [⟨0, 1, 1⟩], 1, 0, .S, 2, 0⟩,
   ⟨8, 8, 0x1, 1, 1, false, 7, [⟨8, 119, 1⟩], 92, 0, .I, 2, 0⟩,
   ⟨8, 8, 0x2, 1, 1, false, 7, [⟨3, 3, 1⟩, ⟨7, 7, 1⟩, ⟨15, 15, 1⟩], 3, 0, .I, 2, 0⟩,
   ⟨8, 8, 0x3, 1, 1, false, 3, [⟨0, 7, 1⟩], 1, 0, .I, 2, 0⟩]

/-- Every TWB scalar parameter. -/
def rowsTwb : List ParamRow := rowsTwb0 ++ rowsTwb1

/-- THRM scalar parameters (R482). -/
def rowsThrm0 : List ParamRow :=
  [⟨0, 0, 0x1, 1, 1, false, 8, [⟨60, 105, 1⟩], 100, 0, .I, 2, 0⟩,
   ⟨0, 0, 0x2, 1, 1, false, 8, [⟨1, 20, 1⟩], 3, 0, .I, 2, 0⟩,
   ⟨0, 0, 0x3, 1, 1, false, 16, [⟨1, 1000, 1⟩], 20, 0, .I, 2, 0⟩,
   ⟨0, 0, 0x4, 1, 1, false, 16, [⟨100, 60000, 1⟩], 1000, 0, .I, 2, 0⟩,
   ⟨0, 0, 0x5, 1, 1, false, 8, [⟨100, 115, 1⟩], 110, 0, .I, 2, 0⟩,
   ⟨0, 0, 0x6, 1, 1, false, 8, [⟨40, 100, 1⟩], 90, 0, .I, 2, 0⟩,
   ⟨0, 0, 0x7, 1, 1, false, 16, [⟨1, 1000, 1⟩], 20, 0, .I, 2, 0⟩,
   ⟨0, 0, 0x8, 1, 1, false, 4, [⟨2, 8, 1⟩], 2, 0, .I, 2, 0⟩,
   ⟨0, 0, 0x9, 1, 1, false, 5, [⟨4, 16, 1⟩], 4, 0, .I, 2, 0⟩,
   ⟨0, 0, 0xA, 1, 1, false, 16, [⟨100, 10000, 1⟩], 200, 0, .S, 2, 0⟩,
   ⟨0, 0, 0xB, 1, 1, false, 16, [⟨10, 10000, 1⟩], 50, 0, .I, 2, 0⟩,
   ⟨0, 23, 0x20, 1, 1, false, 16, [⟨0, 10000, 1⟩], 200, 0, .I, 2, 0⟩]

/-- Every THRM scalar parameter. -/
def rowsThrm : List ParamRow := rowsThrm0

/-- BKGD scalar parameters (R495). -/
def rowsBkgd0 : List ParamRow :=
  [⟨0, 0, 0x1, 1, 1, false, 4, [⟨0, 15, 1⟩], 15, 0, .I, 2, 0⟩,
   ⟨0, 0, 0x2, 1, 1, false, 32, [⟨3600, 604800, 1⟩], 86400, 0, .I, 2, 0⟩,
   ⟨0, 0, 0x3, 1, 1, false, 32, [⟨60, 86400, 1⟩], 3600, 0, .I, 2, 0⟩,
   ⟨0, 0, 0x4, 1, 1, false, 8, [⟨2, 40, 1⟩], 10, 0, .I, 2, 0⟩,
   ⟨0, 0, 0x5, 1, 1, false, 16, [⟨10, 10000, 1⟩], 100, 0, .I, 2, 0⟩,
   ⟨0, 0, 0x6, 1, 1, false, 8, [⟨0, 64, 1⟩], 8, 0, .I, 2, 0⟩,
   ⟨0, 0, 0x7, 1, 1, false, 16, [⟨10, 10000, 1⟩], 100, 0, .I, 2, 0⟩]

/-- Every BKGD scalar parameter. -/
def rowsBkgd : List ParamRow := rowsBkgd0

/-- CHK scalar parameters (R413, R43). -/
def rowsChk0 : List ParamRow :=
  [⟨0, 0, 0x100, 1, 1, false, 1, [⟨0, 1, 1⟩], 0, 0, .F, 2, 0⟩,
   ⟨0, 5, 0x10, 1, 1, false, 3, [⟨0, 0, 1⟩, ⟨2, 2, 1⟩, ⟨3, 3, 1⟩], 2, 0, .S, 2, 0⟩,
   ⟨6, 7, 0x10, 1, 1, false, 3, [⟨0, 0, 1⟩, ⟨2, 2, 1⟩, ⟨3, 3, 1⟩], 0, 0, .S, 2, 0⟩,
   ⟨0, 7, 0x11, 1, 1, false, 1, [⟨0, 1, 1⟩], 1, 0, .S, 2, 0⟩]

/-- Every CHK scalar parameter. -/
def rowsChk : List ParamRow := rowsChk0

/-- CORE scalar parameters (R443). -/
def rowsCore0 : List ParamRow :=
  [⟨0, 7, 0x0, 1, 1, false, 1, [⟨0, 1, 1⟩], 0, 0, .L, 2, 0⟩,
   ⟨0, 0, 0x1, 1, 1, false, 1, [⟨0, 1, 1⟩], 0, 0, .I, 2, 0⟩,
   ⟨0, 0, 0x2, 1, 1, false, 32, [⟨0, 4294967295, 1⟩], 0, 0, .I, 2, 0⟩,
   ⟨0, 0, 0x3, 1, 1, false, 1, [⟨0, 1, 1⟩], 0, 0, .I, 2, 0⟩,
   ⟨0, 0, 0x4, 1, 1, false, 32, [⟨0, 4294967295, 1⟩], 0, 0, .I, 2, 0⟩,
   ⟨0, 0, 0x5, 1, 1, false, 4, [⟨1, 8, 1⟩], 8, 0, .I, 2, 0⟩,
   ⟨0, 0, 0x6, 1, 1, false, 1, [⟨0, 1, 1⟩], 0, 0, .I, 2, 0⟩,
   ⟨0, 7, 0x10, 1, 1, false, 16, [⟨0, 65535, 1⟩], 65535, 0, .L, 2, 0⟩,
   ⟨0, 0, 0x100, 4, 16, false, 36, [⟨0, 68719476735, 65536⟩], 0, 0, .L, 2, 0⟩,
   ⟨0, 0, 0x101, 1, 1, false, 36, [⟨0, 68719476735, 65536⟩], 17179869184, 0, .L, 2, 0⟩,
   ⟨0, 0, 0x105, 4, 15, false, 36, [⟨0, 68719476735, 65536⟩], 0, 0, .L, 2, 0⟩,
   ⟨0, 0, 0x102, 4, 16, false, 3, [⟨2, 2, 1⟩, ⟨3, 3, 1⟩], 2, 0, .L, 2, 0⟩]

/-- Every CORE scalar parameter. -/
def rowsCore : List ParamRow := rowsCore0

/-- STOR scalar parameters (R495). -/
def rowsStor0 : List ParamRow :=
  [⟨0, 0, 0x1, 1, 1, false, 16, [⟨100, 10000, 1⟩], 1000, 0, .I, 2, 0⟩,
   ⟨0, 0, 0x2, 1, 1, false, 32, [⟨10000, 100000, 1⟩], 100000, 0, .I, 2, 0⟩]

/-- Every STOR scalar parameter. -/
def rowsStor : List ParamRow := rowsStor0

/-- The scalar parameters of a unit code (R4). -/
def unitRows : Nat → List ParamRow
  | 0x01 => rowsSys
  | 0x02 => rowsLane
  | 0x03 => rowsPort
  | 0x04 => rowsMotn
  | 0x05 => rowsStrp
  | 0x06 => rowsColr
  | 0x07 => rowsStch
  | 0x08 => rowsProf
  | 0x09 => rowsSegm
  | 0x0A => rowsRecd
  | 0x0B => rowsCmpr
  | 0x0C => rowsNetw
  | 0x0D => rowsTime
  | 0x0E => rowsTwin
  | 0x0F => rowsMemc
  | 0x10 => rowsQdma
  | 0x11 => rowsEvnt
  | 0x12 => rowsTwb
  | 0x13 => rowsThrm
  | 0x14 => rowsBkgd
  | 0x15 => rowsChk
  | 0x16 => rowsCore
  | 0x17 => rowsStor
  | _ => []
/-- The row that defines a scalar identifier, if one does (R69). -/
def paramRow (id : Nat) : Option ParamRow :=
  (unitRows (pidUnit id)).find? (fun r =>
    decide (r.instLo ≤ pidInst id ∧ pidInst id ≤ r.instHi ∧ r.num ≤ pidNum id ∧ pidNum id < r.num + r.step * r.count) &&
      decide ((pidNum id - r.num) % r.step = 0))

/-- The default of a scalar, 0 for an identifier that no chapter defines. -/
def paramDefault (id : Nat) : Int :=
  match paramRow id with
  | some r => r.dflt + r.dfltStep * ((pidNum id - r.num) / r.step : Nat)
  | none => 0

/-- A SYNC_WORD differs from each of its 31 non-trivial rotations (R114). -/
def syncWordOk (v : Nat) : Bool :=
  (List.range 31).all (fun k => decide (v * 2 ^ (k + 1) % 2 ^ 32 + v / 2 ^ (31 - k) ≠ v))

/-- R70: the value lies in its format and in the fixed bounds and value sets of its row; R114 and R313 state a property
of the value itself, and GANG is 1 on even ports only (R140). -/
def inRange (id : Nat) (r : ParamRow) (v : Int) : Bool :=
  r.ranges.any (fun t => decide (t.lo ≤ v ∧ v ≤ t.hi ∧ (v - t.lo) % (t.step : Int) = 0)) &&
    (match r.extra with
     | 1 => syncWordOk v.toNat
     | 2 => !bitOf v.toNat 40
     | 3 => decide (v = 0) || pidInst id % 2 == 0
     | _ => true)

/-- R70: the value that 64 bits carry in a row's format, or none where surplus bits are neither zero nor a sign. -/
def decodeValue (id : Nat) (r : ParamRow) (raw : Nat) : Option Int :=
  let v : Int := if r.signed then ofCode 64 raw else (raw : Int)
  if inRange id r v then some v else none

/-- The 64 bits that carry a value (R70). -/
def paramRaw (v : Int) : Nat := toCode 64 v

/-- A table parameter (R71): its unit, instances, number, size in bytes, apply class and owner. -/
def tabRows : List TabRow :=
  [⟨0x03, 0, 15, 0x8000, 128, .F⟩, ⟨0x05, 0, 15, 0x8000, 131072, .F⟩, ⟨0x05, 0, 15, 0x8001, 262144, .F⟩,
   ⟨0x07, 16, 16, 0x8000, 4096, .F⟩, ⟨0x0A, 0, 0, 0x8000, 26624, .L⟩, ⟨0x0C, 16, 16, 0x8000, 65536, .L⟩,
   ⟨0x11, 0, 0, 0x8000, 1536, .L⟩]

/-- PORT[i].CAMSET (R140). -/
def P.CAMSET (i : Nat) : Nat := pid 0x03 i 0x8000

/-- STRP[i].LIN (R180). -/
def P.LIN (i : Nat) : Nat := pid 0x05 i 0x8000

/-- STRP[i].CALIB (R180). -/
def P.CALIB (i : Nat) : Nat := pid 0x05 i 0x8001

/-- STCH[16].COEF (R217). -/
def P.COEF : Nat := pid 0x07 16 0x8000

/-- RECD[0].RULES (R271). -/
def P.RULES : Nat := pid 0x0A 0 0x8000

/-- NETW[16].FLOWS (R313). -/
def P.FLOWS : Nat := pid 0x0C 16 0x8000

/-- EVNT[0].CONSUMERS (R427). -/
def P.CONSUMERS : Nat := pid 0x11 0 0x8000

/-- The row that defines a table identifier, if one does. -/
def tabRow (id : Nat) : Option TabRow :=
  tabRows.find? (fun r => decide (r.unit = pidUnit id ∧ r.instLo ≤ pidInst id ∧ pidInst id ≤ r.instHi ∧ r.num = pidNum id))

/-- The byte that a table holds at an offset by default: the identity for LIN (R162), the default entry for CALIB (R164),
set 0 of COEF linear interpolation (R203), nothing selected for CONSUMERS (R427), zero elsewhere. -/
def tabDefault (id off : Nat) : Byte :=
  if pidUnit id = 0x05 ∧ pidNum id = 0x8000 then BitVec.ofNat 8 (off / 2 / 256 ^ (off % 2))
  else if pidUnit id = 0x05 ∧ pidNum id = 0x8001 then (if off % 8 = 2 then 1 else 0)
  else if pidUnit id = 0x07 then
    (let k := off / 2
     let h : Int := if k / 512 = 0 then (if k % 8 = 3 then -256 * (k / 8 % 64 : Nat) else if k % 8 = 4 then 256 * (k / 8 % 64 : Nat) else 0) else 0
     BitVec.ofNat 8 (toCode 16 h / 256 ^ (off % 2)))
  else if pidUnit id = 0x11 then 0xFF
  else 0

/-- The instances of the unit for which some row defines a scalar number (R74, the all-instance form). -/
def allInstances (unit num : Nat) : List Nat :=
  (List.range 0xFF).filter (fun i => (paramRow (pid unit i num)).isSome)

end Sys2Proof.Machine
end

