-- ==== Sys2Proof/Machine/Memory.lean ====
section
/-! DEFINITION. Machine/Memory.lean: the bytes of the physical address map (R432): DRAM from address 0 and the scratch SRAM at
0x20_0000_0000. Memory is a list of address and byte pairs in strictly rising order that lists no byte 0; an address that
is not listed reads 0x00 (DESIGN CHOICE, unsafe, log entry 2: the contents after power-on are undefined, R372). -/
namespace Sys2Proof.Machine

/-- Memory in its canonical form. -/
abbrev Memory := List Host.Cell

/-- One byte of memory. -/
def Memory.byte : Memory → Nat → Byte
  | [], _ => 0
  | (k, b) :: m, a => if k = a then b else Memory.byte m a

/-- Put a pair with a byte other than 0 at its place. -/
def Memory.insert : Memory → Nat → Byte → Memory
  | [], a, b => [(a, b)]
  | (k, c) :: m, a, b =>
    if a < k then (a, b) :: (k, c) :: m
    else if a = k then (a, b) :: m
    else (k, c) :: Memory.insert m a b

/-- Write one byte; a byte 0 is held by listing nothing. -/
def Memory.write (m : Memory) (a : Nat) (b : Byte) : Memory :=
  if b = 0 then m.filter (fun c => c.1 ≠ a) else m.insert a b

/-- The canonical form: addresses strictly rising, and no byte 0 listed. -/
def Memory.wf (m : Memory) : Bool :=
  decide ((m.map Prod.fst).Pairwise (· < ·)) && m.all (fun c => c.2 != 0)

/-- Bytes from an address on. -/
def Memory.read (m : Memory) (a n : Nat) : List Byte := (List.range n).map (fun k => m.byte (a + k))

/-- Write bytes from an address on. -/
def Memory.store (m : Memory) : Nat → List Byte → Memory
  | _, [] => m
  | a, b :: bs => Memory.store (m.write a b) (a + 1) bs

/-- DRAM usable through the map (R432). -/
def dramEnd : Nat := 0xF80000000

/-- The scratch SRAM's base and size (R432). -/
def scratchBase : Nat := 0x2000000000

/-- An address lies in the scratch SRAM. -/
def inScratch (a n : Nat) : Bool := scratchBase ≤ a && a + n ≤ scratchBase + 0x100000

end Sys2Proof.Machine
end

