-- ==== Sys2Proof/Machine/Units/Bkgd.lean ====
section
/-! DEFINITION. Machine/Units/Bkgd.lean: the state of BKGD, unit 0x14, and STOR, unit 0x17 (chapter "Burnish and Background
Work"). -/
namespace Sys2Proof.Machine

/-- A task of R483: whether a period ended while it was suspended or unfinished (it runs once on resumption), its overruns and the
time of its last completion in ns. -/
structure Task where
  owed     : Bool := false
  overruns : Nat := 0
  doneNs   : Nat := 0
  deriving DecidableEq, Repr

/-- A test or calibration (R486 to R488): its code, unit, instance and argument, the deferred command, whether it has started, when, and
whether it was forced. -/
structure TestRun where
  code    : Nat
  unit    : Nat
  inst    : Nat
  arg     : Nat
  session : Nat
  seq     : Nat
  started : Bool := false
  startNs : Nat := 0
  forced  : Bool := false
  deriving DecidableEq, Repr

/-- The whole of BKGD. `suspended` is the suspend flag, `scrub` the address of the next block, `eyeLane` the lane measured last,
`eyes` the openings per lane in the form of R485, `retrainedNs` and `retrainTemp` the elapsed time and the reading at each channel's last retraining,
`wants` the channels whose retraining Burnish has requested. `snapshots` counts the snapshots taken, `latest` is the last one, `lost` the counted LOSS
lines of each port at it, `overdue` the tasks that overran since. -/
structure Bkgd where
  suspended  : Bool := false
  tasks      : Map Task := []
  scrub      : Nat := 0
  eyeLane    : Nat := 63
  eyes       : Map Nat := []
  retrainedNs : Map Nat := []
  retrainTemp : Map Int := []
  wants      : List Nat := []
  snapshots  : Nat := 0
  latest     : List Byte := []
  lost       : Map Int := []
  overdue    : Nat := 0
  tests      : List TestRun := []
  nScrub     : Nat := 0
  nSram      : Nat := 0
  nRestored  : Nat := 0
  nEyes      : Nat := 0
  nRetrain   : Nat := 0
  nOverruns  : Nat := 0
  nTests     : Nat := 0
  deriving DecidableEq, Repr

/-- A copy of a store item (R489): generation, data, the blocks that hold it, and whether it verifies. -/
structure StoreCopy where
  gen    : Nat
  data   : List Byte
  blocks : List Nat
  good   : Bool := true
  deriving DecidableEq, Repr

/-- A store item: its copies, of which the first is the newest. -/
structure StoreItem where
  copies : List StoreCopy := []
  deriving DecidableEq, Repr

/-- Why a store operation runs: a deferred command, a persistence without a command, the completion of a PENDING item or a
move of wear levelling. -/
inductive StoreWhy where
  | command (session seq : Nat)
  | persist
  | pending
  | wear
  deriving DecidableEq, Repr

/-- A store operation that waits or runs (R490, R491). `off` and `data` are what a write covers, `whole` that it replaces the item, `need` the
blocks of a copy (0: by the length). Once begun, `full` is the new version, `gen` its generation, `second` that the second copy is being written, `erase` that the
item is being erased. `blocks` are the blocks of the copy being written, `todo` those still to do, `erased` that the first of them has been erased, `source` the
block that wear levelling empties. `last` is the log that a persistence writes (R97). -/
structure StoreOp where
  why    : StoreWhy
  item   : Nat
  off    : Nat := 0
  data   : List Byte := []
  whole  : Bool := false
  need   : Nat := 0
  begun  : Bool := false
  full   : List Byte := []
  gen    : Nat := 0
  second : Bool := false
  erase  : Bool := false
  blocks : List Nat := []
  todo   : List Nat := []
  erased : Bool := false
  source : Nat := 0
  last   : List LogEntry := []
  deriving DecidableEq, Repr

/-- The configuration store, non-volatile except for the operations. `wear` is the erase count of a block, `pool` the blocks of the user pool beyond
0 to 3,967 that came from the spares, `worn` the retired blocks. -/
structure Stor where
  items    : Map StoreItem := []
  wear     : Map Nat := []
  pool     : List Nat := []
  worn     : List Nat := []
  spares   : Nat := 128
  degraded : Bool := false
  ops      : List StoreOp := []
  nWritten : Nat := 0
  nFailed  : Nat := 0
  nRetired : Nat := 0
  nMoves   : Nat := 0
  nPending : Nat := 0
  deriving DecidableEq, Repr

end Sys2Proof.Machine
end

