-- ==== Sys2Proof/Machine/Units/Boot.lean ====
section
/-! DEFINITION. Machine/Units/Boot.lean: the state of start-up, power domains and clocks (chapter "Reset, Clocks and
Start-Up"). -/
namespace Sys2Proof.Machine

/-- Start-up. `porst` tells that PORST_N is low. `stage` is that of R503. `domains` counts the positions of R477 that are up, of
the first 22, `clusterA` and `clusterB` are PD22 and PD23. `clocks` holds a bit per synthesiser of R498 in its table's
order. `kind`, `slot`, `banks`, `version` and `readyNs` are the status block of R503, with `readyNs` none before READY.
`tries` are the slots the boot ROM still has to try, the first being loaded (R502), `advance` bit 1 of the image's FLAGS (R501), `held` that DRAM was
held by a restart of kind 1 (R507), `mapped` that a Cinch has fired since a reset that did not hold DRAM (R362), `calm` that
the boot set is not loaded (R506). `written` is what FW_COMMIT wrote to the slots of the flash, `generation` and `preferred` the descriptor in
force as last read or written (R500), `rollback` the fused counter. `resetting` is the kind of a restart that
follows the reply being sent (R507). -/
structure Boot where
  porst      : Bool := true
  stage      : Nat := 0
  domains    : Nat := 0
  clusterA   : Bool := false
  clusterB   : Bool := false
  clocks     : Nat := 0
  kind       : Nat := 0xFF
  slot       : Nat := 0
  banks      : Nat := 0
  version    : Nat := 0
  readyNs    : Option Nat := none
  tries      : List Nat := []
  advance    : Bool := false
  held       : Bool := false
  mapped     : Bool := false
  calm       : Bool := false
  resetting  : Option Nat := none
  written    : Map (List Byte) := []
  generation : Nat := 0
  preferred  : Nat := 0
  rollback   : Nat := 0
  deriving DecidableEq, Repr

end Sys2Proof.Machine
end

