-- ==== Sys2Proof/Machine/Units/Qdma.lean ====
section
/-! DEFINITION. Machine/Units/Qdma.lean: the state of QDMA, unit 0x10 (chapter "Queues and DMA"). -/
namespace Sys2Proof.Machine

/-- A word of a queue with its marks (R379). -/
structure QWord where
  val  : Nat
  endm : Bool := false
  err  : Bool := false
  deriving DecidableEq, Repr

/-- A queue: its ring, Q_FLAGS, the reserved bits of Q_PUSH_MARKS (R6), the push and pop registers (R393), whether its short tail is being drained (R383), the
channel that writes or reads it (R380), and its three counters (R394). -/
structure Queue where
  words    : List QWord := []
  flags    : Word32 := 0
  pushLo   : Nat := 0
  pushEnd  : Bool := false
  pushErr  : Bool := false
  pushRsv  : Nat := 0
  popHi    : Nat := 0
  popEnd   : Bool := false
  popErr   : Bool := false
  popValid : Bool := false
  tail     : Bool := false
  chanProd : Option Nat := none
  chanCons : Option Nat := none
  pushed   : Nat := 0
  dropped  : Nat := 0
  timeouts : Nat := 0
  deriving DecidableEq, Repr

/-- A burst that the read engine has issued (R388): its words in the shared buffer on the way to the destination, `keep` those before the padding of its last
block, the bytes that count towards REMAIN and WR_PTR, the address of its first error beat and how many there are, and the requester identities of its DRAM
sides (R363, R389). -/
structure Burst where
  words   : List QWord
  bytes   : Nat
  errAddr : Option Nat := none
  errMark : Bool := false
  nErr    : Nat := 0
  flushed : Bool := false
  keep    : Nat
  rdId    : Option Nat := none
  wrId    : Option Nat := none
  deriving DecidableEq, Repr

/-- A DMA channel: the registers of R393, `ctrlRsv` the reserved bits of DC_CTRL (R6), and its six counters (R394). `above` tells that the available words have
reached START_MARK and not fallen below STOP_MARK since (R387), `issued` the bytes of the bursts issued since the start, and `bursts` those that have not
completed, oldest first (R388). -/
structure Chan where
  src      : Nat := 0
  dst      : Nat := 0
  count    : Nat := 0
  ring     : Nat := 0
  srcKind  : Nat := 0
  dstKind  : Nat := 0
  pktAlign : Bool := false
  errStop  : Bool := false
  pktBlocks : Nat := 0
  ctrlRsv  : Nat := 0
  startMark : Nat := 0
  stopMark : Nat := 0
  state    : Nat := 0
  errCode  : Nat := 0
  errField : Nat := 0
  flushed  : Bool := false
  errMark  : Bool := false
  remain   : Nat := 0
  wrPtr    : Nat := 0
  swPtr    : Nat := 0
  errAddr  : Nat := 0
  hadErr   : Bool := false
  withdraw : Bool := false
  above    : Bool := false
  issued   : Nat := 0
  bursts   : List Burst := []
  nRead    : Nat := 0
  nWritten : Nat := 0
  nBursts  : Nat := 0
  nErr     : Nat := 0
  nFlush   : Nat := 0
  nRefused : Nat := 0
  deriving DecidableEq, Repr

/-- A transfer that SUP makes through DC63 (R392): its source, its destination and its length. -/
structure SupMove where
  src : Nat
  dst : Nat
  len : Nat
  deriving DecidableEq, Repr

/-- The whole of QDMA. `rr` is the channel served last (R388), `sup` SUP's transfers that wait for DC63 (R392). -/
structure Qdma where
  queues : Map Queue := []
  chans  : Map Chan := []
  rr     : Nat := 63
  sup    : List SupMove := []
  deriving DecidableEq, Repr

end Sys2Proof.Machine
end

