-- ==== Sys2Proof/Machine/Units/Chk.lean ====
section
/-! DEFINITION. Machine/Units/Chk.lean: the state of CHK, unit 0x15 (chapter "Check Values from End to End"). -/
namespace Sys2Proof.Machine

/-- The registers of a CRC unit that a read of CK_STATE_LO captures together (R409). -/
structure CkSaved where
  state  : Nat := 0
  result : Nat := 0
  count  : Nat := 0
  deriving DecidableEq, Repr

/-- A CRC unit (R406 to R411): preset, the reserved bits of CK_CONFIG (R6), raw state, CK_COUNT, CK_LIMIT, CK_STATUS flags, the words that DMA delivered and the unit
has not consumed, the captured registers, and its counters. -/
structure CrcUnit where
  preset  : Nat := 0
  cfgRsv  : Nat := 0
  state   : Nat := 0
  count   : Nat := 0
  limit   : Nat := 0
  reached : Bool := false
  errMark : Bool := false
  refused : Bool := false
  input   : List QWord := []
  saved   : CkSaved := {}
  job     : Option (Nat × Nat) := none
  bytes   : Nat := 0
  jobs    : Nat := 0
  nRefused : Nat := 0
  deriving DecidableEq, Repr

/-- The record of CHK_ECC (R405, R411). -/
structure EccRecord where
  valid  : Bool := false
  uncorr : Bool := false
  memory : Nat := 0
  index  : Nat := 0
  deriving DecidableEq, Repr

/-- A consumer of step 5 (R402): its failures, the time of its last log entry in ns, and the failures not yet logged. -/
structure ChkConsumer where
  fails  : Nat := 0
  logged : Option Nat := none
  open_  : Nat := 0
  deriving DecidableEq, Repr

/-- An uncorrectable word of a table's working copy (R404): the table, the word, and its bytes as read. -/
structure CopyErr where
  tab   : Nat
  word  : Nat
  bytes : List Byte
  deriving DecidableEq, Repr

/-- The whole of CHK. `copies` are the words of working copies in error. `prof`, `segm` and `former` are the consumers of step 5, `jobs` the waiting JOB_CRC commands (R410). -/
structure Chk where
  ce     : Nat := 0
  ue     : Nat := 0
  strip  : Nat := 0
  colour : Nat := 0
  stitch : Nat := 0
  prof   : ChkConsumer := {}
  segm   : ChkConsumer := {}
  former : ChkConsumer := {}
  ecc    : EccRecord := {}
  copies : List CopyErr := []
  units  : Map CrcUnit := []
  jobs   : List (Nat × Nat) := []
  deriving DecidableEq, Repr

end Sys2Proof.Machine
end

