-- ==== Sys2Proof/Machine/Units/Netw.lean ====
section
/-! DEFINITION. Machine/Units/Netw.lean: the state of NETW, unit 0x0C, and of the flows (chapter "Product Output over
Ethernet"). -/
namespace Sys2Proof.Machine

/-- A part of a unit body (R301): a stamp or the FLAGS of a PATCH unit's lines (R268), masked for the digest only (R43), or bytes. -/
inductive Chunk where
  | stamp (s : Stamp)
  | flags (fs : List Word16)
  | bytes (b : List Byte)
  deriving DecidableEq, Repr

/-- A unit that a flow is filling, or has closed and not yet formed (R300). `rows` counts its lines, rows, records,
samples or entries; `launchRef` is the reference time of R305; `early` the reason EARLY, `top` the first line of a patch. `entry` is the flow entry of 64
bytes that governs it (R298). -/
structure OpenUnit where
  entry     : List Byte
  product   : Nat
  source    : Nat
  firstId   : Nat
  epoch     : Nat
  rows      : Nat := 0
  chunks    : List Chunk := []
  loss      : Bool := false
  early     : Bool := false
  launchRef : Nat := 0
  top       : Option Nat := none
  deriving DecidableEq, Repr

/-- A formed product unit (R302): header fields, body and payload. -/
structure PUnit where
  flow      : Nat
  product   : Nat
  source    : Nat
  uflags    : Nat
  seq       : Nat
  firstId   : Nat
  epoch     : Nat
  items     : Nat
  bodyLen   : Nat
  digest    : Nat
  launch    : Nat
  body      : List Byte
  entry     : List Byte
  deriving DecidableEq, Repr

/-- A unit in a transmit queue (R303 to R306): its bytes, how many are sent, and its judgement. A coded unit takes its place as its engine begins it:
`writer` is the engine that still writes it, and its bytes are there once the engine has coded it to END. -/
structure TxUnit where
  flow    : Nat
  product : Nat
  source  : Nat
  seq     : Nat
  coded   : Bool
  launch  : Nat
  entry   : List Byte
  bytes   : List Byte
  sent    : Nat := 0
  begun   : Bool := false
  lateNs  : Option Nat := none
  writer  : Option Nat := none
  deriving DecidableEq, Repr

/-- A transmit queue: its units, the pause state of its priority, and what the shaper's credit lacks of its full depth,
with the time it was brought up to date (R304). `grams` are the frames of datagrams that wait in queue 2 or 3 of MGT. -/
structure TxQueue where
  units     : List TxUnit := []
  grams     : List (List Byte) := []
  paused    : Bool := false
  debt      : Nat := 0
  creditNs  : Nat := 0
  deriving DecidableEq, Repr

/-- A network port: link, pause of all frames, what leaves ahead of every queue (R297), queues and its fourteen counters in the order of R311. -/
structure NetPort where
  linkUp   : Bool := false
  paused   : Bool := false
  urgent   : List Urgent := []
  queues   : Map TxQueue := []
  frames   : Nat := 0
  bytes    : Nat := 0
  units    : Nat := 0
  late     : Nat := 0
  lateDrop : Nat := 0
  bufDrop  : Nat := 0
  pauseRx  : Nat := 0
  pfcRx    : Nat := 0
  rx       : Nat := 0
  badRx    : Nat := 0
  unclaimed : Nat := 0
  fecOk    : Nat := 0
  fecBad   : Nat := 0
  losses   : Nat := 0
  deriving DecidableEq, Repr

/-- A flow (R298 to R302): the entry in force (none while disabled) and its epoch, whether it still waits for a FRAME_START line, the
next sequence number, the unit being filled, the closed units not yet formed, the digests kept, the last unit disposed
and the message number of its DISPOSED entry (R343). `turn` is 1 while the old entry has ended and the new one waits for its
stream's switch line, 2 where that line came first (R298). -/
structure Flow where
  cur      : Option (List Byte) := none
  epoch    : Nat := 0
  waiting  : Bool := false
  selected : Bool := true
  nextSeq  : Nat := 0
  fill     : Option OpenUnit := none
  closed   : List OpenUnit := []
  kept     : List (Nat × Nat) := []
  disposed : Option Nat := none
  gate     : Option Nat := none
  joinFrom : Option (Nat × Nat) := none
  turn     : Nat := 0
  deriving DecidableEq, Repr

/-- NETW and its flows. `sent` records what left the ports, oldest first. -/
structure Netw where
  ports : Map NetPort := []
  flows : Map Flow := []
  sent  : List NetOut := []
  fragments : Nat := 0
  deriving DecidableEq, Repr

end Sys2Proof.Machine
end

