-- ==== Sys2Proof/Machine/Units/Cmpr.lean ====
section
/-! DEFINITION. Machine/Units/Cmpr.lean: the state of CMPR, unit 0x0B (chapter "Lossless Phrase Coding"). -/
namespace Sys2Proof.Machine

/-- An engine (R286, R288, R292): `state` 0 IDLE, 1 CODING, 2 JOB, 3 STOPPED, 4 OUT_OF_SERVICE; the unit or the job (session
and SEQ) in hand; IN_DONE, OUT_DONE and N at its last stop, from which, with the body, its parser, dictionary, hash table and trial block
follow (R282, R283); `leaving` while it is to leave service (R289). -/
structure Engine where
  state   : Nat := 0
  unit    : Option PUnit := none
  job     : Option (Nat × Nat) := none
  inDone  : Nat := 0
  outDone : Nat := 0
  nextEntry : Nat := 264
  leaving : Bool := false
  deriving DecidableEq, Repr

/-- The whole of CMPR: engines 0 to 15 compress, 16 to 19 decompress; the coding backlog (R286, R287), the waiting jobs as
session and SEQ (R290, R291), and the counters of R293. -/
structure Cmpr where
  engines : Map Engine := []
  backlog : List PUnit := []
  cjobs   : List (Nat × Nat) := []
  djobs   : List (Nat × Nat) := []
  coded   : Nat := 0
  bodyBytes : Nat := 0
  codeBytes : Nat := 0
  stored  : Nat := 0
  blocks  : Nat := 0
  resets  : Nat := 0
  refs    : Nat := 0
  dropped : Nat := 0
  jobsOk  : Nat := 0
  jobsBad : Nat := 0
  decErrors : Nat := 0
  stops   : Nat := 0
  deriving DecidableEq, Repr

end Sys2Proof.Machine
end

