-- ==== Sys2Proof/Machine/Units/CoreU.lean ====
section
/-! DEFINITION. Machine/Units/CoreU.lean: the state of CORE, unit 0x16 (chapter "Application Cores and the Supervisor"). -/
namespace Sys2Proof.Machine

/-- An application core's block of registers (R442); `ieRsv` and `swiRsv` are the reserved bits of AC_IE and AC_SWI (R6). -/
structure AppCore where
  running  : Bool := false
  world    : Bool := false
  halted   : Bool := false
  bootFail : Bool := false
  ip       : Word16 := 0
  ie       : Word16 := 0
  timecmp  : Nat := 0xFFFFFFFFFFFFFFFF
  timerInt : Bool := false
  msip     : Bool := false
  ieRsv    : Nat := 0
  swiRsv   : Nat := 0
  deriving DecidableEq, Repr

/-- REFUSE_INFO and REFUSE_ADDR (R434, R442). -/
structure Refused where
  valid     : Bool := false
  window    : Bool := false
  write     : Bool := false
  principal : Nat := 0
  source    : Nat := 0
  addr      : Nat := 0
  deriving DecidableEq, Repr

/-- The processor complex. `boot` is the step of a core loader boot in progress (0 none, 1 to
read the header, 2 to copy the body) with the header read in `hdr`, `loaded` that a loader stands loaded with its `entry` (R440). `lost` are the cache lines lost to an uncorrectable error
(R430), `staging` the bytes of the firmware staging buffer that were written (R441). `busErrors` counts
the accesses that ended with a bus error and `rdata` is what the last window read returned, both observations of the model. -/
structure Cores where
  cores    : Map AppCore := []
  refused  : Refused := {}
  mtimeCap : Nat := 0
  boot     : Nat := 0
  hdr      : List Byte := []
  loaded   : Bool := false
  entry    : Nat := 0
  lost     : List Nat := []
  l2Ce     : Nat := 0
  l2Ue     : Nat := 0
  unlocked : Bool := false
  staging  : Map Byte := []
  busErrors : Nat := 0
  rdata    : Nat := 0
  deriving DecidableEq, Repr

end Sys2Proof.Machine
end

