-- ==== Sys2Proof/Machine/Units/Evnt.lean ====
section
/-! DEFINITION. Machine/Units/Evnt.lean: the state of EVNT, unit 0x11 (chapter "Event Routing with Reins"). -/
namespace Sys2Proof.Machine

/-- An event that its source has raised and that no Rein has gated yet (R418 steps 1 and 2). `rein` names the one Rein
that a write of RN_FIRE enters (R425). -/
structure InFlight where
  src  : Nat
  arg  : Nat
  rein : Option Nat := none
  deriving DecidableEq, Repr

/-- A Rein: RN_COUNT and RN_ARG (R425) and its two counters (R426). -/
structure Rein where
  count  : Nat := 0
  arg    : Nat := 0
  passed : Nat := 0
  gated  : Nat := 0
  deriving DecidableEq, Repr

/-- A consumer input: CS_FLAGS, CS_COUNT (R425) and, for cores and the control core, its pending state (R422, R531). -/
structure Consumer where
  overrun      : Bool := false
  coincidence  : Bool := false
  overruns     : Nat := 0
  coincidences : Nat := 0
  pending      : Bool := false
  deriving DecidableEq, Repr

/-- An event held by a latch slot (R420): its kind within the slot, its argument, and the line it names, if any. -/
structure Latched where
  kind : Nat
  arg  : Nat
  line : Option Nat
  deriving DecidableEq, Repr

/-- A latch slot (R420, R421): its pending events, the stream line that its consumer began last, and its event-latch
record. `begun` is none before the first line. -/
structure LatchSlot where
  pending  : List Latched := []
  begun    : Option Nat := none
  lastLine : Nat := 0
  lastKind : Nat := 0
  late     : Bool := false
  deriving DecidableEq, Repr

/-- The whole of EVNT. `gpxLevel` is the level that the pins' synchronisers hold (R414), `gpxPulse` the pins on which a
pulse consumer's pulse stands (R415). -/
structure Evnt where
  inflight  : List InFlight := []
  reins     : Map Rein := []
  groups    : Word32 := 0xFFFFFFFF
  consumers : Map Consumer := []
  slots     : Map LatchSlot := []
  gpxLevel  : Word32 := 0
  gpxPulse  : Word32 := 0
  deriving DecidableEq, Repr

end Sys2Proof.Machine
end

