-- ==== Sys2Proof/Machine/Units/Ht.lean ====
section
/-! DEFINITION. Machine/Units/Ht.lean: the state of the two-wire target port HT (R52, R455 to R458). -/
namespace Sys2Proof.Machine

/-- The target port. `fn` is the function addressed by the transaction in progress and `reading` its direction. `quieted` are causes whose alert the host has answered (R458). `have2`
counts the pointer bytes received (0 to 2). `bell` is a doorbell byte that acts at STOP. `waiting` are replies that wait
for the one before to be read, `driven` the byte read last (an observation of the model). -/
structure Ht where
  state    : Nat := 0
  cmd      : Map Byte := []
  reply    : List Byte := []
  waiting  : List (List Byte) := []
  causes   : Word16 := 0
  quieted  : Word16 := 0
  fn       : Option Nat := none
  reading  : Bool := false
  have2    : Nat := 0
  ptrHigh  : Byte := 0
  ptrs     : Map Nat := []
  bell     : Option Byte := none
  base     : Nat := 0x5C
  mask     : Nat := 0x03
  logReq   : Nat := 0
  logIndex : Nat := 0
  logEntry : List Byte := []
  addressed : Nat := 0
  notAcked : Nat := 0
  discarded : Nat := 0
  doorbells : Nat := 0
  overruns : Nat := 0
  holds    : Nat := 0
  driven   : Byte := 0
  deriving DecidableEq, Repr

end Sys2Proof.Machine
end

