-- ==== Sys2Proof/Machine/Units/Lane.lean ====
section
/-! DEFINITION. Machine/Units/Lane.lean: the state of LANE, unit 0x02 (chapter "Receive Lanes and Uplinks"). -/
namespace Sys2Proof.Machine

/-- A lane: state of R104 (0 OFF, 1 ACQUIRE, 2 LOCKED, 3 IDLE, 4 RELOCK, 5 NOSIGNAL), the registers of R118, equaliser
values, the time and site reading at entry to IDLE (R105), the PRBS control of R110 and live counters (R111), and
adaptation retries (R102). `heldAligned` is the alignment kept through IDLE (R106). `prbsPos` counts the bits that the generator has sent since it was
seeded and `gen` holds its register (R109), `descr` the bits that the descrambler of word mode 1 received last (R124), `inject` the bits that SINGLE or BURST has still to invert, and `prbsLeft` tells that bits counted before the checker stopped have not
reached the live counters yet (R110). -/
structure Lane where
  state    : Nat := 0
  aligned  : Bool := false
  heldAligned : Bool := false
  lol      : Bool := false
  los      : Bool := false
  cdrLock  : Bool := false
  ctle     : Nat := 0
  dfe      : List Int := [0, 0, 0, 0, 0]
  flags    : Word32 := 0
  valid    : Bool := false
  seen     : Bool := false
  invSeen  : Bool := false
  slip     : Nat := 0
  hits     : Nat := 0
  errs     : Nat := 0
  bits     : Nat := 0
  snapErrs : Nat := 0
  snapBits : Nat := 0
  prbsMode : Nat := 0
  prbsPattern : Nat := 0
  injection : Nat := 0
  prbsRate : Nat := 0
  prbsSync : Bool := false
  prbsPos  : Nat := 0
  gen      : Nat := 0
  descr    : Nat := 0
  prbsLeft : Bool := false
  inject   : Nat := 0
  forced   : Bool := false
  idleNs   : Nat := 0
  idleTemp : Int := 0
  retries  : Nat := 0
  eyeDone  : Nat := 0
  deriving DecidableEq, Repr

end Sys2Proof.Machine
end

