-- ==== Sys2Proof/Machine/Units/Memc.lean ====
section
/-! DEFINITION. Machine/Units/Memc.lean: the state of MEMC, unit 0x0F (chapter "In-Package Memory and Its Controller"). -/
namespace Sys2Proof.Machine

/-- A tracked row (R368): the row, its count, and its activations by requester. -/
structure RhRow where
  row   : Nat
  count : Nat
  reqs  : Map Nat := []
  deriving DecidableEq, Repr

/-- A bank (R367, R368): owed refreshes, −8 to 8, the open row, its tracked rows, and its rolling accumulated activation count. -/
structure Bank where
  owed : Int := 0
  row  : Option Nat := none
  rows : List RhRow := []
  raa  : Nat := 0
  deriving DecidableEq, Repr

/-- A transaction in a channel queue, and when it reached the channel. -/
structure MemWait where
  txn : MemTxn
  at_ : Nat
  deriving DecidableEq, Repr

/-- A read whose data has not returned to its requester: its block, and whether the channel has served it (R364). -/
structure ReadWait where
  req  : Nat
  addr : Nat
  done : Bool := false
  deriving DecidableEq, Repr

/-- Work of priority 1 (R364): a refresh of a bank at the postponement limit, or a mandatory RFM to it. -/
inductive Urgency where
  | refresh (bank : Nat)
  | rfm (bank : Nat)
  deriving DecidableEq, Repr

/-- A channel. `queue` holds at most 256 transactions, oldest first, and `blocked` those that found it full (R363); `urgent` is the work of priority 1,
`checks` the check cache: the 64 most recently used check blocks, the most recent first, and whether each has been written (R359), `checkErrs` the check
blocks that hold an error (R375). `state` is MC_STATUS.STATE, `rate` the multiple of the refresh rate (R367), `ceLimit` and `ue` the W1C flags, `steps` the throttle
step per requester and `slots` the command slots since its last grant (R369), `hit` the requesters with a row at the threshold in this window. `train` is the step of R370
that the retraining has reached (0: none), `again` that an attempt was abandoned, `err*` the record of MC_ERR, `hour` the times of corrected errors in
the last hour, in ns of elapsed time. `scrubs` are the blocks queued for a scrub. The ten counters of R377 follow. -/
structure MemChan where
  state   : Nat := 0
  rate    : Nat := 1
  banks   : Map Bank := []
  queue   : List MemWait := []
  blocked : List MemWait := []
  urgent  : List Urgency := []
  checks  : List (Nat × Bool) := []
  checkErrs : List Nat := []
  ceLimit : Bool := false
  ue      : Bool := false
  steps   : Map Nat := []
  slots   : Map Nat := []
  hit     : List Nat := []
  train   : Nat := 0
  again   : Bool := false
  errValid : Bool := false
  errUn   : Bool := false
  errReq  : Nat := 0
  errAddr : Nat := 0
  hour    : List Nat := []
  noted   : Bool := false
  scrubs  : List Nat := []
  reads   : Nat := 0
  writes  : Nat := 0
  ces     : Nat := 0
  ues     : Nat := 0
  postponed : Nat := 0
  forced  : Nat := 0
  rfms    : Nat := 0
  throttles : Nat := 0
  trained : Nat := 0
  failed  : Nat := 0
  deriving DecidableEq, Repr

/-- A real-time port (R365, R366): the lag of each channel slice in percent of the cover, the target read-ahead in bytes of the read slices that a
retraining has raised (R370), LAG_PEAK, OVERFLOW, panic and when it began,
whether its stream is held, and its four counters. -/
structure Rtp where
  lags     : Map Nat := []
  ahead    : Map Nat := []
  peak     : Nat := 0
  overflow : Bool := false
  panic    : Option Nat := none
  held     : Bool := false
  panics   : Nat := 0
  overflows : Nat := 0
  bytes    : Nat := 0
  panicNs  : Nat := 0
  deriving DecidableEq, Repr

/-- The whole of MEMC. `zq` counts the ZQ latches (R358). `reads` are the reads under way in the order of their requests, `returned` a record of the
requester and block of each read whose data has returned, oldest first (R364). -/
structure Memc where
  zq    : Nat := 0
  reads : List ReadWait := []
  returned : List (Nat × Nat) := []
  chans : Map MemChan := []
  rtps  : Map Rtp := []
  deriving DecidableEq, Repr

end Sys2Proof.Machine
end

