-- ==== Sys2Proof/Machine/Units/Strp.lean ====
section
/-! DEFINITION. Machine/Units/Strp.lean: the state of STRP, unit 0x05, and COLR, unit 0x06 (chapters "Pixel Correction in the
Strips" and "Colour Reconstruction"). -/
namespace Sys2Proof.Machine

/-- The frame statistics of a strip (R175, R176). `hist` lists the bins that are not 0. -/
structure StripStats where
  samples : Nat := 0
  sum     : Nat := 0
  high    : Nat := 0
  low     : Nat := 0
  dyn     : Nat := 0
  outl    : Nat := 0
  ecc     : Nat := 0
  hist    : Map Nat := []
  histSat : Bool := false
  deriving DecidableEq, Repr

/-- A shading update in progress (R171, R173): the sets m_F and m_F+1, the column reference, and the parameters of F. -/
structure ShadeJob where
  mF     : List Nat
  mF1    : List Nat
  ref    : List Nat
  target : Nat
  slew   : Nat
  mMin   : Nat
  mMax   : Nat
  floor  : Nat
  frame  : Nat
  deriving DecidableEq, Repr

/-- The counters of R179, in order. -/
structure StripCounts where
  lines : Nat := 0
  lost : Nat := 0
  statics : Nat := 0
  dyn : Nat := 0
  noNbr : Nat := 0
  high : Nat := 0
  low : Nat := 0
  ce : Nat := 0
  ue : Nat := 0
  updates : Nat := 0
  freezes : Nat := 0
  held : Nat := 0
  throttled : Nat := 0
  stage : Nat := 0
  deriving DecidableEq, Repr

/-- A strip. `inq` holds the lines that its port delivered, `prev` the GLOBAL_LINE and replaced values of the line before
(R167), `frozen` the state of R174, `sawFrozen` whether any line of the frame saw it, `m0` and `m1` the sets of the
present and the next frame (empty: every multiplier 16,384), `job` the update in progress, `shadeOn` SHADE_EN of the last
line, `soft` and `bad` the calibration entries with a single-bit and an uncorrectable error, and
`cal` the working copy of CALIB (none: as the dictionary's default), `calDue` the epoch before whose first line CALIB is to be loaded (R177), `preset` the sets m_F and m_F+1 of a join with the first line of F (R352). -/
structure Strip where
  inq       : List OutLine := []
  prev      : Option (Nat × List Nat) := none
  frozen    : Bool := false
  sawFrozen : Bool := false
  shadeOn   : Bool := false
  m0        : List Nat := []
  m1        : List Nat := []
  job       : Option ShadeJob := none
  stats     : StripStats := {}
  soft      : List Nat := []
  bad       : List Nat := []
  cal       : Option (Map Byte) := none
  calDue    : Option Nat := none
  preset    : Option (Nat × List Nat × List Nat) := none
  counts    : StripCounts := {}
  deriving DecidableEq, Repr

/-- The colour unit of a strip: the rows already emitted that the window still needs, oldest first, the rows waiting, and the
counters of R193. -/
structure Colr where
  past : List Line := []
  wait : List Line := []
  lines : Nat := 0
  subst : Nat := 0
  single : Nat := 0
  hDir : Nat := 0
  vDir : Nat := 0
  msat : Nat := 0
  deriving DecidableEq, Repr

end Sys2Proof.Machine
end

