-- ==== Sys2Proof/Machine/Units/Sys.lean ====
section
/-! DEFINITION. Machine/Units/Sys.lean: the state of SYS, unit 0x01: sessions and deferred commands (chapter "Xesil Command
Packets"), staging sets, the pending Cinch, the dictionary and the change log (chapter "Staging, Cinch, Ownership and the
Change Log"). -/
namespace Sys2Proof.Machine

/-- A cached final reply: the SEQ and trailer of its command, and the reply (none where QUIET suppressed it). -/
structure Cached where
  seq     : Nat
  trailer : Nat
  reply   : Option Reply
  deriving DecidableEq, Repr

/-- A command held for a gap in SEQ (R56), with the time it was received (R93). -/
structure Held where
  instr  : Instr
  cmd    : Cmd
  timeS  : Nat := 0
  timeNs : Nat := 0
  deriving DecidableEq, Repr

/-- An open session (R55, R56, R60, R64, R67). `tokens` is the rate allowance in commands × 10^9 with the time it was
brought up to date. `detail` is the kept detail block. -/
structure Session where
  via     : Via
  role    : Nat := 0
  pktSize : Nat := 4096
  idleMs  : Nat := 0
  nextSeq : Nat := 1
  replies : List Cached := []
  held    : List Held := []
  detail  : Option (List Detail) := none
  tokens  : Nat := 0
  tokenNs : Nat := 0
  deriving DecidableEq, Repr

/-- A deferred command (R59): who sent it, the trailer that identifies it, the command, the time it was accepted, and
whether it has committed (R61). `expect` is the epoch that a mirrored command names (R53), `mirrorAt` the INDEX of the Active's log entries from which
its outcome there may be told. -/
structure Deferred where
  via       : Via
  principal : Nat
  role      : Nat
  session   : Nat
  seq       : Nat
  tag       : Nat
  opcode    : Nat
  trailer   : Nat
  flags     : Word16
  subject   : Nat
  count     : Nat
  digest    : Nat
  quiet     : Bool := false
  timeS     : Nat
  timeNs    : Nat
  committed : Bool := false
  expect    : Option Nat := none
  mirrorAt  : Nat := 0
  cmd       : Instr
  deriving DecidableEq, Repr

/-- A dictionary of applied values and table contents (R69, R71): what differs from the defaults. -/
structure Dict where
  vals : Map Int := []
  tabs : Map (Map Byte) := []
  deriving DecidableEq, Repr

/-- A staging set (R73, R74): 0 FREE, 1 OPEN, 2 CHECKING, 3 ARMED. -/
structure StageSet where
  state : Nat := 0
  owner : Nat := 0
  dict  : Dict := {}
  deriving DecidableEq, Repr

/-- The pending Cinch (R80 to R84). `phase`: 0 checking, 1 armed, 2 fired. `tStar` is T* in ns once it is known, `anchor`
the FRAME number chosen at the anchor port, `waiting` the streams still to pass their switch lines (a port, or 16 for the
stitched stream), `frameOnly` the streams whose switch line is a FRAME_START line, `result` the value of the reply (R80), `fireS`,
`fireNs` and `fireFlags` the time of the fire and the log flags that the clock sets there (R92), `from0` the axis position at acceptance
(R84), `loads` the strips whose CALIB is still to be loaded before ARMED (R178), `later` the S-class values that each stream's stop lets take effect (R78). -/
structure Cinch where
  set     : Nat
  session : Nat
  seq     : Nat
  btype   : Nat
  axis    : Nat
  mask    : Nat
  value   : Nat
  limitMs : Nat
  phase   : Nat := 0
  tStar   : Option Nat := none
  anchor  : Option Nat := none
  side    : Option Bool := none
  waiting : List Nat := []
  frameOnly : List Nat := []
  result  : Nat := 0
  fireS   : Nat := 0
  fireNs  : Nat := 0
  fireFlags : Word16 := 0
  mirrored : Bool := false
  from0   : Int := 0
  loads   : List Nat := []
  later   : Map Dict := []
  deriving DecidableEq, Repr

/-- An open REGISTER entry (R95). `mono` are the ns since the release of PORST_N at its first write. -/
structure RegWindow where
  principal : Nat
  addr      : Nat
  timeS     : Nat
  timeNs    : Nat
  count     : Nat
  value     : Nat
  mono      : Nat := 0
  deriving DecidableEq, Repr

/-- The change log (R92, R95 to R98). `entries` is the ring, oldest first, `mirror` the twin mirror ring. -/
structure LogRing where
  entries   : List LogEntry := []
  next      : Nat := 0
  windows   : List RegWindow := []
  mirror    : List LogEntry := []
  persisted : Nat := 0
  persistedEntries : List LogEntry := []
  retry     : Bool := false
  deriving DecidableEq, Repr

/-- A key slot (R51): role 0 disabled, 1 operator, 2 administrative. -/
structure KeySlot where
  role : Nat := 0
  key  : List Byte := []
  deriving DecidableEq, Repr

/-- Authentication failures of one source (R51, R64): failures counted in the present second and the second, the ns (since the release of
PORST_N) of those within the last 1 s, all counted, and whether the source is ignored. -/
structure AuthSource where
  times   : List Nat := []
  second  : Nat := 0
  fails   : Nat := 0
  total   : Nat := 0
  blocked : Bool := false
  deriving DecidableEq, Repr

/-- The whole of SYS. `applied` is the dictionary in force, `past` the dictionaries of earlier epochs, which govern the
lines that still carry those epochs (R19). `inbox` are the commands that wait for the supervisor with their transports, `turn` the transport
served last (R57), `since` the time at which a held command that now runs was received (R93). `mailSkip` are the mailbox queues whose words are discarded up to the next end mark (R49).
`oldKey` is a slot whose key the command that now runs has changed, with the key before it (R50), `recdLater` the S-class values that wait for the stop of RECD (R78). `outbox` records every reply sent, oldest first. -/
structure Sys where
  epoch     : Nat := 0
  applied   : Dict := {}
  past      : Map Dict := []
  stage     : Map StageSet := []
  cinch     : Option Cinch := none
  sessions  : Map Session := []
  deferred  : List Deferred := []
  log       : LogRing := {}
  keys      : Map KeySlot := []
  auth      : Map AuthSource := []
  outbox    : List Reply := []
  cinched   : Bool := false
  discarded : Nat := 0
  authBad   : Nat := 0
  oldSeq    : Nat := 0
  inbox     : List (Via × Instr) := []
  turn      : Nat := 6
  since     : Option (Nat × Nat) := none
  mailSkip  : List Nat := []
  oldKey    : Option (Nat × List Byte) := none
  recdLater : Option Dict := none
  deriving DecidableEq, Repr

end Sys2Proof.Machine
end

