-- ==== Sys2Proof/Machine/Units/Thrm.lean ====
section
/-! DEFINITION. Machine/Units/Thrm.lean: the state of THRM, unit 0x13 (chapter "Temperature, Power Limits and Shutdown"). -/
namespace Sys2Proof.Machine

/-- A site (R462 to R464): latest reading (s12.4), health with its runs of bad and good comparisons, the sum and count of
the present 1 ms window, the previous window's mean, and the rate of rise. -/
structure Site where
  reading : Int := 0
  faulty  : Bool := false
  bad     : Nat := 0
  good    : Nat := 0
  sum     : Int := 0
  n       : Nat := 0
  mean    : Option Rat := none
  rise    : Rat := 0
  deriving DecidableEq, Repr

/-- The cause, site and T_hot that always-on registers keep after a hard stop, and whether the supervisor has logged them (R475). -/
structure Trip where
  cause : Nat
  site  : Nat
  hot   : Int
  noted : Bool := false
  deriving DecidableEq, Repr

/-- The whole of THRM. `state` is the thermal state of R472, `cap` the cap step, `above` tells that T_hot stands at or above THROTTLE_TJ
(R465), `lastRise`, `lastRiseEv` and `lastRelease` are the times in ns of the last rise of θ, THRM_RISE and release. `measures` are the
increments of R468 applied, the most recent first (the measure, 1 to 4, and the mW it saved), `low` the strips below full duty (R469), `ungateQ` the
strips (0 to 15) and compress engines (16 + e) that wait to be ungated and `ungated` the strips that are (R479), `biased` the lane quads biased (R478). `stopStep` is the
last step of R474 done, `byCommand` that ORDERLY_STOP began it, `rearmed` that T_hot has fallen below REARM_TJ since. `nIgnored` counts the rises that
came within 1 ms of another (R465). -/
structure Thrm where
  state    : Nat := 0
  theta    : Nat := 0
  lambda   : Nat := 0
  cap      : Nat := 0
  above    : Bool := false
  sites    : Map Site := []
  lastRise : Option Nat := none
  lastRiseEv : Option Nat := none
  measures : List (Nat × Nat) := []
  lastRelease : Option Nat := none
  low      : List Nat := []
  ungateQ  : List Nat := []
  estMw    : Nat := 0
  flags    : Word32 := 0
  stopStep : Nat := 0
  byCommand : Bool := false
  rearmed  : Bool := false
  trip     : Option Trip := none
  biased   : List Nat := []
  ungated  : List Nat := []
  nRises   : Nat := 0
  nRiseEv  : Nat := 0
  nApplied : Nat := 0
  nReleased : Nat := 0
  nMsLow   : Nat := 0
  nInhibit : Nat := 0
  nOrderly : Nat := 0
  nHard    : Nat := 0
  nIgnored : Nat := 0
  deriving DecidableEq, Repr

end Sys2Proof.Machine
end

