-- ==== Sys2Proof/Machine/Units/Tk.lean ====
section
/-! DEFINITION. Machine/Units/Tk.lean: the state of TIME, unit 0x0D (chapter "Timekeeper and Precision Time"). -/
namespace Sys2Proof.Machine

/-- R327: the registers that a read of TK_SNAP_S_LO captures together. -/
structure TkSnap where
  secs   : Nat := 0
  ns     : Nat := 0
  frac   : Nat := 0
  rate   : Int := 0
  offset : Int := 0
  path   : Nat := 0
  deriving DecidableEq, Repr

/-- A master's data set at a port (R323), with the identity and port of its sender. -/
structure PortDs where
  data       : AnnounceData
  sourceId   : Nat
  sourcePort : Nat
  deriving DecidableEq, Repr

/-- A PTP port: its data set, its role, whether its announce receipt timer has run out with nothing heard since, the last eight accepted path delays in
ns (R320), the two-step Sync that waits for its Follow_Up (sequenceId, receive time and correction), the
latest difference of receive and origin time, the request that waits for its response (sequenceId, send time), the first part of a two-step peer response, the
sequenceIds it sends next, and its six counters (R328). -/
structure PtpPort where
  ds         : Option PortDs := none
  role       : Nat := 0
  quiet      : Bool := false
  paths      : List Rat := []
  sync       : Option (Nat × Rat × Rat) := none
  lastSync   : Option Rat := none
  req        : Option (Nat × Rat) := none
  pdResp     : Option (Nat × Rat × Rat × Rat) := none
  seqSync    : Nat := 0
  seqAnn     : Nat := 0
  seqReq     : Nat := 0
  received   : Nat := 0
  sent       : Nat := 0
  discarded  : Nat := 0
  unmatched  : Nat := 0
  annTimeouts : Nat := 0
  unanswered : Nat := 0
  deriving DecidableEq, Repr

/-- The clock (R314 to R328). `acc` is the sub-nanosecond accumulator in units of 2^-48 ns, `timer` the accumulator that
counts 2 ns of rate-corrected time for timer triggers (R326), in units of 2^-48 ns. `rI` is r_I (R317). `prev` is the
last accepted offset in ns with the CLK_TIME cycle of its acceptance (R321), `steps` the steps taken since reset (R318). -/
structure Tk where
  secs       : Nat := 0
  ns         : Nat := 0
  acc        : Nat := 0
  cycles     : Nat := 0
  timer      : Nat := 0
  rate       : Int := 0
  rI         : Rat := 0
  state      : Nat := 0
  flags      : Word32 := 0
  restep     : Bool := false
  steps      : Nat := 0
  runLock    : Nat := 0
  runOut     : Nat := 0
  acceptNext : Bool := false
  prev       : Option (Rat × Nat) := none
  offset     : Rat := 0
  parent     : Nat := 0
  parentId   : Option (Nat × Nat) := none
  utcOffset  : Int := 0
  snap       : TkSnap := {}
  ports      : Map PtpPort := []
  nSteps     : Nat := 0
  nAccepted  : Nat := 0
  nOutliers  : Nat := 0
  nDelayOut  : Nat := 0
  nHoldover  : Nat := 0
  nParent    : Nat := 0
  deriving DecidableEq, Repr

end Sys2Proof.Machine
end

