-- ==== Sys2Proof/Machine/Units/Twb.lean ====
section
/-! DEFINITION. Machine/Units/Twb.lean: the state of the channels TW0 to TW7 of TWB, unit 0x12 (chapter "Two-Wire Buses"). -/
namespace Sys2Proof.Machine

/-- A channel. `tx` and `rx` are the buffers, `stuck`, `result`, `bytes` and `flags` the fields of TW_STATUS and TW_FLAGS (R459), `addr`, `wlen`,
`rlen` and the reserved bits `cmdRsv` (R6) those of TW_CMD. `act` is what runs: 0 nothing, 1 a transaction, 3 a cure by the reset line, 4 a bus clear. `begun` tells that the
transaction no longer waits for the bus or for alert reads, `tries` counts its repeats after lost arbitration, `busBusy` is R445, `alertPin` that TWALERT_N is low, `episode` the
alert reads of the present episode, `alertTries` the repeats of the present one and `alertStop` that they have stopped, `fifo` the alerting addresses. -/
structure Twc where
  run      : Bool := false
  tx       : Map Byte := []
  rx       : Map Byte := []
  stuck    : Nat := 0
  result   : Nat := 0
  bytes    : Nat := 0
  flags    : Word32 := 0
  addr     : Nat := 0
  wlen     : Nat := 0
  rlen     : Nat := 0
  cmdRsv   : Nat := 0
  act      : Nat := 0
  begun    : Bool := false
  tries    : Nat := 0
  busBusy  : Bool := true
  alertPin : Bool := false
  episode  : Nat := 0
  alertTries : Nat := 0
  alertStop : Bool := false
  fifo     : List Nat := []
  nDone    : Nat := 0
  nAddr    : Nat := 0
  nData    : Nat := 0
  nLost    : Nat := 0
  nLostEnd : Nat := 0
  nHolds   : Nat := 0
  nCured   : Nat := 0
  nCureBad : Nat := 0
  nAlerts  : Nat := 0
  deriving DecidableEq, Repr

end Sys2Proof.Machine
end

