-- ==== Sys2Proof/Machine/Units/Twin.lean ====
section
/-! DEFINITION. Machine/Units/Twin.lean: the state of TWIN, unit 0x0E (chapter "Twin Operation"). -/
namespace Sys2Proof.Machine

/-- A sequenced message that the peer has not acknowledged, with the times it has been replayed (R338). -/
structure SentMsg where
  msg     : TwinMsg
  replays : Nat := 0
  deriving DecidableEq, Repr

/-- A mirrored command (R53, R54): its message and command, the Active's outcome and resulting epoch, whether the Shadow
has acknowledged it, and the replies that wait for the acknowledgement. -/
structure MirrorWait where
  mseq    : Nat
  mirrorSeq : Nat
  session : Nat
  seq     : Nat
  opcode  : Nat
  tag     : Nat
  status  : Nat
  epoch   : Nat
  acked   : Bool := false
  replies : List Reply := []
  deriving DecidableEq, Repr

/-- A join in progress (R352): whether this device joins, the step reached (1 requested, 2 configuration, 3 units started, 4 aligned), the
configuration received, the first line of frame F of each port and the stitched line n0, the channels whose capture has arrived (or been
sent), and whether that of the stitched side has. -/
structure Join where
  joiner   : Bool
  phase    : Nat := 1
  vals     : Map Int := []
  tabs     : Map (Map Byte) := []
  frames   : Map Nat := []
  line     : Option Nat := none
  caps     : List Nat := []
  lineCap  : Bool := false
  deriving DecidableEq, Repr

/-- The whole of TWIN. `sent` records the bytes of every message sent, oldest first (R337). `lineHigh` is the level of TWIN_CLAIM_N, `driving` whether this device pulls it low (R331),
`conflict` the 5 ms after a claim (R332), `mayTake` a heartbeat loss or YIELD that a takeover may follow, `isoFrom` the
state before ISOLATED (R346), `yielding` the message number of a YIELD not yet acknowledged (R350). `stamps`
are received stamps not yet adopted, `release` the line below which lines leave a port without a stamp (R341), `skipHb` the
line below which a consumer waits for no heartbeat (R342). `rxLast` is the last message accepted in order (0 none), `waiting` the
messages that wait for room in the replay buffer (R338), `peerEpoch` the EPOCH of the last heartbeat (R355), `hbAt` the time since which
heartbeats are counted as missed, `joinDue` a join or an invitation that waits for the peer's UNIT_ID (R332), `rejoin` one that waits for the end of
a Cinch (R351), and `yieldDue` a yield that waits for the units begun (R350). `joinBase` holds frame F per port (as its first line) and line n0 of
the last join (R353), `joinFlows` the SEQ of each flow's first unit of that join (R352), `own` and `theirs` units not yet compared (R344), `excluded` PATCH units of its own that are not compared (R353). -/
structure Twin where
  state     : Nat := 0
  lineHigh  : Bool := true
  driving   : Bool := false
  timerLive : Bool := false
  conflict  : Bool := false
  yielding  : Option Nat := none
  yieldDue  : Bool := false
  link      : Nat := 0
  peer      : Option Heartbeat := none
  peerEpoch : Nat := 0
  hbAt      : Option Nat := none
  unhealthyPeer : Bool := false
  mayTake   : Bool := false
  isoFrom   : Nat := 7
  txNext    : Nat := 1
  rxExpect  : Nat := 1
  rxLast    : Nat := 0
  lastNak   : Option Nat := none
  nextMirror : Nat := 1
  replay    : List SentMsg := []
  waiting   : List TwinMsg := []
  sent      : List (List Byte) := []
  mirrors   : List MirrorWait := []
  armedPeer : Option Nat := none
  stamps    : List Stamp := []
  release   : Map Nat := []
  skipHb    : Map Nat := []
  joinBase     : Option (Map Nat × Nat) := none
  joinFlows : Map Nat := []
  own       : List DigestEntry := []
  theirs    : List DigestEntry := []
  excluded  : List DigestEntry := []
  compared  : Nat := 0
  diverged  : Nat := 0
  lastId    : Nat := 0
  lastProduct : Nat := 0
  lastResult : Nat := 0
  join      : Option Join := none
  retry     : Bool := false
  joinDue   : Bool := false
  rejoin    : Bool := false
  hbMissed  : Nat := 0
  hbLosses  : Nat := 0
  takeovers : Nat := 0
  yields    : Nat := 0
  joinsOk   : Nat := 0
  joinsBad  : Nat := 0
  adopted   : Nat := 0
  adoptMiss : Nat := 0
  lateStamps : Nat := 0
  replays   : Nat := 0
  silent    : Nat := 0
  unitDrops : Nat := 0
  deriving DecidableEq, Repr

end Sys2Proof.Machine
end

