-- ==== Sys2Proof/Machine/State.lean ====
section
/-! DEFINITION. Machine/State.lean: everything the spec gives the part, as plain data, and the state after reset. -/
namespace Sys2Proof.Machine

/-- Why the block stops. No rule of the spec stops the block: every error is a reply, a flag, an event or a log entry
(R509), and each meaning answers a next state. -/
inductive Fault where
  /-- Raised by no command: it stands only so that the type has a name. Safe. -/
  | none
  deriving DecidableEq, Repr

/-- Why a command has no meaning. -/
inductive Refusal where
  /-- Raised by the arm of a command whose meaning is not written yet. Safe. -/
  | notModelled (mnemonic : String)
  deriving DecidableEq, Repr

/-- The block. `pending` is the queue of commands that wait, first in, first out. `freeCtr` is the index of the next free
value (the model's own field). `mem` is DRAM and the scratch SRAM, `badBlocks` the addresses of 64-byte blocks held as
uncorrectable code words (R374, R391). -/
structure State where
  pending : List Instr := []
  freeCtr : Nat := 0
  sys     : Sys := {}
  evnt    : Evnt := {}
  tk      : Tk := {}
  netw    : Netw := {}
  twin    : Twin := {}
  core    : Cores := {}
  qdma    : Qdma := {}
  ht      : Ht := {}
  cmpr    : Cmpr := {}
  lanes   : Map Lane := []
  thrm    : Thrm := {}
  ports   : Map Port := []
  motn    : Motn := {}
  strips  : Map Strip := []
  colrs   : Map Colr := []
  stch    : Stch := {}
  profs   : Map Prof := []
  segm    : Segm := {}
  recd    : Recd := {}
  chk     : Chk := {}
  boot    : Boot := {}
  bkgd    : Bkgd := {}
  stor    : Stor := {}
  memc    : Memc := {}
  twcs    : Map Twc := []
  mem     : Memory := []
  badBlocks : List Nat := []
  deriving DecidableEq, Repr

/-- The state after reset: every field at the value its unit's structure names. -/
def State.reset : State := {}

end Sys2Proof.Machine
end

