-- ==== Sys2Proof/Machine/Ops.lean ====
section
/-! DEFINITION. Machine/Ops.lean: the operations that many commands share: reading the dictionary, the Timekeeper latch,
raising an event, sending a Shaesh message, entering the change log and feeding the flows. -/
namespace Sys2Proof.Machine

/-- A command that completes: every meaning ends so. -/
def ok (s : State) : Host.Outcome State Fault Refusal := .next s

/-- Take the next free value: a value that the spec leaves open. -/
def fresh (s : State) : Nat × State := (Config.free s.freeCtr, { s with freeCtr := s.freeCtr + 1 })

/-! ### The dictionary -/

/-- The value of a scalar in a dictionary (R69). -/
def dictVal (d : Dict) (id : Nat) : Int := (d.vals.find? id).getD (paramDefault id)

/-- The dictionary that governs lines of an epoch (R19). -/
def dictAt (s : State) (epoch : Nat) : Dict :=
  if epoch = s.sys.epoch then s.sys.applied else (s.sys.past.find? epoch).getD s.sys.applied

/-- The dictionary that a set would leave if it were cinched (R74, R71). -/
def overlay (base top : Dict) : Dict :=
  { vals := top.vals.foldl (fun m p => Map.insert m p.1 p.2) base.vals
    tabs := top.tabs.foldl (fun m t => Map.insert m t.1 (t.2.foldl (fun b p => Map.insert b p.1 p.2) ((m.find? t.1).getD []))) base.tabs }

/-- R468: the increments of a measure that are applied. -/
def measured (s : State) (m : Nat) : Nat := (s.thrm.measures.filter (fun x => x.1 == m)).length

/-- R469: the strip issue duty in sixteenths. -/
def stripDuty (s : State) : Nat := 16 - measured s 4

/-- The applied value of a scalar. -/
def prm (s : State) (id : Nat) : Int := dictVal s.sys.applied id

/-- The applied value of an unsigned scalar. -/
def prmN (s : State) (id : Nat) : Nat := (prm s id).toNat

/-- The applied value of a flag. -/
def prmB (s : State) (id : Nat) : Bool := decide (prm s id = 1)

/-- The value of a scalar that governs lines of an epoch (R19). -/
def prmAt (s : State) (epoch id : Nat) : Int := dictVal (dictAt s epoch) id

/-- The value of an unsigned scalar that governs lines of an epoch. -/
def prmAtN (s : State) (epoch id : Nat) : Nat := (prmAt s epoch id).toNat

/-- The value of a flag that governs lines of an epoch. -/
def prmAtB (s : State) (epoch id : Nat) : Bool := decide (prmAt s epoch id = 1)

/-- A byte of a table in a dictionary (R71). -/
def tabByte (d : Dict) (id off : Nat) : Byte := (((d.tabs.find? id).getD []).find? off).getD (tabDefault id off)

/-- Bytes of a table in a dictionary. -/
def tabBytes (d : Dict) (id off n : Nat) : List Byte := (List.range n).map (fun k => tabByte d id (off + k))

/-- A field of a table in a dictionary, little-endian. -/
def tabField (d : Dict) (id off n : Nat) : Nat := ofLe (tabBytes d id off n)

/-- R404: a dictionary as the working copies are read: words in error hold what they read. -/
def asRead (s : State) (d : Dict) : Dict :=
  overlay d { vals := [], tabs := s.chk.copies.map (fun c => (c.tab, c.bytes.mapIdx (fun k b => (8 * c.word + k, b)))) }

/-- R404: bytes at an offset of a table's working copy, as they are read. -/
def entryRead (s : State) (tab off : Nat) (bs : List Byte) : List Byte :=
  bs.mapIdx (fun k b => match s.chk.copies.find? (fun c => c.tab == tab && c.word == (off + k) / 8) with
    | some c => c.bytes.getD ((off + k) % 8) b
    | none => b)

/-- R404: a table's word is in error. -/
def copyBad (s : State) (tab word : Nat) : Bool := s.chk.copies.any (fun c => c.tab == tab && c.word == word)

/-- R18: the epoch after another. -/
def nextEpoch (e : Nat) : Nat := if e + 1 = 2 ^ 32 then 1 else e + 1

/-! ### Time -/

/-- Bytes that the spec leaves open: free values. -/
def gapBytes (n : Nat) (s : State) : List Byte × State :=
  ((List.range n).map (fun k => BitVec.ofNat 8 (Config.free (s.freeCtr + k))), { s with freeCtr := s.freeCtr + n })

/-- R315: a latch of the Timekeeper, in nanoseconds since the PTP epoch. -/
def nowNs (s : State) : Nat := s.tk.secs * 1000000000 + s.tk.ns

/-- The ns since CLK_TIME began to run: the elapsed time that limits measure. No step of the Timekeeper changes it (R318). -/
def monoNs (s : State) : Nat := s.tk.cycles * 2

/-- MTIME (R442): it counts at 156.25 MHz from the release of PORST_N; CLK_TIME runs at 500 MHz. -/
def mtime (s : State) : Nat := s.tk.cycles * 5 / 16

/-- R92: the flags of a log entry that the clock state sets (R316). -/
def logClockFlags (s : State) : Word16 :=
  setFlagIf (s.tk.state == 0) (setFlagIf (s.tk.state == 3 || s.tk.state == 4) 0 1) 0

/-- R13: the flags of a stamp that the clock state sets: HOLDOVER and TIME_FREE (R316). -/
def stampClockFlags (s : State) : Word16 :=
  setFlagIf (s.tk.state == 0) (setFlagIf (s.tk.state == 3 || s.tk.state == 4) 0 10) 11

/-! ### Events -/

/-- R414: a source raises an event with its argument. -/
def raise (src arg : Nat) (s : State) : State :=
  { s with evnt.inflight := s.evnt.inflight ++ [⟨src, arg, none⟩] }

/-- A source raises an event where a condition holds. -/
def raiseIf (c : Bool) (src arg : Nat) (s : State) : State := if c then raise src arg s else s

/-- R414: a source whose argument the spec does not state raises an event: the argument is a free value. -/
def raiseOpen (src : Nat) (s : State) : State :=
  let (v, s) := fresh s
  raise src (v % 2 ^ 64) s

/-- The 64-bit argument that carries a signed value. -/
def argOf (x : Int) : Nat := toCode 64 x

/-- R458: a cause of HALERT_N arises: 0 reply ready, 1 thermal state change, 2 twin role change. -/
def htCause (k : Nat) (s : State) : State :=
  { s with ht.causes := setFlag s.ht.causes k, ht.quieted := w1c s.ht.quieted (setFlag 0 k) }

/-- R458: HALERT_N is low: a cause that HT_ALERT enables is pending and its alert has not been answered. -/
def halertLow (s : State) : Bool :=
  (s.ht.causes &&& ~~~s.ht.quieted &&& BitVec.ofNat 16 (prmN s P.TWB_HT_ALERT)) != 0

/-! ### Twin -/

/-- R330, R331: the device acts as Active: it is SOLO or drives TWIN_CLAIM_N low. -/
def holdsClaim (s : State) : Bool := s.twin.state == 0 || s.twin.driving

/-- A twin is attached: the device is Active with a Shadow in step (R330, PAIRED). -/
def paired (s : State) : Bool := s.twin.state == 3

/-- R332: two devices of the same UNIT_ID never pair. -/
def sameUnitId (s : State) : Bool :=
  match s.twin.peer with | some h => h.unitId == prmN s P.TWIN_UNIT_ID | none => false

/-- R341 to R343: the device holds the claim and a peer without the claim follows it, in step or joining. -/
def attached (s : State) : Bool :=
  holdsClaim s && s.twin.link == 2 && !sameUnitId s &&
    (match s.twin.peer with | some h => h.state == 4 || h.state == 5 || h.state == 6 | none => s.twin.state == 3)

/-- The device runs as a Shadow: it takes part in a pair without the claim (R330). -/
def isShadow (s : State) : Bool := s.twin.state == 5 || s.twin.state == 6 || s.twin.state == 4 || s.twin.state == 7

/-- R338: message numbers count from 1 and skip 0. -/
def nextMseq (n : Nat) : Nat := if n + 1 = 2 ^ 32 then 1 else n + 1

/-- R337: the bytes of a message: header, padded payload and trailer. -/
def twinBytes (m : TwinMsg) : List Byte :=
  let b := leBytes 1 m.typ ++ leBytes 1 0 ++ leBytes 2 m.payload.length ++ leBytes 4 m.mseq ++ leBytes 4 m.ack ++ leBytes 4 0 ++ padTo 8 m.payload
  b ++ leBytes 4 (crc32c b) ++ leBytes 4 0

/-- R338: send an unsequenced message; its ACK field names the highest message accepted in order. -/
def sendUnseq (typ : Nat) (payload : List Byte) (s : State) : State :=
  { s with twin.sent := s.twin.sent ++ [twinBytes ⟨typ, 0, s.twin.rxLast, payload⟩] }

/-- R337: the length of a message. -/
def msgSize (m : TwinMsg) : Nat := 24 + roundUp 8 m.payload.length

/-- R338: the replay buffer of 1 MiB has room for a message. -/
def replayRoom (s : State) (m : TwinMsg) : Bool := decide ((s.twin.replay.map (fun r => msgSize r.msg)).sum + msgSize m ≤ 2 ^ 20)

/-- R338: a sequenced message leaves, and stays in the replay buffer until it is acknowledged. -/
def transmit (m : TwinMsg) (s : State) : State :=
  let m := { m with ack := s.twin.rxLast }
  { s with twin.sent := s.twin.sent ++ [twinBytes m], twin.replay := s.twin.replay ++ [⟨m, 0⟩] }

/-- R338: send a sequenced message while the link is UP. While the replay buffer is full it waits behind those that wait. -/
def sendSeq (typ : Nat) (payload : List Byte) (s : State) : State :=
  if s.twin.link = 2 then
    let m : TwinMsg := ⟨typ, s.twin.txNext, 0, payload⟩
    let s := { s with twin.txNext := nextMseq s.twin.txNext }
    if s.twin.waiting.isEmpty && replayRoom s m then transmit m s else { s with twin.waiting := s.twin.waiting ++ [m] }
  else s

/-- R338: the messages that wait leave as the replay buffer has room. -/
def sendWaiting : List TwinMsg → State → State
  | [], s => { s with twin.waiting := [] }
  | m :: ms, s => if replayRoom s m then sendWaiting ms (transmit m s) else { s with twin.waiting := m :: ms }

/-- R332, R352 step 1: the device begins to join: it enters JOINING, stops its data path and sends JOIN_REQ. It does so once a heartbeat has shown it
the peer's UNIT_ID. -/
def startJoin (s : State) : State :=
  if sameUnitId s || s.twin.link != 2 then s
  else if s.twin.peer.isNone then { s with twin.joinDue := true }
  else sendSeq 0x40 [] { s with
    twin.state := 4, twin.join := some { joiner := true }, twin.own := [], twin.theirs := [], twin.stamps := [], twin.joinBase := none, twin.joinFlows := [], twin.release := []
    twin.skipHb := [], twin.retry := false, twin.rejoin := false }

/-! ### Memory -/

/-- R374, R375: bytes are written to memory. A 64-byte block that is replaced whole gets valid check bits, and its error ends; one that is written in part
stays in error. -/
def storeMem (addr : Nat) (bytes : List Byte) (s : State) : State :=
  { s with mem := s.mem.store addr bytes, badBlocks := s.badBlocks.filter (fun b => !(decide (addr ≤ b) && decide (b + 64 ≤ addr + bytes.length))) }

/-! ### Line stamps -/

/-- R9: the 48 bytes of a stamp. -/
def stampBytes (t : Stamp) : List Byte :=
  leBytes 1 t.port ++ leBytes 1 0 ++ leBytes 2 t.flags.toNat ++ leBytes 3 t.lineInFrame ++ leBytes 1 0 ++
  leBytes 4 t.frame ++ leBytes 4 t.epoch ++ leBytes 6 t.globalLine ++ leBytes 2 0 ++ leBytes 6 t.timeS ++
  leBytes 4 t.timeNs ++ leBytes 6 (toCode 48 t.position) ++ leBytes 4 t.lineCheck ++ leBytes 4 0

/-- R43: the FLAGS of a stamp as they enter a digest in a scope. -/
def maskFlags (scope : Nat) (f : Word16) : Word16 := f &&& ~~~(if scope = 1 then 0x0F80#16 else 0x0180#16)

/-- R43: the stamp as it enters a digest in a scope. -/
def maskStamp (scope : Nat) (t : Stamp) : Stamp :=
  if scope = 1 then { t with flags := maskFlags 1 t.flags, timeS := 0, timeNs := 0 } else { t with flags := maskFlags 0 t.flags }

/-- TIME of a stamp in nanoseconds. -/
def stampNs (t : Stamp) : Nat := t.timeS * 1000000000 + t.timeNs

/-- R12: the samples of a line as 16-bit little-endian values. -/
def pxBytes (px : List Nat) : List Byte := px.flatMap (leBytes 2)

/-- R12: the LINE_CHECK of a line of samples. -/
def lineCheck (px : List Nat) : Nat := crc32c (pxBytes px)

/-- R13: the bits that mark replaced data, LOSS and FILL. -/
def stampLost (t : Stamp) : Bool := hasFlag t.flags 0 || hasFlag t.flags 1

/-! ### Flows (R298 to R300) -/

/-- ENABLE of a flow entry. -/
def feEnable (e : List Byte) : Bool := leAt e 0 1 == 1

/-- The 64 bytes of a flow's entry in a dictionary. -/
def flowEntry (d : Dict) (f : Nat) : List Byte := tabBytes d P.FLOWS (64 * f) 64

/-- The flows whose entry a dictionary enables, read from what differs from the default table. -/
def enabledFlows (d : Dict) : List Nat :=
  ((d.tabs.find? P.FLOWS).getD []).filterMap (fun p => if p.1 % 64 = 0 ∧ p.2 = 1 then some (p.1 / 64) else none)

/-- The state of a flow. -/
def flow (s : State) (f : Nat) : Flow := s.netw.flows.get {} f

/-- Replace the state of a flow. -/
def setFlow (f : Nat) (x : Flow) (s : State) : State := { s with netw.flows := s.netw.flows.set {} f x }

/-- An item of a product (R300, R301): a line, row, record, patch, sample, statistics block, log entry or snapshot.
`chunks` is its part of the body and `masked` its part where OPTIONS selects coverage masks. `last` tells that the
product's own rule closes the unit at this item, `cap` that it closes at so many items (0: none), `top` is the first line of a patch. -/
structure Item where
  product     : Nat
  source      : Nat
  epoch       : Nat
  firstId     : Nat
  chunks      : List Chunk
  masked      : List Chunk := []
  frame       : Nat := 0
  lineInFrame : Nat := 0
  frameStart  : Bool := true
  last        : Bool := false
  cap         : Nat := 0
  loss        : Bool := false
  refNs       : Nat := 0
  top         : Option Nat := none

/-- Products 0x01 to 0x04 and 0x09 are formed from lines (R22). -/
def lineDerived (product : Nat) : Bool := product == 1 || product == 2 || product == 3 || product == 4 || product == 9

/-- The unit of these products holds items of one epoch (R22, R229, R267). -/
def oneEpoch (product : Nat) : Bool := lineDerived product || product == 5 || product == 7

/-- A flow entry selects a product and source. -/
def feMatches (e : List Byte) (product source : Nat) : Bool := leAt e 1 1 == product && leAt e 2 1 == source

/-- R300: close the unit that a flow fills. A unit that SPLIT does not select is not formed (R299). -/
def closeFill (early : Bool) (x : Flow) : Flow :=
  match x.fill with
  | some u => { x with fill := none, closed := if x.selected then x.closed ++ [{ u with early := early }] else x.closed }
  | none => x

/-- R298, R300: the switch line of a product and source passes a flow, whose entry in the new epoch is `ent`. Where the entry
changes its product or source, the old one ends here or the new one begins here, and `turn` keeps which came first. -/
def switchFlow (ent : List Byte) (epoch product source : Nat) (x : Flow) : Flow :=
  let here := feEnable ent && feMatches ent product source
  match x.cur with
  | some old =>
    if old = ent then { x with epoch := epoch }
    else if feMatches old product source then
      let y := { closeFill true x with epoch := epoch, turn := 0 }
      if here then { y with cur := some ent }
      else if !feEnable ent then { y with cur := none }
      else if x.turn = 2 then { y with cur := some ent, waiting := lineDerived (leAt ent 1 1) }
      else { y with cur := none, epoch := x.epoch, turn := 1 }
    else if here then { x with turn := 2 }
    else x
  | none =>
    if here then
      { x with cur := some ent, epoch := epoch, nextSeq := if x.turn = 1 then x.nextSeq else 0, waiting := lineDerived product, fill := none, turn := 0 }
    else x

/-- R299: whether SPLIT_MOD and SPLIT_RES select the unit that begins with an item. -/
def splitSelects (ent : List Byte) (i : Item) : Bool :=
  let n := leAt ent 8 4
  let g := if n = 0 then 0 else i.lineInFrame / n
  !(lineDerived i.product) || (g + i.frame) % leAt ent 12 1 == leAt ent 13 1

/-- R300: the unit closes at its item count, for the products whose cutting has one. -/
def countCloses (ent : List Byte) (product rows : Nat) : Bool :=
  let n := leAt ent 8 4
  (product == 1 || product == 2 || product == 3 || product == 9 || product == 10) && n != 0 && rows ≥ n

/-- R299, R300: an item enters a flow whose entry selects it. -/
def takeItem (ent : List Byte) (i : Item) (x : Flow) : Flow :=
  let x := match x.fill with
    | some u => if oneEpoch i.product && u.epoch != i.epoch then closeFill true x else x
    | none => x
  if x.waiting && !i.frameStart then x
  else
    let x := { x with waiting := false }
    let chunks := if bitOf (leAt ent 7 1) 2 && !i.masked.isEmpty then i.masked else i.chunks
    let x := match x.fill with
      | some u => { x with fill := some { u with rows := u.rows + 1, chunks := u.chunks ++ chunks, loss := u.loss || i.loss, launchRef := i.refNs } }
      | none => { x with
          fill := some { entry := ent, product := i.product, source := i.source, firstId := i.firstId, epoch := i.epoch, rows := 1,
                         chunks := chunks, loss := i.loss, launchRef := i.refNs, top := i.top }
          selected := splitSelects ent i }
    let rows := match x.fill with | some u => u.rows | none => 0
    if i.last || (i.cap != 0 && decide (i.cap ≤ rows)) || countCloses ent i.product rows then closeFill false x else x

/-- An item reaches one flow, whose entry is used as its working copy reads (R404). -/
def feedFlow (i : Item) (f : Nat) (s : State) : State :=
  let x := flow s f
  match x.cur.map (entryRead s P.FLOWS (64 * f)) with
  | some ent =>
    if !(feMatches ent i.product i.source) then s
    else match x.joinFrom with
      | some (q, k) => if i.firstId < k then s else setFlow f (takeItem ent i { x with joinFrom := none, nextSeq := q, waiting := false }) s
      | none => setFlow f (takeItem ent i x) s
  | none => s

/-- The flows that have had an entry in force. -/
def flowsOf (s : State) : List Nat := s.netw.flows.map Prod.fst

/-- R298: the first line or item of an epoch of a product's stream passes: the flows take their entries of that epoch. -/
def switchFlows (product source epoch : Nat) (s : State) : State :=
  let d := dictAt s epoch
  forEach ((enabledFlows d ++ flowsOf s).dedup) (fun f s =>
    let x := flow s f
    if x.epoch = epoch then s else setFlow f (switchFlow (flowEntry d f) epoch product source x) s) s

/-- R299: an item of a product reaches every flow that selects its product and source. -/
def feed (i : Item) (s : State) : State := forEach (flowsOf s) (feedFlow i) s

/-- R300: the flows of a product and source close their open units. -/
def closeUnits (early : Bool) (product source : Nat) (s : State) : State :=
  forEach (flowsOf s) (fun f s =>
    match (flow s f).cur with
    | some ent => if feMatches ent product source then setFlow f (closeFill early (flow s f)) s else s
    | none => s) s

/-- R298, R300: the source of a product stops: the open units close, and an entry that the set in force has changed ends. -/
def closeProduct (product source : Nat) (s : State) : State :=
  switchFlows product source s.sys.epoch (closeUnits true product source s)

/-! ### Tests of units (R487) -/

/-- A test that has started on a unit instance, with a property. -/
def testOn (s : State) (unit inst : Nat) (p : TestRun → Bool) : Bool :=
  s.bkgd.tests.any (fun t => t.started && t.unit == unit && t.inst == inst && p t)

/-- R487: a forced test has taken a unit instance out of service: every line it would have produced becomes a LOSS line. -/
def forcedOut (s : State) (unit inst : Nat) : Bool := testOn s unit inst TestRun.forced

/-- R487: a gap test runs on a unit instance, whose input is held. -/
def gapHeld (s : State) (unit inst : Nat) : Bool := testOn s unit inst (fun t => t.code == 0x10 || t.code == 0x11)

/-! ### The change log (R92 to R98) -/

/-- R92: the 64 bytes of a log entry. -/
def logBytes (e : LogEntry) : List Byte :=
  if e.kind = 6 then
    leBytes 8 e.index ++ (e.text.take 10 ++ List.replicate (10 - (e.text.take 10).length) 0) ++ leBytes 1 6 ++
      ((e.text.drop 10).take 38 ++ List.replicate (38 - ((e.text.drop 10).take 38).length) 0) ++ List.replicate 7 0
  else
    leBytes 8 e.index ++ leBytes 6 e.timeS ++ leBytes 4 e.timeNs ++ leBytes 1 e.kind ++ leBytes 1 e.principal ++
    leBytes 1 e.transport ++ leBytes 1 0 ++ leBytes 2 e.flags.toNat ++ leBytes 2 e.opcode ++ leBytes 2 e.tag ++
    leBytes 2 e.status ++ leBytes 2 0 ++ leBytes 4 e.epoch ++ leBytes 4 e.subject ++ leBytes 4 e.count ++
    leBytes 4 e.session ++ leBytes 8 e.value ++ leBytes 8 e.digest

/-- R92: the ring holds 1,048,576 entries. -/
def logRingSize : Nat := 1048576

/-- R92: an entry takes its INDEX and joins the ring. -/
def pushLog (e : LogEntry) (s : State) : State :=
  { s with sys.log.entries := (s.sys.log.entries ++ [{ e with index := s.sys.log.next }]).drop (s.sys.log.entries.length + 1 - logRingSize),
           sys.log.next := s.sys.log.next + 1 }

/-- R92, R98: commit an entry: it joins the ring and the LOG product, and is mirrored to a Shadow. -/
def logCommit (e : LogEntry) (s : State) : State :=
  let bytes := logBytes { e with index := s.sys.log.next }
  let t := feed { product := 10, source := 0xFF, epoch := s.sys.epoch, firstId := s.sys.log.next, chunks := [.bytes bytes], refNs := nowNs s } (pushLog e s)
  if prmB s P.SYS_LOG_TWIN_MIRROR && attached s then sendSeq 0x24 bytes t else t

/-- An entry with the present time, clock flags and epoch. -/
def logNow (e : LogEntry) (s : State) : State :=
  logCommit { e with timeS := s.tk.secs, timeNs := s.tk.ns, epoch := s.sys.epoch, flags := e.flags ||| logClockFlags s } s

/-- R92: a DEVICE entry: OPCODE is the source code of the event that the occurrence raises, 0x3FF where it raises none. -/
def logDevice (src status subject value : Nat) (s : State) : State :=
  logNow { kind := 4, principal := 0, transport := 5, opcode := src, status := status, subject := subject, count := 1, value := value } s

/-- R92: a DEVICE entry that stands for several events. -/
def logDeviceN (src status subject value count : Nat) (s : State) : State :=
  logNow { kind := 4, principal := 0, transport := 5, opcode := src, status := status, subject := subject, count := count, value := value } s

/-- R345: the Shadow has found a divergence: under policy 0 it enters UNHEALTHY and joins anew under AUTO_REJOIN. DEDUCED (log entry 53): the policy is
the device's own. -/
def shadowDiverge (s : State) : State :=
  if s.twin.state = 5 ∧ prmN s P.TWIN_DIVERGE_POLICY = 0 then
    let s := { s with twin.state := 6 }
    if prmB s P.TWIN_AUTO_REJOIN then startJoin s else s
  else s

/-- R53, R345: the Shadow has answered a mirrored command with 0x0904: a divergence of no unit, so that VALUE is a free value and no DIVERGENCE names an
entry: the reply itself tells the Active. -/
def replyDiverge (s : State) : State :=
  let (v, s) := fresh { s with twin.diverged := s.twin.diverged + 1 }
  shadowDiverge (raiseOpen 368 (logDevice 368 0x0903 0 v s))

/-- R51: the authentication failures of a source in an earlier second are logged as one entry with their count; VALUE is the source address. -/
def flushAuth (s : State) : State :=
  let due := s.sys.auth.filter (fun p => p.2.fails != 0 && p.2.second != s.tk.secs)
  forEach due (fun (p : Nat × AuthSource) s =>
    logDeviceN 0x3FF 0x0203 0 p.1 p.2.fails { s with sys.auth := Map.insert s.sys.auth p.1 { p.2 with fails := 0 } }) s

/-- R95: the committed form of a REGISTER entry. DESIGN CHOICE (log entry 88): TIME is that of the first write, EPOCH and the clock flags are those at
the commit. -/
def regEntry (w : RegWindow) (s : State) : LogEntry :=
  { kind := 3, principal := w.principal, transport := 4, timeS := w.timeS, timeNs := w.timeNs, epoch := s.sys.epoch,
    flags := setFlagIf (w.count > 1) (logClockFlags s) 2, subject := w.addr, count := w.count, value := w.value,
    digest := crc64 (leBytes 4 w.value) }

/-- R95: commit the open REGISTER entries that a condition selects. -/
def closeWindows (p : RegWindow → Bool) (s : State) : State :=
  let ws := s.sys.log.windows.filter p
  let s := { s with sys.log.windows := s.sys.log.windows.filter (fun w => !p w) }
  forEach ws (fun w s => logCommit (regEntry w s) s) s

/-- R95: a principal writes a register marked L. Another principal's open entry, and one older than 1 ms, commit first. DESIGN CHOICE (log entry 123): the
1 ms is elapsed time, which a step of the Timekeeper does not move. -/
def logRegister (p : Principal) (addr value : Nat) (s : State) : State :=
  let s := closeWindows (fun w => w.addr == addr && (w.principal != p.code || decide (w.mono + 1000000 < monoNs s))) s
  match s.sys.log.windows.find? (fun w => w.addr == addr && w.principal == p.code) with
  | some _ => { s with sys.log.windows := s.sys.log.windows.map (fun w =>
      if w.addr = addr ∧ w.principal = p.code then { w with count := w.count + 1, value := value } else w) }
  | none => { s with sys.log.windows := s.sys.log.windows ++ [⟨p.code, addr, s.tk.secs, s.tk.ns, 1, value, monoNs s⟩] }

/-- R92: the SUBJECT of a register: unit code in [31:24], offset in [23:0]. -/
def regAddr (unit off : Nat) : Nat := unit * 0x1000000 + off

end Sys2Proof.Machine
end

