-- ==== Sys2Proof/Machine/Window.lean ====
section
/-! DEFINITION. Machine/Window.lean: how a register window answers an access (R91, R434). -/
namespace Sys2Proof.Machine

/-- R434: the write right of a resource: its owner and SUP; APP-S also for what APP-N owns; APP-N not for a resource whose
SECURE is 1. DBG has the rights of APP-S (R438). -/
def writeRight (p : Principal) (owner : Nat) (secure : Bool) : Bool :=
  match p with
  | .sup => true
  | .appS => owner == 2 || owner == 3
  | .appN => owner == 3 && !secure
  | .dbg => owner == 2 || owner == 3
  | _ => false

/-- Registers without an owner parameter are written by SUP and APP-S (R327, R425, R442). -/
def systemRight (p : Principal) : Bool := p == .sup || p == .appS || p == .dbg

/-- R434: record a refusal; the first one after the last read is kept. -/
def recordRefusal (window write : Bool) (a : Acc) (addr : Nat) (s : State) : State :=
  if s.core.refused.valid then s
  else { s with core.refused := ⟨true, window, write, a.principal.code, a.source, addr⟩ }

/-- R5: the physical address of a register. -/
def winAddr (unit off : Nat) : Nat := 0x1000000000 + unit * 0x1000000 + off

/-- R434 step 5: the refusal of a window access; REFUSE_FAULT makes it end with a bus error as well. -/
def refuseWindow (write : Bool) (a : Acc) (unit off : Nat) (s : State) : State :=
  let s := if prmB s P.CORE_REFUSE_FAULT then { s with core.busErrors := s.core.busErrors + 1 } else s
  recordRefusal true write a (winAddr unit off) s

/-- R434: a write with its right is logged if the register is marked L (R95), then executed; without the right it is
refused and changes nothing else. While debug access is locked DBG has no access (R438). -/
def windowWrite (a : Acc) (right logged : Bool) (unit off value : Nat) (act : State → State) (s : State) : State :=
  if a.principal = .dbg ∧ s.core.unlocked = false then s
  else if right then act (if logged then logRegister a.principal (regAddr unit off) value s else s)
  else refuseWindow true a unit off s

/-- R434: a read that the unit's chapter permits returns the register's value and has its effect; another returns 0 and is
refused. -/
def windowRead (a : Acc) (right : Bool) (unit off : Nat) (value : State → Nat) (act : State → State) (s : State) : State :=
  if a.principal = .dbg ∧ s.core.unlocked = false then s
  else if right then act { s with core.rdata := value s % 2 ^ 32 } else refuseWindow false a unit off { s with core.rdata := 0 }

end Sys2Proof.Machine
end

