-- ==== Sys2Proof/Machine/Qdma.lean ====
section
/-! DEFINITION. Machine/Qdma.lean: the hardware queues and the DMA channels (chapter "Queues and DMA"). -/
namespace Sys2Proof.Machine

/-- QDMA[Qq].SIZE in words. -/
def queueSize (s : State) (q : Nat) : Nat := prmN s (P.QUEUE_SIZE q)

/-- R387: the words available on the queue sides of a channel, the words of a source queue and the free words of a destination queue; none where it has no
queue side. -/
def availIn (size : Nat → Nat) (d : Qdma) (x : Chan) : Option Nat :=
  let fill (q : Nat) : Nat := (d.queues.get {} q).words.length
  let a := if x.srcKind = 1 then some (fill (x.src % 1024)) else none
  let b := if x.dstKind = 1 then some (size (x.dst % 1024) - fill (x.dst % 1024)) else none
  match a, b with
  | some m, some n => some (min m n)
  | some m, none => some m
  | none, b => b

/-- R387: with `w` words available a channel may request: START_MARK is reached, or has been and STOP_MARK stands. -/
def levelUp (x : Chan) (w : Nat) : Bool := decide (x.startMark * 8 ≤ w) || (x.above && decide (x.stopMark * 8 ≤ w))

/-- R387: channel `c` notices the level of its queues. -/
def noteLevel (size : Nat → Nat) (c : Nat) (d : Qdma) : Qdma :=
  let x := d.chans.get {} c
  match availIn size d x with
  | some w => { d with chans := d.chans.set {} c { x with above := levelUp x w } }
  | none => d

/-- Queue `q`. -/
def queue (s : State) (q : Nat) : Queue := s.qdma.queues.get {} q

/-- Replace queue `q`; the channels that read and write it notice its level (R387). -/
def setQueue (q : Nat) (x : Queue) (s : State) : State :=
  { s with qdma := (x.chanCons.toList ++ x.chanProd.toList).foldl (fun d c => noteLevel (queueSize s) c d) { s.qdma with queues := s.qdma.queues.set {} q x } }

/-- Channel `c`. -/
def chan (s : State) (c : Nat) : Chan := s.qdma.chans.get {} c

/-- Replace channel `c`. -/
def setChan (c : Nat) (x : Chan) (s : State) : State := { s with qdma.chans := s.qdma.chans.set {} c x }

/-- R381: the packet count. -/
def packets (x : Queue) : Nat := (x.words.filter QWord.endm).length

/-- R380: a unit parameter names the queue. -/
def unitNames (s : State) (q : Nat) : Bool :=
  (List.range 16).any (fun i => prmN s (P.PORT_EVENT_QUEUE i) == q) || prmN s P.RECD_RECORD_QUEUE == q ||
    (enabledFlows s.sys.applied).any (fun f =>
      let e := flowEntry s.sys.applied f
      leAt e 3 1 == 3 && leAt e 28 2 == q)

/-- R380, R393: the producer in effect: 0 window, 1 channel, 2 unit, 3 supervisor. -/
def producer (s : State) (q : Nat) : Nat :=
  if 1016 ≤ q then (if q % 2 = 1 then 3 else 0)
  else if unitNames s q then 2 else if (queue s q).chanProd.isSome then 1 else 0

/-- R380, R393: the consumer in effect. -/
def consumerOf (s : State) (q : Nat) : Nat :=
  if 1016 ≤ q then (if q % 2 = 0 then 3 else 0)
  else if (queue s q).chanCons.isSome then 1 else 0

/-- QUEUE_READY of a queue (R383, R414). -/
def raiseReady (q : Nat) (s : State) : State := raise (378 + 2 * (q / 16)) q s

/-- R383: after a change from `old` words, the fill has reached READY_MARK from below for a window consumer. -/
def readyCheck (q old : Nat) (s : State) : State :=
  let m := prmN s (P.QUEUE_READY_MARK q)
  if consumerOf s q = 0 ∧ old < m ∧ m ≤ (queue s q).words.length then raiseReady q s else s

/-- Append words to a queue that has room for them. -/
def queueAppend (q : Nat) (ws : List QWord) (s : State) : State :=
  let x := queue s q
  readyCheck q x.words.length (setQueue q { x with words := x.words ++ ws, pushed := x.pushed + ws.length } s)

/-- R381: a unit pushes a packet whole, or drops it and the queue counts the drop. The answer tells whether it went in. -/
def unitPush (q : Nat) (vals : List Nat) (s : State) : Bool × State :=
  let x := queue s q
  if queueSize s q < x.words.length + vals.length then (false, setQueue q { x with dropped := x.dropped + 1 } s)
  else (true, queueAppend q (vals.mapIdx (fun i v => ⟨v, i + 1 == vals.length, false⟩)) s)

/-- Bytes as 64-bit queue words, byte 0 in bits 7:0 (R49), the last word padded with zero bytes. -/
def wordsOf (bs : List Byte) : List Nat :=
  (List.range ((bs.length + 7) / 8)).map (fun i => ofLe ((bs.drop (8 * i)).take 8))

/-- R435: the mailbox queues admit the pushes of their principal on the command queue. -/
def mailboxOwner (q : Nat) : Nat := if q < 1020 then 2 else 3

/-- R391, R435: a principal has the write right of a queue's push registers. -/
def pushRight (s : State) (p : Principal) (q : Nat) : Bool :=
  if 1016 ≤ q then p.code == mailboxOwner q && q % 2 == 0
  else writeRight p (prmN s (P.QUEUE_OWNER q)) (prmB s (P.QUEUE_SECURE q))

/-- R435: a principal has the right to pop a queue. -/
def popRight (s : State) (p : Principal) (q : Nat) : Bool :=
  if 1016 ≤ q then p.code == mailboxOwner q && q % 2 == 1
  else writeRight p (prmN s (P.QUEUE_OWNER q)) (prmB s (P.QUEUE_SECURE q))

/-- R380: a window access that matches neither producer nor consumer sets REFUSED. -/
def refuseQueue (q : Nat) (s : State) : State :=
  setQueue q { queue s q with flags := setFlag (queue s q).flags 4 } s

/-- R381, R393: a write of Q_PUSH_HI commits a word with its marks, or sets OVERFLOW on a full queue. A word that follows an overlong mailbox packet is discarded
(R49). -/
def takeQPushHi (a : Acc) (n : Nat) (value : Word32) (s : State) : State :=
  windowWrite a (pushRight s a.principal n) false 0x10 (n * 0x40 + 0x18) value.toNat (fun s =>
    let x := queue s n
    if producer s n ≠ 0 ∨ queueSize s n = 0 then refuseQueue n s
    else if s.sys.mailSkip.contains n then
      let s := if x.pushEnd then { s with sys.mailSkip := s.sys.mailSkip.filter (fun k => k != n) } else s
      setQueue n { x with pushEnd := false, pushErr := false } s
    else if queueSize s n ≤ x.words.length then
      setQueue n { x with flags := setFlag x.flags 0, dropped := x.dropped + 1, pushEnd := false, pushErr := false } s
    else queueAppend n [⟨x.pushLo + value.toNat * 2 ^ 32, x.pushEnd, x.pushErr⟩] (setQueue n { x with pushEnd := false, pushErr := false } s)) s

/-- R379: the words that a pop of a queue finds: none where the queue does not exist, though a Cinch has left words in its ring. -/
def popWords (s : State) (q : Nat) : List QWord := if queueSize s q = 0 then [] else (queue s q).words

/-- R381, R393: a read of Q_POP_LO removes the head word and captures it, or sets UNDERFLOW on an empty queue. -/
def execQPopLo (a : Acc) (q : Fin 1024) (s : State) : Host.Outcome State Fault Refusal :=
  let n := q.val
  .next (windowRead a (popRight s a.principal n) 0x10 (n * 0x40 + 0x20)
    (fun s => match popWords s n with | w :: _ => if consumerOf s n = 0 then w.val else 0 | [] => 0) (fun s =>
    let x := queue s n
    if consumerOf s n ≠ 0 then refuseQueue n s
    else match popWords s n with
      | [] => setQueue n { x with flags := setFlag x.flags 1, popValid := false, popHi := 0, popEnd := false, popErr := false } s
      | w :: ws => setQueue n { x with words := ws, popHi := w.val / 2 ^ 32, popEnd := w.endm, popErr := w.err, popValid := true,
                                       tail := x.tail && !ws.isEmpty } s) s)

/-- The words of a burst that its beats have carried when `beatsLeft` of them remain. -/
def carried (beatsLeft : Nat) (b : Burst) : Nat := min b.keep (8 * ((b.keep + 7) / 8 - beatsLeft))

/-- R390: the source queue of a channel is flushed while its last burst is read: the remaining beats become filler words of value 0, of which the last bears
the end mark for a queue. The channel stops with FLUSHED. -/
def flushSource (beatsLeft c : Nat) (s : State) : State :=
  let x := chan s c
  match x.bursts.reverse with
  | b :: older =>
    let n := carried beatsLeft b
    let filler := (List.range (b.keep - n)).map (fun i => (⟨0, x.dstKind == 1 && n + i + 1 == b.keep, false⟩ : QWord))
    setChan c { x with bursts := older.reverse ++ [{ b with words := b.words.take n ++ filler ++ b.words.drop b.keep, flushed := true }]
                       withdraw := true, nFlush := x.nFlush + 1 } s
  | [] => s

/-- R390: the destination queue of a channel is flushed while its first burst is written: the beats delivered before have been counted and are gone with the
queue's words, the remaining ones are discarded, and so are (DESIGN CHOICE, log entry 152) the bursts that wait behind it. The channel stops with FLUSHED. -/
def flushDest (beatsLeft c : Nat) (s : State) : State :=
  let x := chan s c
  match x.bursts with
  | b :: _ =>
    let n := carried beatsLeft b
    let q := queue s (x.dst % 1024)
    setQueue (x.dst % 1024) { q with pushed := q.pushed + n }
      (setChan c { x with bursts := x.bursts.map (fun b => { b with words := [], keep := 0, flushed := true })
                          withdraw := true, nFlush := x.nFlush + 1, nWritten := x.nWritten + 8 * n } s)
  | [] => s

/-- R382, R390: a write of Q_CONTROL.FLUSH empties the queue at once. `unitMid` tells that a unit producer is part-way
through a packet, whose rest is discarded as it arrives; `beatsLeft` how many beats of a burst in flight remain. -/
def execFlush (a : Acc) (q : Fin 1024) (unitMid : Bool) (beatsLeft : Nat) (s : State) : Host.Outcome State Fault Refusal :=
  let n := q.val
  let right := decide (n < 1016) && writeRight a.principal (prmN s (P.QUEUE_OWNER n)) (prmB s (P.QUEUE_SECURE n))
  .next (windowWrite a right true 0x10 (n * 0x40 + 0x0C) 1 (fun s =>
    let x := queue s n
    let mid := unitMid && producer s n == 2
    let s := setQueue n { x with words := [], tail := false, flags := setFlagIf mid x.flags 3, dropped := if mid then x.dropped + 1 else x.dropped } s
    let s := match x.chanCons with | some c => flushSource beatsLeft c s | none => s
    match x.chanProd with | some c => flushDest beatsLeft c s | none => s) s)

/-- R381: a unit producer pushes a packet whole, or drops it. -/
def execUnitQueuePush (q : Fin 1024) (words : List Nat) (s : State) : Host.Outcome State Fault Refusal :=
  .next (if producer s q.val = 2 then (unitPush q.val words s).2 else s)

/-- R383: the read timer of a non-empty queue runs out: TIMEOUT is set, QUEUE_TIMEOUT is raised, and the tail goes to the
consumer: a channel takes every word, a window consumer receives QUEUE_READY. -/
def execQueueTimeout (q : Fin 1024) (s : State) : Host.Outcome State Fault Refusal :=
  let n := q.val
  let x := queue s n
  if x.words.isEmpty ∨ prm s (P.QUEUE_TIMEOUT n) = 0 then .next s
  else
    let s := raise (378 + 2 * (n / 16) + 1) n (setQueue n { x with flags := setFlag x.flags 2, timeouts := x.timeouts + 1, tail := x.chanCons.isSome } s)
    .next (if consumerOf s n = 0 then raiseReady n s else s)

/-! ### DMA channels -/

/-- R433: the end of the region open to a principal that holds an address. -/
def regionEnd (s : State) (owner addr : Nat) : Option Nat :=
  ((List.range 16).find? (fun r =>
    let b := prmN s (P.CORE_REGION_BASE r)
    b ≤ addr && addr < b + prmN s (P.CORE_REGION_SIZE r) && (owner == 2 || prmN s (P.CORE_REGION_PRINCIPAL r) == 3))).map
      (fun r => prmN s (P.CORE_REGION_BASE r) + prmN s (P.CORE_REGION_SIZE r))

/-- A range lies within regions open to a principal, of which at most `fuel` follow one another. -/
def coveredBy (s : State) (owner : Nat) : Nat → Nat → Nat → Bool
  | 0, _, _ => false
  | fuel + 1, addr, stop => match regionEnd s owner addr with | some e => decide (stop ≤ e) || coveredBy s owner fuel e stop | none => false

/-- R433: a range of DRAM lies within the regions open to a principal. SUP has all of DRAM. -/
def inRegions (s : State) (owner : Nat) (addr len : Nat) : Bool :=
  addr + len ≤ dramEnd && (owner == 0 || coveredBy s owner 16 addr (addr + len))

/-- R384: the kind is a memory. -/
def isMem (kind : Nat) : Bool := kind == 0 || kind == 2

/-- The bytes of a memory side that a transfer can reach: its ring, or COUNT. -/
def sideLen (x : Chan) : Nat := if x.ring = 0 then x.count else x.ring

/-- R386: the checks of a start, in order: the error code and field of the first that fails. -/
def startCheck (s : State) (c : Nat) (x : Chan) : Option (Nat × Nat) :=
  let owner := prmN s (P.QDMA_OWNER c)
  let pow := (List.range 19).any (fun k => x.ring == 4096 * 2 ^ k)
  let base := if isMem x.dstKind then x.dst else x.src
  if isMem x.srcKind ∧ x.src % 64 ≠ 0 then some (1, 0)
  else if isMem x.dstKind ∧ x.dst % 64 ≠ 0 then some (1, 1)
  else if x.count % 64 ≠ 0 then some (1, 2)
  else if x.ring % 64 ≠ 0 ∨ (x.ring ≠ 0 ∧ (¬ pow ∨ base % x.ring ≠ 0)) then some (1, 3)
  else if x.swPtr % 64 ≠ 0 then some (1, 4)
  else if x.srcKind = 0 ∧ !inRegions s owner x.src (sideLen x) then some (2, 0)
  else if x.dstKind = 0 ∧ !inRegions s owner x.dst (sideLen x) then some (2, 1)
  else if x.srcKind = 1 ∧ (1016 ≤ x.src % 1024 ∨ queueSize s (x.src % 1024) = 0 ∨ consumerOf s (x.src % 1024) ≠ 0) then some (3, 6)
  else if x.dstKind = 1 ∧ (1016 ≤ x.dst % 1024 ∨ queueSize s (x.dst % 1024) = 0 ∨ producer s (x.dst % 1024) ≠ 0) then some (3, 7)
  else if (x.srcKind = 1 ∨ x.dstKind = 1) ∧ x.startMark ≤ x.stopMark then some (4, 5)
  else none

/-- A channel is WAITING or ACTIVE. -/
def chanBusy (x : Chan) : Bool := x.state == 1 || x.state == 2

/-- R380: the channel becomes the consumer or producer of its queues, or releases them. -/
def claimQueues (on : Bool) (c : Nat) (s : State) : State :=
  let x := chan s c
  let v := if on then some c else none
  let s := if x.srcKind = 1 then setQueue (x.src % 1024) { queue s (x.src % 1024) with chanCons := v, tail := false } s else s
  if x.dstKind = 1 then setQueue (x.dst % 1024) { queue s (x.dst % 1024) with chanProd := v } s else s

/-- R386: a start: refused with its code and field, or the channel enters WAITING. -/
def startChan (c : Nat) (s : State) : State :=
  let x := chan s c
  if chanBusy x then s
  else match (if x.srcKind = 3 then some (3, 0) else startCheck s c x) with
    | some (code, fld) => setChan c { x with state := 6, errCode := code, errField := fld, nRefused := x.nRefused + 1 } s
    | none => claimQueues true c (setChan c { x with state := 1, errCode := 0, errField := 0, remain := x.count, wrPtr := 0, flushed := false, errMark := false, hadErr := false, withdraw := false, above := false, issued := 0, bursts := [] } s)

/-- The event sources of a channel (R414): 0 DMA_DONE, 1 DMA_ERROR, 2 DMA_STOPPED. -/
def dmaSource (c kind : Nat) : Nat := 506 + 3 * (c / 4) + kind

/-- R392: a transfer of SUP's through DC63: its bursts from DRAM to DRAM pass, an uncorrectable block gives an error beat, and it ends with its event. -/
def supRun (m : SupMove) (s : State) : State :=
  let x := chan s 63
  let bad := ((List.range (m.len / 64)).map (fun i => m.src + 64 * i)).filter s.badBlocks.contains
  let err := !bad.isEmpty
  raise (dmaSource 63 (b2n err)) 63 (setChan 63 { x with
    src := m.src, dst := m.dst, count := m.len, ring := 0, srcKind := 0, dstKind := 0, pktAlign := false, errStop := false, pktBlocks := 0
    state := if err then 4 else 3, errCode := if err then 5 else 0, errField := 0, flushed := false, errMark := false, remain := 0, wrPtr := m.len
    errAddr := bad.head?.getD x.errAddr, hadErr := err, withdraw := false, issued := m.len
    nRead := x.nRead + m.len, nWritten := x.nWritten + m.len, nBursts := x.nBursts + (m.len + 4095) / 4096, nErr := x.nErr + bad.length } s)

/-- R392: SUP's transfers run in turn while DC63 is free. -/
def supPump (s : State) : State := if chanBusy (chan s 63) then s else forEach s.qdma.sup supRun { s with qdma.sup := [] }

/-- R392: SUP moves whole blocks through DC63, at once where it is free. -/
def supMove (src dst len : Nat) (s : State) : State := supPump { s with qdma.sup := s.qdma.sup ++ [⟨src, dst, roundUp 64 len⟩] }

/-- R392: the address of an area of the supervisor's. -/
def supAddr (k : Nat) : Nat := 64 * (Config.supArea k % (dramEnd / 64))

/-- R391: the channel leaves ACTIVE or WAITING and raises exactly one event. -/
def endChan (st kind c : Nat) (s : State) : State :=
  let s := claimQueues false c s
  supPump (raise (dmaSource c kind) c (setChan c { chan s c with state := st, bursts := [], withdraw := false } s))

/-- R386: a write of a descriptor register, ignored while the channel is WAITING or ACTIVE. -/
def descWrite (c : Nat) (f : Chan → Chan) (s : State) : State := if chanBusy (chan s c) then s else setChan c (f (chan s c)) s

/-- R6, R393: the fields of DC_CTRL that are written and read. -/
def ctrlFields (v : Word32) (x : Chan) : Chan :=
  let w := v.toNat
  { x with srcKind := field w 23 22, dstKind := field w 21 20, pktAlign := bitOf w 19, errStop := bitOf w 18, pktBlocks := field w 15 0
           ctrlRsv := (v &&& 0x3F030000#32).toNat }

/-- R389: withdraw a channel's request; with no burst in flight it stops at once. -/
def withdrawChan (c : Nat) (s : State) : State :=
  let x := chan s c
  if !chanBusy x then s
  else if x.bursts.isEmpty then endChan 5 2 c s
  else setChan c { x with withdraw := true } s

/-- R386: a write of DC_CTRL with START 1 takes the kinds and options with it, then starts the channel. DESIGN CHOICE (log entry 150): where the same write bears
STOP 1, it withdraws the request of a channel that runs and leaves the start of an idle one as it is. -/
def execStart (a : Acc) (chan : Fin 64) (ctrl : Word32) (s : State) : Host.Outcome State Fault Refusal :=
  let c := chan.val
  .next (windowWrite a (writeRight a.principal (prmN s (P.QDMA_OWNER c)) (prmB s (P.QDMA_SECURE c))) true 0x10 (0x10000 + c * 0x40 + 0x18) ctrl.toNat (fun s =>
    let x := Machine.chan s c
    if chanBusy x then (if hasFlag ctrl 30 then withdrawChan c s else s)
    else startChan c (setChan c (ctrlFields ctrl x) s)) s)

/-- R389: a write of DC_CTRL with STOP 1 and START 0: the channel's request is withdrawn; an idle channel takes the other fields. -/
def execStop (a : Acc) (w : BlockWrite 64) (s : State) : Host.Outcome State Fault Refusal :=
  let c := w.block.val
  .next (windowWrite a (writeRight a.principal (prmN s (P.QDMA_OWNER c)) (prmB s (P.QDMA_SECURE c))) true 0x10 (0x10000 + c * 0x40 + 0x18)
    (setFlag w.value 30).toNat (fun s => withdrawChan c (descWrite c (ctrlFields w.value) s)) s)

/-- R387: the words available on the queue sides of a channel. -/
def availWords (s : State) (x : Chan) : Option Nat := availIn (queueSize s) s.qdma x

/-- R383: the source queue drains its tail. -/
def draining (s : State) (x : Chan) : Bool := x.srcKind == 1 && (queue s (x.src % 1024)).tail

/-- R385: WR_PTR as the bursts issued will leave it. -/
def issuePtr (x : Chan) : Nat := x.issued % 2 ^ 32

/-- R385: the bytes that a ring leaves: room up to RING ahead of SW_PTR for a destination, data up to SW_PTR for a source. -/
def ringRoom (x : Chan) : Nat :=
  if x.ring = 0 then 4096
  else if isMem x.dstKind then x.ring - (issuePtr x + 2 ^ 32 - x.swPtr) % 2 ^ 32
  else (x.swPtr + 2 ^ 32 - issuePtr x) % 2 ^ 32

/-- A ring with COUNT 0 runs without end (R385). -/
def endless (x : Chan) : Bool := x.ring != 0 && x.count == 0

/-- The bytes of the bursts in flight that count towards REMAIN. -/
def inFlight (x : Chan) : Nat := (x.bursts.map Burst.bytes).sum

/-- R388: the bytes of the shared buffer that a channel's bursts hold. -/
def buffered (x : Chan) : Nat := (x.bursts.map (fun b => 8 * b.words.length)).sum

/-- R388: the buffer free to a channel: of the 524,288 bytes shared, and of its own 65,536. -/
def freeBuffer (s : State) (x : Chan) : Nat :=
  min (65536 - buffered x) (524288 - (s.qdma.chans.map (fun p => buffered p.2)).sum)

/-- The words in flight to the destination queue of a channel. -/
def bound (x : Chan) : Nat := if x.dstKind = 1 then (x.bursts.map Burst.keep).sum else 0

/-- R388: the bytes of the next burst: the words of a draining tail count one by one. -/
def burstLen (s : State) (x : Chan) : Nat :=
  let av := match availWords s x with
    | some w =>
      let w := if x.dstKind = 1 then min w (queueSize s (x.dst % 1024) - (queue s (x.dst % 1024)).words.length - bound x) else w
      if draining s x then 8 * w else 8 * w / 64 * 64
    | none => 4096
  min (min 4096 (if endless x then 4096 else x.remain - inFlight x)) (min (min av (freeBuffer s x)) (ringRoom x)) / 8 * 8

/-- R391: a channel with ERR_STOP has met an error, and issues no further burst. -/
def errHeld (x : Chan) : Bool := x.errStop && (x.hadErr || x.bursts.any (fun b => b.errAddr.isSome))

/-- R387: a channel is eligible: its queue side has reached START_MARK and stays at or above STOP_MARK. -/
def eligible (s : State) (x : Chan) : Bool :=
  chanBusy x && !x.withdraw && !errHeld x && decide (0 < burstLen s x) &&
    (match availWords s x with
     | some w => draining s x || levelUp x w
     | none => true)

/-- The address of a memory side at a progress (R385): a ring returns to its base. -/
def sideAt (x : Chan) (base p : Nat) : Nat := base + (if x.ring = 0 then p else p % x.ring)

/-- R384, R432: an address that a channel's side cannot reach answers with an error: beyond DRAM, outside the scratch SRAM, or in its lower half for a
channel of APP-N. -/
def beyond (s : State) (c kind addr : Nat) : Bool :=
  if kind = 0 then decide (dramEnd < addr + 8)
  else !inScratch addr 8 || (prmN s (P.QDMA_OWNER c) == 3 && decide (addr < scratchBase + 0x80000))

/-- A read is answered with an error: the address is out of reach, or in a block held as uncorrectable. -/
def badRead (s : State) (c kind addr : Nat) : Bool := beyond s c kind addr || s.badBlocks.contains (addr / 64 * 64)

/-- R388: `n` words of a memory source; PKT_BLOCKS places the end marks. -/
def memWords (s : State) (c n : Nat) : List QWord :=
  let x := chan s c
  (List.range n).map (fun i =>
    let a := sideAt x x.src (issuePtr x + 8 * i)
    let lastWord := !endless x && inFlight x + 8 * i + 8 == x.remain
    let blockEnd := x.pktBlocks != 0 && (x.issued + 8 * i + 8) % (64 * x.pktBlocks) == 0
    ⟨ofLe (s.mem.read a 8), if x.pktBlocks = 0 then lastWord else blockEnd, badRead s c x.srcKind a⟩)

/-- R388: words taken from a source queue into about `fuel` words, the first of which stands `at_` words into its 64-byte block: PKT_ALIGN pads the block that
holds an end mark. The answer is the words and how many were taken. -/
def packWords (align : Bool) (at_ : Nat) : Nat → List QWord → List QWord → Nat → List QWord × Nat
  | 0, _, acc, k => (acc, k)
  | _, [], acc, k => (acc, k)
  | fuel + 1, w :: ws, acc, k =>
    let acc := acc ++ [w]
    if align && w.endm then
      let pad := (8 - (at_ + acc.length) % 8) % 8
      packWords align at_ (fuel - pad) ws (acc ++ List.replicate pad ⟨0, false, false⟩) (k + 1)
    else packWords align at_ fuel ws acc (k + 1)

/-- The next eligible channel in round robin, highest PRIORITY first (R388). -/
def nextChan (s : State) : Option Nat :=
  [3, 2, 1, 0].findSome? (fun pr =>
    ((List.range 64).map (fun k => (s.qdma.rr + 1 + k) % 64)).find? (fun c =>
      prmN s (P.QDMA_PRIORITY c) == pr && eligible s (chan s c)))

/-- R389: the fall of a queue's available words below STOP_MARK has withdrawn a channel's request: with no burst in flight it waits for START_MARK. -/
def fallBack (s : State) : State :=
  forEach (s.qdma.chans.map Prod.fst) (fun c s =>
    let x := chan s c
    match availWords s x with
    | some w => if x.state = 2 ∧ x.bursts = [] ∧ draining s x = false ∧ levelUp x w = false then setChan c { x with state := 1 } s else s
    | none => s) s

/-- R363, R389: the requester identities of the engines: QDMA_RD and QDMA_WR. -/
def qdmaRd : Nat := 8

/-- See `qdmaRd`. -/
def qdmaWr : Nat := 9

/-- R391: the beats of 8 words that bear an error. -/
def errBeats (ws : List QWord) : Nat := ((List.range ((ws.length + 7) / 8)).filter (fun i => ((ws.drop (8 * i)).take 8).any QWord.err)).length

/-- R388: the words of a channel's next burst, and how many were taken from its source queue. -/
def burstWords (s : State) (c : Nat) : List QWord × Nat :=
  let x := chan s c
  let n := burstLen s x / 8
  if x.srcKind = 1 then packWords (x.pktAlign && isMem x.dstKind) (issuePtr x / 8) n (queue s (x.src % 1024)).words [] 0 else (memWords s c n, n)

/-- R388, R391: the burst of a channel with its words: a short final block is padded with zero words, to the end of its block in a memory. -/
def newBurst (x : Chan) (ws : List QWord) : Burst :=
  let start := if isMem x.dstKind then issuePtr x / 8 else 0
  { words := ws ++ List.replicate ((8 - (start + ws.length) % 8) % 8) ⟨0, false, false⟩, bytes := 8 * ws.length, keep := ws.length
    errAddr := (ws.findIdx? QWord.err).map (fun i => if x.srcKind = 1 then x.src % 1024 else sideAt x x.src (issuePtr x + i / 8 * 64))
    errMark := x.srcKind == 1 && ws.any QWord.err, nErr := errBeats ws
    rdId := if x.srcKind = 0 then some qdmaRd else none, wrId := if x.dstKind = 0 then some qdmaWr else none }

/-- R388: the read engine issues one burst for the next eligible channel. -/
def execDmaBurstDecision (s : State) : Host.Outcome State Fault Refusal :=
  let s := fallBack s
  match nextChan s with
  | none => .next s
  | some c =>
    let x := chan s c
    let (ws, taken) := burstWords s c
    let s := setChan c { x with state := 2, bursts := x.bursts ++ [newBurst x ws], issued := x.issued + 8 * ws.length
                                nBursts := x.nBursts + 1, nRead := x.nRead + 8 * taken } { s with qdma.rr := c }
    let q := queue s (x.src % 1024)
    .next (if x.srcKind = 1 then setQueue (x.src % 1024) { q with words := q.words.drop taken, tail := q.tail && decide (taken < q.words.length) } s else s)

/-- R388: the words of a burst at their addresses in a memory destination, from WR_PTR on. -/
def placed (x : Chan) (ws : List QWord) : List (Nat × QWord) := ws.mapIdx (fun i w => (sideAt x x.dst (x.wrPtr + 8 * i), w))

/-- R391: write words to memory; a block with an error mark is written as an uncorrectable code word. A block written in part keeps the error that it holds. -/
def storeWords (ps : List (Nat × QWord)) (s : State) : State :=
  let blocks := ps.map (fun p => p.1 / 64 * 64)
  let bad := ((ps.filter (fun p => p.2.err)).map (fun p => p.1 / 64 * 64)).dedup
  { s with mem := ps.foldl (fun (m : Memory) (p : Nat × QWord) => m.store p.1 (leBytes 8 p.2.val)) s.mem
           badBlocks := (s.badBlocks.filter (fun a => !(bad.contains a) && decide (blocks.count a < 8))) ++ bad }

/-- R384, R391: the words of a burst that a memory destination answers with an error. -/
def refusedWords (s : State) (c kind : Nat) (ps : List (Nat × QWord)) : List (Nat × QWord) := ps.filter (fun p => beyond s c kind p.1)

/-- R388, R391: the first burst of a channel, which stood as `x`, reaches its destination. `crcIn` takes the words for a CRC destination. -/
def deliverBurst (crcIn : Nat → List QWord → State → State) (c : Nat) (x : Chan) (b : Burst) (s : State) : State :=
  if x.dstKind = 1 then queueAppend (x.dst % 1024) (b.words.take b.keep) s
  else if x.dstKind = 3 then crcIn (x.dst % 8) b.words s
  else storeWords ((placed x b.words).filter (fun p => !beyond s c x.dstKind p.1)) s

/-- R388 to R391, R394: the channel once its first burst has completed, `bad` being the words that the destination answered with an error. -/
def afterBurst (x : Chan) (b : Burst) (bad : List (Nat × QWord)) : Chan :=
  let at_ := match b.errAddr with | some a => some a | none => bad.head?.map (fun (p : Nat × QWord) => p.1 / 64 * 64)
  { x with bursts := x.bursts.drop 1, wrPtr := (x.wrPtr + b.bytes) % 2 ^ 32, remain := if endless x then x.remain else x.remain - b.bytes
           errAddr := if x.hadErr then x.errAddr else at_.getD x.errAddr, errMark := x.errMark || b.errMark, errCode := if at_.isSome then 5 else x.errCode
           hadErr := x.hadErr || at_.isSome, flushed := x.flushed || b.flushed, nErr := x.nErr + b.nErr + ((bad.map (fun (p : Nat × QWord) => p.1 / 64)).dedup).length
           nWritten := x.nWritten + 8 * (if x.dstKind = 1 then b.keep else b.words.length - bad.length) }

/-- R389 to R391: a channel with no burst in flight ends in ERROR after an error at its end or with ERR_STOP, in STOPPED after a flush, in DONE when REMAIN has
reached 0, and in STOPPED after a withdrawal. -/
def settleChan (c : Nat) (s : State) : State :=
  let x := chan s c
  let done := !endless x && x.remain == 0
  if !chanBusy x || !x.bursts.isEmpty then s
  else if x.hadErr && (done || x.errStop) then endChan 4 1 c s
  else if x.flushed then endChan 5 2 c s
  else if done then endChan 3 0 c s
  else if x.withdraw then endChan 5 2 c s
  else s

/-- R388 to R391: the first burst of a channel completes at its destination. -/
def burstComplete (crcIn : Nat → List QWord → State → State) (c : Nat) (s : State) : State :=
  let x := chan s c
  match x.bursts with
  | [] => s
  | b :: _ =>
    let bad := if isMem x.dstKind then refusedWords s c x.dstKind (placed x b.words) else []
    settleChan c (deliverBurst crcIn c x b (setChan c (afterBurst x b bad) s))

end Sys2Proof.Machine
end

