-- ==== Sys2Proof/Machine/Sha.lean ====
section
/-! DEFINITION. Machine/Sha.lean: SHA-256 and HMAC-SHA-256 (R50), in the published form that the spec names. -/
namespace Sys2Proof.Machine

/-- The 64 round constants of SHA-256. -/
def shaK : List Word32 :=
  ([0x428A2F98, 0x71374491, 0xB5C0FBCF, 0xE9B5DBA5, 0x3956C25B, 0x59F111F1, 0x923F82A4, 0xAB1C5ED5] : List Word32) ++
  ([0xD807AA98, 0x12835B01, 0x243185BE, 0x550C7DC3, 0x72BE5D74, 0x80DEB1FE, 0x9BDC06A7, 0xC19BF174] : List Word32) ++
  ([0xE49B69C1, 0xEFBE4786, 0x0FC19DC6, 0x240CA1CC, 0x2DE92C6F, 0x4A7484AA, 0x5CB0A9DC, 0x76F988DA] : List Word32) ++
  ([0x983E5152, 0xA831C66D, 0xB00327C8, 0xBF597FC7, 0xC6E00BF3, 0xD5A79147, 0x06CA6351, 0x14292967] : List Word32) ++
  ([0x27B70A85, 0x2E1B2138, 0x4D2C6DFC, 0x53380D13, 0x650A7354, 0x766A0ABB, 0x81C2C92E, 0x92722C85] : List Word32) ++
  ([0xA2BFE8A1, 0xA81A664B, 0xC24B8B70, 0xC76C51A3, 0xD192E819, 0xD6990624, 0xF40E3585, 0x106AA070] : List Word32) ++
  ([0x19A4C116, 0x1E376C08, 0x2748774C, 0x34B0BCB5, 0x391C0CB3, 0x4ED8AA4A, 0x5B9CCA4F, 0x682E6FF3] : List Word32) ++
  ([0x748F82EE, 0x78A5636F, 0x84C87814, 0x8CC70208, 0x90BEFFFA, 0xA4506CEB, 0xBEF9A3F7, 0xC67178F2] : List Word32)

/-- The eight words of SHA-256's state. -/
structure Sha where
  a : Word32 := 0x6A09E667
  b : Word32 := 0xBB67AE85
  c : Word32 := 0x3C6EF372
  d : Word32 := 0xA54FF53A
  e : Word32 := 0x510E527F
  f : Word32 := 0x9B05688C
  g : Word32 := 0x1F83D9AB
  h : Word32 := 0x5BE0CD19

/-- One round with a word of the schedule and its constant. -/
def Sha.round (x : Sha) (w k : Word32) : Sha :=
  let s1 := x.e.rotateRight 6 ^^^ x.e.rotateRight 11 ^^^ x.e.rotateRight 25
  let ch := (x.e &&& x.f) ^^^ (~~~x.e &&& x.g)
  let t1 := x.h + s1 + ch + k + w
  let s0 := x.a.rotateRight 2 ^^^ x.a.rotateRight 13 ^^^ x.a.rotateRight 22
  let maj := (x.a &&& x.b) ^^^ (x.a &&& x.c) ^^^ (x.b &&& x.c)
  { a := t1 + s0 + maj, b := x.a, c := x.b, d := x.c, e := x.d + t1, f := x.e, g := x.f, h := x.g }

/-- The next word of the schedule after the sixteen before it. -/
def shaNext (ws : List Word32) : Word32 :=
  let x := ws.getD 1 0
  let y := ws.getD 14 0
  (y.rotateRight 17 ^^^ y.rotateRight 19 ^^^ y >>> 10) + ws.getD 9 0 + (x.rotateRight 7 ^^^ x.rotateRight 18 ^^^ x >>> 3) + ws.getD 0 0

/-- The rounds of one block: `ws` are the sixteen words of the schedule that are due next. -/
def shaRounds : List Word32 → List Word32 → Sha → Sha
  | [], _, x => x
  | k :: ks, ws, x => shaRounds ks (ws.drop 1 ++ [shaNext ws]) (x.round (ws.getD 0 0) k)

/-- One block of 64 bytes enters the state. -/
def Sha.block (x : Sha) (bs : List Byte) : Sha :=
  let y := shaRounds shaK ((List.range 16).map (fun i => BitVec.ofNat 32 (ofLe ((bs.drop (4 * i)).take 4).reverse))) x
  { a := x.a + y.a, b := x.b + y.b, c := x.c + y.c, d := x.d + y.d, e := x.e + y.e, f := x.f + y.f, g := x.g + y.g, h := x.h + y.h }

/-- SHA-256 of a byte string: 32 bytes. -/
def sha256 (bs : List Byte) : List Byte :=
  let n := bs.length
  let m := bs ++ [(0x80 : Byte)] ++ List.replicate ((119 - n % 64) % 64) 0 ++ beBytes 8 (8 * n)
  let x := (List.range (m.length / 64)).foldl (fun (x : Sha) i => x.block ((m.drop (64 * i)).take 64)) ({} : Sha)
  [x.a, x.b, x.c, x.d, x.e, x.f, x.g, x.h].flatMap (fun w => beBytes 4 w.toNat)

/-- R50: HMAC-SHA-256 of a byte string under a key of at most 64 bytes. -/
def hmac (key bs : List Byte) : List Byte :=
  let k := key ++ List.replicate (64 - key.length) 0
  sha256 (k.map (· ^^^ 0x5C) ++ sha256 (k.map (· ^^^ 0x36) ++ bs))

end Sys2Proof.Machine
end

