-- ==== Sys2Proof/Machine/Output.lean ====
section
/-! DEFINITION. Machine/Output.lean: product units, transmit queues and network ports (chapter "Product Output over
Ethernet"). -/
namespace Sys2Proof.Machine

/-- Network port `p`. -/
def netPort (s : State) (p : Nat) : NetPort := s.netw.ports.get {} p

/-- Replace network port `p`. -/
def setNetPort (p : Nat) (x : NetPort) (s : State) : State := { s with netw.ports := s.netw.ports.set {} p x }

/-- Transmit queue `q` of a port. -/
def txQueue (x : NetPort) (q : Nat) : TxQueue := x.queues.get {} q

/-- Replace transmit queue `q` of a port. -/
def setTxQueue (x : NetPort) (q : Nat) (t : TxQueue) : NetPort := { x with queues := x.queues.set {} q t }

/-! ### Dispositions (R343) -/

/-- LOG and TELE flows, and flows to a local queue, are local to each device (R343). -/
def deviceLocal (product port : Nat) : Bool := product == 10 || product == 11 || port == 3

/-- R338, DISPOSED with one entry. -/
def disposedMsg (f disp seq : Nat) : List Byte :=
  leBytes 4 1 ++ leBytes 4 0 ++ leBytes 2 f ++ leBytes 1 disp ++ leBytes 5 0 ++ leBytes 8 seq

/-- R343: the Active reports a unit as disposed; the flow then waits for the acknowledgement. A Shadow counts each unit that it drops itself, and
disposes of its LOG and TELE units as any device does. -/
def dispose (f disp seq product port : Nat) (s : State) : State :=
  if attached s && !deviceLocal product port then
    let m := s.twin.txNext
    let s := sendSeq 0x23 (disposedMsg f disp seq) s
    setFlow f { flow s f with disposed := some seq, gate := some m } s
  else if isShadow s && !deviceLocal product port then { s with twin.unitDrops := s.twin.unitDrops + 1 }
  else setFlow f { flow s f with disposed := some seq } s

/-- R343: the flow's last DISPOSED entry still waits for the Shadow's acknowledgement. -/
def gated (s : State) (f : Nat) : Bool :=
  match (flow s f).gate with
  | some m => paired s && (s.twin.replay.any (fun r => r.msg.mseq == m) || s.twin.waiting.any (fun r => r.mseq == m))
  | none => false

/-! ### Unit header, body and digest -/

/-- The bytes of a body's part. -/
def chunkBytes : Chunk → List Byte
  | .stamp t => stampBytes t
  | .flags fs => fs.flatMap (fun f => leBytes 2 f.toNat)
  | .bytes b => b

/-- R43: the bytes of a body's part as they enter the digest. -/
def chunkDigest (scope : Nat) : Chunk → List Byte
  | .stamp t => stampBytes (maskStamp scope t)
  | .flags fs => fs.flatMap (fun f => leBytes 2 (maskFlags scope f).toNat)
  | .bytes b => b

/-- R42: the output digest. -/
def unitDigest (scope product source items : Nat) (chunks : List Chunk) : Nat :=
  crc64 (leBytes 1 product ++ leBytes 1 source ++ leBytes 2 0 ++ leBytes 4 items ++ chunks.flatMap (chunkDigest scope))

/-- R302: the unit header. -/
def unitHeader (u : PUnit) (payload : List Byte) : List Byte :=
  let h := beBytes 2 0x5455 ++ beBytes 1 1 ++ beBytes 1 u.product ++ beBytes 1 u.source ++ beBytes 1 u.uflags ++ beBytes 2 u.flow ++
    beBytes 8 u.seq ++ beBytes 8 u.firstId ++ beBytes 4 u.epoch ++ beBytes 4 u.items ++ beBytes 4 u.bodyLen ++ beBytes 4 payload.length ++
    beBytes 8 u.digest ++ beBytes 8 u.launch ++ beBytes 4 (crc32c payload)
  h ++ beBytes 4 (crc32c h)

/-- R305, R308: LAUNCH of a unit: reference time + LAUNCH_DELAY, or 0; launch times do not apply to a local queue. -/
def launchOf (ent : List Byte) (refNs : Nat) : Nat := let d := leAt ent 24 4; if d = 0xFFFFFFFF ∨ leAt ent 3 1 = 3 then 0 else refNs + d

/-- R302: a product unit from a closed unit of a flow. -/
def formUnit (f seq scope epoch : Nat) (u : OpenUnit) : PUnit :=
  let body := u.chunks.flatMap chunkBytes
  let coded := leAt u.entry 7 1 % 2
  { flow := f, product := u.product, source := u.source, uflags := coded + 2 * b2n u.loss + 4 * b2n u.early + 8 * scope, seq := seq,
    firstId := u.firstId, epoch := epoch, items := u.rows, bodyLen := body.length,
    digest := unitDigest scope u.product u.source u.rows u.chunks, launch := launchOf u.entry u.launchRef, body := body, entry := u.entry }

/-! ### Admission -/

/-- The bytes that a transmit queue holds. -/
def queued (t : TxQueue) : Nat := (t.units.map (fun u => u.bytes.length - u.sent)).sum

/-- R288, R306: the bytes that an engine's unit holds in its transmit queue from its begin on: both headers and the code stream delivered at its last
stop. -/
def engineHolds (p q : Nat) (x : Engine) : Nat :=
  match x.unit with
  | some u => if leAt u.entry 3 1 = p ∧ leAt u.entry 4 1 = q then 96 + x.outDone else 0
  | none => 0

/-- R306: the free bytes of a transmit queue, as engine `e` finds them (20 for none). -/
def queueRoom (s : State) (p q e : Nat) : Nat :=
  prmN s (P.NETW_Q_BUF p q) * 2 ^ 20 - queued (txQueue (netPort s p) q) - ((s.cmpr.engines.filter (fun x => x.1 != e)).map (fun x => engineHolds p q x.2)).sum

/-- R306: a product unit as it stands in a transmit queue. -/
def txUnit (u : PUnit) (bytes : List Byte) (writer : Option Nat) : TxUnit :=
  { flow := u.flow, product := u.product, source := u.source, seq := u.seq, coded := bitOf u.uflags 0, launch := u.launch, entry := u.entry, bytes := bytes, writer := writer }

/-- R306: a coded unit enters its transmit queue as engine `e` begins to write it. -/
def enterQueue (e : Nat) (u : PUnit) (s : State) : State :=
  let p := leAt u.entry 3 1
  let x := netPort s p
  let t := txQueue x (leAt u.entry 4 1)
  if p = 3 then s else setNetPort p (setTxQueue x (leAt u.entry 4 1) { t with units := t.units ++ [txUnit u [] (some e)] }) s

/-- Every transmit queue keeps the units that `keep` admits. -/
def keepUnits (keep : TxUnit → Bool) (s : State) : State :=
  { s with netw.ports := s.netw.ports.map (fun p => (p.1, { p.2 with queues := p.2.queues.map (fun q => (q.1, { q.2 with units := q.2.units.filter keep })) })) }

/-- R306: a unit's payload enters its transmit queue whole, at the place that engine `e` holds for it, or, uncoded (20), at the end; the answer tells
whether it fits. -/
def admitUnit (e : Nat) (u : PUnit) (payload : List Byte) (s : State) : Bool × State :=
  let p := leAt u.entry 3 1
  let q := leAt u.entry 4 1
  let x := netPort s p
  let t := txQueue x q
  let bytes := unitHeader u payload ++ payload
  if bytes.length ≤ queueRoom s p q e then
    let held := t.units.any (fun v => v.writer == some e)
    (true, setNetPort p (setTxQueue x q { t with
      units := if held then t.units.map (fun v => if v.writer == some e then txUnit u bytes none else v) else t.units ++ [txUnit u bytes none] }) s)
  else (false, s)

/-- R306, R308: a unit that does not fit is dropped whole: it is counted and raises NET_DROP. The spec names no network port for a unit of a local
queue: the one that counts it is a free value. -/
def netDrop (u : PUnit) (s : State) : State :=
  let p := leAt u.entry 3 1
  let (v, s) := if p = 3 then fresh s else (p, s)
  let x := netPort s (v % 3)
  dispose u.flow 2 u.seq u.product p (raise (352 + 3 * (v % 3) + 1) u.flow (setNetPort (v % 3) { x with bufDrop := x.bufDrop + 1 } s))

/-- R308: a unit of a PORT 3 flow as one queue packet, or dropped whole. -/
def localUnit (u : PUnit) (payload : List Byte) (s : State) : State :=
  let (fits, s) := unitPush (leAt u.entry 28 2 % 1024) (wordsOf (unitHeader u payload ++ padTo 8 payload)) s
  if fits then s else netDrop u s

/-- R287: a unit is dropped whole at the coding backlog. -/
def cmprDrop (u : PUnit) (s : State) : State :=
  dispose u.flow 3 u.seq u.product (leAt u.entry 3 1) (raise 351 u.flow { s with cmpr.dropped := s.cmpr.dropped + 1 })

/-- R286, R287: a unit with coding enters the backlog, if its body fits in the region. -/
def enterBacklog (u : PUnit) (s : State) : State :=
  if (s.cmpr.backlog.map PUnit.bodyLen).sum + u.bodyLen ≤ prmN s P.CMPR_BACKLOG * 2 ^ 20 then { s with cmpr.backlog := s.cmpr.backlog ++ [u] }
  else cmprDrop u s

/-- R300, R306, R308: a formed unit takes its way: coding, the local queue or its transmit queue. A Shadow discards a unit
that the Active has disposed of (R343). -/
def routeUnit (u : PUnit) (s : State) : State :=
  if isShadow s && !deviceLocal u.product (leAt u.entry 3 1) && (match (flow s u.flow).disposed with | some q => decide (u.seq ≤ q) | none => false) then s
  else if bitOf u.uflags 0 then enterBacklog u s
  else if leAt u.entry 3 1 = 3 then localUnit u u.body s
  else let (fits, s) := admitUnit 20 u u.body s; if fits then s else netDrop u s

/-- R338, DIGESTS with one entry. -/
def digestEntryBytes (e : DigestEntry) : List Byte :=
  leBytes 1 e.product ++ leBytes 1 e.source ++ leBytes 2 e.flow ++ leBytes 4 e.epoch ++ leBytes 8 e.firstId ++ leBytes 8 e.seq ++ leBytes 8 e.digest

/-- R44: two entries name corresponding units. DESIGN CHOICE (log entry 84): their FLOW is the same as well, since two flows of one product may cut its
items into different units (R299). -/
def sameUnit (a b : DigestEntry) : Bool :=
  a.product == b.product && a.source == b.source && a.firstId == b.firstId && a.epoch == b.epoch && a.flow == b.flow

/-- R353: the first line of frame F per port and the stitched line n0 of the last join, or of the one in progress once it names them. -/
def compareBase (s : State) : Option (Map Nat × Nat) :=
  match s.twin.join with
  | some j => if s.twin.state = 4 then (j.line.map (fun n => (j.frames, n))) else s.twin.joinBase
  | none => s.twin.joinBase

/-- R353: digests are compared from frame F on port products and from line n0 on stitched products; a joiner that does not know them yet keeps none. An OBJ
unit is named by an object, not a line: the first one compared is the flow's first unit from n0 on, which the Active named. A PATCH unit is excluded by
its top (patchExcluded). -/
def comparable (s : State) (e : DigestEntry) : Bool :=
  e.product != 10 && e.product != 11 &&
    (match compareBase s with
     | none => s.twin.state != 4
     | some f =>
       let src := if e.product = 7 then prmAtN s e.epoch (P.PROF_SRC e.source) else e.source
       if e.product = 6 then true
       else if e.product = 5 then decide (((s.twin.joinFlows.find? e.flow).getD 0) ≤ e.seq)
       else if e.product = 3 ∨ e.product = 4 ∨ e.product = 9 ∨ (e.product = 7 ∧ src = 16) then decide (f.2 ≤ e.firstId)
       else decide ((f.1.find? src).getD 0 ≤ e.firstId))

/-- R344, R345: a divergence found by the Shadow. -/
def divergence (e : DigestEntry) (own : Nat) (s : State) : State :=
  let s := { s with twin.diverged := s.twin.diverged + 1 }
  let s := logDevice 368 0x0903 0 e.firstId s
  let s := sendSeq 0x30 (digestEntryBytes e ++ leBytes 8 own) s
  raiseOpen 368 s

/-- R344: a unit compared. -/
def compareUnit (own theirs : DigestEntry) (s : State) : State :=
  let s := { s with twin.compared := s.twin.compared + 1, twin.lastId := own.firstId, twin.lastProduct := own.product,
                    twin.lastResult := if own.digest = theirs.digest then 0 else 1 }
  if own.digest = theirs.digest then s else divergence theirs own.digest s

/-- R300: one second after the first entry of a LOG unit, the unit closes. -/
def execLogUnitTimeout (f : Fin 1024) (s : State) : Host.Outcome State Fault Refusal :=
  let x := flow s f.val
  match x.fill with
  | some u => .next (if u.product = 10 then setFlow f.val (closeFill false x) s else s)
  | none => .next s

/-! ### Frames (R297, R303) -/

/-- The sum of a byte string's 16-bit network-order words. -/
def sum16 : List Byte → Nat
  | [] => 0
  | [a] => a.toNat * 256
  | a :: b :: bs => a.toNat * 256 + b.toNat + sum16 bs

/-- One's complement checksum of a sum of words. -/
def inetSum (n : Nat) : Nat :=
  let a := n % 65536 + n / 65536
  let b := a % 65536 + a / 65536
  let c := b % 65536 + b / 65536
  65535 - c

/-- R298: an address of 16 bytes is an IPv4 address. -/
def isV4 (ip : List Byte) : Bool := ip.take 12 == List.replicate 10 0 ++ [0xFF, 0xFF]

/-- R303: the segment header. -/
def segHeader (u : TxUnit) (off len : Nat) : List Byte :=
  beBytes 2 0x5453 ++ beBytes 1 1 ++
  beBytes 1 (b2n (off == 0) + 2 * b2n (off + len == u.bytes.length) + 4 * b2n u.lateNs.isSome + 8 * b2n u.coded) ++
  beBytes 2 u.flow ++ beBytes 1 u.product ++ beBytes 1 u.source ++ beBytes 8 u.seq ++ beBytes 4 off ++ beBytes 4 u.bytes.length ++
  beBytes 2 len ++ beBytes 2 0 ++ beBytes 4 (min (u.lateNs.getD 0) 0xFFFFFFFF)

/-- R297: a UDP datagram with its checksum over the pseudo header. -/
def udpDatagram (pseudo : List Byte) (src dst : Nat) (data : List Byte) : List Byte :=
  let len := 8 + data.length
  let h := beBytes 2 src ++ beBytes 2 dst ++ beBytes 2 len
  let c := inetSum (sum16 pseudo + len + 17 + sum16 h + sum16 data)
  h ++ beBytes 2 (if c = 0 then 0xFFFF else c) ++ data

/-- R297: the IP address of a port, in network order. -/
def portIp (s : State) (p : Nat) (v4 : Bool) : List Byte :=
  if v4 then beBytes 4 (prmN s (P.NETW_IPV4 p)) else beBytes 8 (prmN s (P.NETW_IPV6_HI p)) ++ beBytes 8 (prmN s (P.NETW_IPV6_LO p))

/-- R297: the EtherType and headers of a packet to an address of 16 bytes; `l4` is what follows them, made from the addresses of the pseudo header. -/
def ipPacket (s : State) (p : Nat) (ip : List Byte) (dscp ttl proto : Nat) (l4 : List Byte → List Byte) : List Byte :=
  let addrs := portIp s p (isV4 ip) ++ (if isV4 ip then ip.drop 12 else ip)
  let data := l4 addrs
  if isV4 ip then
    let head := beBytes 1 0x45 ++ beBytes 1 (dscp * 4) ++ beBytes 2 (20 + data.length) ++ beBytes 2 0 ++ beBytes 2 0x4000 ++ beBytes 1 ttl ++ beBytes 1 proto
    beBytes 2 0x0800 ++ head ++ beBytes 2 (inetSum (sum16 head + sum16 addrs)) ++ addrs ++ data
  else beBytes 2 0x86DD ++ beBytes 4 (0x60000000 + dscp * 4 * 0x100000) ++ beBytes 2 data.length ++ beBytes 1 proto ++ beBytes 1 ttl ++ addrs ++ data

/-- R297: a frame without FCS, padded to the least length of Ethernet. -/
def etherFrame (s : State) (p : Nat) (dst rest : List Byte) : List Byte :=
  let f := dst ++ beBytes 6 (prmN s (P.NETW_MAC p)) ++ rest
  f ++ List.replicate (60 - f.length) 0

/-- R297, R303: the Ethernet frame of a segment, without FCS. -/
def segFrame (s : State) (p : Nat) (u : TxUnit) (len : Nat) : List Byte :=
  let e := u.entry
  let data := segHeader u u.sent len ++ (u.bytes.drop u.sent).take len
  let vlan := leAt e 20 2
  let tag := if bitOf vlan 12 then beBytes 2 0x8100 ++ beBytes 2 (vlan % 4096 + vlan / 8192 * 8192) else []
  etherFrame s p ((e.drop 48).take 6)
    (tag ++ ipPacket s p ((e.drop 32).take 16) (leAt e 5 1) (leAt e 14 1) 17 (fun a => udpDatagram a (leAt e 16 2) (leAt e 18 2) data))

/-- The DSCP and TTL of packets that no flow sends, which the spec does not state. -/
def hostDscp : Nat := Config.hostHeader 0 % 64

/-- See hostDscp. -/
def hostTtl : Nat := 1 + Config.hostHeader 1 % 255

/-- R50: the datagram of a Xesil reply: security header, packet and tag under the key of the command's slot. -/
def securedPacket (key : List Byte) (slot nonce : Nat) (packet : List Byte) : List Byte :=
  let body := leBytes 1 slot ++ leBytes 1 1 ++ leBytes 2 0 ++ leBytes 4 nonce ++ packet
  body ++ hmac key body

/-- R50: the key under which the command that now runs came in a slot. -/
def slotKey (slot : Nat) (s : State) : List Byte :=
  match s.sys.oldKey with
  | some (k, key) => if k = slot then key else (s.sys.keys.get {} slot).key
  | none => (s.sys.keys.get {} slot).key

/-- R50, R304: a Xesil reply to a datagram's sender joins queue 2 of MGT. -/
def udpReply (peer : Peer) (slot nonce : Nat) (packet : List Byte) (s : State) : State :=
  let data := securedPacket (slotKey slot s) slot nonce packet
  let frame := etherFrame s 2 (beBytes 6 peer.mac)
    (ipPacket s 2 (beBytes 16 peer.ip) hostDscp hostTtl 17 (fun a => udpDatagram a (prmN s P.SYS_MGT_UDP_PORT) peer.port data))
  let x := netPort s 2
  setNetPort 2 (setTxQueue x 2 { txQueue x 2 with grams := (txQueue x 2).grams ++ [frame] }) s

/-! ### Sending (R304, R305) -/

/-- R309, R331, R332, R350: the device may send a segment of a unit now. For 5 ms after a claim it sends none of any product. -/
def maySend (s : State) (p : Nat) (u : TxUnit) : Bool :=
  !s.twin.conflict && ((p == 2 && (u.product == 10 || u.product == 11)) ||
    (holdsClaim s && (u.begun || (s.twin.yielding.isNone && !s.twin.yieldDue && !gated s u.flow))))

/-- R350: a unit of a flow that yields with the claim has begun and is not complete. -/
def anyBegun (s : State) : Bool :=
  s.netw.ports.any (fun p => p.2.queues.any (fun q => q.2.units.any (fun u => u.begun && !deviceLocal u.product p.1)))

/-- R350 step 2: once the units that had begun are complete and their DISPOSED entries have gone out, YIELD follows. -/
def tryYield (s : State) : State :=
  if s.twin.yieldDue && !anyBegun s then
    let m := s.twin.txNext
    let s := sendSeq 0x31 [] s
    { s with twin.yielding := some m, twin.yieldDue := false, twin.yields := s.twin.yields + 1 }
  else s

/-- R304: what the shaper's credit of a queue lacks of a full frame, in thousandths of a bit, brought up to date. -/
def refill (s : State) (p q : Nat) (t : TxQueue) : TxQueue :=
  let now := monoNs s
  { t with
    debt := t.debt - (now - t.creditNs) * prmN s (P.NETW_Q_RATE p q)
    creditNs := now }

/-- R304, R305: a queue is eligible. -/
def eligibleQueue (s : State) (p q : Nat) (t : TxQueue) : Bool :=
  match t.units with
  | [] => !t.grams.isEmpty && !t.paused
  | u :: _ =>
    u.writer.isNone && (u.begun || decide (u.launch ≤ nowNs s)) && !t.paused &&
      (prmN s (P.NETW_Q_RATE p q) == 0 || t.debt == 0) && maySend s p u

/-- R305: nanoseconds by which a unit is late at its first segment. -/
def lateBy (s : State) (p q : Nat) (u : TxUnit) : Option Nat :=
  if u.launch = 0 ∨ nowNs s ≤ u.launch + prmN s (P.NETW_Q_LATE_TOL p q) then none else some (nowNs s - u.launch)

/-- R311: a frame leaves a port. -/
def frameOut (p : Nat) (out : NetOut) (frame : List Byte) (s : State) : State :=
  let x := netPort s p
  setNetPort p { x with frames := x.frames + 1, bytes := x.bytes + frame.length + 4 } { s with netw.sent := s.netw.sent ++ [out] }

/-- R304: one segment of the head unit of queue `q` leaves. -/
def sendHead (p q : Nat) (u : TxUnit) (rest : List TxUnit) (s : State) : State :=
  let x := netPort s p
  let t := txQueue x q
  let len := min (leAt u.entry 22 2) (u.bytes.length - u.sent)
  let frame := segFrame s p u len
  let wire := frame.length + 4
  let u' := { u with begun := true, sent := u.sent + len }
  let fin := decide (u.bytes.length ≤ u'.sent)
  let cost := if prmN s (P.NETW_Q_RATE p q) = 0 then 0 else wire * 8000
  let t := { t with units := if fin then rest else u' :: rest, debt := t.debt + cost }
  let x := setTxQueue { x with units := if fin then x.units + 1 else x.units, late := if fin ∧ u.lateNs.isSome then x.late + 1 else x.late } q t
  let s := frameOut p (.segment p u.flow u.seq u.sent frame) frame (setNetPort p x s)
  if fin then dispose u.flow 0 u.seq u.product p s else s

/-- R304, R305: at a frame boundary, the highest-numbered eligible queue sends a segment. A late head unit of a queue with
policy 1 is dropped, and the choice is made again. -/
def sendSegment (p : Nat) : Nat → State → State
  | 0, s => s
  | fuel + 1, s =>
    let x := netPort s p
    let n := if p = 2 then 4 else 8
    match ((List.range n).reverse).find? (fun q => eligibleQueue s p q (txQueue x q)) with
    | none => s
    | some q =>
      let t := txQueue x q
      match t.units with
      | [] => (match t.grams with
        | [] => s
        | g :: gs => frameOut p (.reply p g) g (setNetPort p (setTxQueue x q { t with grams := gs }) s))
      | u :: rest =>
        if u.begun then sendHead p q u rest s
        else match lateBy s p q u with
          | some ns =>
            if prmN s (P.NETW_Q_LATE_POLICY p q) = 1 then
              let x := setTxQueue { x with lateDrop := x.lateDrop + 1 } q { t with units := rest }
              sendSegment p fuel (dispose u.flow 1 u.seq u.product p (raise (352 + 3 * p + 2) u.flow (setNetPort p x s)))
            else sendHead p q { u with lateNs := some ns } rest s
          | none => sendHead p q u rest s

/-- R297: a frame waits ahead of every transmit queue. -/
def pushUrgent (p : Nat) (u : Urgent) (s : State) : State :=
  let x := netPort s p
  setNetPort p { x with urgent := x.urgent ++ [u] } s

/-! ### Ports -/

/-- R295: a change of link state raises NET_LINK with the state; a loss is counted. -/
def execNetLink (port : Fin 3) (up : Bool) (s : State) : Host.Outcome State Fault Refusal :=
  let p := port.val
  let x := netPort s p
  if x.linkUp = up then .next s
  else .next (raise (352 + 3 * p) (b2n up) (setNetPort p { x with linkUp := up, losses := if up then x.losses else x.losses + 1 } s))

/-- R296: a pause frame stops all frames where PAUSE_EN is 1, and a PFC frame stops the queues of its priorities where it
is 2; other kinds are counted and ignored. `stop` and `go` are the priorities with a time and with time 0. -/
def execPauseFrameReceived (port : Fin 3) (pfc : Bool) (stop go : List (Fin 8)) (s : State) : Host.Outcome State Fault Refusal :=
  let p := port.val
  let x := netPort s p
  let x := if pfc then { x with rx := x.rx + 1, pfcRx := x.pfcRx + 1 } else { x with rx := x.rx + 1, pauseRx := x.pauseRx + 1 }
  let en := prmN s (P.NETW_PAUSE_EN p)
  let x := if !pfc && en == 1 then { x with paused := !stop.isEmpty }
    else if pfc && en == 2 then
      forEach go (fun k x => setTxQueue x k.val { txQueue x k.val with paused := false })
        (forEach stop (fun k x => setTxQueue x k.val { txQueue x k.val with paused := true }) x)
    else x
  .next (setNetPort p x s)

/-- R296: a pause time runs out. -/
def execPauseExpiry (port : Fin 3) (prio : Option (Fin 8)) (s : State) : Host.Outcome State Fault Refusal :=
  let p := port.val
  let x := netPort s p
  match prio with
  | none => .next (setNetPort p { x with paused := false } s)
  | some k => .next (setNetPort p (setTxQueue x k.val { txQueue x k.val with paused := false }) s)

/-- R296: a received frame that the port uses. -/
def countRx (p : Nat) (s : State) : State := setNetPort p { netPort s p with rx := (netPort s p).rx + 1 } s

/-- R296: a received frame that the port does not use is discarded and counted. -/
def unclaimed (p : Nat) (s : State) : State :=
  let x := netPort s p
  setNetPort p { x with rx := x.rx + 1, unclaimed := x.unclaimed + 1 } s

/-- R296: the answer to an address request: an ARP reply, or a neighbour advertisement. -/
def addressFrame (s : State) (p : Nat) (v6 : Bool) (peer : Peer) (solicited : Bool) : List Byte :=
  let mac := beBytes 6 (prmN s (P.NETW_MAC p))
  if v6 then
    let body := beBytes 1 136 ++ beBytes 1 0
    let rest := beBytes 4 (if solicited then 0x60000000 else 0x20000000) ++ portIp s p false ++ beBytes 1 2 ++ beBytes 1 1 ++ mac
    etherFrame s p (beBytes 6 peer.mac) (ipPacket s p (beBytes 16 peer.ip) hostDscp 255 58 (fun a =>
      body ++ beBytes 2 (inetSum (sum16 a + 58 + 4 + rest.length + sum16 body + sum16 rest)) ++ rest))
  else
    etherFrame s p (beBytes 6 peer.mac) (beBytes 2 0x0806 ++ beBytes 2 1 ++ beBytes 2 0x0800 ++ beBytes 1 6 ++ beBytes 1 4 ++ beBytes 2 2 ++ mac ++ portIp s p true ++
      beBytes 6 peer.mac ++ beBytes 4 (peer.ip % 2 ^ 32))

/-- R297: an answer to an address request leaves ahead of the queues. -/
def sendAddress (p : Nat) (v6 : Bool) (peer : Peer) (solicited : Bool) (s : State) : State :=
  pushUrgent p (.frame (.arpReply p v6 (addressFrame s p v6 peer solicited))) s

/-- R296: an address is the port's own. -/
def ownAddress (s : State) (p : Nat) (v6 : Bool) (addr : Nat) : Bool :=
  let own := if v6 then prmN s (P.NETW_IPV6_HI p) * 2 ^ 64 + prmN s (P.NETW_IPV6_LO p) else prmN s (P.NETW_IPV4 p)
  own != 0 && addr == own

/-- R296, R309: a request for the port's own address is answered; NET0 and NET1 answer only with the claim. -/
def execArpRequest (port : Fin 3) (v6 : Bool) (ask : AddressAsk) (s : State) : Host.Outcome State Fault Refusal :=
  let p := port.val
  .next (if ownAddress s p v6 ask.addr && (p == 2 || holdsClaim s) then sendAddress p v6 ask.peer true (countRx p s) else unclaimed p s)

/-- R296: the answer to an echo request, with its identifier and sequence number and its data. -/
def echoFrame (s : State) (v6 : Bool) (ident : Nat) (data : List Byte) (peer : Peer) : List Byte :=
  let rest := beBytes 4 ident ++ data
  let head := beBytes 2 (if v6 then 129 * 256 else 0)
  etherFrame s 2 (beBytes 6 peer.mac) (ipPacket s 2 (beBytes 16 peer.ip) hostDscp hostTtl (if v6 then 58 else 1) (fun a =>
    let pseudo := if v6 then sum16 a + 58 + 4 + rest.length else 0
    head ++ beBytes 2 (inetSum (pseudo + sum16 head + sum16 rest)) ++ rest))

/-- R296, R297: MGT answers echo requests. -/
def execIcmpEchoRequest (port : Fin 3) (v6 : Bool) (ask : EchoAsk) (s : State) : Host.Outcome State Fault Refusal :=
  .next (if port.val = 2 ∧ ownAddress s 2 v6 ask.addr = true then
    pushUrgent 2 (.frame (.echoReply 2 v6 ask.data (echoFrame s v6 ask.ident ask.data ask.peer))) (countRx 2 s)
  else unclaimed port.val s)

/-- R296, R311: a frame that is too long or has a bad FCS, or that nothing claims, is discarded and counted, with the codewords that the port's FEC
has corrected, or failed to correct, since the last such frame. -/
def execFrameDiscarded (port : Fin 3) (f : BadFrame) (s : State) : Host.Outcome State Fault Refusal :=
  let p := port.val
  let x := netPort s p
  let s := if p < 2 ∧ prmN s (P.NETW_FEC p) = 1 then setNetPort p { x with fecOk := x.fecOk + f.fecOk, fecBad := x.fecBad + f.fecBad } s else s
  let x := netPort s p
  .next (if f.badOrLong then setNetPort p { x with rx := x.rx + 1, badRx := x.badRx + 1 } s else unclaimed p s)

end Sys2Proof.Machine
end

