-- ==== Sys2Proof/Machine/Phrase.lean ====
section
/-! DEFINITION. Machine/Phrase.lean: lossless phrase coding (chapter "Lossless Phrase Coding"): the predictor, the encoder
and the decoder, as functions of a body and its coding parameters. -/
namespace Sys2Proof.Machine

/-- R273, R276: predictor, geometry and full policy of a coded unit. -/
structure Coding where
  pred       : Nat := 0
  stepX      : Nat := 1
  stepY      : Nat := 1
  rowPre     : Nat := 0
  lead       : Nat := 0
  rowSamples : Nat := 0
  fullReset  : Bool := false
  deriving DecidableEq, Repr

/-! ### Prediction (R275) -/

/-- The prediction of a sample from its left and upper neighbours. -/
def predict (pred : Nat) (left up : Option Nat) : Nat :=
  match pred with
  | 1 => (left.orElse (fun _ => up)).getD 0
  | 2 => (up.orElse (fun _ => left)).getD 0
  | _ => match left, up with
    | some l, some u => (rnd ((l : Int) + u) 1).toNat
    | some l, none => l
    | none, some u => u
    | none, none => 0

/-- The zigzag code of a sample less its prediction. -/
def zigzag (x p : Nat) : Nat :=
  let d := ofCode 16 (x + 65536 - p % 65536)
  if 0 ≤ d then (2 * d).toNat else (-2 * d - 1).toNat

/-- The sample that a zigzag code and a prediction give. -/
def unzigzag (z p : Nat) : Nat :=
  if z % 2 = 0 then (p + z / 2) % 65536 else (p + 65536 - (z / 2 + 1)) % 65536

/-- The samples of a row, coded or decoded by `f`, with the row's own results or sources so far in `prev`. `orig` collects
the uncoded samples, which are the neighbours on both sides. -/
def codeRow (c : Coding) (dec : Bool) (up : Option (List Nat)) : List Nat → List Nat → List Nat → List Nat × List Nat
  | [], orig, out => (orig, out)
  | v :: vs, orig, out =>
    let k := orig.length
    let left := if c.stepX ≤ k then orig[k - c.stepX]? else none
    let p := predict c.pred left (up.bind (fun r => r[k]?))
    let x := if dec then unzigzag v p else v
    codeRow c dec up vs (orig ++ [x]) (out ++ [if dec then x else zigzag v p])

/-- The 16-bit samples of a byte string. -/
def samplesOf (bs : List Byte) : List Nat := (List.range (bs.length / 2)).map (fun i => leAt bs (2 * i) 2)

/-- Rows in order, newest row of neighbours first. -/
def codeRows (c : Coding) (dec : Bool) : Nat → List Byte → List (List Nat) → List Byte
  | 0, bs, _ => bs
  | fuel + 1, bs, rows =>
    let n := c.rowPre + 2 * c.rowSamples
    if bs.length < n ∨ n = 0 then bs
    else
      let r := (bs.drop c.rowPre).take (2 * c.rowSamples)
      let up := if c.stepY ≤ rows.length then rows[c.stepY - 1]? else none
      let (orig, out) := codeRow c dec up (samplesOf r) [] []
      bs.take c.rowPre ++ out.flatMap (leBytes 2) ++ codeRows c dec fuel (bs.drop n) ((orig :: rows).take 2)

/-- R275: the predicted body, or with `dec` the body again. -/
def predictBody (c : Coding) (dec : Bool) (bs : List Byte) : List Byte :=
  if c.pred = 0 then bs else bs.take c.lead ++ codeRows c dec bs.length (bs.drop c.lead) []

/-! ### The encoder (R277, R282, R283) -/

/-- R277: the width of a code while N is the next free entry. -/
def codeWidth (n : Nat) : Nat := min 16 (max 9 (Nat.log2 n + 1))

/-- A bit field of the code stream: value and width (R274). -/
abbrev BitField := Nat × Nat

/-- R274: fields packed least significant bit first; `acc` holds `k` bits not yet written. -/
def packBits : List BitField → Nat → Nat → List Byte
  | [], acc, k => if k = 0 then [] else [BitVec.ofNat 8 acc]
  | (v, w) :: fs, acc, k =>
    let t := acc + v * 2 ^ k
    let n := (k + w) / 8
    leBytes n t ++ packBits fs (t / 256 ^ n) ((k + w) % 8)

/-- The bits of a list of fields. -/
def bitCount (fs : List BitField) : Nat := (fs.map Prod.snd).sum

/-- The state that the encoder carries: phrases from entry 264 on, the previous phrase, the hash table (position by
hash), and counts of stored blocks, coded blocks, RESET codes and back-references (R293). -/
structure EncState where
  phrases : List (List Byte) := []
  prev    : Option (List Byte) := none
  hash    : List (Nat × Nat) := []
  stored  : Nat := 0
  coded   : Nat := 0
  resets  : Nat := 0
  refs    : Nat := 0
  deriving DecidableEq, Repr

/-- N of R277. -/
def nextEntry (e : EncState) : Nat := 264 + e.phrases.length

/-- R283: the hash of four bytes. -/
def hash4 (bs : List Byte) : Nat :=
  let b := fun i => ((bs[i]?).getD 0).toNat
  Nat.xor (Nat.xor (b 0) (b 1 * 8)) (Nat.xor (b 2 * 64) (b 3 * 512)) % 4096

/-- A table entry of the hash table. -/
def hashGet (h : List (Nat × Nat)) (k : Nat) : Option Nat := (h.find? (fun p => p.1 == k)).map Prod.snd

/-- Set a table entry of the hash table. -/
def hashSet (h : List (Nat × Nat)) (k v : Nat) : List (Nat × Nat) := (k, v) :: h.filter (fun p => p.1 != k)

/-- R278, R283: the entry that a code adds after a previous phrase. -/
def addPhrase (b : Byte) (e : EncState) : EncState :=
  match e.prev with
  | some p => if p.length < 256 ∧ nextEntry e < 65536 then { e with phrases := e.phrases ++ [p ++ [b]] } else e
  | none => e

/-- R283: the longest entry that the input begins with; ties go to the lowest code. -/
def longestMatch (e : EncState) (inp : List Byte) : Nat × Nat :=
  (e.phrases.zipIdx).foldl (fun best p => if best.1 < p.1.length ∧ p.1.isPrefixOf inp then (p.1.length, 264 + p.2) else best)
    (1, ((inp.head?).getD 0).toNat)

/-- How many leading bytes of two strings agree. -/
def agree : List Byte → List Byte → Nat
  | a :: as, b :: bs => if a = b then agree as bs + 1 else 0
  | _, _ => 0

/-- R283: positions i, i + 1, … below `j` enter the hash table. -/
def hashFill (body : List Byte) (i len : Nat) (h : List (Nat × Nat)) : List (Nat × Nat) :=
  (List.range len).foldl (fun h k => if i + k + 3 < body.length then hashSet h (hash4 ((body.drop (i + k)).take 4)) (i + k) else h) h

/-- R283: parse positions i to E of a block; the answer is the fields and the state. -/
def parseBlock (body : List Byte) (e1 : Nat) : Nat → Nat → EncState → List BitField → List BitField × EncState
  | 0, _, st, acc => (acc, st)
  | fuel + 1, i, st, acc =>
    if e1 ≤ i then (acc, st)
    else
      let w := codeWidth (nextEntry st)
      let inp := (body.drop i).take (e1 - i)
      let st := addPhrase ((inp.head?).getD 0) st
      let (ld, c) := longestMatch st inp
      let cand := if i + 4 ≤ e1 then hashGet st.hash (hash4 (inp.take 4)) else none
      let lb := match cand with
        | some j => if i - j ≤ 65536 then agree (inp.take 259) (body.drop j) else 0
        | none => 0
      let ref := decide (4 ≤ lb ∧ ld + 3 ≤ lb)
      let len := if ref then lb else ld
      let fs : List BitField := if ref then [(259, w), (lb - 4, 8), (i - cand.getD 0 - 1, 16)] else [(c, w)]
      let str := inp.take len
      parseBlock body e1 fuel (i + len)
        { st with hash := hashFill body i len st.hash, prev := if len ≤ 256 then some str else none, refs := if ref then st.refs + 1 else st.refs }
        (acc ++ fs)

/-- R282: code one block [b, e1): the fields appended to a stream of `bits` bits, and the state. -/
def codeBlock (c : Coding) (body : List Byte) (b e1 bits : Nat) (st : EncState) : List BitField × EncState :=
  let full := decide (nextEntry st = 65536) && c.fullReset
  let pre : List BitField := if full then [(257, 16)] else []
  let st := if full then { st with phrases := [], prev := none, resets := st.resets + 1 } else st
  let n0 := st.phrases.length
  let w0 := codeWidth (nextEntry st)
  let (trial, st') := parseBlock body e1 (e1 - b) b st []
  if bitCount trial > 8 * (e1 - b) + w0 + 16 then
    let head := pre ++ [(258, w0), (e1 - b - 1, 16)]
    let pad := (8 - (bits + bitCount head) % 8) % 8
    (head ++ [(0, pad)] ++ ((body.drop b).take (e1 - b)).map (fun x => (x.toNat, 8)),
     { st' with phrases := st'.phrases.take n0, prev := none, refs := st.refs, stored := st.stored + 1 })
  else (pre ++ trial, { st' with coded := st'.coded + 1 })

/-- R282: the blocks of a body from position b. -/
def codeBlocks (c : Coding) (body : List Byte) : Nat → Nat → Nat → EncState → List BitField → List BitField × EncState
  | 0, _, _, st, acc => (acc, st)
  | fuel + 1, b, bits, st, acc =>
    if body.length ≤ b then (acc, st)
    else
      let e1 := min (b + 4096) body.length
      let (fs, st) := codeBlock c body b e1 bits st
      codeBlocks c body fuel e1 (bits + bitCount fs) st (acc ++ fs)

/-- R282: the code stream of a body, and the encoder's state at END. -/
def encodeStream (c : Coding) (body : List Byte) : List Byte × EncState :=
  let inp := predictBody c false body
  let (fs, st) := codeBlocks c inp (inp.length / 4096 + 1) 0 0 {} []
  (packBits (fs ++ [(256, codeWidth (nextEntry st))]) 0 0, st)

/-- R282: the blocks of a predicted body: for each block start, and for the end, its position, the bits of the code stream before it, and N. -/
def blockMarks (c : Coding) (inp : List Byte) : Nat → Nat → Nat → EncState → List (Nat × Nat × Nat)
  | 0, b, bits, st => [(b, bits, nextEntry st)]
  | fuel + 1, b, bits, st =>
    (b, bits, nextEntry st) ::
      (if inp.length ≤ b then []
       else
         let e1 := min (b + 4096) inp.length
         let (fs, st) := codeBlock c inp b e1 bits st
         blockMarks c inp fuel e1 (bits + bitCount fs) st)

/-- R288: the block that an encoder has in hand once `t` bytes of its code stream have been delivered: where it begins and ends, and N there. -/
def blockAt (c : Coding) (body : List Byte) (t : Nat) : (Nat × Nat) × (Nat × Nat) :=
  let inp := predictBody c false body
  let ms := blockMarks c inp (inp.length / 4096 + 1) 0 0 {}
  let below := ms.filter (fun m => decide (m.2.1 ≤ 8 * t))
  let lo := (below.getLast?).getD (0, 0, 264)
  let hi := (ms[below.length]?).getD lo
  ((lo.1, hi.1), (lo.2.2, hi.2.2))

/-- The value nearest to another between two bounds. -/
def between (r : Nat × Nat) (v : Nat) : Nat := max (min r.1 r.2) (min v (max r.1 r.2))

/-- R273: the coding header. -/
def codingHeader (c : Coding) (rawLen codedLen : Nat) : List Byte :=
  let h := leBytes 2 0x4350 ++ leBytes 1 1 ++ leBytes 1 c.pred ++ leBytes 1 (if c.pred = 0 then 1 else c.stepX) ++
    leBytes 1 (if c.pred = 0 then 1 else c.stepY) ++ leBytes 2 (if c.pred = 0 then 0 else c.rowPre) ++
    leBytes 4 (if c.pred = 0 then 0 else c.lead) ++ leBytes 4 (if c.pred = 0 then 0 else c.rowSamples) ++
    leBytes 4 rawLen ++ leBytes 4 codedLen ++ leBytes 1 (if c.fullReset then 1 else 0) ++ leBytes 3 0
  h ++ leBytes 4 (crc32c h)

/-- R272: the coded unit of a body. -/
def codedUnit (c : Coding) (body : List Byte) : List Byte :=
  let cs := (encodeStream c body).1
  codingHeader c body.length cs.length ++ cs

/-! ### The decoder (R278 to R281, R285) -/

/-- A decoder error: the status of R285 and the bit offset. -/
abbrev DecError := Nat × Nat

/-- The result of decoding: an error, or the bytes. -/
inductive Decoded where
  | error (status offset : Nat)
  | bytes (bs : List Byte)
  deriving DecidableEq, Repr

/-- R281: read a field of `w` bits at a bit position; none beyond the end of the stream. -/
def readBits (cs : List Byte) (pos w : Nat) : Option Nat :=
  if pos + w ≤ 8 * cs.length then
    some (leAt cs (pos / 8) ((w + 7) / 8 + 1) / 2 ^ (pos % 8) % 2 ^ w)
  else none

/-- R279: copy bytes one at a time from a distance before the end of output. -/
def copyBack (dist : Nat) : Nat → List Byte → List Byte
  | 0, _ => []
  | n + 1, out =>
    let b := (out[out.length - dist]?).getD 0
    b :: copyBack dist n (out ++ [b])

/-- R278: decode from bit `pos` on. `avail` is what of the stream the source holds, `cl` CODED_LEN. -/
def decodeLoop (avail : List Byte) (cl rawLen : Nat) : Nat → Nat → EncState → List Byte → Decoded
  | 0, pos, _, _ => .error 0x0709 pos
  | fuel + 1, pos, st, out =>
    let w := codeWidth (nextEntry st)
    let emit := fun (str : List Byte) (pos' : Nat) =>
      if rawLen < out.length + str.length then Decoded.error 0x0708 pos
      else
        let st := addPhrase ((str.head?).getD 0) st
        decodeLoop avail cl rawLen fuel pos' { st with prev := if str.length ≤ 256 then some str else none } (out ++ str)
    match readBits avail pos w with
    | none => .error 0x0709 pos
    | some code =>
      let p := pos + w
      if code = 256 then
        if readBits avail p ((8 - p % 8) % 8) ≠ some 0 ∨ (p + 7) / 8 ≠ cl then .error 0x0706 pos
        else if out.length < rawLen then .error 0x0709 pos
        else .bytes out
      else if code = 257 then decodeLoop avail cl rawLen fuel p { st with phrases := [], prev := none } out
      else if code = 258 then
        match readBits avail p 16 with
        | none => .error 0x0709 pos
        | some l =>
          let q := p + 16
          let pad := (8 - q % 8) % 8
          match readBits avail q pad with
          | none => .error 0x0709 pos
          | some z =>
            if z ≠ 0 then .error 0x0706 pos
            else if rawLen < out.length + l + 1 then .error 0x0708 pos
            else if avail.length < (q + pad) / 8 + l + 1 then .error 0x0709 pos
            else decodeLoop avail cl rawLen fuel (q + pad + 8 * (l + 1)) { st with prev := none } (out ++ (avail.drop ((q + pad) / 8)).take (l + 1))
      else if 260 ≤ code ∧ code ≤ 263 then .error 0x0706 pos
      else if code = 259 then
        match readBits avail p 8, readBits avail (p + 8) 16 with
        | some l, some d => if out.length < d + 1 then .error 0x0707 pos else emit (copyBack (d + 1) (l + 4) out) (p + 24)
        | _, _ => .error 0x0709 pos
      else if code ≤ 255 then emit [BitVec.ofNat 8 code] p
      else if code < nextEntry st then emit ((st.phrases[code - 264]?).getD []) p
      else if code = nextEntry st then
        match st.prev with
        | some pr => if pr.length < 256 then emit (pr ++ pr.take 1) p else .error 0x0708 pos
        | none => .error 0x0706 pos
      else .error 0x0706 pos

/-- R285: the first fault of a coding header: the bit offset of the field. -/
def headerFault (h : List Byte) : Option Nat :=
  if leAt h 0 2 ≠ 0x4350 then some 0
  else if leAt h 2 1 ≠ 1 then some 16
  else if leAt h 28 4 ≠ crc32c (h.take 28) then some 224
  else if 3 < leAt h 3 1 then some 24
  else if leAt h 4 1 < 1 ∨ 3 < leAt h 4 1 then some 32
  else if leAt h 5 1 < 1 ∨ 2 < leAt h 5 1 then some 40
  else if 1 < leAt h 24 1 then some 192
  else if leAt h 25 3 ≠ 0 then some 200
  else none

/-- The coding parameters of a header (R273). -/
def headerCoding (h : List Byte) : Coding :=
  { pred := leAt h 3 1, stepX := leAt h 4 1, stepY := leAt h 5 1, rowPre := leAt h 6 2, lead := leAt h 8 4, rowSamples := leAt h 12 4, fullReset := leAt h 24 1 == 1 }

/-- R285, R291: decode a coded unit. -/
def decodeUnit (src : List Byte) : Decoded :=
  if src.length < 32 then .error 0x0709 0
  else match headerFault src with
    | some off => .error 0x0706 off
    | none =>
      let cl := leAt src 20 4
      let avail := (src.drop 32).take cl
      match decodeLoop avail cl (leAt src 16 4) (8 * cl + 2) 0 {} [] with
      | .bytes bs => .bytes (predictBody (headerCoding src) true bs)
      | e => e

end Sys2Proof.Machine
end

