-- ==== Sys2Proof/Machine/Reply.lean ====
section
/-! DEFINITION. Machine/Reply.lean: the frame in which every Xesil command runs (chapter "Xesil Command Packets"): rights, the
checks of R63 from step 7 on, replies, deferral, caching, mirroring and the log entry of R93. -/
namespace Sys2Proof.Machine

/-! ### The opcode table (R65) -/

/-- A row of the opcode table: open to SUP and APP-S always unless `sup` or `appS` is false; MGMT 0 no, 1 either role, 2
administrative; whether it changes state. -/
structure OpRow where
  sup  : Bool := true
  twin : Bool := false
  appS : Bool := true
  appN : Bool := false
  mgmt : Nat := 0
  ht   : Bool := false
  sc   : Bool := false
  deriving DecidableEq, Repr

/-- R65, open to all. -/
def openAll : OpRow := { twin := true, appN := true, mgmt := 1, ht := true }

/-- R65: the row of an opcode. -/
def opRow (op : Nat) (h : Hdr) : OpRow :=
  if op = 0x0001 ∨ op = 0x0002 then { sup := false, appS := false, mgmt := 1 }
  else if op = 0x0003 then { twin := true, appN := true, ht := true }
  else if op = 0x0006 then { mgmt := 2, ht := true, sc := true }
  else if op = 0x0007 then { sup := false, appN := true, mgmt := 1, ht := true }
  else if op = 0x0101 ∨ op = 0x0102 ∨ op = 0x0104 ∨ op = 0x0105 ∨ op = 0x0201 then { openAll with sc := true }
  else if op = 0x0103 ∨ op = 0x0202 ∨ op = 0x0401 ∨ op = 0x0901 then { appN := true, mgmt := 1, ht := true }
  else if op = 0x0106 then { twin := true, appN := true, sc := true }
  else if op = 0x0107 then { twin := true, mgmt := 1, sc := true }
  else if op = 0x0108 ∨ op = 0x0903 ∨ op = 0x0904 then { twin := true, mgmt := 2, sc := true }
  else if op = 0x0402 then { appN := true, mgmt := 1, ht := true, sc := true }
  else if op = 0x0403 then { mgmt := 2, sc := true }
  else if op = 0x0501 ∨ op = 0x0502 then { twin := true, mgmt := if h.force then 2 else 1, sc := true }
  else if op = 0x0503 then { twin := true, mgmt := 1, sc := true }
  else if op = 0x0504 ∨ op = 0x0601 then { appN := true, mgmt := 1 }
  else if op = 0x0602 ∨ op = 0x0603 then { twin := true, mgmt := 1, sc := true }
  else if op = 0x0701 ∨ op = 0x0702 ∨ op = 0x0703 then { appN := true }
  else if op = 0x0802 ∨ op = 0x0803 ∨ op = 0x0804 ∨ op = 0x0905 ∨ op = 0x0906 ∨ op = 0x0908 then { mgmt := 2, sc := true }
  else if op = 0x0902 then { mgmt := 1, ht := true }
  else if op = 0x0907 then { mgmt := 2, ht := true, sc := true }
  else if op = 0x0A02 then { mgmt := 1, sc := true }
  else if op = 0x0A03 then { mgmt := 1, ht := true, sc := true }
  else if op = 0x0A04 then { mgmt := 2, ht := true, sc := true }
  else openAll

/-- R65: mirrored opcodes: state-changing and open to T. -/
def isMirrored (op : Nat) (h : Hdr) : Bool := (opRow op h).sc && (opRow op h).twin

/-- A key slot with the administrative role exists (R65, KEY_PROVISION). -/
def hasAdmin (s : State) : Bool := s.sys.keys.any (fun k => k.2.role == 2)

/-! ### Sessions -/

/-- R48: the fixed session of a transport. -/
def fixedSession : Via → Option Nat
  | .mailbox p => some (p.val + 1)
  | .udp _ _ _ => none
  | .ht => some 5
  | .shaesh => some 6

/-- R48, R55: a session: the fixed ones always exist. -/
def session (s : State) (n : Nat) : Option Session :=
  match s.sys.sessions.find? n with
  | some x => some x
  | none =>
    if 1 ≤ n ∧ n ≤ 4 then some { via := .mailbox ⟨(n - 1) % 4, Nat.mod_lt _ (by decide)⟩ }
    else if n = 5 then some { via := .ht }
    else if n = 6 then some { via := .shaesh }
    else none

/-- Replace a session. -/
def setSession (n : Nat) (x : Session) (s : State) : State := { s with sys.sessions := Map.insert s.sys.sessions n x }

/-- R88: a principal's security. -/
def secureP (s : State) (p : Principal) (role : Nat) : Bool :=
  match p with
  | .appN => false
  | .mgmt => role == 2
  | .hosttw => prmB s P.SYS_HT_SECURE
  | .dbg => s.core.unlocked
  | _ => true

/-- R89: an item of an owner and unit is open to a principal. DESIGN CHOICE (log entry 83): a clear bit of GRANT takes every item of the unit from its
principal, those that APP-N itself owns among them (R7); the write rights of register windows do not ask it. -/
def openTo (s : State) (p : Principal) (role owner unit : Nat) : Bool :=
  let granted := p.code < 3 || bitOf (prmN s (P.SYS_GRANT unit)) p.code
  match p with
  | .sup => owner != 255
  | .twin => true
  | .appS => owner == 2 || owner == 3
  | .appN => owner == 3 && granted
  | .mgmt => ((owner == 2 && role == 2) || owner == 3) && granted
  | .hosttw => (owner == 2 || owner == 3) && granted
  | .dbg => s.core.unlocked && granted

/-- R90: the status that refuses a principal an item that it stages or addresses, or that it reads. -/
def itemErr (s : State) (p : Principal) (role owner unit : Nat) (read : Bool) : Option Nat :=
  if p = .twin then none
  else if read && owner == 0 then none
  else if !secureP s p role && (owner == 0 || owner == 2) then some 0x0204
  else if openTo s p role owner unit then none else some 0x0201

/-- R68: the codes of failures that a command can be answered with: 0x0101 and 0x0203 have no reply. -/
def errorCodes : List Nat :=
  ([0x0102, 0x0103, 0x0104, 0x0105, 0x0106, 0x0107, 0x0108, 0x0109, 0x010B] : List Nat) ++
  ([0x0201, 0x0202, 0x0204, 0x0205, 0x0206, 0x0208, 0x0301, 0x0302, 0x0303, 0x0304, 0x0305, 0x0306] : List Nat) ++
  ([0x0401, 0x0402, 0x0403, 0x0404, 0x0405, 0x0406, 0x0407, 0x0501, 0x0502, 0x0503, 0x0504, 0x0505, 0x0506, 0x0507, 0x0508] : List Nat) ++
  ([0x0601, 0x0602, 0x0603, 0x0604, 0x0701, 0x0702, 0x0703, 0x0704, 0x0705, 0x0706, 0x0707, 0x0708, 0x0709, 0x070A] : List Nat) ++
  ([0x0801, 0x0802, 0x0803, 0x0804, 0x0901, 0x0902, 0x0903, 0x0904, 0x0905, 0x0906] : List Nat)

/-! ### Packets -/

/-- R46: the flags of a command. -/
def hdrFlags (h : Hdr) : Nat := b2n h.force + 2 * b2n h.epochCheck + 4 * b2n h.quiet + 8 * b2n h.mirrored

/-- R46: the bytes of a command packet without its trailer. -/
def cmdBytes (op : Nat) (h : Hdr) (params : List Byte) : List Byte :=
  leBytes 2 0x5358 ++ leBytes 1 1 ++ leBytes 1 0 ++ leBytes 2 op ++ leBytes 2 h.tag ++ leBytes 4 h.session ++ leBytes 4 h.seq ++
  leBytes 2 0 ++ leBytes 2 (hdrFlags h) ++ leBytes 4 params.length ++ leBytes 4 h.epoch ++ leBytes 4 0 ++ padTo 8 params

/-- R47: the CRC in a command's trailer. -/
def trailerOf (op : Nat) (h : Hdr) (params : List Byte) : Nat := crc32c (cmdBytes op h (h.raw.getD params))

/-- R46, R47: the bytes of a whole command packet. -/
def packetOf (op : Nat) (h : Hdr) (params : List Byte) : List Byte :=
  let b := cmdBytes op h params
  b ++ leBytes 4 (crc32c b) ++ leBytes 4 0

/-- R46, R47: the bytes of a reply packet. -/
def replyBytes (r : Reply) : List Byte :=
  let b := leBytes 2 0x5358 ++ leBytes 1 1 ++ leBytes 1 1 ++ leBytes 2 r.opcode ++ leBytes 2 r.tag ++ leBytes 4 r.session ++
    leBytes 4 r.seq ++ leBytes 2 r.status ++ leBytes 2 (16 * b2n r.interim + 32 * b2n r.more) ++ leBytes 4 r.params.length ++
    leBytes 4 r.epoch ++ leBytes 1 r.principal ++ leBytes 1 r.via.code ++ leBytes 2 0 ++ padTo 8 r.params
  b ++ leBytes 4 (crc32c b) ++ leBytes 4 0

/-- R52: a reply reaches HT: the state becomes 2 unless an overrun stands. The reply waits until the one before it is read. -/
def htReply (bs : List Byte) (s : State) : State :=
  if s.ht.reply ≠ [] then { s with ht.state := if s.ht.state = 3 then 3 else 2, ht.waiting := s.ht.waiting ++ [bs] }
  else htCause 0 { s with ht.state := if s.ht.state = 3 then 3 else 2, ht.reply := bs }

/-- R48 to R50, R52: a reply leaves on its transport. -/
def emit (r : Reply) (s : State) : State :=
  let s := { s with sys.outbox := s.sys.outbox ++ [r] }
  match r.via with
  | .mailbox p => (unitPush (1017 + 2 * p.val) (wordsOf (replyBytes r)) s).2
  | .udp peer slot nonce => udpReply peer slot nonce (replyBytes r) s
  | .ht => htReply (replyBytes r) s
  | .shaesh => sendSeq 0x11 (replyBytes r) s

/-- R54: the replies of a command wait for the Shadow's acknowledgement. -/
def ackWaits (s : State) (sess seq : Nat) : Bool := s.twin.mirrors.any (fun m => !m.acked && m.session == sess && m.seq == seq)

/-- R57: the supervisor waits: a reply to a mirrored command has not been sent. -/
def replyWaits (s : State) : Bool := s.twin.mirrors.any (fun m => !m.acked && !m.replies.isEmpty)

/-- R54: a reply to a mirrored command waits for the Shadow's acknowledgement; any other leaves at once. -/
def sendReply (r : Reply) (s : State) : State :=
  if ackWaits s r.session r.seq then
    { s with twin.mirrors := s.twin.mirrors.map (fun m =>
        if !m.acked && m.session == r.session && m.seq == r.seq then { m with replies := m.replies ++ [r] } else m) }
  else emit r s

/-- The command queue of a mailbox pair (R48, R49). -/
def mailQueue (p : Fin 4) : Nat := 1016 + 2 * p.val

/-- R49: the supervisor takes the words up to the first end mark from a queue. -/
def dropPacket (q : Nat) (s : State) : State :=
  let x := queue s q
  if x.words.any QWord.endm then setQueue q { x with words := (x.words.dropWhile (fun w => !w.endm)).drop 1 } s else s

/-! ### Details and items -/

/-- R67: the parameter field of an error reply, cut to the packet size, and whether entries remain. -/
def detailParams (pktSize first : Nat) (ds : List Detail) : List Byte × Bool :=
  let rest := (ds.take 64).drop first
  let fit := rest.take ((pktSize - 48) / 16)
  (leBytes 4 (if rest.isEmpty then 0 else (ds.take 64).length) ++ leBytes 4 0 ++
     fit.flatMap (fun d => leBytes 2 d.status ++ leBytes 2 0 ++ leBytes 4 d.id ++ leBytes 8 d.value), decide (fit.length < rest.length))

/-- R60: as many whole items as fit in the packet after a head, and whether items remain. -/
def fitItems (room : Nat) (head : List Byte) (items : List (List Byte)) : List Byte × Bool :=
  items.foldl (fun acc it => if acc.2 then acc else if acc.1.length + it.length ≤ room then (acc.1 ++ it, false) else (acc.1, true)) (head, false)

/-- R87: the status of a refusal: the one that every entry carries, and 0x0401 otherwise. -/
def commonStatus (ds : List Detail) : Nat :=
  match ds with
  | [] => 0
  | d :: _ => if ds.all (fun e => e.status == d.status) then d.status else 0x0401

/-- One detail entry. -/
def refuse1 (status id value : Nat) : List Detail := [⟨status, id, value⟩]

/-- One entry of a status for which R67 states neither identifier nor detail: both are free values. -/
def refuseFree (status : Nat) : List Detail := [⟨status, Config.detailIdent status, Config.detailValue status⟩]

/-- R91, R119: the owner of a resource that a unit instance names; the block of a group of queues has the owners of all of them. -/
def resOwners (s : State) (unit i : Nat) : List Nat :=
  match unit with
  | 0x02 => if i < 64 then [prmN s (P.LANE_OWNER i)] else []
  | 0x04 => if i < 8 then [prmN s (P.MOTN_AX_OWNER i)] else if 32 ≤ i then [prmN s (P.MOTN_PC_OWNER i)] else []
  | 0x10 => if i < 64 then [prmN s (P.QDMA_OWNER i)] else (List.range 16).map (fun k => prmN s (P.QUEUE_OWNER (16 * (i - 64) + k)))
  | 0x11 => [prmN s (P.EVNT_OWNER i)]
  | 0x12 => if i < 8 then [prmN s (P.TWB_OWNER i)] else []
  | 0x15 => if i < 8 then [prmN s (P.CHK_OWNER i)] else []
  | _ => []

/-- R48, R55: the role of a command's session. -/
def roleOf (s : State) (h : Hdr) : Nat := ((session s h.session).getD { via := h.via }).role

/-- R7, R65, R90: the refusal of a command that acts on a unit instance which is not open to its principal. -/
def resErr (h : Hdr) (unit inst : Nat) (s : State) : List Detail :=
  match (resOwners s unit inst).filterMap (fun o => itemErr s h.via.principal (roleOf s h) o unit false) with
  | st :: _ => refuseFree st
  | [] => []

/-- How a command runs once its checks pass. -/
inductive Ran where
  /-- Completed: result, whether items remain, the log's VALUE, and the state. -/
  | done (params : List Byte) (more : Bool) (value : Nat) (s : State)
  /-- Refused at step 12, or failed at once, with the log's VALUE. -/
  | refuse (ds : List Detail)
  /-- Accepted and deferred (R59). -/
  | defer (s : State)

/-- R92: the flags of a command's log entry. -/
def cmdFlags (h : Hdr) (s : State) : Word16 := setFlagIf h.force (setFlagIf h.mirrored (logClockFlags s) 3) 4

/-- R94: the DIGEST of a command's log entry, over the parameter field as received. -/
def cmdDigest (c : Cmd) : Nat := if c.noDigest || c.op == 0x0907 then 0 else crc64 (match c.h.raw with | some b => b | none => c.logged.getD c.params)

/-- R93: the time at which the command that now runs was received. -/
def receivedAt (s : State) : Nat × Nat := s.sys.since.getD (s.tk.secs, s.tk.ns)

/-- R93, R94: the log entry of a command at its final status. A LOG_MARK that succeeds enters its MARK entry instead. -/
def logCmd (c : Cmd) (kind status value : Nat) (s : State) : State :=
  if !(opRow c.op c.h).sc || (c.op == 0x0402 && status == 0) then s
  else logCommit { kind := kind, principal := c.who.code, transport := c.h.via.code, timeS := (receivedAt s).1, timeNs := (receivedAt s).2, flags := cmdFlags c.h s,
                   opcode := c.op, tag := c.h.tag, status := status, epoch := s.sys.epoch, subject := c.subject, count := c.count,
                   session := c.h.session, value := value, digest := cmdDigest c } s

/-- R56: a final reply enters the session's cache of 64. -/
def cacheReply (n : Nat) (x : Cached) (s : State) : State :=
  match session s n with
  | some ss => setSession n { ss with replies := (ss.replies ++ [x]).drop (ss.replies.length + 1 - 64) } s
  | none => s

/-- The reply to a command. -/
def mkReply (c : Cmd) (status : Nat) (params : List Byte) (more interim : Bool) (s : State) : Reply :=
  ⟨c.h.via, c.op, c.h.tag, c.h.session, c.h.seq, status, interim, more, s.sys.epoch, c.who.code, params⟩

/-- R98: the INDEX that follows the newest of the Active's log entries that the mirror ring holds. -/
def mirrorEnd (s : State) : Nat :=
  match s.sys.log.mirror.getLast? with
  | some e => e.index + 1
  | none => 0

/-- R53, R98: the Active's outcome of a deferred mirrored command as far as the Shadow knows it: the status in the first of the Active's log entries
since its acceptance that bears its opcode and DIGEST, and success where the mirror ring holds none (log entry 87). -/
def activeOutcome (d : Deferred) (s : State) : Nat :=
  match s.sys.log.mirror.find? (fun e => (e.kind == 1 || e.kind == 2) && decide (d.mirrorAt ≤ e.index) && e.opcode == d.opcode && e.digest == d.digest) with
  | some e => e.status
  | none => 0

/-- R53: a mirrored command whose outcome or epoch on the Shadow differs from the Active's, whose outcome is `active`, is answered with 0x0904; group
0x06xx is not compared. A command that failed on both gave no epoch. -/
def mirrorStatus (op active status : Nat) (expect : Option Nat) (s : State) : Nat :=
  match expect with
  | some e => if op / 256 = 6 ∨ (status = active ∧ (status = 0 → e = s.sys.epoch)) then status else 0x0904
  | none => status

/-- R59, R62, R93: the final reply of a command, with its log entry. The Active forwards a command that ends at once only where it has succeeded (R53).
DESIGN CHOICE (log entry 85): the reply to SESSION_RESYNC, whose SEQ is ignored, is not cached. A reply with 0x0904 is a divergence (R345). -/
def finish (c : Cmd) (status : Nat) (params : List Byte) (more : Bool) (value : Nat) (s : State) : State :=
  let s := logCmd c 1 status value s
  let st := mirrorStatus c.op 0 status (if c.h.mirrored then some c.h.epoch else none) s
  let r := mkReply c st params more false s
  let quiet := c.h.quiet && status == 0
  let s := if c.op = 0x0003 then s else cacheReply c.h.session ⟨c.h.seq, trailerOf c.op c.h c.params, if quiet then none else some r⟩ s
  let s := if quiet then s else sendReply r s
  if c.h.mirrored && st == 0x0904 then replyDiverge s else s

/-- R48: the session that a packet names may use the packet's transport. -/
def sessionFits (h : Hdr) (s : State) : Option Session :=
  match fixedSession h.via with
  | some n => if h.session = n then session s n else none
  | none => if h.session < 0x10000 then none else s.sys.sessions.find? h.session

/-- R60, R67: the parameter field of an error reply, whether entries remain, and the state in which the session keeps its detail block. A packet
that names another transport's session has none. -/
def keepDetail (h : Hdr) (ds : List Detail) (s : State) : (List Byte × Bool) × State :=
  match sessionFits h s with
  | some x => (detailParams x.pktSize 0 ds, setSession h.session { x with detail := some (ds.take 64) } s)
  | none => (detailParams 4096 0 ds, s)

/-- R67: an error reply with its detail block, which the session keeps. -/
def refuseWith (c : Cmd) (ds : List Detail) (s : State) : State :=
  let ((ps, more), s) := keepDetail c.h ds s
  finish c (commonStatus ds) ps more c.value s

/-- R56, R62, R63: the reply to a command refused before it is executed: it is logged, the detail block is kept, and SEQ is not consumed. -/
def refuseEarly (c : Cmd) (ds : List Detail) (s : State) : State :=
  let ((ps, more), s) := keepDetail c.h ds (logCmd c 1 (commonStatus ds) c.value s)
  emit (mkReply c (commonStatus ds) ps more false s) s

/-! ### The checks of R63 -/

/-- R65: steps 10: the opcode is open to the principal and role, and a Shadow takes a mirrored command from its twin only. -/
def permit (c : Cmd) (role : Nat) (s : State) : Option Nat :=
  let r := opRow c.op c.h
  let p := c.who
  let may := match p with
    | .sup => r.sup
    | .twin => r.twin
    | .appS => r.appS
    | .appN => r.appN
    | .mgmt => r.mgmt != 0
    | .hosttw => r.ht && (c.op != 0x0907 || !hasAdmin s)
    | .dbg => false
  if p = .twin && c.h.mirrored then none
  else if !may then some 0x0205
  else if p = .mgmt ∧ r.mgmt = 2 ∧ role ≠ 2 then some 0x0206
  else if !holdsClaim s && isMirrored c.op c.h && !((c.op == 0x0501 || c.op == 0x0502) && !c.h.force) then some 0x0208
  else none

/-- R64: the rate allowance of an MGMT session, in 10^-9 commands, brought up to date. -/
def refillTokens (x : Session) (s : State) : Session :=
  let now := monoNs s
  { x with tokens := min (128 * 1000000000) (x.tokens + (now - x.tokenNs) * prmN s P.SYS_UDP_RATE), tokenNs := now }

/-- R55: the next sequence number. -/
def nextSeq (n : Nat) : Nat := (n + 1) % 2 ^ 32

/-- R339: STAGE_BLOCK_DMA and STAGE_LOAD_SAVED are mirrored as the packets that they produce, once they have produced them. -/
def converted (op : Nat) : Bool := op == 0x0106 || op == 0x0107

/-- R53, R339: the Active forwards a mirrored command that it accepted on the fixed session 6, with MIRRORED set and EPOCH
the epoch it gives. `packets` are the opcodes and parameters that stand for it, itself where the list is empty. -/
def mirrorCmd (c : Cmd) (status epoch : Nat) (packets : List (Nat × List Byte)) (s : State) : State :=
  if isMirrored c.op c.h && attached s && c.who != .twin && !(converted c.op && packets.isEmpty) then
    let ps := if packets.isEmpty then [(c.op, c.params)] else packets
    let s := forEach ps (fun p s =>
      let h : Hdr := { via := .shaesh, session := 6, seq := s.twin.nextMirror, tag := c.h.tag, force := c.h.force, mirrored := true, epoch := epoch }
      sendSeq 0x10 (packetOf p.1 h p.2) { s with twin.nextMirror := nextSeq s.twin.nextMirror }) s
    let m : MirrorWait := {
      mseq := (s.twin.txNext + 2 ^ 32 - 1) % 2 ^ 32, mirrorSeq := (s.twin.nextMirror + 2 ^ 32 - 1) % 2 ^ 32, session := c.h.session,
      seq := c.h.seq, opcode := c.op, tag := c.h.tag, status := status, epoch := epoch }
    { s with twin.mirrors := s.twin.mirrors ++ [m] }
  else s

/-- R59: a command joins the deferred ones and its interim reply leaves. -/
def deferCmd (i : Instr) (c : Cmd) (role : Nat) (s : State) : State :=
  let d : Deferred := {
    via := c.h.via, principal := c.who.code, role := role, session := c.h.session, seq := c.h.seq, tag := c.h.tag, opcode := c.op,
    trailer := trailerOf c.op c.h c.params, flags := cmdFlags c.h s, subject := c.subject, count := c.count,
    digest := cmdDigest c, quiet := c.h.quiet, timeS := (receivedAt s).1, timeNs := (receivedAt s).2, cmd := i,
    expect := if c.h.mirrored then some c.h.epoch else none, mirrorAt := mirrorEnd s }
  sendReply (mkReply c 1 [] false true s) { s with sys.deferred := s.sys.deferred ++ [d] }

/-- R59: how many commands a session has deferred. -/
def deferredOf (s : State) (n : Nat) : Nat := (s.sys.deferred.filter (fun d => d.session == n)).length

/-- R472: in STOPPING, STOPPED and TRIPPED only queries of group 0x03xx, POWER_STATUS, LOG_READ, THERMAL_RESTART and RESET
run. -/
def stopRefuses (op : Nat) (s : State) : Bool :=
  decide (2 ≤ s.thrm.state) && op / 256 != 3 && op != 0x0A01 && op != 0x0401 && op != 0x0A03 && op != 0x0006

/-- R63 steps 10 to 12 and the command itself. `own` gives the failures of ownership and security (step 10), `values` those
of step 11, and `run` those of step 12 and the effect. DEDUCED (log entry 11): the entry of a failure that R67 gives no identifier and detail, 0x0402
among them, holds free ones. DESIGN CHOICE (log entry 128): the identifier of an entry about a field of the parameter field is 0. `mayDefer` tells that the command may be deferred, `packets` what is
mirrored in its place (R339). -/
def runCmd (i : Instr) (c : Cmd) (mayDefer : Bool) (own values : State → List Detail) (run : Nat → State → Ran)
    (packets : State → List (Nat × List Byte)) (rate : Bool) (s : State) : State :=
  let x := (session s c.h.session).getD { via := c.h.via }
  match c.bad, permit c x.role s with
  | some st, _ => refuseWith c (refuseFree st) s
  | none, some st => refuseWith c (refuseFree st) s
  | none, none =>
    match own s with
    | d :: ds => refuseWith c (d :: ds) s
    | [] => match (match c.h.reserved with | some off => refuse1 0x0102 0 off | none => values s) with
      | d :: ds => refuseWith c (d :: ds) s
      | [] =>
        if c.h.epochCheck ∧ c.h.epoch ≠ s.sys.epoch then refuseWith c (refuseFree 0x0402) s
        else if stopRefuses c.op s then refuseWith c (refuseFree 0x0505) s
        else if rate then refuseWith c (refuseFree 0x0504) s
        else if mayDefer ∧ (16 ≤ deferredOf s c.h.session ∨ 64 ≤ s.sys.deferred.length) then refuseWith c (refuseFree 0x0501) s
        else match run (x.pktSize - 40) s with
          | .refuse ds => refuseWith c ds s
          | .done ps more v t => finish c 0 ps more v (mirrorCmd c 0 t.sys.epoch (packets s) t)
          | .defer t => deferCmd i c x.role (mirrorCmd c 1 (if c.op = 0x0201 then nextEpoch t.sys.epoch else t.sys.epoch) (packets s) t)

/-- R51, R64: a datagram that fails authentication is discarded and counted by source; at the limit within 1 s the source is ignored. -/
def authFailure (ip : Nat) (s : State) : State :=
  let s := flushAuth s
  let x := s.sys.auth.get {} ip
  let times := monoNs s :: x.times.filter (fun t => decide (monoNs s < t + 1000000000))
  let x : AuthSource := { x with
    times := times, second := s.tk.secs, fails := if x.second = s.tk.secs then x.fails + 1 else 1, total := x.total + 1
    blocked := x.blocked || decide (prmN s P.SYS_AUTH_FAIL_LIMIT ≤ times.length) }
  { s with sys.authBad := s.sys.authBad + 1, sys.auth := Map.insert s.sys.auth ip x }

/-- R56: the answer to an earlier SEQ: the cached reply, or the interim reply of a command still deferred. A reply that waits for the Shadow (R54) is
not sent before its time. -/
def oldSeq (c : Cmd) (x : Session) (s : State) : State :=
  let t := trailerOf c.op c.h c.params
  let again := fun (r : Reply) => if ackWaits s c.h.session c.h.seq then s else emit { r with via := c.h.via } s
  match x.replies.reverse.find? (fun r => r.seq == c.h.seq) with
  | some r =>
    if r.trailer = t then (match r.reply with | some rep => again rep | none => s)
    else refuseEarly c (refuseFree 0x010B) s
  | none =>
    match s.sys.deferred.find? (fun d => d.session == c.h.session && d.seq == c.h.seq) with
    | some d => if d.trailer = t then again (mkReply c 1 [] false true s) else refuseEarly c (refuseFree 0x010B) s
    | none => { s with sys.oldSeq := s.sys.oldSeq + 1 }

/-- R56: a command is held for the gap before it. A second one with its SEQ is discarded and counted. -/
def holdCmd (i : Instr) (c : Cmd) (x : Session) (s : State) : State :=
  if x.held.any (fun e => e.cmd.h.seq == c.h.seq) then { s with sys.discarded := s.sys.discarded + 1 }
  else setSession c.h.session { x with held := x.held ++ [⟨i, c, s.tk.secs, s.tk.ns⟩] } s

/-- R51, R64: a datagram is ignored, or fails authentication because its slot is disabled or not the session's. -/
def udpBad (h : Hdr) (op : Nat) (s : State) : Option (State → State) :=
  match h.via with
  | .udp peer slot _ =>
    if (s.sys.auth.get {} peer.ip).blocked then some id
    else if (s.sys.keys.get {} slot).role = 0 then some (authFailure peer.ip)
    else if op = 1 ∧ h.session = 0 then none
    else match s.sys.sessions.find? h.session with
      | some x => (match x.via with
          | .udp _ sl _ => if sl = slot then none else some (authFailure peer.ip)
          | _ => none)
      | none => none
  | _ => none

/-- R503: commands are accepted from stage 5 on, and not in FAILED. -/
def accepting (s : State) : Bool := s.boot.stage == 5 || s.boot.stage == 6

/-- R63: a whole Xesil command after step 6: the session and SEQ are checked (R55, R56), and a command whose SEQ is expected runs. DESIGN CHOICE (log entry
86): of the SEQs modulo 2^32 those less than 2^31 beyond the expected one are ahead, the others earlier. -/
def xesil (i : Instr) (c : Cmd) (mayDefer : Bool) (own values : State → List Detail) (run : Nat → State → Ran)
    (packets : State → List (Nat × List Byte)) (s : State) : State :=
  if !accepting s then s else
  match udpBad c.h c.op s with
  | some act => act s
  | none =>
    if c.op = 0x0001 ∧ c.h.session = 0 then runCmd i c mayDefer own values run packets false s
    else match sessionFits c.h s with
      | none => refuseEarly c (refuseFree 0x0202) s
      | some x =>
        if c.op = 0x0003 ∨ x.nextSeq = c.h.seq then
          let x := refillTokens x s
          let limited := decide (0x10000 ≤ c.h.session) && decide (x.tokens < 1000000000)
          let x := { x with nextSeq := if c.op = 0x0003 then x.nextSeq else nextSeq c.h.seq, tokens := if limited then x.tokens else x.tokens - 1000000000,
                            detail := if c.op = 0x0008 then x.detail else none }
          runCmd i c mayDefer own values run packets limited (setSession c.h.session x s)
        else
          let ahead := (c.h.seq + 2 ^ 32 - x.nextSeq) % 2 ^ 32
          if ahead ≤ 8 then holdCmd i c x s
          else if ahead < 2 ^ 31 then
            refuseEarly c (refuse1 0x0107 0 x.nextSeq) s
          else oldSeq c x s

/-! ### Deferred commands (R59, R61) -/

/-- A deferred command by session and SEQ. -/
def findDeferred (s : State) (sess seq : Nat) : Option Deferred := s.sys.deferred.find? (fun d => d.session == sess && d.seq == seq)

/-- A deferred command commits (R61). -/
def commitDeferred (sess seq : Nat) (s : State) : State :=
  { s with sys.deferred := s.sys.deferred.map (fun d => if d.session = sess ∧ d.seq = seq then { d with committed := true } else d) }

/-- The log entry of a deferred command; `kind` 2 for a Cinch that applied. -/
def logDeferred (d : Deferred) (status value : Nat) (s : State) : State :=
  logCommit { kind := 1, principal := d.principal, transport := d.via.code, timeS := d.timeS, timeNs := d.timeNs, flags := d.flags, opcode := d.opcode,
              tag := d.tag, status := status, epoch := s.sys.epoch, subject := d.subject, count := d.count, session := d.session,
              value := value, digest := d.digest } s

/-- R59 to R61: the final reply of a deferred command, cut to the packet size. A closed session gets none: the outcome is in the log only. A reply with
0x0904 is a divergence (R345). -/
def replyDeferred (d : Deferred) (status : Nat) (params : List Byte) (more : Bool) (s : State) : State :=
  let s := { s with sys.deferred := s.sys.deferred.filter (fun e => !(e.session == d.session && e.seq == d.seq)) }
  match session s d.session with
  | none => s
  | some x =>
    let cut := status == 0 && decide (x.pktSize - 40 < params.length)
    let params := if cut then params.take (x.pktSize - 40) else params
    let more := more || cut
    let r : Reply := ⟨d.via, d.opcode, d.tag, d.session, d.seq, mirrorStatus d.opcode (activeOutcome d s) status d.expect s, false, more, s.sys.epoch, d.principal, params⟩
    let quiet := d.quiet && status == 0
    let s := cacheReply d.session ⟨d.seq, d.trailer, if quiet then none else some r⟩ s
    let s := if quiet then s else sendReply r s
    if d.expect.isSome && r.status == 0x0904 then replyDiverge s else s

/-- R59, R93: a deferred command ends: its log entry where it changes state, then its final reply. -/
def endDeferred (d : Deferred) (status : Nat) (params : List Byte) (more : Bool) (value : Nat) (s : State) : State :=
  let sc := (opRow d.opcode { via := d.via, session := d.session, seq := d.seq, tag := d.tag }).sc
  replyDeferred d status params more (if sc then logDeferred d status value s else s)

/-- A deferred command fails with a status and a detail entry (R67). -/
def failDeferred (d : Deferred) (ds : List Detail) (s : State) : State :=
  let size := match session s d.session with | some x => x.pktSize | none => 4096
  let (ps, more) := detailParams size 0 ds
  let s := match session s d.session with
    | some x => setSession d.session { x with detail := some (ds.take 64) } s
    | none => s
  endDeferred d (commonStatus ds) ps more 0 s

end Sys2Proof.Machine
end

