-- ==== Sys2Proof/Machine/Compress.lean ====
section
/-! DEFINITION. Machine/Compress.lean: the compression array, its engines and jobs (chapter "Lossless Phrase Coding"). -/
namespace Sys2Proof.Machine

/-! ### Geometry (R200, R276, R301) -/

/-- A parameter's unsigned value in a dictionary. -/
def dictN (d : Dict) (id : Nat) : Nat := (dictVal d id).toNat

/-- R200: comps_p, the components that the strip and COLR of a port deliver. -/
def compsOf (d : Dict) (p : Nat) : Nat := if dictVal d (P.COLR_MODE p) ≠ 0 ∨ dictN d (P.PORT_COMPONENTS p) = 3 then 3 else 1

/-- R194: port `p` contributes to the stitched stream. -/
def contributes (d : Dict) (p : Nat) : Bool := dictVal d (P.STCH_RUN p) == 1

/-- R276: every contributing port carries a mosaic. -/
def allMosaic (d : Dict) : Bool := (List.range 16).all (fun p => !contributes d p || dictVal d (P.STCH_MOSAIC p) == 1)

/-- R207, R301: the bytes of a padded coverage mask of `w` columns. -/
def maskLen (w : Nat) : Nat := roundUp 8 ((w + 7) / 8)

/-- R276, R301: the coding parameters of a product under a dictionary; `body` gives a PATCH its own geometry. -/
def codingOf (d : Dict) (product source pred : Nat) (full mask : Bool) (body : List Byte) : Coding :=
  let c := dictN d P.STCH_OUT_COMPONENTS
  let w := dictN d P.STCH_OUT_WIDTH
  let (sx, sy) := if allMosaic d then (2, 2) else (c, 1)
  if pred = 0 then { fullReset := full }
  else if product = 2 then
    let k := compsOf d source
    let m := dictVal d (P.STCH_MOSAIC source) == 1
    { pred := pred, stepX := if m then 2 else k, stepY := if m then 2 else 1, rowPre := 48, rowSamples := dictN d (P.PORT_WIDTH source) * k, fullReset := full }
  else if product = 3 ∨ product = 9 then
    { pred := pred, stepX := sx, stepY := sy, rowPre := 48 + (if mask then maskLen w else 0), rowSamples := w * c, fullReset := full }
  else if product = 4 then
    { pred := pred, stepX := c, stepY := 1, rowPre := 48, rowSamples := w / dictN d P.STCH_OUT_PREV_DX * c, fullReset := full }
  else if product = 6 then
    { pred := pred, stepX := sx, stepY := sy, lead := roundUp 8 (80 + 2 * leAt body 72 4), rowSamples := leAt body 68 4 * leAt body 76 1, fullReset := full }
  else { fullReset := full }

/-- R286: the coding parameters of a product unit. -/
def unitCoding (s : State) (u : PUnit) : Coding :=
  codingOf (dictAt s u.epoch) u.product u.source (leAt u.entry 6 1) (bitOf (leAt u.entry 7 1) 1) (bitOf (leAt u.entry 7 1) 2) u.body

/-! ### Engines -/

/-- Engine `e`: 0 to 15 compress, 16 to 19 decompress. -/
def engine (s : State) (e : Nat) : Engine := s.cmpr.engines.get {} e

/-- Replace engine `e`. -/
def setEngine (e : Nat) (x : Engine) (s : State) : State := { s with cmpr.engines := s.cmpr.engines.set {} e x }

/-- R289: an engine at the END of its work: idle, or out of service. -/
def freeEngine (e : Nat) (s : State) : State :=
  setEngine e (if (engine s e).leaving then { state := 4 } else {}) s

/-- The lowest-numbered idle engine that a mask admits. -/
def idleEngine (s : State) (mask : Nat) : Option Nat := firstIdx (fun e => bitOf mask e && (engine s e).state == 0 && !(engine s e).leaving && !gapHeld s 0x0B e) 16

/-- R286, R290, R291, R306: the next work that an idle engine can take. A waiting product unit goes before a job, and enters its transmit queue. A job
commits when its engine takes it (R61). -/
def execEngineTakesUnit (s : State) : Host.Outcome State Fault Refusal :=
  let job := fun (e : Nat) (j : Nat × Nat) (s : State) => commitDeferred j.1 j.2 (setEngine e { state := 2, job := some j } s)
  match s.cmpr.backlog, idleEngine s (prmN s P.CMPR_PRODUCT_ENGINES) with
  | u :: us, some e => .next (setEngine e { state := 1, unit := some u } (enterQueue e u { s with cmpr.backlog := us }))
  | _, _ => match s.cmpr.cjobs, idleEngine s (prmN s P.CMPR_JOB_ENGINES) with
    | j :: js, some e => .next (job e j { s with cmpr.cjobs := js })
    | _, _ => match s.cmpr.djobs, [16, 17, 18, 19].find? (fun e => (engine s e).state == 0) with
      | j :: js, some e => .next (job e j { s with cmpr.djobs := js })
      | _, _ => .next s

/-- Bytes of memory whose contents the spec leaves unspecified: each becomes a free value. -/
def storeFree (addr n : Nat) (s : State) : State :=
  storeMem addr ((List.range n).map (fun k => BitVec.ofNat 8 (Config.free (s.freeCtr + k)))) { s with freeCtr := s.freeCtr + n }

/-- R374, R391: a byte range holds an uncorrectable block. -/
def anyBad (s : State) (addr n : Nat) : Bool := s.badBlocks.any (fun b => decide (addr < b + 64 ∧ b < addr + n))

/-- R288: the code-stream bytes that whole 64-byte words of a space deliver behind the coding header. -/
def streamRoom (space : Nat) : Nat := space / 64 * 64 - 32

/-- R288, R290: an engine stops for want of output space, and the job fails: its destination is unspecified within the capacity, and its detail is
IN_DONE at that moment: `inDone` within the block then in hand. -/
def jobNoSpace (d : Deferred) (c : Coding) (body : List Byte) (dst cap inDone : Nat) (s : State) : State :=
  let s := storeFree dst cap s
  failDeferred d (refuse1 0x0604 0 (between (blockAt c body (streamRoom cap)).1 inDone)) { s with cmpr.jobsBad := s.cmpr.jobsBad + 1, cmpr.stops := s.cmpr.stops + 1 }

/-- The reply of a job: bytes in and bytes out. -/
def jobDone (d : Deferred) (nIn nOut : Nat) (s : State) : State :=
  endDeferred d 0 (leBytes 4 nIn ++ leBytes 4 nOut) false 0 { s with cmpr.jobsOk := s.cmpr.jobsOk + 1 }

/-- R293: the counters that coding a body moves. -/
def countCoding (c : Coding) (body : List Byte) (s : State) : State :=
  let (cs, st) := encodeStream c body
  { s with
    cmpr.bodyBytes := s.cmpr.bodyBytes + body.length
    cmpr.codeBytes := s.cmpr.codeBytes + cs.length
    cmpr.stored := s.cmpr.stored + st.stored
    cmpr.blocks := s.cmpr.blocks + st.coded
    cmpr.resets := s.cmpr.resets + st.resets
    cmpr.refs := s.cmpr.refs + st.refs }

/-- R290: a compress job ends. -/
def compressJob (d : Deferred) (src len product pred source dst cap : Nat) (s : State) : State :=
  if anyBad s src len then failDeferred d (refuse1 0x0701 0 src) s
  else
    let body := s.mem.read src len
    let c := codingOf s.sys.applied product source pred true false body
    let out := codedUnit c body
    if cap < out.length then (let (v, s) := fresh s; jobNoSpace d c body dst cap v s)
    else jobDone d len out.length (countCoding c body (storeMem dst out s))

/-- R285, R291: a decompress job ends. It reads the header first, then the code stream, and no byte beyond it. -/
def decompressJob (d : Deferred) (src len dst cap : Nat) (s : State) : State :=
  let bytes := s.mem.read src len
  if anyBad s src (min 32 len) then failDeferred d (refuse1 0x0701 0 src) s
  else
    let fault := decide (bytes.length < 32) || (headerFault bytes).isSome
    if !fault && decide (cap < leAt bytes 16 4) then
      let (v, s) := fresh s
      failDeferred d (refuse1 0x0604 0 v) { s with cmpr.jobsBad := s.cmpr.jobsBad + 1 }
    else if !fault && anyBad s src (min len (32 + leAt bytes 20 4)) then failDeferred d (refuse1 0x0701 0 src) s
    else match decodeUnit bytes with
      | .bytes bs => jobDone d (32 + leAt bytes 20 4) bs.length (storeMem dst bs s)
      | .error st off =>
        let s := storeFree dst cap s
        failDeferred d (refuse1 st 0 off) { s with cmpr.decErrors := s.cmpr.decErrors + 1 }

/-- The end of the job that an engine holds. -/
def endJob (j : Nat × Nat) (s : State) : State :=
  match findDeferred s j.1 j.2 with
  | none => s
  | some d => match d.cmd with
    | .jobCompress _ src len product pred source dst cap => compressJob d src len product pred source dst cap s
    | .jobDecompress _ src len dst cap => decompressJob d src len dst cap s
    | _ => s

/-- R306: the transmit queue has room for the whole of a coded unit of engine `e`, or for `t` bytes of its code stream behind both headers. -/
def unitRoom (s : State) (e : Nat) (u : PUnit) : Nat := queueRoom s (leAt u.entry 3 1) (leAt u.entry 4 1) e - 64

/-- R288, R306: an engine whose unit finds its transmit queue full stops: OUT_DONE is what the queue has taken, IN_DONE lies within the block in hand. -/
def stopUnit (e inDone outDone : Nat) (u : PUnit) (s : State) : State :=
  let c := unitCoding s u
  let room := unitRoom s e u
  if leAt u.entry 3 1 = 3 ∨ (codedUnit c u.body).length ≤ room ∨ outDone ≠ streamRoom room then s
  else
    let r := blockAt c u.body outDone
    setEngine e { engine s e with state := 3, inDone := between r.1 inDone, outDone := outDone, nextEntry := r.2.2 } { s with cmpr.stops := s.cmpr.stops + 1 }

/-- R288: ENGINE_STOP: an engine whose output space is exhausted stops with the counts it reports, of which OUT_DONE is what whole words of 64
bytes deliver into that space; a job then fails (R290). -/
def execEngineStop (e : Fin 16) (inDone outDone : Nat) (s : State) : Host.Outcome State Fault Refusal :=
  let x := engine s e.val
  match x.state, x.unit, x.job with
  | 1, some u, _ => .next (stopUnit e.val inDone outDone u s)
  | 2, _, some j => (match findDeferred s j.1 j.2 with
    | some d => (match d.cmd with
      | .jobCompress _ src len product pred source dst cap =>
        let body := s.mem.read src len
        let c := codingOf s.sys.applied product source pred true false body
        .next (if anyBad s src len || decide ((codedUnit c body).length ≤ cap) || outDone != streamRoom cap then s else jobNoSpace d c body dst cap inDone (freeEngine e.val s))
      | _ => .next s)
    | none => .next s)
  | _, _, _ => .next s

/-- R288, R306: ENGINE_RESUME: segments have left the queue: an engine resumes from its state when a further word fits. -/
def execEngineResume (e : Fin 16) (s : State) : Host.Outcome State Fault Refusal :=
  let x := engine s e.val
  match x.state, x.unit with
  | 3, some u =>
    let room := unitRoom s e.val u
    .next (if x.outDone < streamRoom room ∨ (codedUnit (unitCoding s u) u.body).length ≤ room then setEngine e.val { x with state := 1 } s else s)
  | _, _ => .next s

/-- R286, R306, R308: an engine has coded its unit to END and passes it on, if the queue takes it (else it waits for
ENGINE_STOP); or it has finished its job. -/
def execCodingDone (e : Fin 20) (s : State) : Host.Outcome State Fault Refusal :=
  let x := engine s e.val
  match x.state, x.unit, x.job with
  | 1, some u, _ =>
    let c := unitCoding s u
    let payload := codedUnit c u.body
    let done := fun (s : State) =>
      let s := countCoding c u.body s
      freeEngine e.val { s with cmpr.coded := s.cmpr.coded + 1 }
    if leAt u.entry 3 1 = 3 then .next (done (localUnit u payload s))
    else
      let (fits, t) := admitUnit e.val u payload s
      .next (if fits then done t else s)
  | 2, _, some j => .next (freeEngine e.val (endJob j s))
  | _, _, _ => .next s

/-- R289, R468: the power cap takes an engine out of service: it takes no further work, and a return that still waits for it is void. -/
def takeEngine (e : Nat) (s : State) : State :=
  setEngine e { engine s e with leaving := true } { s with thrm.ungateQ := s.thrm.ungateQ.filter (fun k => k != 16 + e) }

/-- R289: ENGINE_OUT_OF_SERVICE: an engine that the power cap has taken, and that has no work in hand, leaves service. One that is coding leaves at
END (freeEngine). -/
def execEngineOutOfService (e : Fin 16) (s : State) : Host.Outcome State Fault Refusal :=
  let x := engine s e.val
  .next (if x.state = 0 ∧ x.leaving then setEngine e.val { state := 4 } s else s)

/-- R289: an engine returns to service. -/
def engineInService (e : Nat) (s : State) : State :=
  let x := engine s e
  if x.state = 4 then setEngine e {} s else setEngine e { x with leaving := false } s

/-- R287: an uncorrectable error in the memory of the unit that an engine codes drops that unit whole. -/
def dropCoding (e : Nat) (s : State) : State :=
  match (engine s e).unit with
  | some u => cmprDrop u (keepUnits (fun v => v.writer != some e) (freeEngine e s))
  | none => s

/-- R291: a job leaves every list and engine that holds it. -/
def forgetJob (j : Nat × Nat) (s : State) : State :=
  let s := { s with cmpr.cjobs := s.cmpr.cjobs.filter (fun x => x != j), cmpr.djobs := s.cmpr.djobs.filter (fun x => x != j) }
  forEach (List.range 20) (fun e s => if (engine s e).job = some j then freeEngine e s else s) s

/-- R291: a job that has not completed 10 s after its acceptance ends with 0x0507. -/
def execJobTimeout (session seq : Nat) (s : State) : Host.Outcome State Fault Refusal :=
  match findDeferred s session seq with
  | some d =>
    if d.opcode = 0x0701 ∨ d.opcode = 0x0702 then .next (failDeferred d (refuseFree 0x0507) (forgetJob (session, seq) s)) else .next s
  | none => .next s

/-! ### The job commands -/

/-- The parameter field of the job commands (R65). -/
def jobParams (src len product pred source dst cap : Nat) : List Byte :=
  leBytes 8 src ++ leBytes 4 len ++ leBytes 1 product ++ leBytes 1 pred ++ leBytes 1 source ++ leBytes 1 0 ++ leBytes 8 dst ++ leBytes 4 cap ++ leBytes 4 0

/-- R290: alignment and regions of a job. -/
def jobValues (p : Principal) (src len dst cap : Nat) (s : State) : List Detail :=
  if len = 0 then refuse1 0x0301 0 8
  else if src % 64 ≠ 0 then refuse1 0x0305 0 0
  else if dst % 64 ≠ 0 then refuse1 0x0305 0 16
  else if cap % 64 ≠ 0 then refuse1 0x0305 0 24
  else if !inRegions s p.code src len then refuse1 0x0306 0 0
  else if !inRegions s p.code dst cap then refuse1 0x0306 0 16
  else []

/-- R276, R290: product, predictor and source of a compress job. -/
def jobGeometry (len product pred source : Nat) : List Detail :=
  let allowed := product == 2 || product == 3 || product == 4 || product == 6 || product == 9
  if 11 < product then refuse1 0x0301 0 12
  else if 3 < pred ∨ (pred ≠ 0 ∧ allowed = false) then refuse1 0x0301 0 13
  else if (product = 2 ∧ 15 < source) ∨ (product ≠ 2 ∧ source ≠ 0) then refuse1 0x0301 0 14
  else if product = 6 ∧ len < 80 then refuse1 0x0301 0 8
  else []

/-- R290: JOB_COMPRESS. -/
def doJobCompress (h : Hdr) (src len product pred source dst cap : Nat) (s : State) : State :=
  xesil (.jobCompress h src len product pred source dst cap) { op := 0x0701, h := h, params := jobParams src len product pred source dst cap } true
    (fun _ => []) (fun s => match jobGeometry len product pred source with | [] => jobValues h.via.principal src len dst cap s | ds => ds)
    (fun _ s =>
      if prmN s P.CMPR_JOB_ENGINES = 0 ∨ prmN s P.CMPR_RUN = 0 ∨ 4 ≤ s.cmpr.cjobs.length then .refuse (refuseFree 0x0603)
      else .defer { s with cmpr.cjobs := s.cmpr.cjobs ++ [(h.session, h.seq)] })
    (fun _ => []) s

/-- R291: JOB_DECOMPRESS. -/
def doJobDecompress (h : Hdr) (src len dst cap : Nat) (s : State) : State :=
  xesil (.jobDecompress h src len dst cap) { op := 0x0702, h := h, params := jobParams src len 0 0 0 dst cap } true
    (fun _ => []) (fun s => jobValues h.via.principal src len dst cap s)
    (fun _ s =>
      if prmN s P.CMPR_JOB_ENGINES = 0 ∨ prmN s P.CMPR_RUN = 0 ∨ 4 ≤ s.cmpr.djobs.length then .refuse (refuseFree 0x0603)
      else .defer { s with cmpr.djobs := s.cmpr.djobs ++ [(h.session, h.seq)] })
    (fun _ => []) s

end Sys2Proof.Machine
end

