-- ==== Sys2Proof/Machine/Double.lean ====
section
/-! DEFINITION. Machine/Double.lean: arithmetic in double precision (R148, R317): IEEE 754 binary64 values held as exact
rationals, each operation rounded once to the nearest value, ties to even. Overflow and subnormal values do not occur in
the ranges of R148 and R317. -/
namespace Sys2Proof.Machine

/-- Round a rational to the nearest integer, ties to even. -/
def rneInt (q : Rat) : Int :=
  let f := q.floor
  let r := q - f
  if r < 1 / 2 then f else if 1 / 2 < r then f + 1 else if f % 2 = 0 then f else f + 1

/-- The exponent e with 2^e ≤ q < 2^(e+1), or one more, for a positive rational. -/
def ratLog (q : Rat) : Int := (Nat.log2 q.num.natAbs : Int) - Nat.log2 q.den

/-- Two to an integer power. -/
def pow2 (e : Int) : Rat := if 0 ≤ e then ((2 ^ e.toNat : Nat) : Rat) else 1 / ((2 ^ (-e).toNat : Nat) : Rat)

/-- The double nearest to a rational. -/
def dbl (q : Rat) : Rat :=
  if q = 0 then 0
  else
    let a := if q < 0 then -q else q
    let e := ratLog a
    let e := if a < pow2 e then e - 1 else if pow2 (e + 1) ≤ a then e + 1 else e
    let u := pow2 (e - 52)
    let m := (rneInt (a / u) : Rat) * u
    if q < 0 then -m else m

/-- The double nearest to π. -/
def dPi : Rat := dbl (3141592653589793238462643383279502884197 / 1000000000000000000000000000000000000000)

/-- The double nearest to the square root of two. -/
def dSqrt2 : Rat := dbl (1414213562373095048801688724209698078570 / 1000000000000000000000000000000000000000)

/-- Clamp to ± a limit. -/
def clampRat (x l : Rat) : Rat := if x < -l then -l else if l < x then l else x

end Sys2Proof.Machine
end

