-- ==== Sys2Proof/Machine/Lane.lean ====
section
/-! DEFINITION. Machine/Lane.lean: the receive lanes and uplinks (chapter "Receive Lanes and Uplinks"). -/
namespace Sys2Proof.Machine

/-- Lane `n` (0 to 63), or the PRBS state of uplink `n` - 64. -/
def lane (s : State) (n : Nat) : Lane := s.lanes.get {} n

/-- Replace lane `n`. -/
def setLane (n : Nat) (x : Lane) (s : State) : State := { s with lanes := s.lanes.set {} n x }

/-- Port `p`. -/
def port (s : State) (p : Nat) : Port := s.ports.get {} p

/-- Replace port `p`. -/
def setPort (p : Nat) (x : Port) (s : State) : State := { s with ports := s.ports.set {} p x }

/-- R104, R107, R110: lane `n` delivers words to its port: it is LOCKED and ALIGNED, in service, and under no forced test; in LOOPBACK its pin input is ignored. -/
def laneGives (s : State) (n : Nat) : Bool :=
  let x := lane s n
  x.state == 2 && x.aligned && !x.forced && x.prbsMode != 2 && !prmB s (P.LANE_QMODE n)

/-- R101, R104: lane quad `q` is powered. -/
def quadOn (s : State) (q : Nat) : Bool := s.thrm.biased.contains q && decide (s.thrm.state < 3)

/-- R107, R118: a flag of LN_FLAGS is set and raises its event; LOS and LOL only in QMODE 0. -/
def laneFlag (n k : Nat) (s : State) : State :=
  if k < 2 ∧ prmB s (P.LANE_QMODE n) then s
  else raise (8 * (n / 16) + k) n (setLane n { lane s n with flags := setFlag (lane s n).flags k } s)

/-- The latest reading of a temperature site in units of 1/16 °C (R463). -/
def siteReading (s : State) (k : Nat) : Int := (s.thrm.sites.get {} k).reading

/-- The eye scans of lane `n` that are under way. -/
def eyeScans (s : State) (n : Nat) : List Deferred :=
  s.sys.deferred.filter (fun d => match d.cmd with | .eyeScan _ l => l == n | _ => false)

/-- R112: a lane that leaves LOCKED ends its eye scans with 0x0703. -/
def endEyeScans (n : Nat) (s : State) : State := forEach (eyeScans s n) (fun d s => failDeferred d (refuse1 0x0703 0 n) s) s

/-! ### PRBS patterns (R109) -/

/-- R109: the two taps of a pattern; the first is its degree. -/
def prbsTaps (code : Nat) : Nat × Nat := (([(7, 6), (9, 5), (15, 14), (23, 18), (31, 28)] : List (Nat × Nat))[code]?).getD (31, 28)

/-- R109: one shift of a pattern's register: the taps feed the lowest bit, and the highest one leaves. -/
def prbsShift (code reg : Nat) : Nat :=
  let (n, m) := prbsTaps code
  (reg * 2 + b2n (bitOf reg (n - 1) != bitOf reg (m - 1))) % 2 ^ n

/-- R109: a generator's register at its seed, all ones. -/
def prbsSeed (code : Nat) : Nat := 2 ^ (prbsTaps code).1 - 1

/-- R109: a register after `k` more shifts. -/
def prbsRun (code reg : Nat) : Nat → Nat
  | 0 => reg
  | k + 1 => prbsShift code (prbsRun code reg k)

/-- R109: the bit that a register puts out next: the one to be shifted out. -/
def prbsOut (code reg : Nat) : Bool := bitOf reg ((prbsTaps code).1 - 1)

/-- R109: the next `n` bits of a generator. -/
def prbsBits (code reg n : Nat) : List Bool := (List.range n).map (fun k => prbsOut code (prbsRun code reg k))

/-- R109: a generator's register `bits` bits on; the pattern repeats after its period. -/
def prbsGo (code reg bits : Nat) : Nat := prbsRun code reg (bits % prbsSeed code)

/-- R110: the bits that the injection of a looped lane inverts among the next `bits`; one in every prbsRate for RATE. What was sent before the generator
stopped is inverted all the same. -/
def injected (x : Lane) (bits : Nat) : Nat :=
  if x.injection = 0 then 0
  else if x.injection = 3 then (x.prbsPos + bits) / x.prbsRate - x.prbsPos / x.prbsRate
  else min x.inject bits

/-- R110, R111: the checker stops; what it has counted in sync still belongs to the counters. -/
def stopPrbs (x : Lane) : Lane := { x with prbsSync := false, prbsLeft := x.prbsSync || x.prbsLeft }

/-- R102 step 1: full adaptation begins from default values and discards alignment and slip (R106, R113). DESIGN CHOICE (log entry 130): the other fields of
LN_ALIGN keep their values. -/
def startAcquire (x : Lane) : Lane :=
  { x with state := 1, ctle := 128, dfe := [0, 0, 0, 0, 0], aligned := false, heldAligned := false, slip := 0, lol := false, cdrLock := false }

/-- R104: a lane stops for want of signal or lock. -/
def toNoSignal (x : Lane) : Lane := { x with state := 5, aligned := false, heldAligned := false, cdrLock := false }

/-- R104: RUN becomes 0. -/
def laneOff (n : Nat) (s : State) : State :=
  let x := lane s n
  if x.state = 0 then s else endEyeScans n (setLane n { stopPrbs (toNoSignal x) with state := 0, los := false, lol := false } s)

/-- R104: RUN is 1 and the bias has settled. -/
def execLaneBiasSettled (lane : Fin 64) (s : State) : Host.Outcome State Fault Refusal :=
  let n := lane.val
  let x := Machine.lane s n
  .next (if x.state = 0 ∧ prmB s (P.LANE_RUN n) ∧ quadOn s (n / 16) = true then setLane n { toNoSignal x with los := true } s else s)

/-- R105: the state retained at entry to IDLE is valid for the exit. -/
def retained (s : State) (n : Nat) (x : Lane) : Bool :=
  decide (monoNs s ≤ x.idleNs + prmN s (P.LANE_IDLE_RETAIN n) * 1000000) &&
    decide ((siteReading s (n / 16) - x.idleTemp).natAbs < 160)

/-- R102, R104, R106, R107: the signal has come: full adaptation from NOSIGNAL; from IDLE a relock where the retained state is
valid; in any other state the detector alone follows it. -/
def execLaneSignalDetect (lane : Fin 64) (s : State) : Host.Outcome State Fault Refusal :=
  let n := lane.val
  let x := Machine.lane s n
  let y := { x with los := false }
  if x.state = 5 then .next (setLane n (startAcquire y) s)
  else if x.state = 3 then .next (setLane n (if retained s n x then { y with state := 4 } else startAcquire y) s)
  else .next (setLane n y s)

/-- R104, R107: the signal is gone for LOS_DEBOUNCE: a LOCKED lane goes IDLE, or NOSIGNAL with LOS; in ACQUIRE, RELOCK and NOSIGNAL the state stays and the
detector alone shows the loss. -/
def execLaneSignalLoss (lane : Fin 64) (s : State) : Host.Outcome State Fault Refusal :=
  let n := lane.val
  let x := Machine.lane s n
  if x.state = 0 ∨ (x.state ≠ 2 ∧ x.los) then .next s
  else if x.state ≠ 2 then .next (laneFlag n 0 (setLane n { x with los := true } s))
  else
    let s := endEyeScans n s
    if prmB s (P.LANE_IDLE_EN n) then
      .next (setLane n { x with state := 3, los := true, aligned := false, heldAligned := x.aligned, cdrLock := false, idleNs := monoNs s, idleTemp := siteReading s (n / 16) } s)
    else .next (laneFlag n 0 (setLane n { toNoSignal x with los := true } s))

/-- R102 steps 5 and 6: the eye monitor confirms an open eye and the lane is LOCKED, or the adaptation starts again. -/
def execFullAdaptationDone (lane : Fin 64) (eyeOpen : Bool) (ctle : Nat) (dfe : List Int) (s : State) : Host.Outcome State Fault Refusal :=
  let n := lane.val
  let x := Machine.lane s n
  if x.state ≠ 1 then .next s
  else if eyeOpen then .next (setLane n { x with state := 2, cdrLock := true, ctle := ctle % 256, dfe := dfe.take 5 } s)
  else .next (setLane n { startAcquire x with retries := x.retries + 1 } s)

/-- R104, R107: loss of lock. -/
def execLaneLossOfLock (lane : Fin 64) (s : State) : Host.Outcome State Fault Refusal :=
  let n := lane.val
  let x := Machine.lane s n
  if x.state ≠ 2 then .next s
  else .next (laneFlag n 1 (endEyeScans n (setLane n { toNoSignal x with lol := true } s)))

/-- R104: an idle has outlasted IDLE_MAX. -/
def execLaneIdleMax (lane : Fin 64) (s : State) : Host.Outcome State Fault Refusal :=
  let n := lane.val
  let x := Machine.lane s n
  if x.state ≠ 3 then .next s
  else .next (laneFlag n 2 (laneFlag n 0 (setLane n { toNoSignal x with los := true } s)))

/-- R104, R106: the relock ends in LOCKED with the alignment held, or falls back to full adaptation. -/
def execRelockDone (lane : Fin 64) (confirmed : Bool) (s : State) : Host.Outcome State Fault Refusal :=
  let n := lane.val
  let x := Machine.lane s n
  if x.state ≠ 4 then .next s
  else if confirmed then .next (setLane n { x with state := 2, cdrLock := true, aligned := x.heldAligned } s)
  else .next (laneFlag n 3 (setLane n (startAcquire x) s))

/-- R103: one step of at most one code or unit. -/
def stepOf (d : Int) : Int := if 0 < d then 1 else if d < 0 then -1 else 0

/-- R103: a LOCKED lane adapts its equaliser by one step while ADAPT is 0. -/
def execAdaptationStep (lane : Fin 64) (dCtle : Int) (tap : Fin 5) (dTap : Int) (s : State) : Host.Outcome State Fault Refusal :=
  let n := lane.val
  let x := Machine.lane s n
  if x.state = 2 ∧ ¬ prmB s (P.LANE_ADAPT n) then
    .next (setLane n { x with ctle := satU (x.ctle + stepOf dCtle) 8, dfe := x.dfe.set tap.val (satS ((x.dfe[tap.val]?).getD 0 + stepOf dTap) 8) } s)
  else .next s

/-- R108: the words of a LOCKED lane are aligned (word modes 0 and 1). -/
def execWordAlignmentGained (lane : Fin 64) (s : State) : Host.Outcome State Fault Refusal :=
  let n := lane.val
  let x := Machine.lane s n
  .next (if x.state = 2 ∧ prm s (P.LANE_WORD_MODE n) ≠ 2 then setLane n { x with aligned := true } s else s)

/-- R108: the alignment is lost and sought again. -/
def loseAlignment (n : Nat) (s : State) : State :=
  let x := lane s n
  if x.state = 2 ∧ x.aligned then laneFlag n 4 (setLane n { x with aligned := false } s) else s

/-- R108: ALIGN_LOST. -/
def execAlignLost (lane : Fin 64) (s : State) : Host.Outcome State Fault Refusal := .next (loseAlignment lane.val s)

/-- The port of a lane is stopped (R110, R113). -/
def lanePortStopped (s : State) (n : Nat) : Bool := !(port s (n / 4)).run

/-- R118: the right to write a lane's LN_CONTROL. -/
def laneRight (s : State) (a : Acc) (n : Nat) : Bool := writeRight a.principal (prmN s (P.LANE_OWNER n)) (prmB s (P.LANE_SECURE n))

/-- R111: counted bits and errors, those of an injection besides, reach the live counters, which saturate at 2^48 - 1 and then set CNT_SAT. -/
def countPrbs (n errs bits : Nat) (s : State) : State :=
  let x := lane s n
  if !x.prbsSync && !x.prbsLeft then s
  else
    let top := 2 ^ 48 - 1
    let errs := errs + injected x bits
    let sat := decide (top < x.errs + errs) || decide (top < x.bits + bits)
    let s := setLane n { x with
      errs := min top (x.errs + errs), bits := min top (x.bits + bits), inject := x.inject - bits, prbsPos := x.prbsPos + bits, prbsLeft := false
      gen := if x.prbsMode = 2 then prbsGo x.prbsPattern x.gen bits else x.gen } s
    if sat then laneFlag n 7 s else s

/-- R118: SNAP copies both live counters into LN_ERR and LN_BITS. -/
def snapLane (n : Nat) (s : State) : State := let x := lane s n; setLane n { x with snapErrs := x.errs, snapBits := x.bits } s

/-- R118: CNT_CLEAR clears both live counters and CNT_SAT. -/
def clearLane (n : Nat) (s : State) : State := let x := lane s n; setLane n { x with errs := 0, bits := 0, prbsLeft := false, flags := w1c x.flags 0x80 } s

/-- R113: one bit slip, or SLIP_REFUSED. -/
def slipLane (n : Nat) (s : State) : State :=
  let x := lane s n
  if prm s (P.LANE_WORD_MODE n) = 2 ∧ (lanePortStopped s n = true ∨ ¬ x.aligned) then
    setLane n { x with slip := (x.slip + 1) % 32, valid := false, aligned := false } s
  else laneFlag n 5 s

/-- R118: a write of LN_CONTROL acts in the order SNAP, CNT_CLEAR, BITSLIP. `errs` and `bits` were counted since the last update. -/
def lnControl (a : Acc) (n : Nat) (value : Word32) (errs bits : Nat) (s : State) : State :=
  windowWrite a (laneRight s a n) false 0x02 (n * 0x100 + 8) value.toNat (fun s =>
    let s := if hasFlag value 1 || hasFlag value 2 then countPrbs n errs bits s else s
    let s := if hasFlag value 1 then snapLane n s else s
    let s := if hasFlag value 2 then clearLane n s else s
    if hasFlag value 0 then slipLane n s else s) s

/-- R113, R118: BITSLIP: a write of LN_CONTROL that sets BITSLIP alone. -/
def execBitslip (a : Acc) (lane : Fin 64) (s : State) : Host.Outcome State Fault Refusal := .next (lnControl a lane.val 1 0 0 s)

/-- R118: SNAP: a write of LN_CONTROL that sets SNAP, with the further bits that it sets. -/
def execSnap (a : Acc) (w : BlockWrite 64) (errs bits : Nat) (s : State) : Host.Outcome State Fault Refusal :=
  .next (lnControl a w.block.val (setFlag w.value 1) errs bits s)

/-- R118: CNT_CLEAR: a write of LN_CONTROL that sets CNT_CLEAR and not SNAP. -/
def execCntClear (a : Acc) (w : LaneWrite) (s : State) : Host.Outcome State Fault Refusal :=
  .next (lnControl a w.block.val (setFlagIf (hasFlag w.value 0) 4 0) 0 w.bits s)

/-- R100, R113: a comparator window of CMP_WINDOW words ends: so many words came from the pins as SYNC_WORD, and so many as its complement. INVERT exchanges
the two. -/
def execComparatorWindowEnd (lane : Fin 64) (hits invHits : Nat) (s : State) : Host.Outcome State Fault Refusal :=
  let n := lane.val
  let x := Machine.lane s n
  let w := prmN s (P.LANE_CMP_WINDOW n)
  let (hits, invHits) := if prmB s (P.LANE_INVERT n) then (invHits, hits) else (hits, invHits)
  if x.state = 2 ∧ prm s (P.LANE_WORD_MODE n) = 2 then
    .next (setLane n { x with valid := true, seen := decide (hits = w), invSeen := decide (invHits = w), hits := hits % 65536, aligned := x.aligned || decide (hits = w) } s)
  else .next s

/-- R111: the checker falls out of sync after the bits and errors counted until then. -/
def execPrbsSyncLoss (lane : Fin 64) (errs bits : Nat) (s : State) : Host.Outcome State Fault Refusal :=
  let n := lane.val
  if (Machine.lane s n).prbsSync then
    let s := countPrbs n errs bits s
    .next (laneFlag n 6 (setLane n { Machine.lane s n with prbsSync := false } s))
  else .next s

/-- R111: the checker is in sync after 64 bits predicted correctly, while a checking mode runs it. -/
def execPrbsSyncGained (lane : Fin 64) (s : State) : Host.Outcome State Fault Refusal :=
  let n := lane.val
  let x := Machine.lane s n
  .next (if x.prbsMode = 1 ∨ x.prbsMode = 2 then setLane n { x with prbsSync := true } s else s)

/-! ### Commands -/

/-- R117: uplink `p` is driven: by a device that holds the claim, with RUN 1 and its lane quad powered; elsewhere it is in high impedance. -/
def uplinkDriven (s : State) (p : Nat) : Bool := holdsClaim s && prmB s (P.LANE_RUN (64 + p)) && quadOn s (p / 4)

/-- R117: uplink `p` is driven and carries port traffic. -/
def uplinkOn (s : State) (p : Nat) : Bool := uplinkDriven s p && (lane s (64 + p)).prbsMode != 3

/-- R116: something as it leaves on uplink `p`. -/
def uplSent (s : State) (p : Nat) (u : UplOut) : UplSent :=
  ⟨u, prmN s (P.LANE_UPL_RATE (64 + p)), prmB s (P.LANE_UPL_INVERT (64 + p)), prmN s (P.LANE_UPL_SWING (64 + p))⟩

/-- R116: something leaves on uplink `p`. -/
def sendUplink (p : Nat) (u : UplOut) (s : State) : State := setPort p { port s p with uplink := (port s p).uplink ++ [uplSent s p u] } s

/-- R110, R117: a driven uplink changes over to the PRBS pattern, or back to the idle bits of its port. The pattern is shown by its first 64 bits. -/
def uplinkPattern (n : Nat) (pat : Option (Nat × Nat × Nat)) (s : State) : State :=
  if n < 64 ∨ uplinkDriven s (n - 64) = false then s
  else match pat with
    | some (code, injection, rate) => sendUplink (n - 64) (.pattern code injection rate (prbsBits code (lane s n).gen 64)) s
    | none => sendUplink (n - 64) .idle s

/-- R110: the field combinations of PRBS_CONTROL. -/
def prbsValues (lane pattern mode injection rate : Nat) : List Detail :=
  if 80 ≤ lane then refuse1 0x0303 0 0
  else if 5 ≤ pattern then refuse1 0x0303 0 1
  else if 4 ≤ mode then refuse1 0x0303 0 2
  else if 4 ≤ injection then refuse1 0x0303 0 3
  else if (64 ≤ lane ∧ (mode = 1 ∨ mode = 2)) ∨ (lane < 64 ∧ mode = 3) then refuse1 0x0301 0 2
  else if mode < 2 ∧ injection ≠ 0 then refuse1 0x0301 0 3
  else if (injection = 2 ∧ (rate < 1 ∨ 16 < rate)) ∨ (injection = 3 ∧ rate < 1000) ∨ (injection < 2 ∧ rate ≠ 0) then refuse1 0x0301 0 4
  else []

/-- R110: a test that needs no FORCE: QMODE 1, a stopped port, or the partner of a ganged port. -/
def prbsFree (s : State) (lane : Nat) : Bool :=
  let p := if lane < 64 then lane / 4 else lane - 64
  (decide (lane < 64) && prmB s (P.LANE_QMODE lane)) || !(port s p).run || (p % 2 == 1 && prmB s (P.PORT_GANG (p - 1)))

/-- R110: PRBS_CONTROL. -/
def doPrbsControl (h : Hdr) (lane pattern mode injection rate : Nat) (s : State) : State :=
  xesil (.prbsControl h lane pattern mode injection rate)
    { op := 0x0503, h := h, params := leBytes 1 lane ++ leBytes 1 pattern ++ leBytes 1 mode ++ leBytes 1 injection ++ leBytes 4 rate, count := 1 } false
    (fun s =>
      let role := roleOf s h
      if h.force ∧ ¬ (h.via.principal = .sup ∨ h.via.principal = .twin ∨ (h.via.principal = .mgmt ∧ role = 2)) then refuseFree 0x0206
      else if lane < 64 then resErr h 2 lane s
      else match itemErr s h.via.principal role 2 2 false with
        | some st => refuseFree st
        | none => [])
    (fun _ => prbsValues lane pattern mode injection rate)
    (fun _ s =>
      let x := Machine.lane s lane
      if mode = 0 then .done [] false 0 ((if x.prbsMode = 3 then uplinkPattern lane none else id) (setLane lane { stopPrbs x with prbsMode := 0, forced := false } s))
      else if !prbsFree s lane && !h.force then .refuse (refuseFree 0x0502)
      else .done [] false 0 (uplinkPattern lane (if mode = 3 then some (pattern, injection, rate) else none) <| setLane lane { x with
        gen := prbsSeed pattern, prbsMode := mode, prbsPattern := pattern, injection := injection, prbsRate := rate, errs := 0, bits := 0, prbsSync := false
        prbsLeft := false, prbsPos := 0, inject := if injection = 1 then 1 else if injection = 2 then rate else 0
        forced := !prbsFree s lane } s))
    (fun _ => []) s

/-- R7, R112: EYE_SCAN of a LOCKED lane that is open to the principal. -/
def doEyeScan (h : Hdr) (lane : Nat) (s : State) : State :=
  xesil (.eyeScan h lane) { op := 0x0504, h := h, params := leBytes 1 lane ++ leBytes 7 0 } true (resErr h 2 lane)
    (fun _ => if 64 ≤ lane then refuse1 0x0303 0 0 else [])
    (fun _ s => if (Machine.lane s lane).state = 2 then .defer s else .refuse (refuse1 0x0703 0 lane))
    (fun _ => []) s

/-- R112: the reply of an eye scan; `data` holds LEFT, RIGHT, UPPER and LOWER as measured (6 bytes). An arm ends at 32 phase steps or 127 steps of 2 mV. -/
def eyeReply (s : State) (n : Nat) (data : List Byte) : List Byte :=
  let x := lane s n
  let mv := fun i => min 254 (leAt data i 2) / 2 * 2
  leBytes 1 n ++ leBytes 1 x.state ++ leBytes 2 0 ++ leBytes 1 (min 32 (leAt data 0 1)) ++ leBytes 1 (min 32 (leAt data 1 1)) ++ leBytes 2 (mv 2) ++
    leBytes 2 (mv 4) ++ leBytes 1 x.ctle ++ x.dfe.flatMap (fun t => leBytes 1 (toCode 8 t)) ++ leBytes 1 (prmN s (P.LANE_EYE_DWELL n)) ++ leBytes 7 0

end Sys2Proof.Machine
end

