-- ==== Sys2Proof/Machine/Motion.lean ====
section
/-! DEFINITION. Machine/Motion.lean: axes, line-trigger generators and compare units (chapter "Encoders, Line Triggers and
Position Compare"). -/
namespace Sys2Proof.Machine

/-- Axis `a`. -/
def axis (s : State) (a : Nat) : Axis := s.motn.axes.get {} a

/-- Replace axis `a`. -/
def setAxis (a : Nat) (x : Axis) (s : State) : State := { s with motn.axes := s.motn.axes.set {} a x }

/-- Line-trigger generator `k`. -/
def ltg (s : State) (k : Nat) : Ltg := s.motn.ltgs.get {} k

/-- Replace generator `k`. -/
def setLtg (k : Nat) (x : Ltg) (s : State) : State := { s with motn.ltgs := s.motn.ltgs.set {} k x }

/-- Compare unit `n`. -/
def pc (s : State) (n : Nat) : Pc := s.motn.pcs.get {} n

/-- Replace compare unit `n`. -/
def setPc (n : Nat) (x : Pc) (s : State) : State := { s with motn.pcs := s.motn.pcs.set {} n x }

/-- The ends of the s48 range. -/
def posMax : Int := 2 ^ 47 - 1

/-- The lower end of the s48 range. -/
def posMin : Int := -(2 ^ 47)

/-! ### Latches and triggers (R11, R151 to R153) -/

/-- R11, R13, R144, R147, R152: TIME less `back` ns, and POSITION of an axis, with POS_INVALID and the clock flags. -/
def latchAt (s : State) (ax back : Nat) : Latch :=
  let t := nowNs s - back
  let x := axis s ax
  let use := decide (ax < 8) && x.run
  let bad := !use || x.illegal || x.p == posMax || x.p == posMin
  { timeS := t / 1000000000, timeNs := t % 1000000000, pos := if use then x.p else 0, flags := setFlagIf bad (stampClockFlags s) 12, steps := s.tk.steps
    ills := if use then x.illegals else 0 }

/-- The nanoseconds of a latch. -/
def latchNs (l : Latch) : Nat := l.timeS * 1000000000 + l.timeNs

/-- R153: a trigger of generator `k` is issued: its port receives it. -/
def issueTrigger (k : Nat) (l : Latch) (s : State) : State :=
  let x := ltg s k
  let s := setLtg k { x with issued := x.issued + 1, lastNs := some (monoNs s) } s
  let p := port s k
  raise (224 + 2 * k) (argOf l.pos) (setPort k { p with incoming := p.incoming ++ [(l, false)] } s)

/-- R153: a generated trigger is issued, held, or dropped as the fifth; a dropped one makes a LOSS line. -/
def takeTrigger (k : Nat) (l : Latch) (s : State) : State :=
  let x := ltg s k
  let early := match x.lastNs with
    | some t => decide (monoNs s < t + prmN s (P.MOTN_LTG_MIN_PERIOD (16 + k))) || !x.held.isEmpty
    | none => false
  if !early then issueTrigger k l s
  else if x.held.length < 4 then setLtg k { x with held := x.held ++ [l], heldN := x.heldN + 1 } s
  else
    let p := port s k
    let s := setLtg k { x with dropped := x.dropped + 1 } s
    raise (224 + 2 * k + 1) (argOf l.pos) (setPort k { p with incoming := p.incoming ++ [(l, true)] } s)

/-- R152: what generator `k` latches at a trigger. -/
def ltgLatch (s : State) (k : Nat) : Latch :=
  let i := 16 + k
  let ax := prmN s (P.MOTN_LTG_AXIS i)
  let quad := prm s (P.MOTN_LTG_SOURCE i) = 0 ∧ ax < 8 ∧ prm s (P.MOTN_AX_INPUT ax) = 0
  latchAt s ax (if quad then (3 + prmN s (P.MOTN_AX_FILTER ax)) * 4 else 0)

/-- R151: one step of generator `k`. -/
def ltgStep (k : Nat) (up : Bool) (s : State) : State :=
  let x := ltg s k
  if !x.run then s
  else
    let i := 16 + k
    let n : Int := prm s (P.MOTN_LTG_DIV_N i)
    let m : Int := prm s (P.MOTN_LTG_DIV_M i)
    let acc := if up then x.acc + m else x.acc - m
    if up ∧ n ≤ acc then takeTrigger k (ltgLatch s k) (setLtg k { x with acc := acc - n } s)
    else if ¬ up ∧ prm s (P.MOTN_LTG_REV_MODE i) = 1 ∧ acc < 0 then takeTrigger k (ltgLatch s k) (setLtg k { x with acc := acc + n } s)
    else setLtg k { x with acc := acc } s

/-- R151: `n` unit steps of axis `a` reach every generator that it feeds. -/
def axisSteps (a : Nat) (up : Bool) : Nat → State → State
  | 0, s => s
  | n + 1, s =>
    axisSteps a up n (forEach (List.range 16) (fun k s =>
      if prm s (P.MOTN_LTG_SOURCE (16 + k)) = 0 ∧ prmN s (P.MOTN_LTG_AXIS (16 + k)) = a then ltgStep k up s else s) s)

/-! ### Compare units (R154 to R157) -/

/-- R155, R157: entries fire in one cycle: one pulse, one PC_FIRE, one record each. On a device without the claim the pin
stays in high impedance and the firing is silent (R347). -/
def firePc (n : Nat) (es : List (PcEntry × Bool × Bool)) (s : State) : State :=
  match es with
  | [] => s
  | (e0, _, _) :: _ =>
    let x := pc s n
    let width := (es.map (fun e => if e.1.width = 0 then prmN s (P.MOTN_PC_WIDTH (32 + n)) else e.1.width)).foldl max 0
    let stop := monoNs s + width * 1000
    let recs : List PcFired := es.map (fun e => ⟨e.1.tag, e.2.2, e.2.1⟩)
    let room := 64 - x.fired.length
    let s := if holdsClaim s then s else { s with twin.silent := s.twin.silent + es.length }
    raise (256 + 3 * n) e0.tag (setPc n { x with
      fired := x.fired ++ recs.take room
      flags := setFlagIf (decide (room < recs.length)) x.flags 3
      nOvf := x.nOvf + (recs.length - room)
      nFired := x.nFired + es.length
      pulseEnd := some (max stop (x.pulseEnd.getD 0)) } s)

/-- R155: the axis moved P from `old` to `new`: the entries passed fire and leave the list. -/
def passPc (a : Nat) (old new : Int) (n : Nat) (s : State) : State :=
  let x := pc s n
  if !x.run || prmN s (P.MOTN_PC_AXIS (32 + n)) != a then s
  else
    let fwd := fun (e : PcEntry) => decide (old < e.pos) && decide (e.pos ≤ new)
    let rev := fun (e : PcEntry) => e.bidir && decide (new < e.pos) && decide (e.pos ≤ old)
    let hit := x.list.filter (fun e => fwd e || rev e)
    firePc n (hit.map (fun e => (e, rev e, false))) (setPc n { x with list := x.list.filter (fun e => !(fwd e || rev e)) } s)

/-- R154: the list stays sorted by position, equal positions in insertion order. -/
def insertEntry (e : PcEntry) : List PcEntry → List PcEntry
  | [] => [e]
  | f :: fs => if e.pos < f.pos then e :: f :: fs else f :: insertEntry e fs

/-- R154, R156: an insertion: the result code of LAST_RESULT and the state. -/
def insertPc (n : Nat) (e : PcEntry) (s : State) : Nat × State :=
  let x := pc s n
  let a := axis s (prmN s (P.MOTN_PC_AXIS (32 + n)))
  if !x.run then (6, setPc n { x with nRefused := x.nRefused + 1 } s)
  else if e.pos ≤ a.p ∧ a.d = 1 then
    if e.late then (4, firePc n [(e, false, true)] (setPc n { x with flags := setFlag x.flags 2, nLate := x.nLate + 1 } s))
    else (3, raise (256 + 3 * n + 2) e.tag (setPc n { x with flags := setFlag x.flags 0, missed := some e.tag, nMissed := x.nMissed + 1 } s))
  else if 4096 ≤ x.list.length then
    (2, raise (256 + 3 * n + 1) e.tag (setPc n { x with flags := setFlag x.flags 1, nRefused := x.nRefused + 1 } s))
  else (1, setPc n { x with list := insertEntry e x.list } s)

/-! ### Axes (R143 to R150) -/

/-- R81: T* of an armed POSITION Cinch is the time latched as its axis reaches or passes the boundary value. -/
def noteCinchPos (a : Nat) (old new : Int) (s : State) : State :=
  match s.sys.cinch with
  | some c =>
    let v := ofCode 64 c.value
    if c.phase = 1 ∧ (s.sys.stage.get {} c.set).state = 3 ∧ c.btype = 3 ∧ c.axis = a ∧ c.tStar = none ∧ ((old < v ∧ v ≤ new) ∨ (new ≤ v ∧ v < old)) then
      let back := if prm s (P.MOTN_AX_INPUT a) = 0 then (3 + prmN s (P.MOTN_AX_FILTER a)) * 4 else 0
      { s with sys.cinch := some { c with tStar := some (nowNs s - back) } }
    else s
  | none => s

/-- R145, R147, R149, R150: a count of size `c` reaches P. -/
def applyCount (a : Nat) (c : Int) (s : State) : State :=
  let x := axis s a
  let want := x.p + c
  let p := max posMin (min posMax want)
  let sat := decide (p ≠ want)
  let sg : Int := if 0 < c then 1 else -1
  let wasStill := x.still
  let x' := { x with
    p := p, d := sg, illegal := false, still := false
    flags := setFlagIf sat x.flags 3
    valid := x.valid && !wasStill
    clearNs := if wasStill then monoNs s else x.clearNs
    same := if wasStill || x.sign != sg then 1 else min 4 (x.same + 1)
    sign := sg
    ssiBig := x.ssiBig && !wasStill }
  let s := setAxis a x' s
  let s := raiseIf sat (192 + 4 * a) (argOf p) s
  let s := raiseIf wasStill (192 + 4 * a + 3) (argOf p) s
  let moved := p - x.p
  forEach (List.range 8) (passPc a x.p p) (axisSteps a (decide (0 < moved)) moved.natAbs (noteCinchPos a x.p p s))

/-- R145: a count passes through the reversal hysteresis. -/
def countAxis (a : Nat) (c : Int) (s : State) : State :=
  let x := axis s a
  if ¬ prmB s (P.MOTN_AX_HYSTERESIS a) then applyCount a c s
  else if ¬ x.pend then
    if c = x.d then applyCount a c s
    else setAxis a { x with pend := true, nAbsorbed := x.nAbsorbed + 1 } s
  else if c = x.d then setAxis a { x with pend := false } s
  else applyCount a (2 * c) (setAxis a { x with pend := false } s)

/-- R144: an illegal transition. -/
def illegalAxis (a : Nat) (s : State) : State :=
  let x := axis s a
  raise (192 + 4 * a) (argOf x.p)
    (setAxis a { x with flags := setFlag x.flags 0, nIllegal := x.nIllegal + 1, illegal := true, illegals := x.illegals + 1, valid := false, clearNs := monoNs s, same := 0, ssiBig := false } s)

/-- R143, R144: the filtered levels take new values: a single change is a count, a change of both illegal. The levels are followed
whether the axis runs or not. -/
def decodeEdge (a : Nat) (na nb : Bool) (s : State) : State :=
  let x := axis s a
  if !x.run || prm s (P.MOTN_AX_INPUT a) != 0 then setAxis a { x with a := na, b := nb } s
  else
    let chA := na != x.a
    let chB := nb != x.b
    let s := setAxis a { x with a := na, b := nb } s
    if chA && chB then illegalAxis a s
    else if !chA && !chB then s
    else
      let plus := if chA then na != nb else nb == na
      let c : Int := if plus != prmB s (P.MOTN_AX_INVERT a) then 1 else -1
      countAxis a c s

/-- R143: QUADRATURE_EDGE. -/
def execQuadratureEdge (axis : Fin 8) (ab : Bool × Bool) (s : State) : Host.Outcome State Fault Refusal :=
  .next (decodeEdge axis.val ab.1 ab.2 s)

/-- R144: ILLEGAL_TRANSITION: both filtered inputs change in one cycle. -/
def execIllegalTransition (axis : Fin 8) (s : State) : Host.Outcome State Fault Refusal :=
  let x := Machine.axis s axis.val
  .next (decodeEdge axis.val (!x.a) (!x.b) s)

/-- R147: a rising Z copies P into AX_INDEX. -/
def execEncIndex (axis : Fin 8) (s : State) : Host.Outcome State Fault Refusal :=
  let a := axis.val
  let x := Machine.axis s a
  if !x.run || prm s (P.MOTN_AX_INPUT a) != 0 then .next s
  else .next (raise (192 + 4 * a + 1) (argOf x.p) (setAxis a { x with index := x.p, flags := setFlag x.flags 2 } s))

/-- R146: `n` counts of one sign, one after another. -/
def countMany (a : Nat) (c : Int) : Nat → State → State
  | 0, s => s
  | n + 1, s => countMany a c n (countAxis a c s)

/-- R146: an SSI read; no word where the line checks failed. -/
def execSsiRead (axis : Fin 8) (word : Option Nat) (s : State) : Host.Outcome State Fault Refusal :=
  let a := axis.val
  let x := Machine.axis s a
  let bits := prmN s (P.MOTN_AX_SSI_BITS a)
  let bad := fun (s : State) =>
    let x := Machine.axis s a
    illegalAxis a (setAxis a { x with flags := setFlag x.flags 1, nSsiErr := x.nSsiErr + 1 } s)
  if !x.run || prm s (P.MOTN_AX_INPUT a) != 1 then .next s
  else match word with
    | none => .next (bad s)
    | some raw =>
      let v := raw % 2 ^ bits
      let w := if prmB s (P.MOTN_AX_SSI_CODE a) then grayToBin bits v else v
      match x.ssiPrev with
      | none =>
        let p := max posMin (min posMax (w + prm s (P.MOTN_AX_PRESET a)))
        .next (forEach (List.range 8) (passPc a x.p p) (noteCinchPos a x.p p (setAxis a { x with ssiPrev := some w, p := p } s)))
      | some prev =>
        let d := ofCode bits (w + 2 ^ bits - prev)
        if (prmN s (P.MOTN_AX_SSI_MAX_DELTA a) : Int) < d.natAbs then .next (bad s)
        else
          let s := countMany a (if 0 < d then 1 else -1) d.natAbs (setAxis a { x with ssiPrev := some w } s)
          .next (if 4 ≤ d.natAbs then setAxis a { Machine.axis s a with ssiBig := true } s else s)

/-- R148: the gains, in double precision, rounded to the nearest integer, half up (R26). -/
def gains (bw : Nat) : Int × Int × Int :=
  let u := dbl (10 ^ (-6 : Int) : Rat)
  let w := dbl (dbl (dbl (2 * dPi) * bw) * u)
  let g1 := dbl (dbl (dbl (dbl (dbl (dSqrt2 * 2) * dPi) * bw) * u) * 2 ^ 32)
  (rndRat g1, rndRat (dbl (dbl (w * w) * 2 ^ 48)), rndRat (dbl (w * 2 ^ 32)))

/-- R148: one update of the tracking observer. -/
def execObserverUpdate (axis : Fin 8) (s : State) : Host.Outcome State Fault Refusal :=
  let a := axis.val
  let x := Machine.axis s a
  if !x.run || x.still then .next s
  else
    let (g1, g2, g3) := gains (prmN s (P.MOTN_AX_BANDWIDTH a))
    let e := x.p * 2 ^ 32 - x.xh
    let ainc := rnd (g2 * e) 32
    let xh := x.xh + rnd x.vt 16 + rnd (g1 * e) 32
    let vt := x.vt + ainc
    let v := satS (rnd (vt * 1000000) 32) 48
    let acc := satS (rnd (ainc * 10 ^ 12) 40) 40
    let ah := satS (x.ah + rnd (g3 * (acc - x.ah)) 32) 40
    .next (setAxis a { x with xh := xh, vt := vt, v := v, ah := ah, dir := if v < 0 then true else if 0 < v then false else x.dir } s)

/-- R149: no count for STILL_TIME. -/
def execEncStill (axis : Fin 8) (s : State) : Host.Outcome State Fault Refusal :=
  let a := axis.val
  let x := Machine.axis s a
  if !x.run || x.still then .next s
  else .next (raise (192 + 4 * a + 2) (argOf x.p) (setAxis a { x with still := true, xh := x.p * 2 ^ 32, vt := 0, ah := 0, v := 0, nStill := x.nStill + 1 } s))

/-- R150: the settling time in ns. -/
def settleNs (bw : Nat) : Nat := (1125000 + bw - 1) / bw * 1000

/-- R150: the settling time has passed since VALID was cleared, and four counts of one sign (or a large SSI read) came. -/
def execValidSettled (axis : Fin 8) (s : State) : Host.Outcome State Fault Refusal :=
  let a := axis.val
  let x := Machine.axis s a
  .next (if x.run ∧ (4 ≤ x.same ∨ x.ssiBig) ∧ x.clearNs + settleNs (prmN s (P.MOTN_AX_BANDWIDTH a)) ≤ monoNs s then setAxis a { x with valid := true } s else s)

/-- R151, R326: the step-free accumulator has gained 2 ns that a timer-mode generator has not taken. -/
def execLtgTimerStep (ltg : Fin 16) (s : State) : Host.Outcome State Fault Refusal :=
  let k := ltg.val
  let x := Machine.ltg s k
  if x.run ∧ prm s (P.MOTN_LTG_SOURCE (16 + k)) = 1 ∧ (x.timer + 1) * 2 ^ 49 ≤ s.tk.timer then
    .next (ltgStep k true (setLtg k { x with timer := x.timer + 1 } s))
  else .next s

/-- R153: MIN_PERIOD has passed since the last issued trigger: the oldest held one is issued. -/
def execLtgHeldIssue (ltg : Fin 16) (s : State) : Host.Outcome State Fault Refusal :=
  let k := ltg.val
  let x := Machine.ltg s k
  match x.held with
  | l :: ls =>
    .next (if monoNs s < x.lastNs.getD 0 + prmN s (P.MOTN_LTG_MIN_PERIOD (16 + k)) then s else issueTrigger k l (setLtg k { x with held := ls } s))
  | [] => .next s

/-! ### Windows (R158) -/

/-- R158: the right to write a compare unit's registers. -/
def pcRight (s : State) (a : Acc) (n : Nat) : Bool :=
  writeRight a.principal (prmN s (P.MOTN_PC_OWNER (32 + n))) (prmB s (P.MOTN_PC_SECURE (32 + n)))

/-- R340: the Active forwards a write of a compare unit's registers. -/
def forwardWrite (a : Acc) (off : Nat) (value : Word32) (s : State) : State :=
  if attached s then sendSeq 0x13 (leBytes 1 a.principal.code ++ leBytes 3 0 ++ leBytes 4 (regAddr 4 off) ++ leBytes 4 value.toNat ++ leBytes 4 0) s else s

/-- R154, R158: the entry that PC_INS_CMD inserts. -/
def windowEntry (x : Pc) (value : Word32) : PcEntry :=
  { pos := ofCode 48 (x.insHi.toNat % 65536 * 2 ^ 32 + x.insLo.toNat), late := hasFlag x.insHi 31, bidir := hasFlag x.insHi 30,
    tag := value.toNat % 65536, width := value.toNat / 65536 }

/-- R154, R156, R158: what a write of a register of compare unit `n` does: PC_INS_POS_LO and HI at 8 and 0xC, PC_INS_CMD at 0x10, PC_CONTROL at 0x14. -/
def pcAct (n r : Nat) (v : Word32) (s : State) : State :=
  let x := pc s n
  if r = 8 then setPc n { x with insLo := v } s
  else if r = 0xC then setPc n { x with insHi := v } s
  else if r = 0x10 then
    let (res, s) := insertPc n (windowEntry x v) s
    setPc n { pc s n with result := res } s
  else
    let x := if hasFlag v 17 then { x with list := [], result := 1 } else x
    if hasFlag v 16 then
      let left := x.list.filter (fun e => e.tag != v.toNat % 65536)
      setPc n { x with list := left, result := if left.length = x.list.length then 5 else 1 } s
    else setPc n x s

/-- R340, R434: a write of a compare unit's register: on a device without the claim it is ignored and recorded, and an Active forwards it. -/
def pcWrite (a : Acc) (n r : Nat) (v : Word32) (s : State) : State :=
  let off := 0x1000 + n * 0x100 + r
  if pcRight s a n && !holdsClaim s then recordRefusal true true a (winAddr 4 off) s
  else windowWrite a (pcRight s a n) (r == 0x10 || r == 0x14) 4 off v.toNat (fun s => forwardWrite a off v (pcAct n r v s)) s

/-- R154, R156, R158: a write of PC_INS_CMD. -/
def execPcInsCmd (a : Acc) (pc : Fin 8) (value : Word32) (s : State) : Host.Outcome State Fault Refusal := .next (pcWrite a pc.val 0x10 value s)

/-- R158: PC_CONTROL.CLEAR removes every entry. -/
def execClear (a : Acc) (pc : Fin 8) (s : State) : Host.Outcome State Fault Refusal := .next (pcWrite a pc.val 0x14 0x20000 s)

/-- R158: PC_CONTROL.DELETE removes every entry with the tag. -/
def execDelete (a : Acc) (pc : Fin 8) (tag : Word16) (s : State) : Host.Outcome State Fault Refusal :=
  .next (pcWrite a pc.val 0x14 (BitVec.ofNat 32 (0x10000 + tag.toNat)) s)

/-- R158: a read of PC_FIRED removes the oldest record. -/
def execPcFiredRead (a : Acc) (pc : Fin 8) (s : State) : Host.Outcome State Fault Refusal :=
  let n := pc.val
  .next (windowRead a true 4 (0x1000 + n * 0x100 + 0x18) (fun s => match (Machine.pc s n).fired with
    | f :: _ => f.tag % 2 ^ 16 + 2 ^ 29 * b2n f.reverse + 2 ^ 30 * b2n f.late + 2 ^ 31
    | [] => 0) (setPc n { Machine.pc s n with fired := (Machine.pc s n).fired.drop 1 }) s)

/-- R158: a read of PC_MISSED clears it. -/
def execPcMissedRead (a : Acc) (pc : Fin 8) (s : State) : Host.Outcome State Fault Refusal :=
  let n := pc.val
  .next (windowRead a true 4 (0x1000 + n * 0x100 + 0x1C) (fun s => match (Machine.pc s n).missed with | some tag => tag % 2 ^ 16 + 2 ^ 31 | none => 0) (setPc n { Machine.pc s n with missed := none }) s)

/-- R158: a read of AX_POS_LO captures the block. -/
def execAxPosCapture (a : Acc) (axis : Fin 8) (s : State) : Host.Outcome State Fault Refusal :=
  let n := axis.val
  let x := Machine.axis s n
  .next (windowRead a true 4 (n * 0x100 + 8) (fun _ => toCode 48 x.p) (setAxis n { x with cap := ⟨x.p, x.v, x.ah, x.index⟩ }) s)

/-- R155: a compare pulse ends when its width has passed. -/
def execPcPulseEnd (pc : Fin 8) (s : State) : Host.Outcome State Fault Refusal :=
  .next (match (Machine.pc s pc.val).pulseEnd with
    | some t => if t ≤ monoNs s then setPc pc.val { Machine.pc s pc.val with pulseEnd := none } s else s
    | none => s)

/-! ### Starting and stopping (R145, R147, R150, R153, R159) -/

/-- RUN of an axis becomes 1. DESIGN CHOICE (log entry 97): the observer starts from xh, vt, ah and V of 0 whatever PRESET is; the spec states
its start values nowhere. DESIGN CHOICE (log entry 134): the mark of an illegal transition (R144) is cleared though no count has been applied. -/
def startAxis (a : Nat) (s : State) : State :=
  let x := axis s a
  setAxis a { x with
    run := true, p := if prm s (P.MOTN_AX_INPUT a) = 0 then prm s (P.MOTN_AX_PRESET a) else x.p, d := 1, pend := false, ssiPrev := none
    valid := false, clearNs := monoNs s, same := 0, ssiBig := false, still := false, illegal := false, xh := 0, vt := 0, ah := 0, v := 0 } s

/-- RUN of an axis becomes 0. -/
def stopAxis (a : Nat) (s : State) : State := setAxis a { axis s a with run := false } s

/-- RUN of a generator becomes 1. -/
def startLtg (k : Nat) (s : State) : State :=
  setLtg k { ltg s k with run := true, acc := prm s (P.MOTN_LTG_PHASE (16 + k)), held := [], lastNs := none, timer := s.tk.timer / 2 ^ 49 } s

/-- RUN of a generator becomes 0: the triggers it holds are dropped. -/
def stopLtg (k : Nat) (s : State) : State :=
  let x := ltg s k
  setLtg k { x with run := false, held := [], dropped := x.dropped + x.held.length } s

/-- RUN of a compare unit becomes 1. -/
def startPc (n : Nat) (s : State) : State := setPc n { pc s n with run := true } s

/-- RUN of a compare unit becomes 0: its list and fired FIFO are cleared and its pin is inactive. -/
def stopPc (n : Nat) (s : State) : State := setPc n { pc s n with run := false, list := [], fired := [], pulseEnd := none } s

end Sys2Proof.Machine
end

