-- ==== Sys2Proof/Machine/Raw.lean ====
section
/-! DEFINITION. Machine/Raw.lean: Triyn raw framing as the words of a lane: START, idle words, descrambling and the parts of a segment (R124 to R126). -/
namespace Sys2Proof.Machine

/-- R124: H1 of a segment: KIND, FS, FE, CRC, the reserved bit and LINE_COUNT. -/
def segH1 (kind : Nat) (fs fe crc res : Bool) (count : Nat) : Nat :=
  kind * 2 ^ 28 + 2 ^ 27 * b2n fs + 2 ^ 26 * b2n fe + 2 ^ 25 * b2n crc + 2 ^ 24 * b2n res + count % 2 ^ 24

/-- R124: H1 of a LINE segment. -/
def lineH1 (g : RawSegment) : Nat := segH1 1 g.fs g.fe g.crc.isSome g.res g.count

/-- R124, R126: the CRC word of a segment is the CRC-32C of H1, H2 and the data words; with RAW_CRC 1 (`need`) a segment without one fails. -/
def wordsCrcBad (need : Bool) (h1 h2 : Nat) (words : List Nat) (crc : Option Nat) : Bool :=
  match crc with
  | some c => c != crc32c ((h1 :: h2 :: words).flatMap (leBytes 4))
  | none => need

/-- R124: bytes as words of 32 bits, zero bytes padding the last. -/
def rawWords (bs : List Byte) : List Nat := (List.range ((bs.length + 3) / 4)).map (fun i => ofLe ((bs.drop (4 * i)).take 4))

/-- R125: the data words of a CONTROL_REPLY: tag, status and length, then the data. -/
def replyWords (tag status : Nat) (data : List Byte) : List Nat := (tag + status * 2 ^ 8 + data.length * 2 ^ 16) :: rawWords data

/-! ### Words as received -/

/-- R124: the descrambler of x^58 + x^39 + 1 (IEEE 802.3 Clause 49) takes one received bit; `st` holds the 58 bits before it, the newest lowest. -/
def descrambleBit (st : Nat) (b : Bool) : Bool × Nat := ((b != bitOf st 38) != bitOf st 57, (st * 2 + b2n b) % 2 ^ 58)

/-- R124: `n` bits, the lowest first, through the descrambler. -/
def descramble (st v : Nat) : Nat → Nat × Nat
  | 0 => (0, st)
  | n + 1 =>
    let (lo, st) := descramble st v n
    let (b, st) := descrambleBit st (bitOf v n)
    (lo + 2 ^ n * b2n b, st)

/-- R124: what a lane made of its words: a word of 32 bits with its K characters, or nothing of a block that carries none; and the code errors in it. -/
structure RawItem where
  word : Option (Nat × Nat)
  errs : Nat := 0
  deriving DecidableEq, Repr

/-- R124: the words of a lane. In word mode 1 a block with the data header 0b01 gives two words, the low one first; any other block is a code error. -/
def readWords (mode st : Nat) : List RawWord → List RawItem × Nat
  | [] => ([], st)
  | w :: ws =>
    if mode = 1 then
      let (v, st) := descramble st w.bits 64
      let (is, st) := readWords mode st ws
      (if w.ctl = 1 then { word := some (v % 2 ^ 32, 0) } :: { word := some (v / 2 ^ 32, 0) } :: is else { word := none, errs := 1 } :: is, st)
    else
      let (is, st) := readWords mode st ws
      ({ word := some (w.bits % 2 ^ 32, if mode = 0 then w.ctl else 0), errs := w.errs } :: is, st)

/-- R124: the idle word of a word mode: SYNC_WORD, or K28.5 D21.5 D21.5 D21.5. -/
def idleWord (mode sync : Nat) : Nat × Nat := if mode = 0 then (0xB5B5B5BC, 1) else (sync, 0)

/-- R124: START: the complement of SYNC_WORD, or K27.7 four times. -/
def startWord (mode sync : Nat) : Nat × Nat := if mode = 0 then (0xFBFBFBFB, 15) else (2 ^ 32 - 1 - sync, 0)

/-- The next `n` words of a lane, the code errors up to there, and what follows. -/
def takeWords : List RawItem → Nat → List Nat × Nat × List RawItem
  | is, 0 => ([], 0, is)
  | [], _ + 1 => ([], 0, [])
  | i :: is, n + 1 => match i.word with
    | some w => let (ws, e, rest) := takeWords is n; (w.1 :: ws, e + i.errs, rest)
    | none => let (ws, e, rest) := takeWords is (n + 1); (ws, e + i.errs, rest)

/-- R126: a word between segments that is neither the idle word nor START. -/
def junkIn (mode sync : Nat) (is : List RawItem) : Bool := is.any (fun i => i.word.any (fun w => w != idleWord mode sync && w != startWord mode sync))

/-- What a lane's words hold: a segment of a KIND, where START has come; the code errors between segments; a word there that is none of theirs; and the
descrambler after them. -/
structure RawHeard where
  kind  : Nat := 0
  seg   : Option RawSegment := none
  idle  : Nat := 0
  junk  : Bool := false
  descr : Nat := 0
  deriving DecidableEq, Repr

/-- R124 to R126: the segment in the words of a lane. Whatever stands before START, or after the segment's last word, stands between segments. -/
def hearWords (mode sync st : Nat) (ws : List RawWord) : RawHeard :=
  let (is, st) := readWords mode st ws
  let isStart := fun (i : RawItem) => i.word == some (startWord mode sync)
  let pre := is.takeWhile (fun i => !isStart i)
  let idle := (pre.map RawItem.errs).sum
  match is.drop pre.length with
  | [] => { idle := idle, junk := junkIn mode sync pre, descr := st }
  | s0 :: body =>
    let (hs, e1, body) := takeWords body 2
    let h1 := (hs[0]?).getD 0
    let h2 := (hs[1]?).getD 0
    let (data, e2, body) := takeWords body h2
    let crc := bitOf h1 25
    let (cs, e3, post) := takeWords body (b2n crc)
    { kind := h1 / 2 ^ 28
      seg := some { count := h1 % 2 ^ 24, fs := bitOf h1 27, fe := bitOf h1 26, res := bitOf h1 24, wordCount := h2, words := data, crc := if crc then some ((cs[0]?).getD 0) else none
                    codeErrs := s0.errs + e1 + e2 + e3 }
      idle := idle + (post.map RawItem.errs).sum, junk := junkIn mode sync pre || junkIn mode sync post, descr := st }

end Sys2Proof.Machine
end

