-- ==== Sys2Proof/Machine/Check.lean ====
section
/-! DEFINITION. Machine/Check.lean: the checks of the data path (R396 to R402). -/
namespace Sys2Proof.Machine

/-- R402: a failure at a consumer of step 5: counted, and logged at most once per second with the failures so far; the answer
tells the COUNT to log, if any. -/
def ChkConsumer.fail (x : ChkConsumer) (now : Nat) : ChkConsumer × Option Nat :=
  let due := match x.logged with | some t => decide (t + 1000000000 ≤ now) | none => true
  if due then ({ fails := x.fails + 1, logged := some now, open_ := 0 }, some (x.open_ + 1))
  else ({ x with fails := x.fails + 1, open_ := x.open_ + 1 }, none)

/-- R402: CHK_STAGE with the consumer's unit code and GLOBAL_LINE: consumer 0x08 PROF, 0x09 SEGM, otherwise the unit former. -/
def chkStage (unit g : Nat) (s : State) : State :=
  let x := if unit = 8 then s.chk.prof else if unit = 9 then s.chk.segm else s.chk.former
  let (x, n) := x.fail (monoNs s)
  let s := if unit = 8 then { s with chk.prof := x } else if unit = 9 then { s with chk.segm := x } else { s with chk.former := x }
  let arg := unit * 2 ^ 48 + g
  let s := raise 554 arg s
  match n with
  | some k => logDeviceN 554 0x0702 0 arg k s
  | none => s

/-- R396: a consumer verifies the check that came with a line. -/
def verifyLine (unit : Nat) (t : Stamp) (px : List Nat) (s : State) : State :=
  if lineCheck px = t.lineCheck then s else chkStage unit t.globalLine s

/-- R300: a line that the item carries is one that a flow consumes. -/
def consumed (i : Item) (s : State) : Bool :=
  (flowsOf s).any (fun f => match (flow s f).cur with
    | some ent => feMatches ent i.product i.source && !((flow s f).waiting && !i.frameStart)
    | none => false)

/-- R399 step 5, R402: the unit former verifies a line as a flow consumes it; the unit is sent as formed. DESIGN CHOICE (log entry 155): the consumer's code is that of
the unit whose product the line forms. -/
def feedLine (unit g : Nat) (ok : Bool) (i : Item) (s : State) : State := feed i (if ok || !consumed i s then s else chkStage unit g s)

/-- Bytes as a memory upset leaves them: pairs of index and value as read (R404). -/
def upsetBytes (ups : List (Nat × Nat)) (bs : List Byte) : List Byte := ups.foldl (fun l u => l.set u.1 (BitVec.ofNat 8 u.2)) bs

/-- Samples as a memory upset leaves them: pairs of index and value as read (R404). -/
def upsetPx (ups : List (Nat × Nat)) (px : List Nat) : List Nat := ups.foldl (fun l u => l.set u.1 u.2) px

end Sys2Proof.Machine
end

