-- ==== Sys2Proof/Machine/Profile.lean ====
section
/-! DEFINITION. Machine/Profile.lean: profiles, decimation and detectors (chapter "Profiles, Decimation and Detectors"). -/
namespace Sys2Proof.Machine

/-- Channel `c`. -/
def prof (s : State) (c : Nat) : Prof := s.profs.get {} c

/-- Replace channel `c`. -/
def setProf (c : Nat) (x : Prof) (s : State) : State := { s with profs := s.profs.set {} c x }

/-- The columns that a channel covers. -/
def profCols (d : Dict) (c : Nat) : Nat := dictN d (P.PROF_C1 c) + 1 - dictN d (P.PROF_C0 c)

/-- R218: the values of a channel's columns in a line with `comps` samples per pixel. -/
def profVals (d : Dict) (c comps : Nat) (px : List Nat) : List Nat :=
  let c0 := dictN d (P.PROF_C0 c)
  (List.range (profCols d c)).map (fun x =>
    if dictVal d (P.PROF_SRC c) = 16 then (px[(c0 + x) * comps + dictN d (P.PROF_COMP c)]?).getD 0 else (px[c0 + x]?).getD 0)

/-- R223: a channel's state is cleared. -/
def clearProf (x : Prof) : Prof :=
  { x with w := 0, ring := [], s1 := [], s2 := [], ref := [], sigma := [], hi := [], lo := [], env := [], restart := true }

/-- Element `i` of a list of figures, 0 where none was formed. -/
def at0 (l : List Nat) (i : Nat) : Nat := (l[i]?).getD 0

/-- R224: an envelope step. -/
def envStep (m env attack release : Nat) : Nat :=
  let d : Int := (m : Int) - env
  (env + rnd (d * (if env < m then attack else release)) 16).toNat

/-- R221 to R224: a sample of n ≥ 1 lines updates the window, the reference, the noise and the detectors. -/
def profUpdate (d : Dict) (c n : Nat) (a q : List Nat) (x : Prof) : Prof :=
  let m := a.map (fun v => (v * 512 + n) / (2 * n))
  let qq := q.map (fun v => (v * 512 + n) / (2 * n))
  let len := dictN d (P.PROF_L c)
  let full := decide (len ≤ x.w)
  let old := if full then x.ring.head?.getD ([], []) else ([], [])
  let w := if full then x.w else x.w + 1
  let idx := List.range m.length
  let s1 := idx.map (fun i => at0 x.s1 i - at0 old.1 i + at0 m i)
  let s2 := idx.map (fun i => at0 x.s2 i - at0 old.2 i + at0 qq i)
  let ref := s1.map (fun v => (v * 2 + w) / (2 * w))
  let msq := s2.map (fun v => (v * 2 + w) / (2 * w))
  let sigma := idx.map (fun i => isqrt (at0 msq i * 256 - at0 ref i * at0 ref i))
  let decay := dictN d (P.PROF_PEAK_DECAY c)
  let at_ := dictN d (P.PROF_ATTACK c)
  let re := dictN d (P.PROF_RELEASE c)
  { x with
    w := w, ring := (if full then x.ring.drop 1 else x.ring) ++ [(m, qq)], s1 := s1, s2 := s2, ref := ref, sigma := sigma
    hi := if x.restart then m else idx.map (fun i => max (at0 m i) (at0 x.hi i - decay))
    lo := if x.restart then m else idx.map (fun i => min (at0 m i) (at0 x.lo i + decay))
    env := if x.restart then m else idx.map (fun i => envStep (at0 m i) (at0 x.env i) at_ re)
    restart := false }

/-- R228: the record of column `i` with the mean `m`. -/
def profRecord (fields : Nat) (m : List Nat) (x : Prof) (i : Nat) : List Byte :=
  let put := fun (k v : Nat) => if bitOf fields k then leBytes 3 v else []
  put 0 (at0 m i) ++ put 1 (at0 x.ref i) ++ put 2 (at0 x.sigma i) ++ put 3 (at0 x.hi i) ++ put 4 (at0 x.lo i) ++ put 5 (at0 x.env i)

/-- R227, R229: a sample leaves the delay and enters the PROF product, where OUT_EN was 1 for it. -/
def emitProf (c : Nat) (h : Option (Stamp × List Byte × Nat)) (s : State) : State :=
  match h with
  | none => s
  | some h =>
    feed { product := 7, source := c, epoch := h.1.epoch, firstId := h.1.globalLine, chunks := [.stamp h.1, .bytes h.2.1], frame := h.1.frame,
           lineInFrame := h.1.lineInFrame, cap := prmAtN s h.1.epoch (P.PROF_PROF_GROUP c), loss := hasFlag h.1.flags 0, refNs := h.2.2 } s

/-- R220 to R228: the group closes; `latched` tells that it closes at a FRAME_END. -/
def closeGroup (c : Nat) (latched : Bool) (s : State) : State :=
  let x := prof s c
  match x.group with
  | none => s
  | some g =>
    let d := dictAt s x.epoch
    let empty := g.n == 0
    let short := decide (g.lines < dictN d (P.PROF_K c))
    let restart := !empty && x.restart
    let y := if empty then x else profUpdate d c g.n g.a g.q x
    let m := if empty then [] else g.a.map (fun v => (v * 512 + g.n) / (2 * g.n))
    let fields := dictN d (P.PROF_FIELDS c)
    let cols := profCols d c
    let recs := (List.range cols).flatMap (profRecord fields m y)
    let valid := decide (dictN d (P.PROF_REF_MIN c) ≤ y.w)
    let flags := b2n empty + 2 * b2n short + 4 * b2n valid + 8 * b2n restart + 16 * b2n latched
    let t := { g.stamp with lineCheck := crc32c recs }
    let rest := leBytes 1 c ++ leBytes 1 fields ++ leBytes 2 flags ++ leBytes 4 g.lines ++ leBytes 4 g.n ++ leBytes 4 cols ++ padTo 8 recs
    let out := dictVal d (P.PROF_OUT_EN c) == 1
    let held := y.held ++ [if out then some (t, rest, g.refNs) else none]
    let go := held.take (held.length - dictN d (P.PROF_DELAY c))
    let y := { y with group := none, held := held.drop go.length, samples := y.samples + 1, empties := y.empties + b2n empty, shorts := y.shorts + b2n short }
    forEach go (emitProf c) (setProf c y s)

/-- R404: an uncorrectable error in the accumulator of a column: the sums are as read, free values, and the sample carries STAGE_CHECK_ERR. -/
def profEcc (c col : Nat) (s : State) : State :=
  match (prof s c).group with
  | none => s
  | some g =>
    if g.a.length ≤ col then s
    else
      let (v, s) := fresh s
      let (w, s) := fresh s
      setProf c { prof s c with group := some { g with
        a := g.a.set col (v % 2 ^ 32), q := g.q.set col (w % 2 ^ 48), stamp := { g.stamp with flags := setFlag g.stamp.flags 5 } } } s

/-- R225: the published set is latched at a FRAME_END; PROF_LATCH names the frame. -/
def latchProf (c frame : Nat) (s : State) : State :=
  let x := prof s c
  let valid := decide (prmAtN s x.epoch (P.PROF_REF_MIN c) ≤ x.w)
  let x := if x.data then { x with pubRef := x.ref, pubSigma := x.sigma, pubValid := valid } else x
  raise (331 + c) frame (setProf c { x with data := false, latches := x.latches + 1 } s)

/-- R227, R229: a channel stops: it closes its group, emits what it holds, and its unit closes. -/
def stopProf (c : Nat) (s : State) : State :=
  if !(prof s c).run then s
  else
    let s := closeGroup c false s
    let x := prof s c
    closeProduct 7 c (setProf c { x with run := false, held := [] } (forEach x.held (emitProf c) s))

/-- R223: a channel starts. -/
def startProf (c epoch : Nat) (s : State) : State :=
  let x := prof s c
  setProf c { clearProf x with run := true, epoch := epoch, group := none, data := false, pubRef := [], pubSigma := [], pubValid := false, held := [] } s

/-- R220, R223, R77: a line of another epoch arrives at a running channel. -/
def profSwitch (c epoch : Nat) (s : State) : State :=
  let x := prof s c
  if !x.run || x.epoch == epoch then s
  else
    let s := closeGroup c false s
    let d := dictAt s epoch
    if dictVal d (P.PROF_RUN c) = 0 then stopProf c s
    else
      let old := dictAt s x.epoch
      let y := { prof s c with epoch := epoch }
      let changed := dictVal d (P.PROF_K c) != dictVal old (P.PROF_K c) || dictVal d (P.PROF_L c) != dictVal old (P.PROF_L c)
      setProf c (if changed then clearProf y else y) s

/-- R220: a line of the channel's stream enters its group. -/
def profLine (c comps : Nat) (t : Stamp) (px : List Nat) (s : State) : State :=
  let d := dictAt s t.epoch
  let x := prof s c
  let lost := stampLost t
  let vals := profVals d c comps px
  let zero := List.replicate vals.length 0
  let g := x.group.getD ⟨0, 0, zero, zero, { t with flags := 0 }, 0⟩
  let g := { g with
    lines := g.lines + 1, n := if lost then g.n else g.n + 1
    a := if lost then g.a else List.zipWith (· + ·) g.a vals
    q := if lost then g.q else List.zipWith (fun a v => a + v * v) g.q vals
    stamp := { g.stamp with flags := g.stamp.flags ||| t.flags }, refNs := stampNs t }
  let s := setProf c { x with group := some g, data := x.data || !lost } s
  let fe := hasFlag t.flags 14
  let s := if fe || decide (dictN d (P.PROF_K c) ≤ g.lines) then closeGroup c fe s else s
  if fe then latchProf c t.frame s else s

/-- R218: the channels that read a stream (a port, or 16) at a line of an epoch. -/
def profChannels (stream epoch : Nat) (s : State) : List Nat :=
  (List.range 16).filter (fun c =>
    let x := prof s c
    decide (prmAtN s (if x.run then x.epoch else epoch) (P.PROF_SRC c) = stream) && (x.run || prmAtB s epoch (P.PROF_RUN c)))

/-- R220, R223: the channels of a stream take the epoch of its next line: they close groups, start and stop. -/
def switchProfiles (stream epoch : Nat) (s : State) : State :=
  forEach (List.range 16) (fun c s =>
    let mine := decide (prmAtN s (if (prof s c).run then (prof s c).epoch else epoch) (P.PROF_SRC c) = stream)
    let s := if mine then switchFlows 7 c epoch (profSwitch c epoch s) else s
    if !(prof s c).run && prmAtB s epoch (P.PROF_RUN c) && prmAtN s epoch (P.PROF_SRC c) == stream then startProf c epoch s else s) s

/-- R218: a line of a stream reaches the channels that read it. -/
def feedProfiles (stream comps : Nat) (t : Stamp) (px : List Nat) (s : State) : State :=
  let s := switchProfiles stream t.epoch s
  let chans := (profChannels stream t.epoch s).filter (fun c => (prof s c).run)
  if chans.isEmpty then s else forEach chans (fun c s => profLine c comps t px s) (verifyLine 8 t px s)

end Sys2Proof.Machine
end

