-- ==== Sys2Proof/Machine/CrcUnits.lean ====
section
/-! DEFINITION. Machine/CrcUnits.lean: the CRC units, JOB_CRC and the record of SRAM errors (chapter "Check Values from End to End"). -/
namespace Sys2Proof.Machine

/-! ### CRC units (R406 to R409) -/

/-- CRC unit `k`. -/
def crcUnit (s : State) (k : Nat) : CrcUnit := s.chk.units.get {} k

/-- Replace CRC unit `k`. -/
def setCrcUnit (k : Nat) (x : CrcUnit) (s : State) : State := { s with chk.units := s.chk.units.set {} k x }

/-- R408, R410: a unit is BUSY while a channel that names it is WAITING or ACTIVE, and while a job runs on it. -/
def crcBusy (s : State) (k : Nat) : Bool :=
  (crcUnit s k).job.isSome || s.qdma.chans.any (fun p => p.2.dstKind == 3 && p.2.dst % 8 == k && chanBusy p.2)

/-- R91: the write right of a unit's block. -/
def crcRight (s : State) (p : Principal) (k : Nat) : Bool := writeRight p (prmN s (P.CHK_OWNER k)) (prmB s (P.CHK_SECURE k))

/-- R409: a write while BUSY changes nothing but REFUSED. -/
def crcWrite (k : Nat) (act : CrcUnit → CrcUnit) (s : State) : State :=
  let x := crcUnit s k
  setCrcUnit k (if crcBusy s k then { x with refused := true, nRefused := x.nRefused + 1 } else act x) s

/-- R407: the init state of a preset. -/
def crcInit (preset : Nat) (x : CrcUnit) : CrcUnit :=
  { x with preset := preset, state := (crcPreset preset).init, count := 0, reached := false, errMark := false }

/-- R407, R411: PRESET: a write of CK_CONFIG. -/
def execPreset (a : Acc) (unit : Fin 8) (value : Word32) (s : State) : Host.Outcome State Fault Refusal :=
  .next (windowWrite a (crcRight s a.principal unit.val) true 0x15 (unit.val * 0x40) value.toNat
    (crcWrite unit.val (fun x => { crcInit (value.toNat % 4) x with cfgRsv := value.toNat / 4 })) s)

/-- R407, R411: INIT: a write of CK_CONTROL with INIT 1. -/
def execInit (a : Acc) (unit : Fin 8) (s : State) : Host.Outcome State Fault Refusal :=
  .next (windowWrite a (crcRight s a.principal unit.val) false 0x15 (unit.val * 0x40 + 4) 1
    (crcWrite unit.val (fun x => crcInit x.preset x)) s)

/-- R408: the unit consumes the next word that DMA delivered: its bytes up to CK_LIMIT, the rest being discarded. -/
def feedWord (x : CrcUnit) : CrcUnit :=
  match x.input with
  | [] => x
  | w :: ws =>
    let n := if x.limit = 0 then 8 else min 8 (x.limit - x.count)
    let st := crcFeed (crcPreset x.preset) x.state ((leBytes 8 w.val).take n)
    { x with input := ws, state := st, count := (x.count + n) % 2 ^ 32, bytes := x.bytes + n
             reached := x.reached || (x.limit != 0 && decide (x.count + n = x.limit)), errMark := x.errMark || (w.err && n != 0) }

/-- R407: the result of a unit. -/
def crcUnitResult (x : CrcUnit) : Nat := crcResult (crcPreset x.preset) x.state

/-! ### JOB_CRC (R410) -/

/-- R410: the reply of the job on a unit, once its data are consumed and DC63 has ended. -/
def endCrcJob (k : Nat) (s : State) : State :=
  let x := crcUnit s k
  match x.job with
  | some (a, b) =>
    if x.input = [] ∧ chanBusy (chan s 63) = false then
      let s := setCrcUnit k { x with job := none, jobs := x.jobs + 1, limit := 0 } s
      match findDeferred s a b with
      | some d => if x.errMark then failDeferred d (refuseFree 0x0701) s else endDeferred d 0 (leBytes 8 (crcUnitResult x)) false 0 s
      | none => s
    else s
  | none => s

/-- R410, R61: a unit owned by SUP takes a waiting job, which DC63 feeds. -/
def beginCrcJob (k : Nat) (sess seq : Nat) (s : State) : State :=
  match (findDeferred s sess seq).map Deferred.cmd with
  | some (.jobCrc _ preset addr len init) =>
    let x := crcInit preset (crcUnit s k)
    let s := setCrcUnit k { x with state := Nat.xor init (crcPreset preset).xorOut, limit := len, input := [], job := some (sess, seq) } (commitDeferred sess seq s)
    startChan 63 (setChan 63 { chan s 63 with src := addr, dst := k, count := roundUp 64 len, ring := 0, srcKind := 0, dstKind := 3, pktAlign := false,
                                              errStop := false, pktBlocks := 0 } s)
  | _ => s

/-- R410: the next waiting job begins where a unit owned by SUP and DC63 are free. -/
def pumpCrcJobs (s : State) : State :=
  match s.chk.jobs, (List.range 8).find? (fun k => prm s (P.CHK_OWNER k) == 0 && !crcBusy s k && (crcUnit s k).input.isEmpty) with
  | (a, b) :: rest, some k =>
    if chanBusy (chan s 63) || (List.range 8).any (fun j => (crcUnit s j).job.isSome) then s else beginCrcJob k a b { s with chk.jobs := rest }
  | _, _ => s

/-- A job leaves its unit or its place in the queue (R59, R61). -/
def forgetCrcJob (sess seq : Nat) (s : State) : State :=
  let s := { s with chk.jobs := s.chk.jobs.filter (fun j => !(j.1 == sess && j.2 == seq)) }
  match (List.range 8).find? (fun k => (crcUnit s k).job == some (sess, seq)) with
  | some k => pumpCrcJobs (withdrawChan 63 (setCrcUnit k { crcUnit s k with job := none, input := [], limit := 0 } s))
  | none => s

/-- R410: the refusals of JOB_CRC. -/
def crcJobValues (h : Hdr) (preset addr len init : Nat) (s : State) : List Detail :=
  if 3 < preset then refuse1 0x0301 0 0
  else if 2 ^ (crcPreset preset).width ≤ init then refuse1 0x0301 0 24
  else if len = 0 then refuse1 0x0301 0 16
  else if addr % 64 ≠ 0 then refuse1 0x0305 0 8
  else if inRegions s (if h.via.principal = .sup then 0 else h.via.principal.code) addr len then []
  else refuse1 0x0306 0 8

/-- R410: JOB_CRC. -/
def doJobCrc (h : Hdr) (preset addr len init : Nat) (s : State) : State :=
  pumpCrcJobs (xesil (.jobCrc h preset addr len init)
    { op := 0x0703, h := h, params := leBytes 1 preset ++ leBytes 7 0 ++ leBytes 8 addr ++ leBytes 4 len ++ leBytes 4 0 ++ leBytes 8 init } true
    (fun _ => []) (crcJobValues h preset addr len init)
    (fun _ s =>
      if 4 ≤ s.chk.jobs.length ∨ ((List.range 8).all (fun k => prm s (P.CHK_OWNER k) != 0)) = true then .refuse (refuseFree 0x0603)
      else .defer { s with chk.jobs := s.chk.jobs ++ [(h.session, h.seq)] })
    (fun _ => []) s)

/-- R389, R408: DMA_BURST_COMPLETE: a burst completes; a CRC unit takes its words. -/
def execDmaBurstComplete (chan : Fin 64) (s : State) : Host.Outcome State Fault Refusal :=
  .next (pumpCrcJobs (burstComplete (fun k ws s => setCrcUnit k { crcUnit s k with input := (crcUnit s k).input ++ ws } s) chan.val s))

/-- R408: CRC_FEED: a unit consumes a word. -/
def execCrcFeed (unit : Fin 8) (s : State) : Host.Outcome State Fault Refusal :=
  .next (pumpCrcJobs (endCrcJob unit.val (setCrcUnit unit.val (feedWord (crcUnit s unit.val)) s)))

/-- R409: the unit goes on to the next 64-byte boundary. -/
def toBoundary : Nat → CrcUnit → CrcUnit
  | 0, x => x
  | n + 1, x => if x.count % 64 = 0 ∨ x.reached then x else toBoundary n (feedWord x)

/-- R409: CK_STATE_CAPTURE: a read of CK_STATE_LO captures state, result and count together at a 64-byte boundary. -/
def execCkStateCapture (a : Acc) (unit : Fin 8) (s : State) : Host.Outcome State Fault Refusal :=
  let k := unit.val
  let take : State → State := fun s =>
    let x := toBoundary 8 (crcUnit s k)
    setCrcUnit k { x with saved := { state := x.state, result := crcUnitResult x, count := x.count } } s
  .next (endCrcJob k (windowRead a true 0x15 (k * 0x40 + 0x14) (fun s => (crcUnit (take s) k).saved.state % 2 ^ 32) take s))

/-- R409: CK_STATE_RESTORE: a write of CK_STATE_LO or CK_STATE_HI. Bits above the preset's width are ignored (R407). -/
def execCkStateRestore (a : Acc) (unit : Fin 8) (hi : Bool) (value : Word32) (s : State) : Host.Outcome State Fault Refusal :=
  let k := unit.val
  .next (windowWrite a (crcRight s a.principal k) false 0x15 (k * 0x40 + (if hi then 0x18 else 0x14)) value.toNat
    (crcWrite k (fun x =>
      let v := if hi then value.toNat * 2 ^ 32 + x.state % 2 ^ 32 else x.state / 2 ^ 32 * 2 ^ 32 + value.toNat
      let v := v % 2 ^ (crcPreset x.preset).width
      { x with state := v
               saved.state := if hi then v / 2 ^ 32 * 2 ^ 32 + x.saved.state % 2 ^ 32 else x.saved.state / 2 ^ 32 * 2 ^ 32 + v % 2 ^ 32 })) s)

/-! ### SRAM errors (R404, R405) -/

/-- R405: the record of an error. -/
def recordEcc (uncorr : Bool) (memory index : Nat) (s : State) : State :=
  let e := s.chk.ecc
  if e.valid && (e.uncorr && !uncorr) then s else { s with chk.ecc := ⟨true, uncorr, memory, index⟩ }

/-- R404: what an uncorrectable error does where no line or access shows it: the word of a table's working copy and the sums of a profile column are
used as read, free values; a word of the queue pool is delivered with the error mark, and the unit in an
engine whose history or dictionary failed is dropped. -/
def eccEffect (memory : Nat) (place : Nat × Nat) (s : State) : State :=
  if memory = 1 then
    let (bs, s) := gapBytes 8 s
    { s with chk.copies := s.chk.copies.filter (fun c => c.tab != place.1 || c.word != place.2) ++ [⟨place.1, place.2, bs⟩] }
  else if memory = 4 then
    let x := queue s place.1
    setQueue place.1 { x with words := x.words.mapIdx (fun i w => if i = place.2 then { w with err := true } else w) } s
  else if memory = 6 then profEcc place.1 place.2 s
  else if memory = 7 then dropCoding place.1 s
  else s

/-- R404, R405: CHK_ECC_UE: an uncorrectable SRAM error in a memory of the table of R404. `place` is the table and the word in it for a working copy, the
queue and the word in it for the queue pool, the channel and the column for the profile accumulators, or the engine for a compression memory. What an error does to a line or an access arrives with the command of that line or access. -/
def execChkEccUe (memory : Fin 9) (index : Word32) (place : Nat × Nat) (s : State) : Host.Outcome State Fault Refusal :=
  let s := recordEcc true memory.val index.toNat { s with chk.ue := s.chk.ue + 1 }
  let v := memory.val + index.toNat * 256
  .next (eccEffect memory.val place (logDevice 556 0x0701 0 v (raiseOpen 556 s)))

/-- R404, R405: CHK_ECC_CE: a correctable SRAM error is corrected, written back and counted. -/
def execChkEccCe (memory : Fin 9) (index : Word32) (s : State) : Host.Outcome State Fault Refusal :=
  .next (raiseOpen 555 (recordEcc false memory.val index.toNat { s with chk.ce := s.chk.ce + 1 }))

/-- R405, R411: CHK_ECC_HI_READ returns the record and clears it. -/
def execChkEccHiRead (a : Acc) (s : State) : Host.Outcome State Fault Refusal :=
  .next (windowRead a true 0x15 0x404
    (fun s => 2 ^ 31 * b2n s.chk.ecc.valid + 2 ^ 30 * b2n s.chk.ecc.uncorr + s.chk.ecc.memory)
    (fun s => { s with chk.ecc := { index := s.chk.ecc.index } }) s)

end Sys2Proof.Machine
end

