-- ==== Sys2Proof/Machine/Events.lean ====
section
/-! DEFINITION. Machine/Events.lean: Reins, groups, consumer inputs and latch slots (chapter "Event Routing with Reins"), and
the commands of EVNT but for the routing itself. -/
namespace Sys2Proof.Machine

/-- Rein `n`. -/
def rein (s : State) (n : Nat) : Rein := s.evnt.reins.get {} n

/-- Replace Rein `n`. -/
def setRein (n : Nat) (x : Rein) (s : State) : State := { s with evnt.reins := s.evnt.reins.set {} n x }

/-- Consumer input `c`. -/
def consumer (s : State) (c : Nat) : Consumer := s.evnt.consumers.get {} c

/-- Replace consumer input `c`. -/
def setConsumer (c : Nat) (x : Consumer) (s : State) : State :=
  { s with evnt.consumers := s.evnt.consumers.set {} c x }

/-- Latch slot `i`. -/
def latchSlot (s : State) (i : Nat) : LatchSlot := s.evnt.slots.get {} i

/-- Replace latch slot `i`. -/
def setLatchSlot (i : Nat) (x : LatchSlot) (s : State) : State := { s with evnt.slots := s.evnt.slots.set {} i x }

/-- R420: the latch slot of a line-latched consumer, and the kind within it. -/
def slotOf (c : Nat) : Nat × Nat := if c < 32 then (c / 2, c % 2) else (16, c - 32)

/-- R417: the group of Rein `n` is enabled. -/
def reinOn (groups : Word32) (s : State) (n : Nat) : Bool := hasFlag groups (prmN s (P.EVNT_GROUP n))

/-- R418 step 3: Rein `n` gates an event and counts it: the event passes, or is counted as gated. RN_COUNT saturates. -/
def gateRein (groups : Word32) (n : Nat) (s : State) : Bool × State :=
  let r := rein s n
  if reinOn groups s n then (true, setRein n { r with count := satInc 32 r.count, passed := r.passed + 1 } s)
  else (false, setRein n { r with gated := r.gated + 1 } s)

/-- R416: selectors A and B of consumer `c`; for the generator steps selector A is MOTN[k].REIN while SOURCE is 2, and
there is no selector otherwise. -/
def selectors (s : State) (c : Nat) : Nat × Nat :=
  if 35 ≤ c ∧ c ≤ 50 then
    (if prmN s (P.MOTN_LTG_SOURCE (16 + (c - 35))) = 2 then prmN s (P.MOTN_LTG_REIN (16 + (c - 35))) else 0xFFFF, 0xFFFF)
  else (tabField s.sys.applied P.CONSUMERS (4 * c) 2, tabField s.sys.applied P.CONSUMERS (4 * c + 2) 2)

/-- R420: an event reaches a line-latched consumer and waits for its line; with LINE_ARG its argument names the line. -/
def latchEvent (c : Nat) (lineArg : Bool) (arg : Nat) (s : State) : State :=
  let (i, k) := slotOf c
  let x := latchSlot s i
  setLatchSlot i { x with pending := x.pending ++ [⟨k, arg, if lineArg then some (arg % 2 ^ 48) else none⟩] } s

/-- R10: line `l` is line `g` or one before it, the count wrapping at 2^48. -/
def lineCome (g l : Nat) : Bool := decide ((g + 2 ^ 48 - l) % 2 ^ 48 < 2 ^ 47)

/-- R34, R420: an event acts at line `g`: it names no line, or a line that has come. -/
def latchedDue (g : Nat) (e : Latched) : Bool :=
  match e.line with | none => true | some l => lineCome g l

/-- R34: an event acts late: the line it names had begun before. -/
def latchedLate (g : Nat) (e : Latched) : Bool :=
  match e.line with | none => false | some l => lineCome g l && l != g

/-- R338, EVENT: an event that acted at a line, as the Active reports it (R342). -/
def eventMsg (c kind line : Nat) : List Byte := leBytes 2 c ++ leBytes 2 kind ++ leBytes 4 0 ++ leBytes 8 line

/-- R34, R420, R421: line `g` begins at the consumer of slot `i`. The due events leave the slot; the answer is the kinds
that act, each once, in arrival order. The event-latch record keeps the last. An Active reports each to the peer that follows it (R342). -/
def beginLine (i g : Nat) (s : State) : List Nat × State :=
  let x := latchSlot s i
  let due := x.pending.filter (latchedDue g)
  let kinds := (due.map Latched.kind).dedup
  let x := { x with pending := x.pending.filter (fun e => !latchedDue g e), begun := some g,
                    lastLine := if due.isEmpty then x.lastLine else g,
                    lastKind := ((due.map Latched.kind).getLast?).getD x.lastKind,
                    late := x.late || due.any (latchedLate g) }
  let s := setLatchSlot i x s
  let first := if i < 16 then 2 * i else 32
  (kinds, if attached s then forEach kinds (fun k => sendSeq 0x21 (eventMsg (first + k) k g)) s else s)

/-- R425: a write of RN_FIRE injects an event into Rein `n` alone, RN_ARG being bits 31:0 of its argument. -/
def execRnFire (a : Acc) (rein : Fin 256) (value : Word32) (s : State) : Host.Outcome State Fault Refusal :=
  let n := rein.val
  .next (windowWrite a (writeRight a.principal (prmN s (P.EVNT_OWNER n)) (prmB s (P.EVNT_SECURE n))) true 0x11 (n * 0x10 + 0x0C) value.toNat
    (fun s => { s with evnt.inflight := s.evnt.inflight ++
      [⟨prmN s (P.EVNT_SRC n), (Machine.rein s n).arg + value.toNat * 2 ^ 32, some n⟩] }) s)

/-- R417, R425: RG_ENABLE enables the groups written as 1. -/
def execRgEnable (a : Acc) (mask : Word32) (s : State) : Host.Outcome State Fault Refusal :=
  .next (windowWrite a (systemRight a.principal) true 0x11 0x2004 mask.toNat
    (fun s => { s with evnt.groups := s.evnt.groups ||| mask }) s)

/-- R417, R425: RG_DISABLE disables the groups written as 1. -/
def execRgDisable (a : Acc) (mask : Word32) (s : State) : Host.Outcome State Fault Refusal :=
  .next (windowWrite a (systemRight a.principal) true 0x11 0x2008 mask.toNat
    (fun s => { s with evnt.groups := s.evnt.groups &&& ~~~mask }) s)

/-- R425: SW_FIRE raises SW0 to SW7 from bits 7:0, each with argument 0. -/
def execSwFire (a : Acc) (value : Word32) (s : State) : Host.Outcome State Fault Refusal :=
  .next (windowWrite a (systemRight a.principal) true 0x11 0x200C value.toNat
    (fun s => forEach (List.range 8) (fun k s => raiseIf (hasFlag value k) (632 + k) 0 s) s) s)

/-- R531: the supervisor clears the pending state of a CC input. -/
def execCcInputClear (input : Fin 40) (s : State) : Host.Outcome State Fault Refusal :=
  let c := 339 + input.val
  .next (setConsumer c { consumer s c with pending := false } s)

/-- R414: the edge selection of a GPX pin admits an edge. -/
def gpxSelects (s : State) (pin : Nat) (high : Bool) : Bool :=
  bitOf (prmN s P.EVNT_GPX_EDGE) (2 * pin + (if high then 0 else 1))

/-- R414: a GPX pin's new level has held for two cycles. A change of level is an edge; where EVNT[0].GPX_EDGE selects it, it
raises the pin's source with the Timekeeper nanoseconds. -/
def execGpxEdge (pin : Fin 32) (high : Bool) (s : State) : Host.Outcome State Fault Refusal :=
  if hasFlag s.evnt.gpxLevel pin.val = high then .next s
  else
    let lv := if high then setFlag s.evnt.gpxLevel pin.val else w1c s.evnt.gpxLevel (BitVec.ofNat 32 (2 ^ pin.val))
    .next (raiseIf (gpxSelects s pin.val high) (598 + pin.val) s.tk.ns { s with evnt.gpxLevel := lv })

/-- R415: the pulse of a GPX pulse consumer ends. -/
def execGpxPulseEnd (pin : Fin 32) (s : State) : Host.Outcome State Fault Refusal :=
  .next { s with evnt.gpxPulse := w1c s.evnt.gpxPulse (BitVec.ofNat 32 (2 ^ pin.val)) }

end Sys2Proof.Machine
end

