-- ==== Sys2Proof/Machine/Time.lean ====
section
/-! DEFINITION. Machine/Time.lean: the Timekeeper and PTP (chapter "Timekeeper and Precision Time"). Port 0 is NET0, 1 NET1 and
2 MGT; their parameters are instances 1 to 3 of TIME. -/
namespace Sys2Proof.Machine

/-- RATE_LIMIT in units of 2^-48 (R314), rounded half up. -/
def rateLimit48 (s : State) : Int := rndRat ((prm s P.TIME_RATE_LIMIT : Rat) * 2 ^ 48 / 1000000000)

/-- R314: a rate code clamped to ± RATE_LIMIT. -/
def clampRate (s : State) (r : Int) : Int := max (-(rateLimit48 s)) (min (rateLimit48 s) r)

/-- R314, R316: RATE is the servo's output, or FREE_RATE while no servo acts. -/
def rateNow (s : State) : Int :=
  clampRate s (if prmB s P.TIME_RUN && s.tk.state != 0 then s.tk.rate else prm s P.TIME_FREE_RATE)

/-- R314: INC, in units of 2^-48 ns. -/
def tkInc (s : State) : Int := 2 ^ 49 + 2 * rateNow s

/-- R314: give the Timekeeper a time in units of 2^-48 ns since the PTP epoch. -/
def setTime48 (t : Nat) (s : State) : State :=
  { s with tk.acc := t % 2 ^ 48, tk.ns := t / 2 ^ 48 % 1000000000, tk.secs := t / 2 ^ 48 / 1000000000 % 2 ^ 48 }

/-- The Timekeeper in units of 2^-48 ns. -/
def time48 (s : State) : Nat := nowNs s * 2 ^ 48 + s.tk.acc

/-- R314, R326, R498: one CLK_TIME cycle, delivered once its synthesiser has locked. A carry into the seconds raises TIME_PPS; the timer accumulator counts the same
rate-corrected time and no steps. -/
def execTimekeeperTick (s : State) : Host.Outcome State Fault Refusal :=
  if !bitOf s.boot.clocks 1 then .next s else
  let inc := (tkInc s).toNat
  let t := setTime48 (time48 s + inc) { s with tk.timer := s.tk.timer + inc, tk.cycles := s.tk.cycles + 1 }
  .next (if t.tk.secs ≠ s.tk.secs then raiseOpen 364 (flushAuth t) else t)

/-- R316: the clock changes state, which raises TIME_STATE. -/
def setClockState (n : Nat) (s : State) : State :=
  if s.tk.state = n then s else raiseOpen 363 { s with tk.state := n }

/-- R316: HOLDOVER is entered: RATE stays at the last value of r_I. -/
def enterHoldover (s : State) : State :=
  if s.tk.state = 3 then s
  else setClockState 3 { s with tk.rate := rndRat (s.tk.rI * 2 ^ 48), tk.flags := setFlag s.tk.flags 1, tk.nHoldover := s.tk.nHoldover + 1, tk.runLock := 0 }

/-- R316, R318: the Timekeeper subtracts an offset, given in ns, and the clock is in TRACK; the step is logged and raises TIME_STEP. -/
def stepTime (o : Rat) (s : State) : State :=
  let t := ((time48 s : Int) - rndRat (o * 2 ^ 48)).toNat
  let s := setTime48 t { s with tk.flags := setFlag s.tk.flags 0, tk.steps := s.tk.steps + 1, tk.nSteps := s.tk.nSteps + 1, tk.restep := false }
  raiseOpen 361 (logDevice 361 0 0 (argOf (-(rndRat o))) (setClockState 1 s))

/-- R317: an accepted offset, in ns, updates r_I and RATE; the parent's Sync interval is 2^`li` s. -/
def servoUpdate (li : Int) (o : Rat) (s : State) : State :=
  let os := dbl (o / 1000000000)
  let w := dbl (dbl (dbl (2 * dPi) * prm s P.TIME_SERVO_BW) * dbl (1 / 1000))
  let lim := dbl (prm s P.TIME_RATE_LIMIT * dbl (1 / 1000000000))
  let period := pow2 li
  let rI := clampRat (dbl (s.tk.rI - dbl (dbl (dbl (w * w) * period) * os))) lim
  let r := clampRat (dbl (rI - dbl (dbl (dSqrt2 * w) * os))) lim
  let clamped := decide (rI = lim ∨ rI = -lim ∨ r = lim ∨ r = -lim)
  { s with tk.rI := rI, tk.rate := rndRat (dbl (r * 2 ^ 48)), tk.flags := setFlagIf clamped s.tk.flags 4 }

/-- R321: the servo's prediction: the previous accepted offset, advanced by the rate correction applied since, which is
RATE less r_I. -/
def predicted (s : State) : Option Rat :=
  match s.tk.prev with
  | some (o, c) => some (o + ((s.tk.rate : Rat) / 2 ^ 48 - s.tk.rI) * ((s.tk.cycles - c : Nat) * 2 : Rat))
  | none => none

/-- R321: an offset is an outlier. In FREE and HOLDOVER there is no prediction. -/
def isOutlier (o : Rat) (s : State) : Bool :=
  match predicted s with
  | some p => s.tk.state != 0 && s.tk.state != 3 && !s.tk.acceptNext && decide ((prm s P.TIME_OUTLIER_NS : Rat) < |o - p|)
  | none => false

/-- R316, R321: an outlier is counted and raises TIME_OUTLIER; a run of OUTLIER_RUN enters REACQUIRE and admits the next. -/
def discardOffset (s : State) : State :=
  let s := raiseOpen 362 { s with tk.flags := setFlag s.tk.flags 3, tk.nOutliers := s.tk.nOutliers + 1, tk.runOut := s.tk.runOut + 1 }
  if s.tk.runOut ≥ prmN s P.TIME_OUTLIER_RUN then
    let s := { s with tk.acceptNext := true, tk.runOut := 0, tk.runLock := 0 }
    if s.tk.state = 1 ∨ s.tk.state = 2 then setClockState 4 s else s
  else s

/-- R316: the transitions that an accepted offset makes when it does not step the clock. -/
def offsetState (o : Rat) (s : State) : State :=
  let inBand := decide (|o| ≤ (prm s P.TIME_LOCK_BAND : Rat))
  let run := if inBand then s.tk.runLock + 1 else 0
  let s := { s with tk.runLock := run }
  match s.tk.state with
  | 1 => if run ≥ prmN s P.TIME_LOCK_COUNT then setClockState 2 s else s
  | 2 => if 4 * (prm s P.TIME_LOCK_BAND : Rat) < |o| then setClockState 1 s else s
  | 3 => setClockState 4 s
  | 4 => if run ≥ prmN s P.TIME_LOCK_COUNT then setClockState 2 s else s
  | _ => s

/-! ### PTP ports -/

/-- The state of a PTP port. -/
def ptpPort (s : State) (p : Nat) : PtpPort := s.tk.ports.get {} p

/-- Replace a PTP port. -/
def setPtpPort (p : Nat) (x : PtpPort) (s : State) : State := { s with tk.ports := s.tk.ports.set {} p x }

/-- R320: the filtered mean of the last eight accepted path delays of a port, in ns. -/
def meanPath (s : State) (p : Nat) : Rat := let l := (ptpPort s p).paths; if l.isEmpty then 0 else l.sum / l.length

/-- R316 to R321: an offset in ns, local time minus master time, formed at a port from a Sync of interval 2^`li` s. The first accepted one steps the
clock, as does a pending re-step; after a step the offset that remains is 0. -/
def takeOffset (p : Nat) (li : Int) (o : Rat) (s : State) : State :=
  if !prmB s P.TIME_RUN || (ptpPort s p).paths.isEmpty then s
  else if isOutlier o s then discardOffset s
  else
    let s := { s with tk.nAccepted := s.tk.nAccepted + 1, tk.runOut := 0, tk.acceptNext := false, tk.offset := o }
    if s.tk.state = 0 ∨ s.tk.restep then
      let s := if s.tk.state = 0 then { s with tk.rI := (prm s P.TIME_FREE_RATE : Rat) / 2 ^ 48 } else s
      let s := servoUpdate li 0 (stepTime o s)
      { s with tk.runLock := 0, tk.prev := some (0, s.tk.cycles) }
    else
      let s := servoUpdate li o s
      offsetState o { s with tk.prev := some (o, s.tk.cycles) }

/-- R320, R321: a path-delay measurement of a port, in ns, is accepted into its filter, or discarded and counted. -/
def takeDelay (p : Nat) (d : Rat) (s : State) : State :=
  let x := ptpPort s p
  if !x.paths.isEmpty && decide ((prm s P.TIME_OUTLIER_NS : Rat) < |d - meanPath s p|) then
    { s with tk.flags := setFlag s.tk.flags 3, tk.nDelayOut := s.tk.nDelayOut + 1 }
  else setPtpPort p { x with paths := (x.paths ++ [d]).drop (x.paths.length + 1 - 8) } s

/-- A PTP port runs: TIME runs, PTP_EN is 1, and NET0 and NET1 run none on a device without the claim (R325, R333). -/
def ptpOn (s : State) (p : Nat) : Bool :=
  prmB s P.TIME_RUN && prmB s (P.TIMEP_PTP_EN (p + 1)) && (p == 2 || holdsClaim s)

/-- R323: a message passes the filters on domain, version and transport. -/
def ptpMatches (s : State) (p : Nat) (m : PtpHdr) : Bool :=
  m.domain == prmN s P.TIME_DOMAIN && m.version == 2 && decide (m.minorVersion ≤ 1) && m.transport == prmN s (P.TIMEP_TRANSPORT (p + 1))

/-- R328: a received message is counted, and counted again where it is discarded under R323. -/
def countPtp (p : Nat) (good : Bool) (s : State) : State :=
  let x := ptpPort s p
  setPtpPort p { x with received := x.received + 1, discarded := if good then x.discarded else x.discarded + 1 } s

/-- R323: a message reaches a running port; one that does not match is counted and discarded. -/
def ptpReceive (p : Nat) (m : PtpHdr) (act : State → State) (s : State) : State :=
  let s := countRx p s
  if !ptpOn s p then s
  else if ptpMatches s p m then act (countPtp p true s)
  else countPtp p false s

/-- R323: a message that its port does not use is discarded and counted. -/
def ptpDiscard (p : Nat) (s : State) : State :=
  let x := ptpPort s p
  setPtpPort p { x with discarded := x.discarded + 1 } s

/-- R324: the timestamp, in ns, of a message received now: the latch less the fixed latency and RX_DELAY. -/
def rxStamp (s : State) (p : Nat) : Rat :=
  nowNs s - ((Config.ptpLatency p (prmN s (P.NETW_FEC p)) false + prm s (P.TIMEP_RX_DELAY (p + 1)) : Int) : Rat) / 1000

/-- R324: the timestamp, in ns, of a message sent now: the latch plus the fixed latency and TX_DELAY. -/
def txStamp (s : State) (p : Nat) : Rat :=
  nowNs s + ((Config.ptpLatency p (prmN s (P.NETW_FEC p)) true + prm s (P.TIMEP_TX_DELAY (p + 1)) : Int) : Rat) / 1000

/-- R297: a PTP message waits to leave a port ahead of its queues. -/
def ptpSend (p : Nat) (m : PtpOut) (s : State) : State := pushUrgent p (.ptp m) s

/-- The correctionField in ns. -/
def corrNs (m : PtpHdr) : Rat := (m.correction : Rat) / 65536

/-- ASYMMETRY of a port in ns (R320). -/
def asymNs (s : State) (p : Nat) : Rat := (prm s (P.TIMEP_ASYMMETRY (p + 1)) : Rat) / 1000

/-- The order of the default BMCA: the smaller list is the better data set. -/
def dsRank (d : PortDs) : List Nat :=
  [d.data.priority1, d.data.clockClass, d.data.accuracy, d.data.variance, d.data.priority2, d.data.identity, d.data.stepsRemoved, d.sourceId, d.sourcePort]

/-- Lexicographic order of ranks. -/
def rankLt : List Nat → List Nat → Bool
  | a :: as, b :: bs => if a < b then true else if b < a then false else rankLt as bs
  | _, _ => false

/-- R322: the clock identity: CLOCK_ID, or the MAC of the lowest-numbered enabled port with 0xFFFE after its third byte. -/
def clockId (s : State) : Nat :=
  let c := prmN s P.TIME_CLOCK_ID
  if c ≠ 0 then c
  else match (List.range 3).find? (fun p => prmB s (P.TIMEP_PTP_EN (p + 1))) with
    | some p => let m := prmN s (P.NETW_MAC p); m / 2 ^ 24 * 2 ^ 40 + 0xFFFE * 2 ^ 24 + m % 2 ^ 24
    | none => 0

/-- The best data set among the running ports, with its port. -/
def bestDs (s : State) : Option (Nat × PortDs) :=
  (List.range 3).foldl (fun best p =>
    match (if ptpOn s p then (ptpPort s p).ds else none), best with
    | some d, some (q, b) => if rankLt (dsRank d) (dsRank b) then some (p, d) else some (q, b)
    | some d, none => some (p, d)
    | none, b => b) none

/-- The device's own data set is better than one received, for a clock that is not slave-only. -/
def ownBetter (s : State) (d : PortDs) : Bool :=
  !prmB s P.TIME_SLAVE_ONLY &&
    rankLt [prmN s P.TIME_PRIORITY1, prmN s P.TIME_CLOCK_CLASS, 0xFE, 0xFFFF, prmN s P.TIME_PRIORITY2, clockId s] (dsRank d)

/-- R322: the roles of the ports (1 LISTENING, 2 SLAVE, 3 MASTER, 0 disabled) once the parent's port is chosen. Of a clock that is not slave-only, a
port listens until it has heard an Announce or its announce receipt timer has run out. A port that does not run keeps its counters and the
sequenceIds it sends next, and nothing that it heard. -/
def assignRoles (parent : Option Nat) (s : State) : State :=
  forEach (List.range 3) (fun p s =>
    let x := ptpPort s p
    if !ptpOn s p then setPtpPort p { x with role := 0, quiet := false, ds := none, paths := [], sync := none, lastSync := none, req := none, pdResp := none } s
    else
    let r := if parent = some p then 2 else if prmB s P.TIME_SLAVE_ONLY then 1
             else if x.ds.isNone && !x.quiet && x.role != 3 then 1 else 3
    setPtpPort p { x with role := r, quiet := x.quiet } s) s

/-- R320: the parent has changed: what its port heard of the old one is void. A path delay measured with Delay_Req is to a master, and goes with it,
as does the request that waits; one measured with Pdelay_Req is the link's, and stays. -/
def dropMaster (s : State) : State :=
  forEach (List.range 3) (fun p s =>
    let x := { ptpPort s p with sync := none, lastSync := none }
    setPtpPort p (if prm s P.TIME_PROFILE = 0 then { x with paths := [], req := none } else x) s) s

/-- R316, R322: the BMCA chooses the parent; a different parent or none takes a clock in TRACK, LOCKED or REACQUIRE to
HOLDOVER. -/
def runBmca (s : State) : State :=
  let pick : Option (Nat × PortDs) := match bestDs s with
    | some (p, d) => if ownBetter s d then none else some (p, d)
    | none => none
  let s := assignRoles (pick.map Prod.fst) s
  let pid : Option (Nat × Nat) := pick.map (fun x => (x.2.sourceId, x.2.sourcePort))
  let port : Nat := match pick with | some (p, _) => p + 1 | none => 0
  if s.tk.parent = port ∧ s.tk.parentId = pid then s
  else
    let had : Bool := decide (s.tk.parent ≠ 0)
    let clk : Bool := s.tk.state == 1 || s.tk.state == 2 || s.tk.state == 4
    let t : State := { s with tk.parent := port, tk.parentId := pid, tk.flags := setFlag s.tk.flags 2, tk.nParent := s.tk.nParent + 1, tk.acceptNext := false }
    let t := dropMaster t
    if had && clk then enterHoldover t else t

/-- The parent sends through a port. -/
def fromParent (s : State) (p : Nat) (m : PtpHdr) : Bool :=
  s.tk.parent == p + 1 && s.tk.parentId == some (m.sourceId, m.sourcePort)

/-- R323: an Announce enters the BMCA data set of its port. -/
def execAnnounce (port : Fin 3) (m : PtpHdr) (d : AnnounceData) (s : State) : Host.Outcome State Fault Refusal :=
  let p := port.val
  .next (ptpReceive p m (fun s =>
    let x := ptpPort s p
    let new : PortDs := ⟨d, m.sourceId, m.sourcePort⟩
    let keep := match x.ds with
      | some old => !(old.sourceId == m.sourceId && old.sourcePort == m.sourcePort) && !rankLt (dsRank new) (dsRank old)
      | none => false
    let s := runBmca (if keep then s else setPtpPort p { x with ds := some new, quiet := false } s)
    if fromParent s p m then { s with tk.utcOffset := d.utcOffset } else s) s)

/-- R320: the difference of receive and origin time forms an offset once a path delay is known. -/
def syncOffset (p : Nat) (li : Int) (t2 t1 corr : Rat) (s : State) : State :=
  let diff := t2 - t1 - corr - asymNs s p
  let s := setPtpPort p { ptpPort s p with lastSync := some diff, sync := none } s
  takeOffset p li (diff - meanPath s p) s

/-- R320, R323: a Sync from the parent. -/
def execSync (port : Fin 3) (m : PtpHdr) (twoStep : Bool) (origin : Nat) (s : State) : Host.Outcome State Fault Refusal :=
  let p := port.val
  .next (ptpReceive p m (fun s =>
    if !fromParent s p m then ptpDiscard p s
    else if twoStep then setPtpPort p { ptpPort s p with sync := some (m.seqId, rxStamp s p, corrNs m) } s
    else syncOffset p m.logInterval (rxStamp s p) origin (corrNs m) s) s)

/-- R320, R323: a Follow_Up from the parent completes the two-step offset of its Sync. -/
def execFollowUp (port : Fin 3) (m : PtpHdr) (origin : Nat) (s : State) : Host.Outcome State Fault Refusal :=
  let p := port.val
  .next (ptpReceive p m (fun s =>
    match (ptpPort s p).sync with
    | some (q, t2, c) => if fromParent s p m && q == m.seqId then syncOffset p m.logInterval t2 origin (c + corrNs m) s else ptpDiscard p s
    | none => ptpDiscard p s) s)

/-- R323: a Delay_Req on a MASTER port is answered with its receive time. -/
def execDelayReq (port : Fin 3) (m : PtpHdr) (s : State) : Host.Outcome State Fault Refusal :=
  let p := port.val
  .next (ptpReceive p m (fun s =>
    if (ptpPort s p).role = 3 then
      ptpSend p { typ := 9, seqId := m.seqId, corr := m.correction, time := rxStamp s p, reqId := m.sourceId, reqPort := m.sourcePort } s
    else ptpDiscard p s) s)

/-- R320, R323: a Delay_Resp matched to its Delay_Req forms a path-delay measurement. -/
def execDelayResp (port : Fin 3) (m : PtpHdr) (receipt : Nat) (s : State) : Host.Outcome State Fault Refusal :=
  let p := port.val
  .next (ptpReceive p m (fun s =>
    let x := ptpPort s p
    match x.req with
    | some (q, t3) =>
      if q = m.seqId ∧ fromParent s p m ∧ prm s P.TIME_PROFILE = 0 then
        let s := setPtpPort p { x with req := none } s
        match x.lastSync with
        | some diff => takeDelay p ((diff + ((receipt : Rat) - t3 - corrNs m + asymNs s p)) / 2) s
        | none => s
      else setPtpPort p { x with unmatched := x.unmatched + 1 } s
    | none => setPtpPort p { x with unmatched := x.unmatched + 1 } s) s)

/-- R323: in the peer-to-peer profile every enabled port answers a Pdelay_Req, in two steps where TWO_STEP is 1. -/
def execPdelayReq (port : Fin 3) (m : PtpHdr) (s : State) : Host.Outcome State Fault Refusal :=
  let p := port.val
  .next (ptpReceive p m (fun s =>
    if prm s P.TIME_PROFILE = 1 then
      ptpSend p { typ := 3, seqId := m.seqId, corr := m.correction, time := rxStamp s p, reqId := m.sourceId, reqPort := m.sourcePort } s
    else ptpDiscard p s) s)

/-- R320, R323: a Pdelay_Resp, or its follow-up, forms a path-delay measurement. -/
def execPdelayResp (port : Fin 3) (m : PtpHdr) (followUp twoStep : Bool) (time : Nat) (s : State) : Host.Outcome State Fault Refusal :=
  let p := port.val
  .next (ptpReceive p m (fun s =>
    let x := ptpPort s p
    let bad := setPtpPort p { x with unmatched := x.unmatched + 1 } s
    if followUp then
      match x.pdResp with
      | some (q, t1, t2, t4) =>
        if q = m.seqId then takeDelay p (((t4 - t1) - ((time : Rat) - t2) - corrNs m) / 2) (setPtpPort p { x with pdResp := none } s) else bad
      | none => bad
    else
      match x.req with
      | some (q, t1) =>
        if q = m.seqId ∧ prm s P.TIME_PROFILE = 1 then
          if twoStep then setPtpPort p { x with req := none, pdResp := some (q, t1, (time : Rat) - corrNs m, rxStamp s p) } s
          else takeDelay p ((rxStamp s p - t1 - corrNs m) / 2) (setPtpPort p { x with req := none } s)
        else bad
      | none => bad) s)

/-- R323: Signaling, Management and messages that do not match are counted and discarded. -/
def execPtpMessageDiscarded (port : Fin 3) (s : State) : Host.Outcome State Fault Refusal :=
  let s := countRx port.val s
  .next (if ptpOn s port.val then countPtp port.val false s else s)

/-- R316, R322: no Announce has come to a port within the timeout: on the parent port the parent is lost, and a port that has heard none at all may become MASTER. -/
def execAnnounceReceiptTimeout (port : Fin 3) (s : State) : Host.Outcome State Fault Refusal :=
  let p := port.val
  let x := ptpPort s p
  if !ptpOn s p then .next s
  else .next (runBmca (setPtpPort p { x with ds := none, quiet := true, annTimeouts := x.annTimeouts + 1 } s))

/-- R316, R319: TIME[0].RUN becomes 0: a clock in TRACK or LOCKED moves to HOLDOVER and a pending re-step ends. The state
keeps its value otherwise, and no flag changes. Its PTP ports are disabled, and it has no parent. -/
def stopClock (s : State) : State :=
  let s := assignRoles none { s with tk.restep := false, tk.parent := 0, tk.parentId := none }
  if s.tk.state = 1 ∨ s.tk.state = 2 then
    raiseOpen 363 { s with tk.state := 3, tk.rate := rndRat (s.tk.rI * 2 ^ 48), tk.nHoldover := s.tk.nHoldover + 1, tk.runLock := 0 }
  else s

end Sys2Proof.Machine
end

