-- ==== Sys2Proof/Machine/Ptp.lean ====
section
/-! DEFINITION. Machine/Ptp.lean: the PTP messages that the device sends, in the layouts of IEEE 1588-2019 (R322 to R324), and what a network port
sends at a frame boundary (R297, R304, R305). -/
namespace Sys2Proof.Machine

/-! ### Messages -/

/-- A time in ns as a PTP timestamp of 10 bytes. -/
def ptpStamp (t : Rat) : List Byte :=
  let n := t.floor.toNat
  beBytes 6 (n / 1000000000) ++ beBytes 4 (n % 1000000000)

/-- The part of a time below 1 ns, in units of 2^-16 ns. -/
def ptpFrac (t : Rat) : Int := ((t - t.floor) * 65536).floor

/-- The two-step flag stands in a message. -/
def ptpTwoStep (s : State) (m : PtpOut) : Bool := (m.typ == 0 || m.typ == 3) && prmB s P.TIME_TWO_STEP

/-- R320, R324: the correctionField of a message that crosses the PCS at `t`. A one-step Pdelay_Resp carries its turnaround. -/
def ptpCorrection (s : State) (m : PtpOut) (t : Rat) : Int :=
  match m.typ with
  | 0 => if prmB s P.TIME_TWO_STEP then 0 else ptpFrac t
  | 3 => if prmB s P.TIME_TWO_STEP then -ptpFrac m.time else m.corr + ((t - m.time) * 65536).floor
  | 8 => ptpFrac m.time
  | 9 => m.corr - ptpFrac m.time
  | 0xA => m.corr + ptpFrac m.time
  | _ => 0

/-- R322: the data set that an Announce of the device carries: the parent's, one step further, or its own. -/
def ownAnnounce (s : State) : AnnounceData :=
  match (if s.tk.parent = 0 then none else (ptpPort s (s.tk.parent - 1)).ds) with
  | some d => { d.data with stepsRemoved := d.data.stepsRemoved + 1 }
  | none => { priority1 := prmN s P.TIME_PRIORITY1, clockClass := prmN s P.TIME_CLOCK_CLASS, accuracy := 0xFE, variance := 0xFFFF
              priority2 := prmN s P.TIME_PRIORITY2, identity := clockId s, stepsRemoved := 0, utcOffset := s.tk.utcOffset }

/-- The fields of a message after its header. -/
def ptpBody (s : State) (m : PtpOut) (t : Rat) : List Byte :=
  let req := beBytes 8 m.reqId ++ beBytes 2 m.reqPort
  let zero := List.replicate 10 (0 : Byte)
  match m.typ with
  | 0 => if prmB s P.TIME_TWO_STEP then zero else ptpStamp t
  | 1 => zero
  | 2 => zero ++ zero
  | 3 => (if prmB s P.TIME_TWO_STEP then ptpStamp m.time else zero) ++ req
  | 8 => ptpStamp m.time
  | 9 => ptpStamp m.time ++ req
  | 0xA => ptpStamp m.time ++ req
  | _ =>
    let d := ownAnnounce s
    zero ++ beBytes 2 (toCode 16 d.utcOffset) ++ beBytes 1 0 ++ beBytes 1 d.priority1 ++ beBytes 1 d.clockClass ++ beBytes 1 d.accuracy ++ beBytes 2 d.variance ++
      beBytes 1 d.priority2 ++ beBytes 8 d.identity ++ beBytes 2 d.stepsRemoved ++ beBytes 1 Config.timeSource

/-- The logMessageInterval of a message. -/
def ptpLogInterval (s : State) (p : Nat) (typ : Nat) : Int :=
  match typ with
  | 0 | 8 => prm s (P.TIMEP_LOG_SYNC (p + 1))
  | 9 => prm s (P.TIMEP_LOG_DELAY (p + 1))
  | 0xB => prm s (P.TIMEP_LOG_ANNOUNCE (p + 1))
  | _ => 0x7F

/-- R322, R324: a whole message that crosses the PCS at `t`. -/
def ptpMessage (s : State) (p : Nat) (m : PtpOut) (t : Rat) : List Byte :=
  let body := ptpBody s m t
  let control := match m.typ with | 0 => 0 | 1 => 1 | 8 => 2 | 9 => 3 | _ => 5
  beBytes 1 m.typ ++ beBytes 1 0x12 ++ beBytes 2 (34 + body.length) ++ beBytes 1 (prmN s P.TIME_DOMAIN) ++ beBytes 1 0 ++
    beBytes 1 (2 * b2n (ptpTwoStep s m)) ++ beBytes 1 (8 * b2n (m.typ == 0xB)) ++ beBytes 8 (toCode 64 (ptpCorrection s m t)) ++ beBytes 4 0 ++
    beBytes 8 (clockId s) ++ beBytes 2 (p + 1) ++ beBytes 2 m.seqId ++ beBytes 1 control ++ beBytes 1 (toCode 8 (ptpLogInterval s p m.typ)) ++ body

/-- A message of the peer delay mechanism. -/
def ptpPeer (typ : Nat) : Bool := typ == 2 || typ == 3 || typ == 0xA

/-- R322, R324: the frame of a message on its port's transport, to the multicast address of its kind; the UDP checksum is formed from the finished message. -/
def ptpFrame (s : State) (p : Nat) (m : PtpOut) (t : Rat) : List Byte :=
  let msg := ptpMessage s p m t
  let dport := if m.typ < 8 then 319 else 320
  let peer := ptpPeer m.typ
  match prmN s (P.TIMEP_TRANSPORT (p + 1)) with
  | 0 =>
    let ip := if peer then 0xE000006B else 0xE0000181
    etherFrame s p (beBytes 6 (0x01005E000000 + ip % 2 ^ 23)) (ipPacket s p (beBytes 16 (0xFFFF * 2 ^ 32 + ip)) hostDscp (if peer then 1 else hostTtl) 17
      (fun a => udpDatagram a dport dport msg))
  | 1 =>
    let ip := if peer then 0xFF02 * 2 ^ 112 + 0x6B else 0xFF0E * 2 ^ 112 + 0x181
    etherFrame s p (beBytes 6 (0x333300000000 + ip % 2 ^ 32)) (ipPacket s p (beBytes 16 ip) hostDscp (if peer then 1 else hostTtl) 17
      (fun a => udpDatagram a dport dport msg))
  | _ => etherFrame s p (beBytes 6 (if peer then 0x0180C200000E else 0x011B19000000)) (beBytes 2 0x88F7 ++ msg)

/-! ### Sending (R297, R304, R305, R324) -/

/-- R324: a PTP message leaves: its send time is fixed now. A request waits for its answer, and a two-step message is followed by its send time. -/
def ptpDepart (p : Nat) (m : PtpOut) (s : State) : State :=
  let t := txStamp s p
  let f := ptpFrame s p m t
  let x := ptpPort s p
  let s := frameOut p (.ptp p m.typ m.seqId t f) f (setPtpPort p { x with sent := x.sent + 1 } s)
  let x := ptpPort s p
  if m.typ = 1 ∨ m.typ = 2 then
    setPtpPort p { x with req := some (m.seqId, t), pdResp := none, unanswered := if x.req.isSome then x.unanswered + 1 else x.unanswered } s
  else if ptpTwoStep s m then pushUrgent p (.ptp { m with typ := if m.typ = 0 then 8 else 0xA, time := t }) s
  else s

/-- R297: what waits ahead of the queues leaves. -/
def sendUrgent (p : Nat) (u : Urgent) (s : State) : State :=
  match u with
  | .frame out =>
    (match out with
     | .arpReply _ _ f | .echoReply _ _ _ f | .reply _ f | .segment _ _ _ _ f | .ptp _ _ _ _ f => frameOut p out f s)
  | .ptp m => if p = 2 ∨ holdsClaim s = true then ptpDepart p m s else s

/-- R297, R304, R305, R307, R350: a frame boundary of a port. PTP messages and address answers leave first, unless priority 7 is paused. -/
def execSegmentSend (port : Fin 3) (s : State) : Host.Outcome State Fault Refusal :=
  let p := port.val
  let x := netPort s p
  if !x.linkUp || x.paused || prmN s (P.NETW_RUN p) == 0 then .next s
  else match (if (txQueue x 7).paused then [] else x.urgent) with
  | u :: us => .next (sendUrgent p u (setNetPort p { x with urgent := us } s))
  | [] =>
    let x := forEach (List.range 8) (fun q x => setTxQueue x q (refill s p q (txQueue x q))) x
    .next (tryYield (sendSegment p ((x.queues.map (fun q => q.2.units.length)).sum + 1) (setNetPort p x s)))

/-- R322: a port sends its periodic message: Sync (0) and Announce (0xB) as MASTER, Delay_Req (1) as SLAVE of the delay
request-response profile, Pdelay_Req (2) in the peer-to-peer profile. A request without an answer is counted (R328). -/
def execPtpMessageInterval (port : Fin 3) (typ : Nat) (s : State) : Host.Outcome State Fault Refusal :=
  let p := port.val
  let x := ptpPort s p
  let p2p := prm s P.TIME_PROFILE = 1
  if !ptpOn s p then .next s
  else if typ = 0 ∧ x.role = 3 then .next (ptpSend p { typ := 0, seqId := x.seqSync } (setPtpPort p { x with seqSync := (x.seqSync + 1) % 65536 } s))
  else if typ = 0xB ∧ x.role = 3 then .next (ptpSend p { typ := 0xB, seqId := x.seqAnn } (setPtpPort p { x with seqAnn := (x.seqAnn + 1) % 65536 } s))
  else if (typ = 1 ∧ x.role = 2 ∧ ¬ p2p) ∨ (typ = 2 ∧ p2p) then
    .next (ptpSend p { typ := typ, seqId := x.seqReq } (setPtpPort p { x with seqReq := (x.seqReq + 1) % 65536 } s))
  else .next s

end Sys2Proof.Machine
end

