-- ==== Sys2Proof/Machine/TwoWire.lean ====
section
/-! DEFINITION. Machine/TwoWire.lean: the two-wire controller channels (chapter "Two-Wire Buses"). -/
namespace Sys2Proof.Machine

/-- Channel TW`t`. -/
def twc (s : State) (t : Nat) : Twc := s.twcs.get {} t

/-- Replace channel TW`t`. -/
def setTwc (t : Nat) (x : Twc) (s : State) : State := { s with twcs := s.twcs.set {} t x }

/-- R333: a TW_QUIET channel on a device without the claim. -/
def twQuiet (s : State) (t : Nat) : Bool := bitOf (prmN s P.TWIN_TW_QUIET) t && !holdsClaim s

/-- R459: the write right of a channel's block. -/
def twRight (s : State) (p : Principal) (t : Nat) : Bool := writeRight p (prmN s (P.TWB_OWNER t)) (prmB s (P.TWB_SECURE t))

/-- R414: the event source of a channel: 0 TW_DONE, 1 TW_ARB_LOST, 2 TW_TIMEOUT, 3 TW_ALERT. -/
def twSource (t kind : Nat) : Nat := 565 + 4 * t + kind

/-- R448: a transaction ends: RESULT and BYTES are set and TW_DONE is raised. The bus is busy until BUF has passed (R445). -/
def endTw (t result bytes : Nat) (s : State) : State :=
  let x := twc s t
  raise (twSource t 0) (result + 16 * bytes) (setTwc t { x with
    act := 0, begun := false, tries := 0, result := result, bytes := bytes, busBusy := true
    nDone := x.nDone + b2n (result == 1), nAddr := x.nAddr + b2n (result == 2), nData := x.nData + b2n (result == 3), nLostEnd := x.nLostEnd + b2n (result == 4) } s)

/-- A transaction that ends before its STOP: the spec does not state what it had moved, so BYTES is a free value. -/
def cutTw (t result : Nat) (s : State) : State :=
  if (twc s t).act = 1 then (let (v, s) := fresh s; endTw t result (v % 513) s) else s

/-- R448: RUN of a channel becomes 1: no transaction has run and the bus counts as busy (R445). -/
def startTw (t : Nat) (s : State) : State :=
  setTwc t { twc s t with run := true, result := 0, bytes := 0, act := 0, begun := false, tries := 0, busBusy := true, episode := 0, alertTries := 0, alertStop := false } s

/-- R448: RUN of a channel becomes 0: a transaction ends with ABORTED. -/
def stopTw (t : Nat) (s : State) : State :=
  let s := cutTw t 7 s
  setTwc t { twc s t with run := false, act := 0 } s

/-- R448: the claim is released: a transaction on a TW_QUIET channel ends with ABORTED. -/
def abortQuiet (s : State) : State :=
  forEach (List.range 8) (fun t s => if bitOf (prmN s P.TWIN_TW_QUIET) t then cutTw t 7 s else s) s

/-- R448: the fields of TW_CMD. -/
def cmdAddr (v : Word32) : Nat := field v.toNat 7 1

/-- WLEN of TW_CMD. -/
def cmdWlen (v : Word32) : Nat := field v.toNat 17 9

/-- RLEN of TW_CMD. -/
def cmdRlen (v : Word32) : Nat := field v.toNat 26 18

/-- The address and lengths of TW_CMD as written. -/
def cmdFields (v : Word32) (x : Twc) : Twc := { x with addr := cmdAddr v, wlen := cmdWlen v, rlen := cmdRlen v, cmdRsv := (v &&& 0x18000101#32).toNat }

/-- A write of TW_CMD is refused: REFUSED is set. -/
def refuseTw (t : Nat) (s : State) : State := setTwc t { twc s t with flags := setFlag (twc s t).flags 0 } s

/-- R448, RESULT 6: whether a GO is refused. -/
def goRefused (s : State) (t : Nat) (v : Word32) : Bool :=
  let x := twc s t
  let a := cmdAddr v
  !x.run || x.act != 0 || decide (1 ≤ a ∧ a ≤ 7) || decide (0x78 ≤ a) || (a == 0 && cmdRlen v != 0) || decide (256 < cmdWlen v) || decide (256 < cmdRlen v) ||
    twQuiet s t

/-- R453: alert reads are due on a channel: they come before a GO that waits. -/
def alertDue (s : State) (t : Nat) : Bool :=
  let x := twc s t
  x.run && prmB s (P.TWB_ALERT_AUTO t) && x.alertPin && !x.alertStop && !twQuiet s t

/-- R448 step 1: a transaction that waits begins once the bus is free and the alert reads have finished. -/
def beginTw (t : Nat) (s : State) : State :=
  let x := twc s t
  setTwc t { x with begun := x.begun || (x.act == 1 && !x.busBusy && !alertDue s t) } s

/-- R448: GO: a write of TW_CMD with GO 1 starts a transaction, or is refused and changes nothing but RESULT and REFUSED. DESIGN CHOICE (log entry 151): where the write
bears CLEAR or RESET too, the bit that the row stands for acts alone. -/
def execGo (a : Acc) (ch : Fin 8) (cmd : Word32) (s : State) : Host.Outcome State Fault Refusal :=
  let t := ch.val
  .next (windowWrite a (twRight s a.principal t) true 0x12 (t * 0x400 + 8) cmd.toNat (fun s =>
    if goRefused s t cmd then refuseTw t (setTwc t { twc s t with result := 6 } s)
    else beginTw t (setTwc t { cmdFields cmd (twc s t) with act := 1, begun := false, tries := 0 } s)) s)

/-- R452: the bus clear begins; a hold of SCL cannot be cleared. -/
def beginClear (t : Nat) (s : State) : State :=
  let x := twc s t
  if 2 ≤ x.stuck then setTwc t { x with flags := setFlag x.flags 5, nCureBad := x.nCureBad + 1 } s else setTwc t { x with act := 4 } s

/-- R452: TWB_CLEAR: CLEAR starts a bus clear on TW0 and TW1. -/
def execTwbClear (a : Acc) (ch : Fin 8) (cmd : Word32) (s : State) : Host.Outcome State Fault Refusal :=
  let t := ch.val
  .next (windowWrite a (twRight s a.principal t) true 0x12 (t * 0x400 + 8) cmd.toNat (fun s =>
    if 2 ≤ t ∨ (twc s t).run = false ∨ (twc s t).act ≠ 0 ∨ twQuiet s t = true then refuseTw t s
    else beginClear t (setTwc t (cmdFields cmd (twc s t)) s)) s)

/-- R451: TWB_RESET: RESET pulses TWRST_N of TW2 to TW7; a transaction that runs ends with ABORTED. -/
def execTwbReset (a : Acc) (ch : Fin 8) (cmd : Word32) (s : State) : Host.Outcome State Fault Refusal :=
  let t := ch.val
  .next (windowWrite a (twRight s a.principal t) true 0x12 (t * 0x400 + 8) cmd.toNat (fun s =>
    if t < 2 ∨ twQuiet s t = true then refuseTw t s
    else
      let s := cutTw t 7 s
      setTwc t { cmdFields cmd (twc s t) with act := 3 } s) s)

/-- R448: TW_DONE: a transaction ends: 0 DONE, 1 ADDR_NACK, 2 DATA_NACK; `acked` bytes were written and acknowledged, and `data` was read. -/
def execTwDone (ch : Fin 8) (result : Fin 3) (acked : Nat) (data : List Byte) (s : State) : Host.Outcome State Fault Refusal :=
  let t := ch.val
  let x := twc s t
  if x.act ≠ 1 ∨ x.begun = false then .next s
  else
    let got := if result = 0 then data.take x.rlen else []
    let rx := (List.range got.length).foldl (fun m i => m.set 0 i (got.getD i 0)) x.rx
    .next (endTw t (result.val + 1) (min acked x.wlen + got.length) (setTwc t { x with rx := rx } s))

/-- R449, R453: an alert read loses arbitration and is sent again; after RETRY repeats it ends. -/
def alertLost (t : Nat) (s : State) : State :=
  let x := twc s t
  let last := decide (prmN s (P.TWB_RETRY t) < x.alertTries + 1)
  let n := if last then x.episode + 1 else x.episode
  setTwc t { x with busBusy := true, alertTries := if last then 0 else x.alertTries + 1, nLostEnd := x.nLostEnd + b2n last
                    episode := n, alertStop := decide (16 ≤ n), flags := setFlagIf (decide (16 ≤ n)) x.flags 7 } s

/-- R449: TW_ARB_LOST: arbitration is lost at a byte; the transaction or alert read is sent again, or ends after RETRY repeats. -/
def execTwArbLost (ch : Fin 8) (byte : Nat) (s : State) : Host.Outcome State Fault Refusal :=
  let t := ch.val
  let x := twc s t
  let lost := fun (s : State) => raise (twSource t 1) byte (setTwc t { x with flags := setFlag x.flags 1, nLost := x.nLost + 1 } s)
  if x.act ≠ 1 ∨ x.begun = false then .next (if alertDue s t && decide (x.act ≤ 1) && !x.busBusy then alertLost t (lost s) else s)
  else
    let s := lost s
    let s := setTwc t { twc s t with tries := x.tries + 1, busBusy := true, begun := false } s
    .next (if prmN s (P.TWB_RETRY t) < x.tries + 1 then cutTw t 4 s else s)

/-- R450: TW_TIMEOUT: SDA or SCL has been low for LOW_TIMEOUT; `atStart` marks a hold found as RUN became 1. The hold is recorded and the channel's cure
begins (R451, R452). A quiet channel drives nothing (R333). -/
def execTwTimeout (ch : Fin 8) (sda scl atStart : Bool) (s : State) : Host.Outcome State Fault Refusal :=
  let t := ch.val
  let x := twc s t
  if x.run = false ∨ 2 ≤ x.act ∨ (sda || scl) = false then .next s
  else
    let k := b2n sda + 2 * b2n scl
    let s := cutTw t 5 s
    let x := twc s t
    let s := setTwc t { x with stuck := k, flags := setFlagIf sda (setFlagIf scl x.flags 2) 3, nHolds := x.nHolds + 1, busBusy := true } s
    let s := logDevice (twSource t 2) 0x0702 0 (t + 256 * k) (raise (twSource t 2) k s)
    if twQuiet s t then .next s
    else if t < 2 then .next (if prm s (P.TWB_CLEAR_POLICY t) = 1 then beginClear t s else s)
    else .next (if prmB s (P.TWB_RST_AUTO t) || atStart then setTwc t { twc s t with act := 3 } s else s)

/-- R451, R452: CURE_DONE: a reset pulse or bus clear ends, with the bus freed or not. -/
def execCureDone (ch : Fin 8) (freed : Bool) (s : State) : Host.Outcome State Fault Refusal :=
  let t := ch.val
  let x := twc s t
  if x.act < 3 then .next s
  else .next (setTwc t { x with
    act := 0, stuck := if freed then 0 else x.stuck, flags := setFlag x.flags (if freed then 4 else 5), nCured := x.nCured + b2n freed
    nCureBad := x.nCureBad + b2n (!freed) } s)

/-- R453: an alert read: an address enters the FIFO, or is lost where the FIFO is full; after 16 reads in one episode the reads stop. It counts as an ordinary
transaction. DESIGN CHOICE (log entry 156): it raises TW_ALERT alone, as the argument of TW_DONE holds RESULT and BYTES. -/
def alertRead (t : Nat) (answer : Option (Fin 128)) (s : State) : State :=
  let x := twc s t
  let n := x.episode + 1
  let x := { x with episode := n, alertTries := 0, nDone := x.nDone + b2n answer.isSome, nAddr := x.nAddr + b2n answer.isNone, alertStop := decide (16 ≤ n), busBusy := true, flags := setFlagIf (decide (16 ≤ n)) x.flags 7 }
  match answer with
  | some ad =>
    if x.fifo.length < 8 then raise (twSource t 3) ad.val (setTwc t { x with fifo := x.fifo ++ [ad.val], nAlerts := x.nAlerts + 1 } s)
    else setTwc t { x with flags := setFlag x.flags 6 } s
  | none => setTwc t x s

/-- R453: TW_ALERT: TWALERT_N is low and the channel, idle or before a GO that waits, reads the alert response address, which a target answers or not; or the line is
high again. -/
def execTwAlert (ch : Fin 8) (low : Bool) (answer : Option (Fin 128)) (s : State) : Host.Outcome State Fault Refusal :=
  let t := ch.val
  let x := twc s t
  if low = false then .next (beginTw t (setTwc t { x with alertPin := false, episode := 0, alertTries := 0, alertStop := false } s))
  else
    let s := setTwc t { x with alertPin := true } s
    if alertDue s t && decide (x.act ≤ 1) && !x.begun && !x.busBusy then .next (alertRead t answer s) else .next s

/-- R459: TW_ALERT_READ returns the oldest alerting address and removes it. -/
def execTwAlertRead (a : Acc) (ch : Fin 8) (s : State) : Host.Outcome State Fault Refusal :=
  let t := ch.val
  .next (windowRead a true 0x12 (t * 0x400 + 0xC)
    (fun s => match (twc s t).fifo with | ad :: rest => 2 ^ 31 + 2 ^ 24 * rest.length + ad | [] => 0)
    (fun s => setTwc t { twc s t with fifo := (twc s t).fifo.drop 1 } s) s)

/-- R445, R448: BUS_FREE: both lines have been high for BUF, and a transaction that waits begins. -/
def execBusFree (ch : Fin 8) (s : State) : Host.Outcome State Fault Refusal :=
  .next (if (twc s ch.val).run then beginTw ch.val (setTwc ch.val { twc s ch.val with busBusy := false } s) else s)

end Sys2Proof.Machine
end

