-- ==== Sys2Proof/Machine/Twin.lean ====
section
/-! DEFINITION. Machine/Twin.lean: the claim line, the Shaesh link, divergence and handover (chapter "Twin Operation"). Joins
stand in Machine/Join.lean. -/
namespace Sys2Proof.Machine

/-! ### The end of a Cinch before its fire (R84) -/

/-- R137: the camera-side settings armed for an epoch that is not fired are forgotten. -/
def disarmCams (epoch : Nat) (s : State) : State :=
  forEach (s.ports.map Prod.fst) (fun p s =>
    let x := s.ports.get {} p
    if x.cam.epoch = epoch then { s with ports := s.ports.set {} p { x with
      cam := { prior := x.cam.prior }, access := x.access.filter (fun a => a.kind != 2) } } else s) s

/-- R289, R469: the ungates that released measures still wait for: of strips below full duty, and of engines out of service. -/
def releasedUngates (s : State) : List Nat :=
  s.thrm.ungateQ.filter (fun k => if k < 16 then s.thrm.low.contains k else (engine s (k - 16)).state == 4 || (engine s (k - 16)).leaving)

/-- R351: a join that a Cinch ended starts again once the Cinch has finished: the joiner's own, or by the invitation of the device with the claim. -/
def afterCinch (s : State) : State :=
  if !s.twin.rejoin then s
  else if holdsClaim s then sendSeq 0x40 [] { s with twin.rejoin := false }
  else startJoin { s with twin.rejoin := false }

/-- R84, R73: the pending Cinch ends without applying: the set is OPEN again, SYS_CINCH_FAIL carries the status, and the command
gets its final reply. -/
def abandonCinch (status : Nat) (details : List Detail) (s : State) : State :=
  match s.sys.cinch with
  | some c =>
    if c.phase < 2 then
      let x := s.sys.stage.get {} c.set
      let s := raise 631 status { s with sys.cinch := none, sys.stage := s.sys.stage.set {} c.set { x with state := 1 }, thrm.ungateQ := releasedUngates s }
      let s := disarmCams (nextEpoch s.sys.epoch) s
      afterCinch (match findDeferred s c.session c.seq with
      | some d => failDeferred d details s
      | none => s)
    else s
  | none => s

/-- R61: a deferred command has not committed: a Cinch before its fire, a job not yet started, or a test still deferred. -/
def cancellable (s : State) (d : Deferred) : Bool :=
  if d.opcode = 0x0201 then
    (match s.sys.cinch with | some c => c.session == d.session && c.seq == d.seq && decide (c.phase < 2) | none => true)
  else if d.opcode / 256 = 7 then !d.committed
  else if d.opcode = 0x0501 ∨ d.opcode = 0x0502 then s.bkgd.tests.any (fun t => t.session == d.session && t.seq == d.seq && !t.started)
  else false

/-- R350: on a yielding device every deferred command that has not committed ends with 0x0901. -/
def dropUncommitted (s : State) : State :=
  forEach (s.sys.deferred.filter (cancellable s)) (fun d s =>
    let ds := refuseFree 0x0901
    if d.opcode = 0x0201 then abandonCinch 0x0901 ds s
    else failDeferred d ds (if d.opcode = 0x0703 then forgetCrcJob d.session d.seq s else if d.opcode / 256 = 7 then forgetJob (d.session, d.seq) s
      else { s with bkgd.tests := s.bkgd.tests.filter (fun t => !(t.session == d.session && t.seq == d.seq)) })) s

/-- The commands of group 0x08xx that wait end: all succeed, or fail with a status. -/
def endTwinCommands (op status : Nat) (s : State) : State :=
  forEach (s.sys.deferred.filter (fun d => d.opcode == op)) (fun d s =>
    if status = 0 then endDeferred d 0 [] false 0 s else failDeferred d (refuseFree status) s) s

/-! ### Roles -/

/-- R325, R330, R347: the device enters a state of the pair; a change of role raises TWIN_ROLE, and PTP runs on the ports that the role gives it. -/
def setTwin (n : Nat) (driving : Bool) (s : State) : State :=
  let was := holdsClaim s
  let t := { s with twin.state := n, twin.driving := driving, twin.lineHigh := if driving then false else if s.twin.driving then true else s.twin.lineHigh }
  if was = holdsClaim t then t else runBmca (htCause 2 (raiseOpen 365 t))

/-- R331, R333: the shared outputs enter high impedance: the pulses of triggers and compare units are cut off, and the two-wire channels go quiet. -/
def quietOutputs (s : State) : State :=
  let s := forEach ((s.ports.filter (fun p => p.2.trigPulse)).map Prod.fst) (fun p s => { s with ports := s.ports.set {} p { s.ports.get {} p with trigPulse := false } }) s
  let s := forEach ((s.motn.pcs.filter (fun p => p.2.pulseEnd.isSome)).map Prod.fst) (fun n s =>
    { s with motn.pcs := s.motn.pcs.set {} n { s.motn.pcs.get {} n with pulseEnd := none } }) s
  abortQuiet s

/-- R333: the level of the pin that ROLE_GPX names: driven high with the claim, else in high impedance. -/
def roleGpx (s : State) : Option Bool := if prmN s P.TWIN_ROLE_GPX ≠ 255 ∧ holdsClaim s = true then some true else none

/-- R331: the claim timer's driver releases the line: the device enters DETACHED. -/
def releaseClaim (s : State) : State :=
  if s.twin.driving then
    quietOutputs (setTwin 8 false { s with twin.timerLive := false, twin.conflict := false, twin.yielding := none, twin.yieldDue := false, twin.retry := false })
  else s

/-- R341, R342: every hold on lines and consumers ends. -/
def releaseHolds (s : State) : State :=
  { s with twin.release := (List.range 16).map (fun p => (p, 2 ^ 48)), twin.skipHb := (List.range 17).map (fun i => (i, 2 ^ 48)) }

/-- R346: the states from which TAKEOVER permits a takeover. -/
def takeoverPermits (s : State) : Bool :=
  let st := if s.twin.state = 7 then s.twin.isoFrom else s.twin.state
  let v := prmN s P.TWIN_TAKEOVER
  st == 5 || (st == 6 && decide (1 ≤ v)) || (st == 4 && v == 2)

/-- R54: no twin is attached any more: the replies that waited for one leave. -/
def releaseMirrors (s : State) : State :=
  forEach (s.twin.mirrors.flatMap MirrorWait.replies) emit { s with twin.mirrors := [] }

/-- R338, JOIN_DONE: status, and the detail of a failure. -/
def joinDoneMsg (status detail : Nat) : List Byte := leBytes 2 status ++ leBytes 6 0 ++ leBytes 8 detail

/-- R352: a join ends without completing; the device's state is as the cause leaves it. The spec states no detail of a failure: it is a free value. -/
def endJoin (s : State) : State :=
  match s.twin.join with
  | none => s
  | some j =>
    let s := endTwinCommands 0x0802 0x0905 { s with twin.join := none, twin.joinsBad := s.twin.joinsBad + 1 }
    if j.joiner then
      let (v, s) := fresh s
      logDevice 0x3FF 0x0905 0 0 (sendSeq 0x42 (joinDoneMsg 0x0905 v) { s with twin.retry := prmB s P.TWIN_AUTO_REJOIN })
    else s

/-- R346: a heartbeat loss. A device without the claim releases every hold; in CLAIMING the line decides (R332), a DETACHED device takes over under no
condition (R354), and of an ISOLATED one the state before decides. -/
def heartbeatLoss (s : State) : State :=
  let s := releaseMirrors { s with twin.hbLosses := s.twin.hbLosses + 1, twin.peer := none }
  if holdsClaim s then (if s.twin.state = 3 then { s with twin.state := 2 } else s)
  else
    let s := releaseHolds (raiseOpen 367 s)
    if s.twin.state = 1 ∨ s.twin.state = 8 then s
    else
      let s := { s with twin.mayTake := true }
      if s.twin.state = 7 ∨ (s.twin.lineHigh && takeoverPermits s) = true then s
      else endJoin { s with twin.isoFrom := s.twin.state, twin.state := 7 }

/-- R352: the data path of a joiner stands still until its configuration has come. -/
def dataPathHeld (s : State) : Bool :=
  match s.twin.join with | some j => j.joiner && decide (j.phase < 3) | none => false

/-- R352: a port line of the joiner waits for the captures of the channels that read its strip, from frame F on: the replay. -/
def waitsCapture (s : State) (p g : Nat) : Bool :=
  match s.twin.join with
  | some j => j.joiner && (j.frames.find? p).any (fun f => decide (f ≤ g)) &&
      (List.range 16).any (fun c => prmB s (P.PROF_RUN c) && prmN s (P.PROF_SRC c) == p && !j.caps.contains c)
  | none => false

/-- R352, R353: the joiner forms no stitched line before n0, and line n0 waits for the stitched-side capture. -/
def waitsStitched (s : State) (n : Nat) : Bool :=
  match s.twin.join with
  | some j => j.joiner && (match j.line with | some m => decide (m ≤ n) && !j.lineCap | none => true)
  | none => false

/-- R352: a join fails: the joiner is UNHEALTHY. -/
def failJoin (s : State) : State :=
  match s.twin.join with
  | some j => if j.joiner then setTwin 6 false (endJoin s) else endJoin s
  | none => s

/-- R330, R332: a device whose RUN became 1 decides whether it can claim; a low line means ISOLATED. -/
def execTwinClaiming (lineHigh : Bool) (s : State) : Host.Outcome State Fault Refusal :=
  if prmB s P.TWIN_RUN ∧ (s.twin.state = 0 ∨ s.twin.state = 1) then
    let s := { s with twin.lineHigh := lineHigh }
    .next (if lineHigh then setTwin 1 false s else { setTwin 7 false s with twin.isoFrom := 7 })
  else .next s

/-- R332: the line has stayed high for CLAIM_SETTLE + UNIT_ID ms: the device drives it low and enters ACTIVE. -/
def execClaimSettleExpiry (s : State) : Host.Outcome State Fault Refusal :=
  .next (if s.twin.state = 1 ∧ s.twin.lineHigh then setTwin 2 true { s with twin.conflict := true, twin.timerLive := true } else s)

/-- R332: both devices hold the claim within 5 ms: UNIT_ID 1 releases, logs 0x0906 and starts a join. -/
def claimConflict (s : State) : State :=
  match s.twin.peer with
  | some h =>
    if s.twin.conflict && s.twin.driving && h.driving && prmN s P.TWIN_UNIT_ID == 1 && !sameUnitId s then
      startJoin (logDevice 365 0x0906 0 0 (quietOutputs (setTwin 7 false { s with twin.conflict := false, twin.timerLive := false, twin.isoFrom := 7 })))
    else s
  | none => s

/-- R332: within the 5 ms after claiming the peer's claim decides; when they have elapsed, product segments may leave. -/
def execClaimConflictWindow (elapsed : Bool) (s : State) : Host.Outcome State Fault Refusal :=
  .next (if elapsed then { s with twin.conflict := false } else claimConflict s)

/-- R331: the claim timer has not been refreshed for 20 µs. -/
def execClaimTimerExpiry (s : State) : Host.Outcome State Fault Refusal := .next (releaseClaim s)

/-- R331: the supervisor refreshes the claim timer. -/
def execClaimRefresh (s : State) : Host.Outcome State Fault Refusal :=
  .next { s with twin.timerLive := s.twin.driving }

/-! ### The link -/

/-- R336, R338: the link comes UP: messages number from 1. An ISOLATED device joins under AUTO_REJOIN. -/
def execShaeshLinkUp (s : State) : Host.Outcome State Fault Refusal :=
  if !prmB s P.TWIN_RUN || s.twin.link == 2 then .next s
  else
    let s := { s with
      twin.link := 2, twin.txNext := 1, twin.rxExpect := 1, twin.rxLast := 0, twin.replay := [], twin.waiting := [], twin.lastNak := none, twin.nextMirror := 1
      sys.sessions := s.sys.sessions.erase 6 }
    let s := raiseOpen 366 s
    .next (if s.twin.state = 7 ∧ prmB s P.TWIN_AUTO_REJOIN then startJoin s else s)

/-- R336, R346: the link goes DOWN, which is a heartbeat loss; a join ends, and the state of the joiner is that which the loss gives it. -/
def linkDown (s : State) : State :=
  if s.twin.link = 2 then
    let s := endTwinCommands 0x0804 0x0902 (endTwinCommands 0x0802 0x0902
      { s with twin.link := 0, twin.yielding := none, twin.yieldDue := false, twin.joinDue := false, twin.waiting := [] })
    endJoin (heartbeatLoss (raiseOpen 366 s))
  else s

/-- R336: a lane loses lock, or three marker periods pass without a marker. -/
def takeShaeshLinkDown (s : State) : State :=
  linkDown s

/-- R338: message `a` comes at or before message `b`. -/
def seqLe (a b : Nat) : Bool := decide ((b + 2 ^ 32 - a) % 2 ^ 32 < 2 ^ 31)

/-- R341, R342, R350: the yield is acknowledged: the device releases the line and enters SHADOW, or UNHEALTHY under policy 1, and holds its lines for
the stamps and heartbeats of the new Active. -/
def finishYield (s : State) : State :=
  let s := dropUncommitted (endTwinCommands 0x0804 0 s)
  quietOutputs (setTwin (if prmN s P.TWIN_DIVERGE_POLICY = 1 then 6 else 5) false
    { s with twin.yielding := none, twin.timerLive := false, twin.conflict := false, twin.release := [], twin.skipHb := [], twin.unhealthyPeer := false })

/-- R54, R338, R350: messages up to `ack` are acknowledged: replies that waited for a mirrored packet leave, and a yield
proceeds. -/
def processAck (ack : Nat) (s : State) : State :=
  let s := { s with twin.replay := s.twin.replay.filter (fun m => !seqLe m.msg.mseq ack) }
  let s := match s.twin.waiting with | [] => s | m :: ms => sendWaiting (m :: ms) s
  let out := (s.twin.mirrors.filter (fun m => !m.acked && seqLe m.mseq ack)).flatMap MirrorWait.replies
  let s := { s with twin.mirrors := s.twin.mirrors.map (fun m => if seqLe m.mseq ack then { m with acked := true, replies := [] } else m) }
  let s := forEach out emit s
  match s.twin.yielding with
  | some y => if seqLe y ack then finishYield s else s
  | none => s

/-- R338: a NAK names the expected message, at most once per 5 µs. -/
def sendNak (s : State) : State :=
  let now := monoNs s
  if (match s.twin.lastNak with | some t => decide (now < t + 5000) | none => false) then s
  else sendUnseq 0x03 (leBytes 4 s.twin.rxExpect ++ leBytes 4 0) { s with twin.lastNak := some now }

/-- R338: a sequenced message arrives: its ACK field counts, and it acts if it is the one expected; else it is discarded and
a NAK is sent. -/
def acceptMsg (m : MsgHdr) (act : State → State) (s : State) : State :=
  if s.twin.link ≠ 2 then s
  else
    let s := processAck m.ack s
    if m.mseq = s.twin.rxExpect then act { s with twin.rxExpect := nextMseq s.twin.rxExpect, twin.rxLast := m.mseq } else sendNak s

/-- R338: send a message that the receiver acknowledges within 1 µs. -/
def sendAck (s : State) : State := sendUnseq 0x02 [] s

/-- R338, HEARTBEAT: the payload. -/
def heartbeatPayload (s : State) : List Byte :=
  leBytes 1 s.twin.state ++ leBytes 1 (prmN s P.TWIN_UNIT_ID) ++ leBytes 1 (b2n s.twin.lineHigh + 2 * b2n s.twin.driving) ++ leBytes 1 0 ++
    leBytes 4 s.sys.epoch ++ (List.range 32).flatMap (fun i => leBytes 8 ((latchSlot s i).begun.getD 0))

/-- R338: every 10 µs each twin sends a HEARTBEAT. -/
def execHeartbeatSend (s : State) : Host.Outcome State Fault Refusal :=
  .next (if s.twin.link = 2 then sendUnseq 0x01 (heartbeatPayload s) s else s)

/-- R330: the device with the claim is PAIRED while its peer is in SHADOW, unless a join is in progress or the peer is known not to be in step; else it is
ACTIVE. -/
def pairedState (n peer : Nat) (held : Bool) : Nat := if n = 3 ∧ peer ≠ 5 then 2 else if n = 2 ∧ peer = 5 ∧ held = false then 3 else n

/-- R332: the first heartbeat shows the peer's UNIT_ID: a join or an invitation that waited for it begins, or ends with 0x0902. -/
def joinNow (s : State) : State :=
  if !s.twin.joinDue then s
  else
    let s := { s with twin.joinDue := false }
    if sameUnitId s then endTwinCommands 0x0802 0x0902 s else if holdsClaim s then sendSeq 0x40 [] s else startJoin s

/-- R356: the heartbeats missed between two that came `dt` ns apart: one is due every 10 µs ± 1 µs (R338). -/
def missedIn (dt : Nat) : Nat := (dt + 5000) / 10000 - 1

/-- R356: heartbeats missed since the last one that counts. -/
def countMissed (least : Nat) (s : State) : State :=
  match s.twin.hbAt with
  | some t => { s with twin.hbMissed := s.twin.hbMissed + max least (missedIn (monoNs s - t)), twin.hbAt := none }
  | none => { s with twin.hbMissed := s.twin.hbMissed + least }

/-- R330, R332, R338, R356: a HEARTBEAT is accepted. Equal UNIT_IDs are logged once. -/
def takeHeartbeatReceived (hb : Heartbeat) (ack : Nat) (s : State) : State :=
  if s.twin.link ≠ 2 then s
  else
    let first := s.twin.peer.isNone
    let s := processAck ack s
    let s := { countMissed 0 s with
      twin.peer := some hb, twin.peerEpoch := hb.epoch, twin.hbAt := some (monoNs s), twin.lineHigh := if s.twin.driving then false else hb.lineHigh && !hb.driving }
    let s := if first ∧ sameUnitId s = true then logDevice 0x3FF 0x0902 0 0 s else s
    let s := joinNow { s with twin.state := pairedState s.twin.state hb.state (s.twin.join.isSome || s.twin.unhealthyPeer || sameUnitId s) }
    claimConflict s

/-- R338: an ACK message. -/
def takeAck (ack : Nat) (s : State) : State :=
  if s.twin.link = 2 then processAck ack s else s

/-- R338: the messages from number `n` on are sent again; a third replay of one message takes the link DOWN. -/
def replayFrom (n : Nat) (s : State) : State :=
  let again := s.twin.replay.filter (fun m => seqLe n m.msg.mseq)
  let s := { s with
    twin.sent := s.twin.sent ++ again.map (fun m => twinBytes m.msg)
    twin.replays := s.twin.replays + again.length
    twin.replay := s.twin.replay.map (fun m => if seqLe n m.msg.mseq then { m with replays := m.replays + 1 } else m) }
  if s.twin.replay.any (fun m => decide (3 ≤ m.replays)) then linkDown s else s

/-- R338: a NAK makes the sender replay from the named message. -/
def takeNak (expected : Nat) (ack : Nat) (s : State) : State :=
  if s.twin.link = 2 then replayFrom expected (processAck ack s) else s

/-- R337, R338: the CRC of a received message holds. -/
def twinCrcOk (frame : List Byte) : Bool :=
  let n := 16 + roundUp 8 (leAt frame 2 2)
  frame.length == n + 8 && leAt frame n 4 == crc32c (frame.take n)

/-- R338: a sequenced message with a bad CRC or an unexpected number is discarded and answered with a NAK; an unsequenced one is discarded. Types up to
NAK are unsequenced. -/
def execShaeshMessageRejected (frame : List Byte) (s : State) : Host.Outcome State Fault Refusal :=
  .next (if s.twin.link = 2 ∧ 3 < leAt frame 0 1 ∧ (twinCrcOk frame = false ∨ leAt frame 4 4 ≠ s.twin.rxExpect) then sendNak s else s)

/-- R338: 50 µs without acknowledgement. -/
def takeReplayTimeout (s : State) : State :=
  match s.twin.replay with
  | m :: _ => if s.twin.link = 2 then replayFrom m.msg.mseq s else s
  | [] => s

/-! ### Divergence (R345) and yield (R350) -/

/-- R350: the Active begins to yield: it chooses no new unit, and the units it has begun complete before YIELD goes out. -/
def startYield (s : State) : State := tryYield { s with twin.yieldDue := true }

/-- R345: the Active learns of a divergence or a lapse: TWIN_DIVERGE, then DIVERGE_POLICY. -/
def activeDiverge (s : State) : State :=
  let s := raiseOpen 368 { s with twin.diverged := s.twin.diverged + 1 }
  let pol := prmN s P.TWIN_DIVERGE_POLICY
  if pol = 0 then (if s.twin.state = 3 then { s with twin.state := 2, twin.unhealthyPeer := true } else s)
  else if pol = 1 then (if s.twin.state = 3 ∨ s.twin.state = 2 then startYield s else s)
  else s

/-- R344, R345: a Shadow in step compares its digest of a unit with the Active's. -/
def compareDigest (own theirs : DigestEntry) (s : State) : State :=
  let t := compareUnit own theirs s
  if own.digest = theirs.digest then t else shadowDiverge t

/-- R353: the top of a PATCH unit lies before n0: it shows lines that the joiner does not have. -/
def patchExcluded (top : Option Nat) (s : State) : Bool :=
  match top, compareBase s with
  | some l, some f => !holdsClaim s && decide (l < f.2)
  | _, _ => false

/-- R45, R344, R353: the Active reports the digest of every unit it forms; a Shadow in step compares it, or keeps it until the Active's entry comes, and a joiner
keeps those from its boundaries on. -/
def digestOut (e : DigestEntry) (top : Option Nat) (s : State) : State :=
  if attached s then sendSeq 0x22 (leBytes 4 1 ++ leBytes 4 0 ++ digestEntryBytes e) s
  else if (s.twin.state = 4 ∨ s.twin.state = 5) ∧ comparable s e = true then
    let rest := s.twin.theirs.filter (fun x => !sameUnit e x)
    if patchExcluded top s then
      { s with twin.theirs := rest, twin.excluded := if s.twin.theirs.any (sameUnit e) then s.twin.excluded else s.twin.excluded ++ [e] }
    else match (if s.twin.state = 5 then s.twin.theirs.find? (sameUnit e) else none) with
    | some t => compareDigest e t { s with twin.theirs := rest }
    | none => { s with twin.own := s.twin.own ++ [e] }
  else s

/-- R300: the oldest closed unit of a flow is formed: it takes its sequence number, its digest enters the kept 1,024, and
it goes to coding, a queue or its transmit buffer. -/
def execUnitFormed (f : Fin 1024) (s : State) : Host.Outcome State Fault Refusal :=
  let x := flow s f.val
  match x.closed with
  | [] => .next s
  | u :: us =>
    let plain := u.product == 10 || u.product == 11
    let scope := if plain then prmN s P.CHK_DIGEST_SCOPE else prmAtN s u.epoch P.CHK_DIGEST_SCOPE
    let pu := formUnit f.val x.nextSeq scope (if plain then s.sys.epoch else u.epoch) (if plain then { u with launchRef := nowNs s } else u)
    let s := setFlow f.val { x with
      closed := us, nextSeq := x.nextSeq + 1
      kept := (x.kept ++ [(pu.seq, pu.digest)]).drop (x.kept.length + 1 - 1024) } s
    .next (routeUnit pu (digestOut ⟨pu.product, pu.source, f.val, pu.epoch, pu.firstId, pu.seq, pu.digest⟩ u.top s))

/-- R54, R345: the Shadow's reply to a mirrored command; 0x0904 is a divergence. -/
def takeReply (m : MsgHdr) (reply : Reply) (s : State) : State :=
  acceptMsg m (fun s =>
    let s := if reply.interim then s else { s with twin.mirrors := s.twin.mirrors.filter (fun w => !(w.acked && w.mirrorSeq == reply.seq)) }
    if reply.status = 0x0904 then activeDiverge s else s) s

/-- R54, R345: a mirrored packet has waited 1 ms for its acknowledgement: the Active replies and the Shadow is unhealthy. -/
def takeMirrorAckTimeout (s : State) : State :=
  match s.twin.mirrors.find? (fun w => !w.acked) with
  | none => s
  | some w =>
    let s := { s with twin.mirrors := s.twin.mirrors.filter (fun x => x.mirrorSeq != w.mirrorSeq) }
    activeDiverge (forEach w.replies emit s)

/-- R85: the Shadow has armed the mirrored set: the device with the claim takes note. -/
def takeArmed (m : MsgHdr) (epoch : Nat) (s : State) : State :=
  acceptMsg m (fun s => if holdsClaim s then { s with twin.armedPeer := some epoch } else s) s

/-- R344: the Active's digests: an UNHEALTHY Shadow compares none (R345). -/
def takeDigests (m : MsgHdr) (entries : List DigestEntry) (s : State) : State :=
  acceptMsg m (fun s => forEach entries (fun e s =>
    if s.twin.excluded.any (sameUnit e) then { s with twin.excluded := s.twin.excluded.filter (fun x => !sameUnit e x) }
    else if (s.twin.state = 4 ∨ s.twin.state = 5) ∧ comparable s e = true then
      match (if s.twin.state = 5 then s.twin.own.find? (sameUnit e) else none) with
      | some o => compareDigest o e { s with twin.own := s.twin.own.filter (fun x => !sameUnit e x) }
      | none => { s with twin.theirs := s.twin.theirs ++ [e] }
    else s) s) s

/-- R344: an entry has found no corresponding unit within 1 s. -/
def execDigestUnmatchedTimeout (e : DigestEntry) (s : State) : Host.Outcome State Fault Refusal :=
  if s.twin.own.contains e || s.twin.theirs.contains e then
    let own := if s.twin.own.contains e then e.digest else 0
    let s := { s with twin.own := s.twin.own.filter (fun x => x != e), twin.theirs := s.twin.theirs.filter (fun x => x != e),
                      twin.lastResult := 2, twin.lastId := e.firstId, twin.lastProduct := e.product }
    .next (shadowDiverge (divergence e own s))
  else .next s

/-- R343, R348: the Shadow discards the units of a flow up to a disposed one, in its queues, its backlog and its engines. -/
def discardUnits (e : DisposedEntry) (s : State) : State :=
  let gone := fun (fl seq : Nat) => fl == e.flow && decide (seq ≤ e.seq)
  let coding := (s.cmpr.engines.filter (fun x => match x.2.unit with | some u => gone u.flow u.seq | none => false)).map Prod.fst
  let s := keepUnits (fun u => !gone u.flow u.seq) (forEach coding freeEngine s)
  setFlow e.flow { flow s e.flow with disposed := some e.seq } { s with cmpr.backlog := s.cmpr.backlog.filter (fun u => !gone u.flow u.seq) }

/-- R343: dispositions reach the Shadow, which acknowledges them within 1 µs. -/
def takeDisposed (m : MsgHdr) (entries : List DisposedEntry) (s : State) : State :=
  acceptMsg m (fun s => sendAck (if isShadow s then forEach entries discardUnits s else s)) s

/-- R98, R354: the Active's log entries enter the mirror ring of 262,144 entries; a DETACHED device mirrors nothing. -/
def takeLog (m : MsgHdr) (entries : List LogEntry) (s : State) : State :=
  acceptMsg m (fun s => if s.twin.state = 8 then s else
    { s with sys.log.mirror := (s.sys.log.mirror ++ entries).drop (s.sys.log.mirror.length + entries.length - 262144) }) s

/-- R345: the Active receives a DIVERGENCE. -/
def takeDivergence (m : MsgHdr) (e : DigestEntry) (own : Nat) (s : State) : State :=
  acceptMsg m (fun s =>
    activeDiverge { s with twin.lastId := e.firstId, twin.lastProduct := e.product, twin.lastResult := if own = e.digest then 2 else 1 }) s

/-- R350: the Shadow receives YIELD; it may take over as soon as the line is high. -/
def takeYield (m : MsgHdr) (s : State) : State :=
  acceptMsg m (fun s => if isShadow s then sendAck { s with twin.mayTake := true } else s) s

/-- R354: the sender detaches: the receiver without the claim enters DETACHED, one with it ACTIVE. -/
def takeDetach (m : MsgHdr) (s : State) : State :=
  acceptMsg m (fun s => if holdsClaim s then (if s.twin.state = 3 then { s with twin.state := 2 } else s) else { s with twin.state := 8, twin.join := none, twin.mayTake := false, twin.retry := false, twin.joinDue := false, twin.rejoin := false }) s

/-- R342: an event of the Active acts at its named line on a device without the claim. -/
def takeEvent (m : MsgHdr) (consumer : Nat) (kind : Nat) (line : Nat) (s : State) : State :=
  acceptMsg m (fun s =>
    if !isShadow s then s else
    let i := (slotOf consumer).1
    let x := latchSlot s i
    setLatchSlot i { x with pending := x.pending ++ [⟨kind, 0, some line⟩] } s) s

/-! ### Handover -/

/-- R346: 32 µs without a heartbeat, in which three were missed at the least (R338). -/
def takeTwinHbLost (s : State) : State :=
  if s.twin.peer.isSome then heartbeatLoss (countMissed 3 s) else s

/-- R347 step 2: the two-wire channels of TW_QUIET begin only after the bus has been free for its bus-free time. -/
def waitBuses (s : State) : State :=
  forEach ((List.range 8).filter (bitOf (prmN s P.TWIN_TW_QUIET))) (fun t s => setTwc t { twc s t with busBusy := true } s) s

/-- R347 step 3: a NET port with RUN = 1 announces its addresses: one gratuitous ARP and one unsolicited neighbour advertisement. -/
def announcePort (p : Nat) (s : State) : State :=
  if prmN s (P.NETW_RUN p) = 1 then
    sendAddress p true { mac := 0x333300000001, ip := 0xFF02 * 2 ^ 112 + 1 } false
      (sendAddress p false { mac := 0xFFFFFFFFFFFF, ip := 0xFFFF * 2 ^ 32 + prmN s (P.NETW_IPV4 p) } false s)
  else s

/-- R347: the line has been high for CLAIM_SETTLE after a heartbeat loss or YIELD: the device takes over. -/
def execTakeover (s : State) : Host.Outcome State Fault Refusal :=
  if prmB s P.TWIN_RUN ∧ s.twin.mayTake ∧ ¬ s.twin.driving ∧ takeoverPermits s = true then
    let s := setTwin 2 true { s with twin.mayTake := false, twin.timerLive := true, twin.takeovers := s.twin.takeovers + 1, twin.join := none, twin.retry := false, twin.unhealthyPeer := false }
    let s := logDevice 365 0 0 0 (releaseHolds s)
    .next (announcePort 1 (announcePort 0 (waitBuses s)))
  else .next s

end Sys2Proof.Machine
end

