-- ==== Sys2Proof/Machine/Port.lean ====
section
/-! DEFINITION. Machine/Port.lean: the camera ports (chapter "Camera Ports"): received packets and segments, lines due and their
pairing, frames, stamps, and delivery to the strips. -/
namespace Sys2Proof.Machine

/-! ### Rates and packing -/

/-- R162: samples of BITS bits packed without gaps, least significant bit first. -/
def packSamples (bits : Nat) (px : List Nat) : List Byte :=
  leBytes ((px.length * bits + 7) / 8) (px.foldr (fun v acc => v % 2 ^ bits + acc * 2 ^ bits) 0)

/-- R162: the first `n` samples of a packed line. -/
def unpackSamples (bits n : Nat) (bs : List Byte) : List Nat :=
  let v := ofLe bs
  (List.range n).map (fun k => v / 2 ^ (k * bits) % 2 ^ bits)

/-- R124: the samples of a line of port `p`. -/
def lineSamples (d : Dict) (p : Nat) : Nat := dictN d (P.PORT_WIDTH p) * dictN d (P.PORT_COMPONENTS p)

/-- R124: the bytes B of a line of port `p`. -/
def lineBytes (d : Dict) (p : Nat) : Nat := (lineSamples d p * dictN d (P.PORT_BITS p) + 7) / 8

/-- R131: a line in which every sample is FILL_VALUE. -/
def fillBytes (d : Dict) (p : Nat) : List Byte :=
  packSamples (dictN d (P.PORT_BITS p)) (List.replicate (lineSamples d p) (dictN d (P.PORT_FILL_VALUE p)))

/-- R134: received bytes brought to B bytes: missing columns take FILL_VALUE, excess bytes are dropped. -/
def fitLine (d : Dict) (p : Nat) (bs : List Byte) : List Byte :=
  let b := lineBytes d p
  if b ≤ bs.length then bs.take b
  else
    let bits := dictN d (P.PORT_BITS p)
    let comps := dictN d (P.PORT_COMPONENTS p)
    let got := bs.length * 8 / bits / comps * comps
    packSamples bits (unpackSamples bits got bs ++ List.replicate (lineSamples d p - got) (dictN d (P.PORT_FILL_VALUE p)))

/-- R141: the planning line rate of port `p`, in lines per second. -/
def planRate (d : Dict) (p : Nat) : Rat :=
  if dictVal d (P.PORT_TIMING p) = 1 then (1000000000 : Rat) / dictN d (P.PORT_FREE_PERIOD p)
  else if dictVal d (P.MOTN_LTG_SOURCE (16 + p)) = 1 then
    let r : Rat := (500000000 : Rat) * dictN d (P.MOTN_LTG_DIV_M (16 + p)) / dictN d (P.MOTN_LTG_DIV_N (16 + p))
    if dictVal d (P.PORT_MODE p) = 1 then r * dictN d (P.PORT_HEIGHT p) else r
  else dictN d (P.PORT_PLAN_RATE p)

/-- R128: the lanes that port `p` uses. -/
def portLanes (s : State) (p : Nat) : List Nat := (List.range (prmN s (P.PORT_CONNECTIONS p))).map (fun k => 4 * p + k)

/-- R121, R135, R110: every lane in use is LOCKED and ALIGNED, and under no forced test. -/
def lanesReady (s : State) (p : Nat) : Bool := (portLanes s p).all (fun n => (lane s n).state == 2 && (lane s n).aligned && !(lane s n).forced && (lane s n).prbsMode != 2)

/-- A port event by its kind (R414). -/
def portEvent (p kind arg : Nat) (s : State) : State := raise (32 + 10 * p + kind) arg s

/-- Change a port. -/
def modPort (p : Nat) (f : Port → Port) (s : State) : State := setPort p (f (port s p)) s

/-- Whether the port receives: RUNNING or DEGRADED (R135). -/
def receives (x : Port) : Bool := x.state == 2 || x.state == 3

/-- R104, R122: the port hears its camera: it receives, and its master lane delivers words. -/
def hears (s : State) (p : Nat) : Bool := receives (port s p) && laneGives s (4 * p)

/-- R129: lines are due. -/
def linesDue (x : Port) : Bool := x.run && x.everRun

/-- R11: the axis of port `p`. -/
def portAxis (s : State) (p : Nat) : Nat := prmN s (P.MOTN_LTG_AXIS (16 + p))

/-- The latch at a first pixel word (R11). -/
def startLatch (p : Nat) (s : State) : Latch := latchAt s (portAxis s p) 0

/-- R138: every camera-side setting of the port was acknowledged. -/
def camAcked (x : Port) : Bool := x.cam.acked == x.cam.entries.length

/-! ### The uplink (R123, R127) -/

/-- R127: the characters of a raw control message, from K27.7 to K29.7. -/
def rawMessage (a : CamAcc) : List (Bool × Byte) :=
  let read := decide (a.kind = 0)
  let body := leBytes 1 (if read then 2 else 1) ++ leBytes 1 a.tag ++ leBytes 4 a.addr ++ leBytes 2 (if read then a.len else a.data.length) ++ (if read then [] else a.data)
  (true, 0xFB) :: ((body ++ leBytes 2 (crcOf (crcPreset 2) body)).map (fun b => (false, b)) ++ [(true, 0xFD)])

/-- R123, R127, R136: a control access as its uplink carries it. -/
def accessOut (raw : Bool) (a : CamAcc) : UplOut := if raw then .rawMessage (rawMessage a) else .command a.tag a.kind a.addr a.len a.data

/-! ### The anchor of a Cinch (R80 to R84) -/

/-- R81: line `g` of port `p`, the first of frame `f` where `fs`, is latched: T* of an armed Cinch that names it. -/
def anchorPort (p : Nat) (g n f : Nat) (fs : Bool) (l : Latch) (s : State) : State :=
  match s.sys.cinch with
  | some c =>
    if c.phase ≠ 1 ∨ (s.sys.stage.get {} c.set).state ≠ 3 ∨ c.tStar ≠ none then s
    else if c.btype = 1 ∧ fs ∧ firstIdx (bitOf c.mask) 16 = some p ∧ (c.value = 0xFFFFFFFFFFFFFFFF ∨ c.value = f) then
      { s with sys.cinch := some { c with tStar := some (latchNs l), anchor := some f, result := g } }
    else if c.btype = 4 ∧ c.mask = 2 ^ p ∧ g ≤ c.value ∧ c.value < g + n then
      { s with sys.cinch := some { c with tStar := some (latchNs l), result := c.value } }
    else if c.btype = 4 ∧ c.mask = 0 ∧ p = prmN s P.STCH_OUT_REF_PORT then
      match (s.stch.ins.get {} p).base with
      | some b =>
        let hit :=
          if prm s P.STCH_OUT_MODE = 1 then fs && f == b + c.value / prmN s P.STCH_OUT_HEIGHT
          else
            let dmax := ((List.range 16).filter (contributes s.sys.applied)).foldl (fun m q => max m (prmN s (P.STCH_MD_DELAY q))) 0
            g == b + c.value + dmax - prmN s (P.STCH_MD_DELAY p)
        if hit then { s with sys.cinch := some { c with tStar := some (latchNs l), result := c.value } } else s
      | none => s
    else s
  | none => s

/-- R81: the anchor of a line-scan port's line, `d` lines after the next one to leave. -/
def anchorLine (p d : Nat) (l : Latch) (s : State) : State :=
  let x := port s p
  let len := if x.lineInFrame = 0 then prmAtN s x.epoch (P.PORT_FRAME_LENGTH p) else x.frameLen
  let i := x.lineInFrame + d
  anchorPort p (x.globalLine + d) 1 (x.frame + i / len) (i % len == 0) l s

/-- R82: the epoch of a line of stream `i` (a port, or 16) with a TIME, which so far carries `e`. -/
def switchEpoch (s : State) (i e ns : Nat) (fs : Bool) : Nat :=
  match s.sys.cinch with
  | some c =>
    if c.phase = 2 ∧ i ∈ c.waiting ∧ e ≠ s.sys.epoch ∧ (fs ∨ i ∉ c.frameOnly) ∧ c.tStar.any (fun t => decide (t ≤ ns)) = true then s.sys.epoch
    else e
  | none => e

/-- R104: the lanes of a port whose RUN is 0 are off from its switch line on. -/
def dropLanes (p : Nat) (s : State) : State :=
  forEach (List.range 4) (fun k s => if prmB s (P.LANE_RUN (4 * p + k)) then s else laneOff (4 * p + k) s) s

/-- R78: the S-class values that waited for the stop of instances on stream `i` take effect. -/
def applyLater (i : Nat) (s : State) : State :=
  match s.sys.cinch with
  | some c => match c.later.find? i with
    | some d => { s with sys.applied := overlay s.sys.applied d, sys.cinch := some { c with later := c.later.erase i } }
    | none => s
  | none => s

/-- R84 step 6: a stream has passed its switch line. -/
def passSwitch (i : Nat) (s : State) : State :=
  match s.sys.cinch with
  | some c =>
    if c.phase = 2 ∧ c.waiting.contains i then
      let s := applyLater i { s with sys.cinch := some { c with waiting := c.waiting.filter (· ≠ i) } }
      if i < 16 then dropLanes i s else s
    else s
  | none => s

/-! ### Frames, stamps and the ingress buffer (R10 to R16, R131 to R139) -/

/-- R139: the frame report. -/
def reportBytes (p frame : Nat) (r : FrameAcc) : List Byte :=
  leBytes 1 p ++ leBytes 1 (setFlagIf (decide (0 < r.errs)) r.flags 2).toNat ++ leBytes 2 0 ++ leBytes 4 frame ++ leBytes 4 r.epoch ++ leBytes 6 r.first ++ leBytes 2 0 ++
  leBytes 4 r.lines ++ leBytes 4 r.missing ++ leBytes 4 r.excess ++ leBytes 4 r.lost ++ leBytes 4 r.errs ++ leBytes 8 0

/-- R131: bytes of received lines in the ingress buffer. -/
def ingressBytes (x : Port) : Nat := ((x.out.filter (fun o => !stampLost o.line.stamp)).map (fun o => o.line.bytes.length)).sum

/-- R133, R139: the held last line of an area frame leaves, with LONG_FRAME where an excess line came first. DESIGN CHOICE (log entry 94): the report that leaves
with it counts that excess line alone; later ones enter only the counter. -/
def releaseHold (p : Nat) (long : Bool) (s : State) : State :=
  let x := port s p
  match x.hold with
  | none => s
  | some o =>
    let t := { o.line.stamp with flags := setFlagIf long o.line.stamp.flags 3 }
    let r := { x.report with flags := setFlagIf long x.report.flags 1, excess := x.report.excess + b2n long }
    let s := if long then portEvent p 3 t.globalLine s else s
    setPort p { x with hold := none, report := {}, mismatch := false,
                       out := x.out ++ [{ o with line := { o.line with stamp := t }, report := some (reportBytes p t.frame r) }] } s

/-- R129, R78: the port stops: no line is due, what waits is dropped; stamped lines still leave, a held one among them. -/
def stopPort (p : Nat) (s : State) : State :=
  let s := releaseHold p false s
  let x := port s p
  let s := setPort p { x with
    run := false, state := 0, everRun := false, cur := none, conns := [], turn := 0, tagNext := none, segs := [], ready := [], incoming := [], due := [], debt := 0
    lostCounts := [], inFrame := false, excessing := false, mismatch := false, frameLatch := none, frameDue := none, trigPulse := false, report := {}, access := [], cam := {} } s
  let s := forEach (s.sys.deferred.filter (fun d => x.access.any (fun a => a.kind < 2 && a.session == d.session && a.seq == d.seq)))
    (fun d s => failDeferred d (refuse1 0x0703 0 p) s) s
  let s := if x.out.isEmpty then closeProduct 1 p s else s
  if x.out.isEmpty && (s.strips.get {} p).inq.isEmpty && (s.colrs.get {} p).wait.isEmpty then closeProduct 2 p s else s

/-- R174: a strip at the first line of a run. -/
def freshStrip (i : Nat) (s : State) : State :=
  let st := s.strips.get {} i
  { s with strips := s.strips.set {} i { st with prev := none, frozen := false, sawFrozen := false, shadeOn := false, m0 := [], m1 := [], job := none, stats := {} } }

/-- R121, R117: a CoaXPress port sends its link establishment, where its uplink is driven. -/
def establish (p : Nat) (s : State) : State :=
  if uplinkOn s p && prm s (P.PORT_PROTOCOL p) == 0 then sendUplink p .establishment s else s

/-- R121, R8, R10, R16: RUN becomes 1: the counts begin again; stamped lines of the run before still leave. The strip begins anew with the first line
of the run. -/
def startPort (p : Nat) (s : State) : State :=
  let x := port s p
  establish p <| setPort p { ({} : Port) with
    run := true, state := 1, epoch := s.sys.epoch, nextTag := x.nextTag, cam := x.cam, counts := x.counts, tests := x.tests, out := x.out, uplink := x.uplink
    trigAcks := x.trigAcks, trigSent := x.trigSent, eventsAcked := x.eventsAcked } s

/-- R135: why a stamped line was replaced: 0 not, 1 LOSS by timeout, 2 LOSS by overflow, 3 FILL. -/
def replFlags (repl : Nat) : Word16 := if repl = 0 then 0 else if repl = 3 then 2 else 1

/-- R9 to R16, R19, R134, R138, R511: form the stamp of the next line of port `p` and pass the line to the ingress buffer. `repl` is
as in replFlags, `extra` are further flags, `bytes` the received bytes, `errs` its check-value errors, `fs` and `fe` whether it
begins and ends a frame of an area port, `hold` that it waits for the end of its frame (R133). The port stops in place of a
line that would be the switch line of RUN = 0 (R78). -/
def stampLine (p : Nat) (l : Latch) (repl : Nat) (extra : Word16) (bytes : Option (List Byte)) (errs : Nat) (camOk fs fe hold : Bool)
    (s : State) : State :=
  let x := port s p
  if !x.run then s
  else
    let area := prm s (P.PORT_MODE p) = 1
    let isFs := if area then fs else x.lineInFrame == 0
    let own := switchEpoch s p x.epoch (latchNs l) isFs
    let e := if isShadow s then
        (match s.twin.stamps.find? (fun t => t.port == p && t.globalLine == x.globalLine) with | some t => t.epoch | none => own) else own
    let d := dictAt s e
    if dictVal d (P.PORT_RUN p) = 0 then stopPort p (passSwitch p s)
    else
      let got := match bytes with | some b => b | none => []
      let short := repl == 0 && got.length != lineBytes d p
      let full := repl == 0 && decide (262144 < ingressBytes x + lineBytes d p)
      let repl := if full then 2 else repl
      let len := if area then x.height else if isFs then dictN d (P.PORT_FRAME_LENGTH p) else x.frameLen
      let isFe := if area then fe else x.lineInFrame + 1 == len
      let unc := if isFs then (e == x.cam.epoch && !camOk) || x.cam.prior == some e else x.uncertain
      let unc := unc || (e == x.cam.epoch && x.cam.failed)
      let errs := errs + b2n short
      let body := if repl = 0 then fitLine d p got else fillBytes d p
      let fl := l.flags ||| replFlags repl ||| extra
      let fl := setFlagIf (!x.fresh && decide (x.lastIlls < l.ills)) (setFlagIf (!x.fresh && decide (x.lastSteps < l.steps)) fl 9) 12
      let fl := setFlagIf isFe (setFlagIf isFs (setFlagIf unc (setFlagIf (decide (0 < errs) && repl == 0) fl 4) 6) 13) 14
      let t : Stamp := {
        port := p, flags := fl, lineInFrame := x.lineInFrame, frame := x.frame, epoch := e, globalLine := x.globalLine, timeS := l.timeS
        timeNs := l.timeNs, position := l.pos, lineCheck := crc32c body }
      let r := if isFs then { x.report with epoch := e, first := x.globalLine } else x.report
      let rf := setFlagIf (hasFlag fl 2) (setFlagIf unc (setFlagIf (hasFlag fl 0) (setFlagIf x.mismatch r.flags 5) 4) 3) 0
      let r := { r with flags := rf, lines := r.lines + 1, missing := r.missing + b2n (repl == 3),
                        lost := r.lost + b2n (repl == 1 || repl == 2), errs := r.errs + errs }
      let o : OutLine := { line := ⟨t, body⟩, first := x.fresh }
      let c := x.counts
      let c := { c with length := c.length + b2n short, lossTimeout := c.lossTimeout + b2n (repl == 1),
                        lossOverflow := c.lossOverflow + b2n (repl == 2), fill := c.fill + b2n (repl == 3) }
      let x := { x with
        epoch := e, globalLine := (x.globalLine + 1) % 2 ^ 48, lastSteps := l.steps, lastIlls := l.ills, fresh := false, uncertain := unc, report := r, counts := c
        lineInFrame := if isFe then 0 else x.lineInFrame + 1, frameLen := len, frame := if isFe then (x.frame + 1) % 2 ^ 32 else x.frame }
      let s := if 0 < errs then portEvent p 4 t.globalLine s else s
      if hold then setPort p { x with hold := some o } s
      else if isFe then setPort p { x with report := {}, mismatch := false, out := x.out ++ [{ o with report := some (reportBytes p t.frame r) }] } s
      else setPort p { x with out := x.out ++ [o] } s

/-- R129, R130: the latch of the frame in progress: its trigger's or row 0's; before row 0 of a free-running frame that of its due time, if that has passed. -/
def frameLatchOf (s : State) (p : Nat) : Latch := ((port s p).frameLatch.orElse (fun _ => (port s p).frameDue)).getD (startLatch p s)

/-- R133: rows `n` at a time complete a frame as FILL lines (`repl` 3) or LOSS lines (1); `extra` are their flags. -/
def fillRows (p : Nat) (repl : Nat) (extra : Word16) : Nat → State → State
  | 0, s => s
  | n + 1, s =>
    let x := port s p
    let last := x.row + 1 == x.height
    let s := stampLine p (frameLatchOf s p) repl extra none 0 (camAcked x) (x.row == 0) last false s
    fillRows p repl extra n (modPort p (fun y => { y with row := y.row + 1, inFrame := y.inFrame && !last }) s)

/-- R129, R80, R82: the frame in progress of a free-running area port takes its TIME, and with it the HEIGHT of the epoch that its lines carry. -/
def latchFrame (p : Nat) (l : Latch) (s : State) : State :=
  let x := port s p
  if x.frameLatch.isSome then s
  else
    let h := prmAtN s (switchEpoch s p x.epoch (latchNs l) true) (P.PORT_HEIGHT p)
    anchorPort p x.globalLine h x.frame true l (setPort p { x with frameLatch := some l, height := h } s)

/-- R133: the frame in progress ends before HEIGHT lines: FILL lines with SHORT_FRAME, or LOSS lines where none came. -/
def endShort (p : Nat) (s : State) : State :=
  let x := port s p
  if !x.inFrame then s
  else if x.gotRows = 0 then
    let s := latchFrame p (frameLatchOf s p) s
    modPort p (fun y => { y with inFrame := false }) (fillRows p 1 0 ((port s p).height - x.row) s)
  else
    let s := fillRows p 3 4 (x.height - x.row) s
    portEvent p 2 (x.globalLine + (x.height - x.row) - 1) (modPort p (fun y => { y with inFrame := false }) s)

/-- R133, R153: an area port turns each lost frame trigger at its head into HEIGHT LOSS lines, once the frame before has left. -/
def lostFrames (p : Nat) : Nat → State → State
  | 0, s => s
  | n + 1, s =>
    let x := port s p
    match x.due with
    | u :: us =>
      if u.repl = 0 ∨ x.inFrame ∨ x.hold.isSome then s
      else
        let h := prmAtN s (switchEpoch s p x.epoch (latchNs u.latch) true) (P.PORT_HEIGHT p)
        let s := setPort p { x with due := us, inFrame := true, frameLatch := some u.latch, row := 0, gotRows := 0, height := h, excessing := false } s
        lostFrames p n (modPort p (fun y => { y with inFrame := false }) (fillRows p u.repl 0 h s))
    | [] => s

/-- R133: a frame of an area port begins: the frame before is completed, and a triggered frame takes the oldest trigger. -/
def beginFrame (p : Nat) (start : Latch) (s : State) : State :=
  let s := lostFrames p 64 (releaseHold p false (endShort p s))
  let x := port s p
  let h := fun (l : Latch) (s : State) => prmAtN s (switchEpoch s p (port s p).epoch (latchNs l) true) (P.PORT_HEIGHT p)
  if prm s (P.PORT_TIMING p) = 1 then
    setPort p { x with inFrame := true, frameLatch := none, row := 0, gotRows := 0, excessing := false, height := h start s, mismatch := false
                       frameDue := (x.due.head?).map Due.latch, due := x.due.drop 1 } s
  else match x.due with
    | u :: us => setPort p { x with due := us, inFrame := true, frameLatch := some u.latch, row := 0, gotRows := 0, excessing := false,
                                    height := h u.latch s, mismatch := false } s
    | [] => setPort p { x with excessing := false } s

/-- R134, R511: the check-value errors of a received line that is discarded are counted all the same; CHECK_ERR then names no line. -/
def discardErrs (p : Nat) (g : GotLine) (s : State) : State :=
  let x := port s p
  let short := g.bytes.length != lineBytes (dictAt s x.epoch) p
  let errs := g.errs + b2n short
  let s := setPort p { x with counts.length := x.counts.length + b2n short, report.errs := x.report.errs + errs } s
  if 0 < errs then portEvent p 4 0 s else s

/-- R133: a received row of an area port, at its index for a raw port. -/
def takeRow (p : Nat) (g : GotLine) (s : State) : State :=
  let raw := prm s (P.PORT_PROTOCOL p) = 1
  let s := if raw ∧ g.fs then beginFrame p g.start s else s
  let x := port s p
  if !x.inFrame then
    let s := discardErrs p g s
    let x := port s p
    if x.excessing then
      lostFrames p 64 (modPort p (fun y => { y with counts.excess := y.counts.excess + 1 }) (releaseHold p true s))
    else setPort p { x with counts.unsolicited := x.counts.unsolicited + 1 } s
  else
    let s := latchFrame p g.start s
    let x := port s p
    if raw ∧ g.count < x.row then
      discardErrs p { g with errs := g.errs + 1 } (modPort p (fun y => { y with counts.header := y.counts.header + 1 }) s)
    else
      let skip := if raw then min (g.count - x.row) (x.height - x.row) else 0
      let beyond := raw && decide (x.height ≤ g.count)
      let s := modPort p (fun y => { y with gotRows := y.gotRows + 1 }) s
      let s := if beyond then fillRows p 3 0x10 (skip - 1) s else fillRows p 3 0x10 skip s
      let x := port s p
      let last := x.row + 1 == x.height
      let hold := last && !(raw && g.fe)
      let s := if beyond then stampLine p (frameLatchOf s p) 3 0x10 none 0 (camAcked x) (x.row == 0) last true s
        else stampLine p (frameLatchOf s p) 0 0 (some g.bytes) g.errs g.camOk (x.row == 0) last hold s
      let s := modPort p (fun y => { y with row := y.row + 1, inFrame := y.inFrame && !last, excessing := last || y.excessing }) s
      if beyond then lostFrames p 64 (modPort p (fun y => { y with counts.excess := y.counts.excess + 1 }) (releaseHold p true (discardErrs p g s)))
      else if raw ∧ g.fe ∧ ¬ last then lostFrames p 64 (endShort p s)
      else s

/-- R130: the heads of the due list that are answered or lost leave as lines, in order. -/
def flushDue (p : Nat) : Nat → State → State
  | 0, s => s
  | n + 1, s =>
    let x := port s p
    match x.due with
    | u :: us =>
      if u.repl ≠ 0 then flushDue p n (stampLine p u.latch u.repl 0 none 0 (camAcked x) false false false (setPort p { x with due := us } s))
      else match u.got with
        | some g => flushDue p n (stampLine p u.latch 0 0 (some g.bytes) g.errs g.camOk false false false (setPort p { x with due := us } s))
        | none => s
    | [] => s

/-- The line whose trigger has number `n`. -/
def setDue (n : Nat) (f : Due → Due) (us : List Due) : List Due := us.map (fun u => if u.num = n then f u else u)

/-- The place in the due list of the trigger of number `n`. -/
def duePlace (x : Port) (n : Nat) : Nat := (x.due.takeWhile (fun v => v.num != n)).length

/-- R130, R129: a line of a line-scan port begins to arrive: it takes its due entry or its fate. -/
def beginGot (p : Nat) (g : GotLine) (s : State) : GotLine × State :=
  let x := port s p
  let raw := prm s (P.PORT_PROTOCOL p) = 1
  if prm s (P.PORT_MODE p) = 1 then (g, s)
  else if prm s (P.PORT_TIMING p) = 1 then
    match x.due.find? (fun u => !u.begun && u.repl == 0) with
    | some u =>
      let s := anchorLine p (duePlace x u.num) g.start s
      ({ g with num := u.num }, modPort p (fun x => { x with due := setDue u.num (fun u => { u with begun := true, latch := g.start }) x.due }) s)
    | none =>
      let s := anchorLine p x.due.length g.start s
      ({ g with num := x.trigNum }, modPort p (fun x => { x with
        due := x.due ++ [{ num := x.trigNum, latch := g.start, begun := true }], trigNum := x.trigNum + 1 }) s)
  else if raw then
    match x.due.find? (fun u => u.count == some g.count && !u.begun && u.repl == 0) with
    | some u => ({ g with num := u.num }, setPort p { x with due := setDue u.num (fun u => { u with begun := true }) x.due } s)
    | none => ({ g with fate := if x.lostCounts.contains g.count then 1 else 2 }, s)
  else if 0 < x.debt then ({ g with fate := 1 }, setPort p { x with debt := x.debt - 1 } s)
  else match x.due.find? (fun u => !u.begun && u.repl == 0) with
    | some u => ({ g with num := u.num }, setPort p { x with due := setDue u.num (fun u => { u with begun := true }) x.due } s)
    | none => ({ g with fate := 2 }, s)

/-- R130, R133: the oldest line received whole is paired, stamped or discarded. -/
def assemble (p : Nat) (s : State) : State :=
  let x := port s p
  match x.ready with
  | [] => s
  | g :: gs =>
    let s := setPort p { x with ready := gs, counts := { x.counts with
      received := x.counts.received + 1, late := x.counts.late + b2n (g.fate == 1), unsolicited := x.counts.unsolicited + b2n (g.fate == 2) } } s
    if prm s (P.PORT_MODE p) = 1 then takeRow p g s
    else if g.fate ≠ 0 then discardErrs p g s
    else
      let s := modPort p (fun y => { y with due := setDue g.num (fun u => { u with got := some g }) y.due }) s
      flushDue p (x.due.length + 1) s

/-- Every line received whole is paired. -/
def assembleAll (p : Nat) : Nat → State → State
  | 0, s => s
  | n + 1, s => if (port s p).ready.isEmpty then s else assembleAll p n (assemble p s)

/-! ### Received packets (R122) -/

/-- R134: `n` check-value errors that no line covers enter the frame report; CHECK_ERR then names no line. -/
def strayErrs (p n : Nat) (s : State) : State :=
  if n = 0 then s else portEvent p 4 0 (modPort p (fun x => { x with report.errs := x.report.errs + n }) s)

/-- R134: an error outside the packets of a line belongs to the line in progress, where there is one. -/
def frameErr (p : Nat) (f : PortCounts → PortCounts) (s : State) : State :=
  let x := port s p
  match x.cur with
  | some g => setPort p { x with counts := f x.counts, cur := some { g with errs := g.errs + 1 } } s
  | none => strayErrs p 1 (setPort p { x with counts := f x.counts } s)

/-- R122: a stream data packet in its place: its CRC is checked and its payload placed in line order. -/
def takeStreamPacket (p : Nat) (k : StreamPacket) (late : Bool) (s : State) : State :=
  let x := port s p
  let c := x.counts
  let s := setPort p { x with counts := { c with crc := c.crc + b2n (!k.crcOk), code := c.code + b2n (!k.codeOk), seq := c.seq + b2n late } } s
  let n := b2n (!k.crcOk) + b2n (!k.codeOk) + b2n late
  let (g, s) := match x.cur with
    | some g => (g, s)
    | none => beginGot p { start := startLatch p s, camOk := camAcked x } s
  modPort p (fun y => { y with cur := some { g with bytes := g.bytes ++ k.payload, errs := g.errs + n } }) s

/-- R122: the packets of all connections are merged in turn, starting with the master. A packet whose tag is ahead shows that the one expected is
missing; one whose tag lies behind is reordered. Each counts as a sequence error. -/
def mergePackets (p n : Nat) : Nat → State → State
  | 0, s => s
  | fuel + 1, s =>
    let x := port s p
    match x.conns.get [] x.turn with
    | [] => s
    | k :: ks =>
      let want := x.tagNext.getD k.tag
      let rest := x.conns.set [] x.turn ks
      let turn := (x.turn + 1) % n
      let next := some ((want + 1) % 256)
      if k.tag = want then mergePackets p n fuel (takeStreamPacket p k false (setPort p { x with conns := rest, turn := turn, tagNext := next } s))
      else if (k.tag + 256 - want) % 256 < 128 then
        mergePackets p n fuel (frameErr p (fun c => { c with seq := c.seq + 1 }) (setPort p { x with turn := turn, tagNext := next } s))
      else mergePackets p n fuel (takeStreamPacket p k true (setPort p { x with conns := rest } s))

/-- R122: a packet of a connection of port `p` arrives. -/
def dataPacket (p : Nat) (place : StreamPlace) (k : StreamPacket) (s : State) : State :=
  let x := port s p
  let n := prmN s (P.PORT_CONNECTIONS p)
  let s := if x.state = 1 ∧ ¬ holdsClaim s ∧ lanesReady s p then setPort p { x with state := 2, everRun := true } s else s
  let x := port s p
  if !receives x || prm s (P.PORT_PROTOCOL p) != 0 || decide (n ≤ place.conn.val) || !laneGives s (4 * p + place.conn.val) then s
  else mergePackets p n 1024 (setPort p { x with conns := x.conns.set [] place.conn.val (x.conns.get [] place.conn.val ++ [k]) } s)

/-- R122, R82: the values of the epoch that the frame about to come will carry: a free-running frame may itself be the anchor of the armed Cinch. -/
def comingDict (p : Nat) (s : State) : Dict :=
  let x := port s p
  let l := x.frameLatch.getD (startLatch p s)
  let now := dictAt s (switchEpoch s p x.epoch (latchNs l) true)
  if !x.inFrame || x.frameLatch.isSome then now
  else match s.sys.cinch, (anchorPort p x.globalLine x.height x.frame true l s).sys.cinch with
    | some c, some c' => if c.tStar = none ∧ c'.tStar ≠ none then overlay s.sys.applied (s.sys.stage.get {} c.set).dict else now
    | _, _ => now

/-- R122, R130, R133: an image header arrives on port `p`. DESIGN CHOICE (log entry 131): on an area port it ends a row still in progress, as a line marker would. -/
def headFrame (p xsize ysize bits comps : Nat) (s : State) : State :=
  let x := port s p
  if !hears s p || prm s (P.PORT_PROTOCOL p) != 0 then s
  else
    let differs := fun (d : Dict) => xsize ≠ dictN d (P.PORT_WIDTH p) ∨ bits ≠ dictN d (P.PORT_BITS p) ∨ comps ≠ dictN d (P.PORT_COMPONENTS p)
    if prm s (P.PORT_MODE p) = 1 then
      let s := match x.cur with | some g => setPort p { x with cur := none, ready := x.ready ++ [g] } s | none => s
      let s := assembleAll p ((port s p).ready.length + 1) s
      let s := beginFrame p (startLatch p s) s
      let d := comingDict p s
      let bad := decide (differs d ∨ ysize ≠ dictN d (P.PORT_HEIGHT p))
      let s := modPort p (fun y => { y with mismatch := if y.inFrame then bad else y.mismatch }) s
      if bad then frameErr p (fun c => { c with header := c.header + 1 }) s else s
    else
      let bad := decide (differs (dictAt s x.epoch))
      let s := modPort p (fun y => { y with debt := 0, mismatch := y.mismatch || bad }) (assembleAll p (x.ready.length + 1) s)
      if bad then frameErr p (fun c => { c with header := c.header + 1 }) s else s

/-- R122: LINE_MARKER. -/
def execLineMarker (port : Fin 16) (s : State) : Host.Outcome State Fault Refusal :=
  let p := port.val
  let x := Machine.port s p
  match (if hears s p then x.cur else none) with
  | some g => .next (setPort p { x with cur := none, ready := x.ready ++ [g] } s)
  | none => .next s

/-- R122: TRIGGER_PACKET_RECEIVED. -/
def execTriggerPacketReceived (port : Fin 16) (s : State) : Host.Outcome State Fault Refusal :=
  let p := port.val
  .next (if hears s p then portEvent p 8 0 s else s)

/-- R122: TRIGGER_ACKNOWLEDGEMENT. -/
def execTriggerAcknowledgement (port : Fin 16) (s : State) : Host.Outcome State Fault Refusal :=
  let p := port.val
  let x := Machine.port s p
  if !hears s p then .next s
  else if x.trigAcks < x.trigSent then .next (setPort p { x with trigAcks := x.trigAcks + 1 } s)
  else .next (setPort p { x with counts.dropped := x.counts.dropped + 1 } s)

/-- R122, R135: HEARTBEAT. -/
def execHeartbeat (port : Fin 16) (s : State) : Host.Outcome State Fault Refusal :=
  let p := port.val
  let x := Machine.port s p
  .next (if x.state = 3 ∧ laneGives s (4 * p) = true then setPort p { x with state := 2 } s else s)

/-- R135: HEARTBEAT_LOST: HB_TIMEOUT has passed without a heartbeat. -/
def execHeartbeatLost (port : Fin 16) (s : State) : Host.Outcome State Fault Refusal :=
  let p := port.val
  let x := Machine.port s p
  if x.state = 2 ∧ prm s (P.PORT_PROTOCOL p) = 0 ∧ prm s (P.PORT_HB_TIMEOUT p) ≠ 0 then
    .next (portEvent p 1 0 (setPort p { x with state := 3, counts.hbLost := x.counts.hbLost + 1 } s))
  else .next s

/-- R122: a camera event. -/
def cameraEvent (p : Nat) (payload : List Byte) (s : State) : State :=
  let x := port s p
  if !hears s p then s
  else
    let s := portEvent p 7 0 (setPort p { x with eventsAcked := x.eventsAcked + b2n (uplinkOn s p) } s)
    let s := if uplinkOn s p then sendUplink p .eventAck s else s
    let drop := modPort p (fun y => { y with counts.dropped := y.counts.dropped + 1 })
    let q := prmN s (P.PORT_EVENT_QUEUE p)
    if q = 0xFFFF then drop s
    else
      let (done, t) := unitPush q (p :: wordsOf payload) s
      if done then t else drop t

/-- R122: EVENT_PACKET. -/
def execEventPacket (port : Fin 16) (payload : List Byte) (s : State) : Host.Outcome State Fault Refusal := .next (cameraEvent port.val payload s)

/-- R122: TEST_PACKET. -/
def execTestPacket (port : Fin 16) (s : State) : Host.Outcome State Fault Refusal :=
  let p := port.val
  let x := Machine.port s p
  .next (if hears s p then setPort p { x with tests := x.tests + 1 } s else s)

/-- R122, R125: UNKNOWN_PACKET. -/
def execUnknownPacket (port : Fin 16) (s : State) : Host.Outcome State Fault Refusal :=
  let p := port.val
  .next (if hears s p then frameErr p (fun c => { c with header := c.header + 1 }) s else s)

/-! ### Raw framing (R124 to R126) -/

/-- R126: the data words of a line of B bytes on lane `k` of `n`. -/
def laneWords (b n k : Nat) : Nat := let t := (b + 3) / 4; if t < k + 1 then 0 else (t - 1 - k) / n + 1

/-- R124: the words of N lanes in line order, word j from lane j mod N. DESIGN CHOICE (log entry 95): where lanes deliver unequal counts, a lane's missing word is
left out and the words after it close up. -/
def mergeWords (n : Nat) (segs : List (List Nat)) : List Nat :=
  let most := (segs.map List.length).foldl max 0
  (List.range most).flatMap (fun r => (List.range n).flatMap (fun k => ((((segs[k]?).getD []).drop r).take 1)))

/-- The segment of lane `k` with a LINE_COUNT. -/
def segOf (x : Port) (k c : Nat) : Option RawSeg := x.segs.find? (fun e => e.lane == k && e.count == c)

/-- R126: a LINE segment fails its check. -/
def segCrcBad (s : State) (p : Nat) (g : RawSegment) : Bool := wordsCrcBad (prmB s (P.PORT_RAW_CRC p)) (lineH1 g) g.wordCount g.words g.crc

/-- R126, R134: the check of a CONTROL_REPLY or EVENT segment, and the code errors that came with it, are counted; no line covers them. -/
def messageErrs (p kind : Nat) (words : List Nat) (m : RawMessage) (s : State) : State :=
  let bad := wordsCrcBad (prmB s (P.PORT_RAW_CRC p)) (segH1 kind false false m.crc.isSome false m.count) words.length words m.crc
  let code := m.codeErrs + m.idleErrs
  strayErrs p (b2n bad + code) (modPort p (fun x => { x with counts.crc := x.counts.crc + b2n bad, counts.code := x.counts.code + code }) s)

/-- R125: RAW_EVENT_SEGMENT. DESIGN CHOICE (log entry 135): the event counts although its check fails. -/
def execRawEventSegment (port : Fin 16) (m : RawMessage) (s : State) : Host.Outcome State Fault Refusal :=
  .next (if hears s port.val then cameraEvent port.val m.data (messageErrs port.val 3 (rawWords m.data) m s) else s)

/-- A line in progress is given up: its trigger waits for a line again. -/
def unbegin (us : List Due) : List Due := us.map (fun u => if u.got.isNone then { u with begun := false } else u)

/-- R134: the check-value errors of a line in progress and of segments that no line takes are counted all the same. -/
def dropSegs (p : Nat) (cur : Option GotLine) (es : List RawSeg) (s : State) : State :=
  strayErrs p ((match cur with | some g => g.errs | none => 0) + (es.map RawSeg.errs).sum) s

/-- R126: the line of a LINE_COUNT starts once every lane has its header. What a lane sent before belongs to lines that can no longer be whole. -/
def rawStart (p n c : Nat) (s : State) : State :=
  let x := port s p
  if x.cur.any (fun g => g.count == c) || !(List.range n).all (fun k => (segOf x k c).isSome) then s
  else
    let stale := fun (e : RawSeg) => e.count != c && (x.segs.takeWhile (fun y => !(y.lane == e.lane && y.count == c))).contains e
    let s := dropSegs p x.cur (x.segs.filter stale) (setPort p { x with
      segs := x.segs.filter (fun e => !stale e), cur := none, due := if x.cur.isSome then unbegin x.due else x.due } s)
    let h := segOf x 0 c
    let (g, s) := beginGot p { count := c, fs := h.any RawSeg.fs, fe := h.any RawSeg.fe, start := startLatch p s, camOk := camAcked x } s
    modPort p (fun y => { y with cur := some g }) s

/-- R126: the line in progress is whole once every lane's segment is. -/
def rawEnd (p n : Nat) (s : State) : State :=
  let x := port s p
  match x.cur with
  | none => s
  | some g =>
    let es := (List.range n).filterMap (fun k => segOf x k g.count)
    if es.length < n || !es.all RawSeg.done then s
    else
      let b := lineBytes (dictAt s x.epoch) p
      let bytes := (mergeWords n (es.map RawSeg.words)).flatMap (leBytes 4)
      let bytes := if bytes.length < b + 4 then bytes.take b else bytes
      -- a line of the right length whose lanes have wrong counts is a line-length error as well; any other is counted as it leaves
      let odd := bytes.length == b && es.any (fun e => e.words.length != laneWords b n e.lane || e.want != laneWords b n e.lane)
      setPort p { x with
        counts.length := x.counts.length + b2n odd, cur := none, segs := x.segs.filter (fun e => e.count != g.count)
        ready := x.ready ++ [{ g with bytes := bytes, errs := g.errs + (es.map RawSeg.errs).sum + b2n odd }] } s

/-- R124, R126, R134: lane `k` delivers the header of a LINE segment, or the whole of it. -/
def takeSegment (p k : Nat) (seg : RawSegment) (s : State) : State :=
  let x := port s p
  let n := prmN s (P.PORT_CONNECTIONS p)
  let c := seg.count % 2 ^ 24
  let bad := !seg.header && segCrcBad s p seg
  let n3 := x.counts
  let n3 := { n3 with crc := n3.crc + b2n bad, code := n3.code + seg.codeErrs, skew := n3.skew + b2n seg.skew }
  let old := (segOf x k c).map RawSeg.errs
  let e : RawSeg := { lane := k, count := c, words := seg.words, want := seg.wordCount, errs := old.getD 0 + b2n bad + seg.codeErrs + b2n seg.skew,
                      fs := seg.fs, fe := seg.fe, done := !seg.header }
  let segs := if old.isSome then x.segs.map (fun y => if y.lane == k && y.count == c then e else y) else x.segs ++ [e]
  rawEnd p n (rawStart p n c (setPort p { x with counts := n3, segs := segs } s))

/-- R124, R134: code errors between segments are counted. -/
def idleErrs (p n : Nat) (s : State) : State := strayErrs p n (modPort p (fun x => { x with counts.code := x.counts.code + n }) s)

/-! ### Lines due (R129, R130) -/

/-- R129: port `p` sees the next trigger of LTGi. DESIGN CHOICE (log entry 133): a trigger that a 65th turns into LOSS leaves the debt as it is. -/
def seeTrigger (p : Nat) (s : State) : State :=
  let x := port s p
  match x.incoming with
  | [] => s
  | (l, lost) :: rest =>
    let s := setPort p { x with incoming := rest } s
    if !linesDue x || prm s (P.PORT_TIMING p) != 0 then s
    else
      let area := prm s (P.PORT_MODE p) = 1
      let d := x.due.length
      let s :=
        if area then
          let h := prmAtN s x.epoch (P.PORT_HEIGHT p)
          let ahead := if x.inFrame then x.height - x.row else 0
          anchorPort p (x.globalLine + ahead + h * d) h (x.frame + b2n x.inFrame + d) true l s
        else anchorLine p d l s
      let x := port s p
      -- the port stops in place of a switch line of RUN = 0, so no camera answers its trigger (R78)
      let first := area || (if x.frameLen = 0 then x.due.length == 0 else (x.lineInFrame + x.due.length) % x.frameLen == 0)
      let lost := lost || (!isShadow s && prmAt s (switchEpoch s p x.epoch (latchNs l) first) (P.PORT_RUN p) == 0)
      let full := !lost && decide (64 ≤ (x.due.filter (fun u => !u.begun && u.repl == 0)).length)
      let oldest := if full then x.due.find? (fun u => !u.begun && u.repl == 0) else none
      let due := match oldest with | some o => setDue o.num (fun u => { u with repl := 2 }) x.due | none => x.due
      let path := prm s (P.PORT_TRIG_PATH p)
      let up := uplinkOn s p && !lost
      let c := x.sendNum % 2 ^ 24
      let gone := match oldest.bind Due.count with | some k => x.lostCounts ++ [k] | none => x.lostCounts
      let s := setPort p { x with
        due := due ++ [{ num := x.trigNum, latch := l, repl := if lost then 2 else 0, count := if lost then none else some c }]
        trigNum := x.trigNum + 1, sendNum := x.sendNum + b2n (!lost), lostCounts := if lost then gone else gone.filter (fun k => k != c)
        trigSent := x.trigSent + b2n (up && path == 0), trigPulse := x.trigPulse || (holdsClaim s && !lost && path == 1) } s
      let s := if up && path == 0 then sendUplink p (.trigger (nowNs s - latchNs l)) s
        else if up && path == 2 then sendUplink p .rawTrigger s else s
      if area then lostFrames p 64 s else flushDue p (x.due.length + 1) s

/-- R129: TRIG_PULSE_END. -/
def execTrigPulseEnd (port : Fin 16) (s : State) : Host.Outcome State Fault Refusal :=
  .next (modPort port.val (fun x => { x with trigPulse := false }) s)

/-- R129, R130: FREE_RUN_DUE: the due time of the next line passes on a free-running port. -/
def execFreeRunDue (port : Fin 16) (s : State) : Host.Outcome State Fault Refusal :=
  let p := port.val
  let x := Machine.port s p
  if !linesDue x || prm s (P.PORT_TIMING p) != 1 then .next s
  else if prm s (P.PORT_MODE p) = 1 ∧ x.inFrame ∧ x.frameLatch = none ∧ x.frameDue = none then .next (setPort p { x with frameDue := some (startLatch p s) } s)
  else .next (setPort p { x with due := x.due ++ [{ num := x.trigNum, latch := startLatch p s }], trigNum := x.trigNum + 1 } s)

/-- R130, R133, R135: LINE_TIMEOUT has passed: the oldest line that is due and has not begun becomes a LOSS line; on an area port the
frame in progress is completed, or the frame whose trigger is oldest is lost. -/
def timeOutLine (p : Nat) (s : State) : State :=
  let x := port s p
  if !linesDue x then s
  else if prm s (P.PORT_MODE p) = 1 then
    if !x.ready.isEmpty || x.cur.isSome then s
    else if x.inFrame then lostFrames p 64 <| endShort p (if x.gotRows = 0 then portEvent p 5 x.globalLine s else s)
    else match x.due with
      | u :: us =>
        let h := prmAtN s (switchEpoch s p x.epoch (latchNs u.latch) true) (P.PORT_HEIGHT p)
        let s := releaseHold p false (portEvent p 5 x.globalLine s)
        let s := modPort p (fun y => { y with due := us, inFrame := true, frameLatch := some u.latch, row := 0, gotRows := 0, height := h, excessing := false }) s
        let s := if prm s (P.PORT_TIMING p) = 1 then anchorPort p (port s p).globalLine h (port s p).frame true u.latch s else s
        lostFrames p 64 (modPort p (fun y => { y with inFrame := false }) (fillRows p 1 0 h s))
      | [] => s
  else match x.due.find? (fun u => !u.begun && u.repl == 0) with
    | none => s
    | some u =>
      let g := x.globalLine + duePlace x u.num
      let debt := if prm s (P.PORT_TIMING p) = 0 ∧ prm s (P.PORT_PROTOCOL p) = 0 then x.debt + 1 else x.debt
      let gone := match u.count with | some k => x.lostCounts ++ [k] | none => x.lostCounts
      let s := portEvent p 5 g (setPort p { x with debt := debt, lostCounts := gone } s)
      let s := if prm s (P.PORT_TIMING p) = 1 then anchorLine p (duePlace x u.num) u.latch s else s
      -- the lines before it leave first: a LOSS line keeps its place
      if (x.due.head?).map Due.num = some u.num then
        flushDue p x.due.length (stampLine p u.latch 1 0 none 0 (camAcked x) false false false (modPort p (fun y => { y with due := y.due.drop 1 }) s))
      else modPort p (fun y => { y with due := setDue u.num (fun v => { v with repl := 1 }) y.due }) s

/-- R133: LONG_FRAME_HOLD_END: LINE_TIMEOUT has passed after the held line. -/
def execLongFrameHoldEnd (port : Fin 16) (s : State) : Host.Outcome State Fault Refusal := .next (lostFrames port.val 64 (releaseHold port.val false s))

/-! ### Delivery (R8, R37, R38, R341) -/

/-- The flags that a Shadow takes from the Active's stamp (R37). -/
def adoptMask : Word16 := 0x7E40

/-- R37, R38: a line with the Active's stamp. -/
def adoptStamp (d : Dict) (t : Stamp) (l : RawLine) : RawLine :=
  let lost := stampLost t
  let fl := (l.stamp.flags &&& ~~~adoptMask) ||| (t.flags &&& adoptMask) ||| (t.flags &&& 3)
  let body := if lost then fillBytes d t.port else l.bytes
  { stamp := { l.stamp with frame := t.frame, lineInFrame := t.lineInFrame, epoch := t.epoch, timeS := t.timeS, timeNs := t.timeNs, position := t.position
                            flags := setFlag fl 7, lineCheck := if lost then crc32c body else l.stamp.lineCheck }
    bytes := body }

/-- R341: a device without the claim holds a line until its stamp has come or its hold ends. -/
def adopts (s : State) : Bool := s.twin.state == 4 || s.twin.state == 5 || s.twin.state == 6

/-- Whether the head line of port `p` must still wait for its stamp. -/
def waitsStamp (s : State) (p g : Nat) : Bool :=
  adopts s && !(s.twin.stamps.any (fun t => t.port == p && t.globalLine == g)) && decide ((s.twin.release.get 0 p) ≤ g)

/-- The RAW item of a line (R301). -/
def rawItem (p : Nat) (l : RawLine) (bytes : List Byte) : Item :=
  { product := 1, source := p, epoch := l.stamp.epoch, firstId := l.stamp.globalLine, chunks := [.stamp l.stamp, .bytes bytes]
    frame := l.stamp.frame, lineInFrame := l.stamp.lineInFrame, frameStart := hasFlag l.stamp.flags 13, last := hasFlag l.stamp.flags 14
    loss := hasFlag l.stamp.flags 0, refNs := stampNs l.stamp }

/-- R29, R37, R139: what the delivered lines of a frame say of it: a Shadow's report is that of its lines as they left. -/
def seeLine (t : Stamp) (r : FrameAcc) : FrameAcc :=
  let r := if hasFlag t.flags 13 then { ({} : FrameAcc) with epoch := t.epoch, first := t.globalLine } else r
  { r with flags := setFlagIf (hasFlag t.flags 6) (setFlagIf (hasFlag t.flags 0) r.flags 4) 3, lost := r.lost + b2n (hasFlag t.flags 0), missing := r.missing + b2n (hasFlag t.flags 1) }

/-- R37, R139: a frame report with the fields that the adopted stamps give. -/
def adoptReport (t : Stamp) (r : FrameAcc) (b : List Byte) : List Byte :=
  let fl := leAt b 1 1 % 8 + leAt b 1 1 / 32 * 32 + r.flags.toNat % 32 / 8 * 8
  b.take 1 ++ leBytes 1 fl ++ leBytes 2 0 ++ leBytes 4 t.frame ++ leBytes 4 r.epoch ++ leBytes 6 r.first ++ (b.drop 18).take 6 ++
    leBytes 4 r.missing ++ (b.drop 28).take 4 ++ leBytes 4 r.lost ++ b.drop 36

/-- R8: PORT_LINE_DELIVERED: the oldest stamped line leaves the port for its strip. -/
def execPortLineDelivered (line : PortRead) (s : State) : Host.Outcome State Fault Refusal :=
  let p := line.port.val
  let x := Machine.port s p
  match x.out with
  | [] => .next s
  | o :: rest =>
    let g := o.line.stamp.globalLine
    if waitsStamp s p g || dataPathHeld s then .next s
    else
      let t := if adopts s then s.twin.stamps.find? (fun t => t.port == p && t.globalLine == g) else none
      let (l, s) := match t with
        | some t => (adoptStamp (dictAt s t.epoch) t o.line,
            { s with twin.adopted := s.twin.adopted + 1, twin.stamps := s.twin.stamps.filter (fun u => !(u.port == p && u.globalLine == g)) })
        | none => (o.line, s)
      let seen := seeLine l.stamp x.seen
      let report := if t.isSome then o.report.map (adoptReport l.stamp seen) else o.report
      let s := setPort p { x with out := rest, delivered := true, seen := seen, epoch := if t.isSome then l.stamp.epoch else x.epoch
                                  counts.delivered := x.counts.delivered + 1 } s
      let s := if l.stamp.epoch = s.sys.epoch then passSwitch p s else s
      let s := if hasFlag l.stamp.flags 13 then portEvent p 9 g s else s
      let s := if attached s then sendSeq 0x20 (leBytes 1 p ++ leBytes 3 0 ++ leBytes 4 1 ++ stampBytes l.stamp) s else s
      let s := if o.first then closeProduct 1 p s else s
      let bytes := upsetBytes line.former l.bytes
      let s := feedLine 3 g (crc32c bytes == l.stamp.lineCheck) (rawItem p l bytes) (switchFlows 1 p l.stamp.epoch s)
      let st := s.strips.get {} p
      let s := { s with strips := s.strips.set {} p { st with inq := st.inq ++ [{ line := l, report := report, first := o.first }] } }
      .next (if rest.isEmpty && !x.run then closeProduct 1 p s else s)

/-! ### Port states (R121, R135) -/

/-- R121: PORT_LINK_ESTABLISHMENT: the establishment ends; `accepted` tells whether the camera accepted the configuration. -/
def execPortLinkEstablishment (port : Fin 16) (accepted : Bool) (s : State) : Host.Outcome State Fault Refusal :=
  let p := port.val
  let x := Machine.port s p
  if x.state ≠ 1 then .next s
  else if prm s (P.PORT_PROTOCOL p) = 0 ∧ ¬ holdsClaim s then .next s
  else if (accepted || prm s (P.PORT_PROTOCOL p) == 1) && lanesReady s p then .next (setPort p { x with state := 2, everRun := true } s)
  else .next (portEvent p 0 0 (setPort p { x with state := 4 } s))

/-- R121, R135: LINK_DOWN. -/
def execLinkDown (port : Fin 16) (s : State) : Host.Outcome State Fault Refusal :=
  let p := port.val
  let x := Machine.port s p
  if x.state = 0 ∨ x.state = 4 then .next s
  else
    .next (portEvent p 0 0 (dropSegs p x.cur x.segs (setPort p { x with
      state := 4, cur := none, conns := [], turn := 0, tagNext := none, segs := [], due := unbegin x.due } s)))

/-- R121, R135: LINK_RETRY. -/
def execLinkRetry (port : Fin 16) (s : State) : Host.Outcome State Fault Refusal :=
  let p := port.val
  let x := Machine.port s p
  .next (if x.state = 4 ∧ x.run then establish p (setPort p { x with state := 1 } s) else s)

/-! ### Camera control (R123, R136 to R138) -/

/-- R123, R136: queued accesses go to the camera, at most 16 outstanding, camera-side settings first. -/
def pumpAccess (p : Nat) (s : State) : State :=
  let x := port s p
  if !uplinkOn s p || x.state < 2 || x.state = 4 then s
  else
    let pick := fun (a : CamAcc) => !a.sent && (a.kind == 2 || !(x.access.any (fun b => b.kind == 2 && !b.sent))) && (a.kind != 2 || x.state == 2)
    let room := 16 - (x.access.filter CamAcc.sent).length
    let (acc, tag, _) := x.access.foldl (fun (st : List CamAcc × Nat × Nat) a =>
      if pick a && decide (0 < st.2.2) then (st.1 ++ [{ a with sent := true, tag := st.2.1 }], (st.2.1 + 1) % 256, st.2.2 - 1)
      else (st.1 ++ [a], st.2.1, st.2.2)) ([], x.nextTag, room)
    let new := acc.filter (fun a => a.sent && !x.access.contains a)
    let raw := prmB s (P.PORT_PROTOCOL p)
    forEach new (fun a s => sendUplink p (accessOut raw a) s) (setPort p { x with access := acc, nextTag := tag } s)

/-- R138: a setting of an earlier set fails: its frames stay uncertain. -/
def priorFail (p epoch status : Nat) (s : State) : State :=
  logDevice (32 + 10 * p + 6) status 0 0 (portEvent p 6 0 (modPort p (fun x => { x with access := x.access.filter (fun a => !(a.kind == 2 && a.session == epoch)) }) s))

/-- R138: a camera-side setting fails. -/
def camFail (p status : Nat) (s : State) : State :=
  let x := port s p
  if x.cam.failed || x.cam.entries.isEmpty || camAcked x then s
  else
    let s := setPort p { x with cam.failed := true, access := x.access.filter (fun a => !(a.kind == 2 && a.session == x.cam.epoch)) } s
    logDevice (32 + 10 * p + 6) status 0 0 (portEvent p 6 0 s)

/-- R138: a camera-side setting of the set of an epoch is acknowledged: of the newest set, or of the one before. -/
def camAck (epoch : Nat) (x : Port) : Port :=
  if epoch = x.cam.epoch then { x with cam.acked := x.cam.acked + 1 }
  else if x.cam.prior = some epoch then { x with cam.priorLeft := x.cam.priorLeft - 1, cam.prior := if x.cam.priorLeft = 1 then none else x.cam.prior }
  else x

/-- R136: a control access ends with a status. -/
def endAccess (p : Nat) (a : CamAcc) (status : Nat) (data : List Byte) (s : State) : State :=
  let s := modPort p (fun x => { x with access := x.access.filter (fun b => !(b.sent == a.sent && b.tag == a.tag && b.session == a.session && b.seq == a.seq)) }) s
  let s :=
    if a.kind = 2 then
      if status = 0 then modPort p (camAck a.session) s else if a.session = (port s p).cam.epoch then camFail p status s else priorFail p a.session status s
    else match findDeferred s a.session a.seq with
      | some d =>
        if status = 0 then endDeferred d 0 (if a.kind = 0 then data.take a.len else []) false (if a.kind = 1 then ofLe (a.data.take 8) else 0) s
        else failDeferred d (refuse1 status 0 p) s
      | none => s
  pumpAccess p s

/-- The access that was sent with a tag. -/
def sentAccess (s : State) (p tag : Nat) : Option CamAcc := (port s p).access.find? (fun a => a.sent && a.tag == tag)

/-- R122, R136: CONTROL_ACKNOWLEDGEMENT; `waitMs` of a wait acknowledgement extends CAM_TIMEOUT. -/
def execControlAcknowledgement (port : Fin 16) (tag : Nat) (waitMs : Option Nat) (refused : Bool) (data : List Byte) (s : State) :
    Host.Outcome State Fault Refusal :=
  let p := port.val
  match (if hears s p then sentAccess s p tag else none) with
  | none => .next s
  | some a => match waitMs with
    | some w => .next (modPort p (fun x => { x with access := x.access.map (fun b => if b.sent ∧ b.tag = tag then { b with extra := b.extra + w } else b) }) s)
    | none => .next (endAccess p a (if refused then 0x0704 else 0) data s)

/-- R125, R136: a CONTROL_REPLY completes the access of its tag. -/
def controlReply (p tag status : Nat) (data : List Byte) (s : State) : State :=
  match sentAccess s p tag with
  | none => s
  | some a => endAccess p a (if status = 0 then 0 else 0x0704) data s

/-- R125: CONTROL_REPLY. DESIGN CHOICE (log entry 135): the reply counts although its check fails. -/
def execControlReply (port : Fin 16) (tag status : Nat) (m : RawMessage) (s : State) : Host.Outcome State Fault Refusal :=
  let p := port.val
  .next (if hears s p then controlReply p tag status m.data (messageErrs p 2 (replyWords tag status m.data) m s) else s)

/-- R124 to R126: the words of lane `k` are read: their segment, the code errors between segments, and a word there that is none of theirs, which loses the alignment
in word mode 2. A kind that no table names, or a kind 2 or 3 off the master lane, is a header error. -/
def wireSegment (p k : Nat) (seg : RawSegment) (s : State) : State :=
  let n := 4 * p + k
  let mode := prmN s (P.LANE_WORD_MODE n)
  let r := hearWords mode (prmN s (P.LANE_SYNC_WORD n)) (lane s n).descr seg.wire
  let s := idleErrs p r.idle (if seg.header then s else setLane n { lane s n with descr := r.descr } s)
  let s := match r.seg with
    | none => s
    | some g =>
      let bs := g.words.flatMap (leBytes 4)
      let m : RawMessage := { data := bs, crc := g.crc, count := g.count, codeErrs := g.codeErrs }
      if r.kind = 1 then takeSegment p k { g with skew := seg.skew, header := seg.header } s
      else if r.kind = 2 ∧ k = 0 then controlReply p (leAt bs 0 1) (leAt bs 1 1) ((bs.drop 4).take (leAt bs 2 2)) (messageErrs p 2 g.words m s)
      else if r.kind = 3 ∧ k = 0 then cameraEvent p bs (messageErrs p 3 g.words m s)
      else frameErr p (fun c => { c with header := c.header + 1 }) s
  if r.junk && mode == 2 then loseAlignment n s else s

/-- R124, R126: lane `k` of raw port `p` delivers a segment, or its words as received. -/
def laneSegment (p k : Nat) (seg : RawSegment) (s : State) : State :=
  if !receives (port s p) || prm s (P.PORT_PROTOCOL p) != 1 || decide (prmN s (P.PORT_CONNECTIONS p) ≤ k) || !laneGives s (4 * p + k) then s
  else if seg.wire = [] then takeSegment p k seg (idleErrs p seg.idleErrs s)
  else wireSegment p k seg s

/-- R136: CAM_ACCESS_TIMEOUT: CAM_TIMEOUT, as extended, has passed. An access that could not be sent ends in the same way. -/
def execCamAccessTimeout (port : Fin 16) (tag : Nat) (s : State) : Host.Outcome State Fault Refusal :=
  let p := port.val
  match (Machine.port s p).access.find? (fun a => a.tag == tag) with
  | none => .next s
  | some a => .next (endAccess p a 0x0705 [] s)

/-- R137: the port has received the last line of the frame before the boundary frame. -/
def camDue (x : Port) : Bool := decide ((x.frame + 2 ^ 32 - x.cam.frame) % 2 ^ 32 < 2 ^ 31)

/-- R137: CAMSET_SEND: the entries are sent in table order, once the last line of the frame before the boundary has come. -/
def execCamsetSend (port : Fin 16) (s : State) : Host.Outcome State Fault Refusal :=
  let p := port.val
  let x := Machine.port s p
  if x.state ≠ 2 ∨ x.cam.sent ≠ 0 ∨ x.cam.failed ∨ camDue x = false ∨ ¬ holdsClaim s then .next s
  else
    let es : List CamAcc := x.cam.entries.mapIdx (fun i e => { tag := 256 + i, kind := 2, session := x.cam.epoch, addr := e.1, data := leBytes 4 e.2, seq := i })
    let sent := x.access.filter (fun a => a.sent || a.kind == 2)
    let rest := x.access.filter (fun a => !a.sent && a.kind != 2)
    .next (pumpAccess p (setPort p { x with cam.sent := es.length, access := sent ++ es ++ rest } s))

/-- R138: CAMSET_FAIL. -/
def execCamsetFail (port : Fin 16) (timeout : Bool) (s : State) : Host.Outcome State Fault Refusal :=
  .next (camFail port.val (if timeout then 0x0705 else 0x0704) s)

/-- R80: the first frame of port `p` whose line 0 is still to be latched. -/
def nextFrame (s : State) (p : Nat) : Nat :=
  let x := port s p
  if prm s (P.PORT_MODE p) = 1 then x.frame + b2n (x.inFrame && x.frameLatch.isSome) + (if prm s (P.PORT_TIMING p) = 1 then 0 else x.due.length)
  else
    let len := if x.lineInFrame = 0 then prmAtN s x.epoch (P.PORT_FRAME_LENGTH p) else x.frameLen
    let latched := if prm s (P.PORT_TIMING p) = 1 then (x.due.filter (fun u => u.begun || u.repl != 0)).length else x.due.length
    x.frame + (x.lineInFrame + latched + len - 1) / len

/-- R80, R137: the boundary frame at port `p` of a FRAME Cinch: the one named, or the first whose line 0 is still to be latched, at the anchor port `a`. DESIGN CHOICE
(log entry 132): at another port it is the frame as many frames ahead. -/
def boundaryFrame (s : State) (a p value : Nat) : Nat :=
  let n := nextFrame s p
  if 2 ^ 32 ≤ value then n else if p = a then value else n + value - nextFrame s a

/-- R137: a set that changes the camera-side settings of a port is armed for an epoch. -/
def armCamset (a p epoch value : Nat) (d : Dict) (s : State) : State :=
  let n := dictN d (P.PORT_CAMSET_COUNT p)
  let f := boundaryFrame s a p value % 2 ^ 32
  modPort p (fun x =>
    let left := x.cam.failed || !camAcked x
    { x with cam := {
        epoch := epoch, frame := f, prior := if left then some x.cam.epoch else x.cam.prior
        priorLeft := if left then x.cam.entries.length - x.cam.acked else x.cam.priorLeft
        entries := (List.range n).map (fun k => (tabField d (P.CAMSET p) (8 * k) 4, tabField d (P.CAMSET p) (8 * k + 4) 4)) } }) s

/-- R136: a port that takes control accesses. -/
def camReady (s : State) (p : Nat) : Bool := receives (port s p)

/-- R136, R333: CAM_READ, which a device without the claim refuses. DESIGN CHOICE (log entry 127): a length of 0 is refused as a value out of range. -/
def doCamRead (h : Hdr) (p addr len : Nat) (s : State) : State :=
  xesil (.camRead h p addr len) { op := 0x0601, h := h, params := leBytes 1 p ++ leBytes 3 0 ++ leBytes 4 addr ++ leBytes 4 len } true (fun _ => [])
    (fun _ => if 16 ≤ p then refuse1 0x0303 0 0 else if 1024 < len ∨ len = 0 then refuse1 0x0301 0 8 else [])
    (fun _ s => if !holdsClaim s then .refuse (refuseFree 0x0901) else if !camReady s p then .refuse (refuse1 0x0703 0 p)
      else .defer (pumpAccess p (modPort p (fun x => { x with access := x.access ++ [{ tag := 512, kind := 0, session := h.session, seq := h.seq, addr := addr, len := len }] }) s)))
    (fun _ => []) s

/-- R136: CAM_WRITE. A Shadow makes no camera access (R53). DESIGN CHOICE (log entry 127): a write without data is refused as a value out of range. -/
def doCamWrite (h : Hdr) (p addr : Nat) (data : List Byte) (s : State) : State :=
  xesil (.camWrite h p addr data)
    { op := 0x0602, h := h, params := leBytes 1 p ++ leBytes 3 0 ++ leBytes 4 addr ++ data, count := 1, value := ofLe (data.take 8),
      bad := if 1024 < data.length then some 0x0105 else none } true (fun _ => [])
    (fun _ => if 16 ≤ p then refuse1 0x0303 0 0 else if data = [] then refuse1 0x0301 0 8 else [])
    (fun _ s => if h.mirrored then .done [] false (ofLe (data.take 8)) s
      else if !camReady s p then .refuse (refuse1 0x0703 0 p)
      else .defer (pumpAccess p (modPort p (fun x => { x with access := x.access ++ [{ tag := 512, kind := 1, session := h.session, seq := h.seq, addr := addr, data := data }] }) s)))
    (fun _ => []) s

/-- R121: CAM_DISCOVER. -/
def doCamDiscover (h : Hdr) (p : Nat) (s : State) : State :=
  xesil (.camDiscover h p) { op := 0x0603, h := h, params := leBytes 1 p ++ leBytes 7 0, count := 1 } true (fun _ => [])
    (fun _ => if 16 ≤ p then refuse1 0x0303 0 0 else [])
    (fun _ s => if h.mirrored then .done [] false 0 s else if (port s p).run then .refuse (refuseFree 0x0502)
      else .defer (if uplinkOn s p then sendUplink p .discovery s else s))
    (fun _ => []) s

end Sys2Proof.Machine
end

