-- ==== Sys2Proof/Machine/Strip.lean ====
section
/-! DEFINITION. Machine/Strip.lean: pixel correction (chapter "Pixel Correction in the Strips"). -/
namespace Sys2Proof.Machine

/-- Strip `i`. -/
def strip (s : State) (i : Nat) : Strip := s.strips.get {} i

/-- Replace strip `i`. -/
def setStrip (i : Nat) (x : Strip) (s : State) : State := { s with strips := s.strips.set {} i x }

/-- The colour unit of strip `i`. -/
def colr (s : State) (i : Nat) : Colr := s.colrs.get {} i

/-- Replace the colour unit of strip `i`. -/
def setColr (i : Nat) (x : Colr) (s : State) : State := { s with colrs := s.colrs.set {} i x }

/-- R128: port `p` is ganged with the next. -/
def ganged (d : Dict) (p : Nat) : Bool := p % 2 == 0 && dictVal d (P.PORT_GANG p) == 1

/-- R163: LIN[u]. -/
def linOf (d : Dict) (i u : Nat) : Nat := tabField d (P.LIN i) (2 * u) 2

/-- R164: bits 55:0 of calibration entry `k`. -/
def calEntry (d : Dict) (i k : Nat) : Nat := tabField d (P.CALIB i) (8 * k) 7

/-- R164: the fields GAIN, OFFSET, CLASS and MODE of an entry. -/
def calGain (e : Nat) : Nat := field e 17 0

/-- R164: OFFSET, s14.2. -/
def calOffset (e : Nat) : Int := ofCode 16 (field e 33 18)

/-- R165: the calibrate stage. -/
def calibrate (gain : Nat) (offset : Int) (l : Nat) : Nat :=
  let v : Int := (l : Int) * 2 ^ 16 + offset * 2 ^ 14
  satU (rnd (v * gain) 32) 16

/-- R167: sample `k` is a static defect: by its entry and CLASS_EN, or because its entry is uncorrectable (R166). -/
def staticDefect (d : Dict) (i : Nat) (bad : List Nat) (k : Nat) : Bool :=
  bad.contains k || (let c := field (calEntry d i k) 37 34; c != 0 && bitOf (dictN d (P.STRP_CLASS_EN i)) c)

/-- R166, R168: the replacement mode of a static defect. -/
def defectMode (d : Dict) (i : Nat) (bad : List Nat) (k : Nat) : Nat := if bad.contains k then 0 else field (calEntry d i k) 39 38

/-- R168: the middle of three values. -/
def median3 (a b c : Nat) : Nat := max (min a b) (min (max a b) c)

/-- R168: MEAN with the neighbours at hand. -/
def meanOf (nl nr : Option Nat) : Option Nat :=
  match nl, nr with
  | some a, some b => some ((a + b + 1) / 2)
  | some a, none => some a
  | none, r => r

/-- R168: the replacement of a static defect from its neighbours and the previous line. -/
def replaceBy (mode : Nat) (nl nr p : Option Nat) : Option Nat :=
  if mode = 1 then (match nl with | some a => some a | none => nr)
  else if mode = 2 then
    match nl, nr, p with
    | some a, some b, some c => some (median3 a b c)
    | _, _, _ => meanOf nl nr
  else if mode = 3 then (match p with | some a => some a | none => meanOf nl nr)
  else meanOf nl nr

/-- A sample after the strip: d, s and o of R160, and how it was replaced: 0 not, 1 static, 2 dynamic, 3 static without a
neighbour. -/
structure Px where
  d : Nat
  s : Nat
  o : Nat
  how : Nat

/-- R167: a neighbour `j` is good. -/
def goodAt (w : Nat) (stat : Nat → Bool) (j : Int) : Bool := decide (0 ≤ j) && decide (j < w) && !stat j.toNat

/-- R167: the nearest good neighbour in steps of `step` (negative: to the left). -/
def neighbour (w : Nat) (stat : Nat → Bool) (c : List Nat) (k : Nat) (step : Int) : Option Nat :=
  if goodAt w stat (k + step) then some (at0 c (k + step).toNat)
  else if goodAt w stat (k + 2 * step) then some (at0 c (k + 2 * step).toNat)
  else none

/-- R168, R169: the defect stage at sample `k`. -/
def defectStage (d : Dict) (i w : Nat) (bad : List Nat) (prev : Option (List Nat)) (c : List Nat) (k : Nat) : Nat × Nat :=
  let step := dictN d (P.STRP_NBR_STEP i)
  let stat := staticDefect d i bad
  let ck := at0 c k
  if stat k then
    match replaceBy (defectMode d i bad k) (neighbour w stat c k (-(step : Int))) (neighbour w stat c k step) (prev.map (fun l => at0 l k)) with
    | some v => (v, 1)
    | none => (ck, 3)
  else if dictVal d (P.STRP_DYN_EN i) = 1 ∧ goodAt w stat ((k : Int) - step) ∧ goodAt w stat (k + step) then
    let a := at0 c (k - step)
    let b := at0 c (k + step)
    if max a b + dictN d (P.STRP_DYN_HOT i) < ck ∨ ck + dictN d (P.STRP_DYN_COLD i) < min a b then ((a + b + 1) / 2, 2) else (ck, 0)
  else (ck, 0)

/-- R170: the multiplier of column `x`. -/
def shadeMul (m : List Nat) (x : Nat) : Nat := (m[x]?).getD 16384

/-- R404: a line looks up a word of LIN that is in error. -/
def linBad (s : State) (d : Dict) (i w : Nat) (bytes : List Byte) : Bool :=
  s.chk.copies.any (fun c => c.tab == P.LIN i) &&
    (unpackSamples (dictN d (P.PORT_BITS i)) w bytes).any (fun u => copyBad s (P.LIN i) (2 * u / 8))

/-- R160: stages 1 to 6 on a line of `w` samples. -/
def correctLine (d : Dict) (i w : Nat) (bad : List Nat) (prev : Option (List Nat)) (m : List Nat) (bytes : List Byte) : List Px :=
  let u := unpackSamples (dictN d (P.PORT_BITS i)) w bytes
  let c := u.mapIdx (fun k v =>
    let e := calEntry d i k
    if bad.contains k then calibrate 65536 0 (linOf d i v) else calibrate (calGain e) (calOffset e) (linOf d i v))
  let lo := dictN d (P.STRP_CLIP_LO i)
  let hi := dictN d (P.STRP_CLIP_HI i)
  (List.range w).map (fun k =>
    let (dv, how) := defectStage d i w bad prev c k
    let sv := if dictVal d (P.STRP_SHADE_EN i) = 1 then (rnd ((dv * shadeMul m k : Nat) : Int) 14).toNat else dv
    ⟨dv, sv, min (max sv lo) hi, how⟩)

/-- How many samples of a list satisfy a condition. -/
def countPx (f : Px → Bool) (l : List Px) : Nat := (l.filter f).length

/-- R175: a sample joins a histogram bin; a full bin stays and sets HIST_SAT. -/
def histAdd (shift : Nat) (st : StripStats) (x : Px) : StripStats :=
  let b := min (x.o / 2 ^ shift) 1023
  let n := st.hist.get 0 b
  if n + 1 < 2 ^ 32 then { st with hist := st.hist.set 0 b (n + 1) } else { st with histSat := true }

/-- R175: the statistics of a corrected line. -/
def lineStats (d : Dict) (i : Nat) (l : List Px) (st : StripStats) : StripStats :=
  let hi := dictN d (P.STRP_CLIP_HI i)
  let lo := dictN d (P.STRP_CLIP_LO i)
  let t := dictN d (P.STRP_TARGET i)
  let band := dictN d (P.STRP_OUT_BAND i)
  let st := l.foldl (histAdd (dictN d (P.STRP_STAT_SHIFT i))) st
  { st with
    samples := st.samples + l.length, sum := st.sum + (l.map Px.o).sum
    high := st.high + countPx (fun x => decide (hi < x.s)) l, low := st.low + countPx (fun x => decide (x.s < lo)) l
    dyn := st.dyn + countPx (fun x => x.how == 2) l
    outl := st.outl + countPx (fun x => decide (band < x.s - t) || decide (band < t - x.s)) l }

/-- R179: the counters that a run of corrected samples moves. -/
def stripCount (hi lo : Nat) (l : List Px) (c : StripCounts) : StripCounts :=
  { c with statics := c.statics + countPx (fun x => x.how == 1) l, dyn := c.dyn + countPx (fun x => x.how == 2) l,
           noNbr := c.noNbr + countPx (fun x => x.how == 3) l, high := c.high + countPx (fun x => decide (hi < x.s)) l,
           low := c.low + countPx (fun x => decide (x.s < lo)) l }

/-! ### Shading (R170 to R174) -/

/-- R173: the new multiplier of column `x`. -/
def newMul (j : ShadeJob) (x : Nat) : Nat :=
  let r := at0 j.ref x
  let m1 := shadeMul j.mF1 x
  if r = 0 ∨ r < j.floor * 256 then m1
  else
    let num := shadeMul j.mF x * j.target * 256
    let q := (2 * num + r) / (2 * r)
    let dlt : Int := max (-(j.slew : Int)) (min (j.slew : Int) ((q : Int) - m1))
    (min (max ((m1 : Int) + dlt) j.mMin) j.mMax).toNat

/-- R173: the update in progress ends: the set of frame F + 2 stands. -/
def runShade (i : Nat) (s : State) : State :=
  let x := strip s i
  match x.job with
  | none => s
  | some j => setStrip i { x with job := none, m1 := (List.range j.ref.length).map (newMul j), counts.updates := x.counts.updates + 1 } s

/-- R173: SHADE_UPDATE. -/
def execShadeUpdate (strip : Fin 16) (s : State) : Host.Outcome State Fault Refusal := .next (runShade strip.val s)

/-- R172: the freeze conditions at the end of a frame, as bits 1 to 6 of SHADE_FLAGS. -/
def freezeBits (d : Dict) (i : Nat) (ref : List Nat) (valid : Bool) (x : Strip) : Nat :=
  let w := dictN d (P.PORT_WIDTH i)
  let absent := decide (((List.range w).map (at0 ref)).sum / w < dictN d (P.STRP_ABSENT_FLOOR i) * 256)
  let defects := decide (dictN d (P.STRP_DEFECT_LIMIT i) * x.stats.samples < (x.stats.dyn + x.stats.outl) * 65536)
  2 * b2n absent + 4 * b2n defects + 8 * b2n x.sawFrozen + 16 * b2n (x.stats.samples == 0) + 32 * b2n (!valid) +
    64 * b2n (dictVal d (P.STRP_SHADE_EN i) != 1)

/-- R176: the statistics block. -/
def statBytes (flags shift : Nat) (st : StripStats) : List Byte :=
  let mean := if st.samples = 0 then 0 else (st.sum * 65536 + st.samples / 2) / st.samples
  leBytes 8 st.samples ++ leBytes 8 st.sum ++ leBytes 4 mean ++ leBytes 2 (flags + 128 * b2n st.histSat) ++ leBytes 1 shift ++ leBytes 1 0 ++
  leBytes 8 st.high ++ leBytes 8 st.low ++ leBytes 8 st.dyn ++ leBytes 8 st.outl ++ leBytes 4 st.ecc ++ leBytes 4 0 ++
  (List.range 1024).flatMap (fun b => leBytes 4 (st.hist.get 0 b))

/-- R171, R172, R176: a frame ends at the strip: the shading update begins or freezes, and the statistics leave. -/
def endFrame (i : Nat) (t : Stamp) (report : List Byte) (s : State) : State :=
  let s := runShade i s
  let x := strip s i
  let d := dictAt s t.epoch
  let ch := prof s (dictN d (P.STRP_SHADE_CHANNEL i))
  let w := dictN d (P.PORT_WIDTH i)
  let bits := freezeBits d i ch.pubRef ch.pubValid x
  let job : Option ShadeJob := if bits = 0 then some {
      mF := x.m0, mF1 := x.m1, ref := (List.range w).map (at0 ch.pubRef), target := dictN d (P.STRP_TARGET i), slew := dictN d (P.STRP_SLEW i)
      mMin := dictN d (P.STRP_M_MIN i), mMax := dictN d (P.STRP_M_MAX i), floor := dictN d (P.STRP_COL_FLOOR i), frame := t.frame } else none
  let froze := bits != 0 && !bitOf bits 6
  let flags := if bits = 0 then 1 else bits
  let body := report ++ statBytes flags (dictN d (P.STRP_STAT_SHIFT i)) x.stats
  let s := setStrip i { x with m0 := x.m1, job := job, stats := {}, sawFrozen := false, counts.freezes := x.counts.freezes + b2n froze } s
  let s := raiseIf froze (280 + 3 * i + 1) t.frame s
  let s := raise (280 + 3 * i + 2) t.frame s
  feed { product := 8, source := i, epoch := t.epoch, firstId := leAt report 12 6, chunks := [.bytes body], last := true,
         loss := bitOf (leAt report 1 1) 4, refNs := stampNs t } s

/-! ### A line (R160, R161) -/

/-- R342: on a device without the claim a line-latched consumer waits until the Active's consumer has begun the line. -/
def waitsHeartbeat (s : State) (slot g : Nat) : Bool :=
  adopts s && decide (s.twin.skipHb.get 0 slot ≤ g) &&
    (match s.twin.peer with | some h => decide ((h.slots[slot]?).getD 0 < g) | none => true)

/-- R177: the strip's working copy of CALIB is that of an epoch. -/
def calibLoaded (s : State) (i epoch : Nat) : Bool :=
  let x := strip s i
  x.calDue != some epoch && decide (x.cal = (dictAt s epoch).tabs.find? (P.CALIB i))

/-- R177 step 4: the loader writes every entry of a table, with its ECC computed. -/
def loadCalib (i : Nat) (d : Dict) (s : State) : State :=
  setStrip i { strip s i with cal := d.tabs.find? (P.CALIB i), calDue := none, soft := [], bad := [] } s

/-- R177, R178: CALIB_LOAD: the table of a set that is being armed, for a strip whose port is stopped; else that of the epoch of the next line. -/
def execCalibLoad (strip : Fin 16) (s : State) : Host.Outcome State Fault Refusal :=
  let i := strip.val
  let own := match (Machine.strip s i).inq with | o :: _ => dictAt s o.line.stamp.epoch | [] => s.sys.applied
  .next (match s.sys.cinch with
    | some c =>
      if c.loads.contains i then
        loadCalib i (overlay s.sys.applied (s.sys.stage.get {} c.set).dict) { s with sys.cinch := some { c with loads := c.loads.filter (· ≠ i) } }
      else loadCalib i own s
    | none => loadCalib i own s)

/-- R167: the previous line's replaced values, if available. -/
def prevLine (d : Dict) (i : Nat) (t : Stamp) (x : Strip) : Option (List Nat) :=
  match x.prev with
  | some (g, l) => if (g + 1) % 2 ^ 48 = t.globalLine ∧ ¬ (dictVal d (P.PORT_MODE i) = 1 ∧ hasFlag t.flags 13) then some l else none
  | none => none

/-- R174: the first line of a run comes to a strip, and to both strips of a ganged port. -/
def freshLine (i : Nat) (d : Dict) (s : State) : State :=
  let s := freshStrip i s
  if ganged d i then freshStrip (i + 1) s else s

/-- R34, R174, R420: a line begins at a strip: its events of the line act, THAW last. The answer is whether it is frozen. -/
def beginStrip (i g : Nat) (s : State) : Bool × State :=
  let (kinds, s) := beginLine i g s
  let frozen := if kinds.contains 1 then false else (strip s i).frozen || kinds.contains 0
  (frozen, setStrip i { strip s i with frozen := frozen } s)

/-- The corrected line goes to the colour unit, and to the channels that read the strip, which may read it otherwise (R404). -/
def stripOut (i comps : Nat) (first : Bool) (t : Stamp) (px : List Nat) (ups : List (Nat × Nat)) (s : State) : State :=
  let s := feedProfiles i comps t (upsetPx ups px) s
  let c := colr s i
  setColr i { c with wait := c.wait ++ [{ stamp := t, comps := comps, px := px, first := first }] } s

/-- R83: the channels that read a stopped port's strip, and whose RUN is 0, stop once its last line has passed. -/
def endProfiles (i : Nat) (s : State) : State :=
  if (port s i).run || !(port s i).out.isEmpty || !(strip s i).inq.isEmpty then s
  else forEach (List.range 16) (fun c s =>
    if (prof s c).run && prmAtN s (prof s c).epoch (P.PROF_SRC c) == i && !prmB s (P.PROF_RUN c) then stopProf c s else s) s

/-- R160 to R176: STRIP_LINE: the strip takes the next line of its port. `soft` and `hard` are calibration entries that are
first read with a single-bit or an uncorrectable error in this line (R166), `upset` the bytes that a memory error
changed since the port (R404). A strip that a forced test has taken out of service passes LOSS lines (R487). -/
def execStripLine (strip : Fin 16) (soft hard : List Nat) (upset : LineUpset (Nat × Nat)) (s : State) : Host.Outcome State Fault Refusal :=
  let i := strip.val
  let x := Machine.strip s i
  match x.inq with
  | [] => .next s
  | o :: rest =>
    let s := if o.first then freshLine i (dictAt s o.line.stamp.epoch) s else s
    let x := Machine.strip s i
    let t : Stamp := { o.line.stamp with flags := setFlagIf (forcedOut s 5 i) o.line.stamp.flags 0 }
    let d := dictAt s t.epoch
    if dataPathHeld s || waitsCapture s i t.globalLine || waitsHeartbeat s i t.globalLine || (ganged d i && waitsHeartbeat s (i + 1) t.globalLine) || !calibLoaded s i t.epoch || gapHeld s 5 i then .next s
    else
      let s := switchFlows 8 i t.epoch s
      let w := lineSamples d i
      let comps := dictN d (P.PORT_COMPONENTS i)
      let g := ganged d i
      let bytes := upsetBytes upset.entry o.line.bytes
      let (frozen, s) := beginStrip i t.globalLine s
      let (other, s) := if g then beginStrip (i + 1) t.globalLine s else (false, s)
      let shade := dictVal d (P.STRP_SHADE_EN i) == 1
      let restart := shade && !x.shadeOn
      let bad := (x.bad ++ hard.filter (· < w)).dedup
      let soft := ((x.soft ++ soft.filter (· < w)).filter (fun k => !bad.contains k)).dedup
      let now := match x.preset with | some (f, _, _) => decide (f ≤ t.globalLine) | none => false
      let x := match x.preset with
        | some (f, a, b) => if f ≤ t.globalLine then { x with m0 := a, m1 := b, preset := none } else x
        | none => x
      let restart := restart && !now
      let x := { x with
        inq := rest, frozen := frozen, sawFrozen := x.sawFrozen || frozen || other, shadeOn := shade, soft := soft, bad := bad
        m0 := if restart then [] else x.m0, m1 := if restart then [] else x.m1, job := if restart then none else x.job }
      let lost := stampLost t
      let stage := crc32c bytes != t.lineCheck
      let s := if stage then { s with chk.strip := s.chk.strip + 1 } else s
      let slow := fun (k : Nat) => s.thrm.low.contains k || decide (stripDuty s < 16)
      let ue := bad.filter (· < w)
      let ueHere := !lost && (!ue.isEmpty || linBad s d i w bytes)
      let fl := setFlagIf (slow i || (g && slow (i + 1))) (setFlagIf (stage || ueHere) t.flags 5) 8
      let lines := if lost then [] else correctLine (asRead s d) i w bad (prevLine d i t x) x.m0 bytes
      let px := if lost then List.replicate w (dictN d (P.PORT_FILL_VALUE i)) else lines.map Px.o
      let t' := { t with flags := fl, lineCheck := lineCheck px }
      let hi := dictN d (P.STRP_CLIP_HI i)
      let lo := dictN d (P.STRP_CLIP_LO i)
      let both := fun (k : Nat) (c : StripCounts) => { c with
        lines := c.lines + b2n (!lost), lost := c.lost + b2n lost, throttled := c.throttled + b2n (slow k), stage := c.stage + b2n (stage || ueHere) }
      let c0 := { both i x.counts with ce := x.counts.ce + (if lost then 0 else (soft.filter (· < w)).length), ue := x.counts.ue + (if lost then 0 else ue.length) }
      let c0 := stripCount hi lo (if g then lines.take (w / 2) else lines) c0
      let stats := if lost then x.stats else { lineStats d i lines x.stats with ecc := x.stats.ecc + ue.length }
      let s := setStrip i { x with counts := c0, stats := stats, prev := if lost then none else some (t.globalLine, lines.map Px.d) } s
      let s := if g then setStrip (i + 1) { Machine.strip s (i + 1) with
        counts := stripCount hi lo (lines.drop (w / 2)) (both (i + 1) (Machine.strip s (i + 1)).counts) } s else s
      let s := if lost then s else forEach ue (fun k s => raise (280 + 3 * i) k s) s
      let s := stripOut i comps o.first t' px upset.prof s
      .next (endProfiles i (match o.report with | some r => if hasFlag t.flags 14 then endFrame i t' r s else s | none => s))

end Sys2Proof.Machine
end

