-- ==== Sys2Proof/Machine/Estimate.lean ====
section
/-! DEFINITION. Machine/Estimate.lean: the estimates that checks and enforcement share: line rates (R141), real-time traffic
(R214), profile traffic (R230) and the power model (R467). -/
namespace Sys2Proof.Machine

/-- A flag of a dictionary. -/
def dictB (d : Dict) (id : Nat) : Bool := decide (dictVal d id = 1)

/-- R141, R211: the planned rate of stitched lines per second: the reference port's line rate, or in area mode its frame rate times
OUT_HEIGHT. -/
def stitchedRate (d : Dict) : Rat :=
  let r := dictN d P.STCH_OUT_REF_PORT
  if dictVal d P.STCH_OUT_MODE = 1 then planRate d r / dictN d (P.PORT_HEIGHT r) * dictN d P.STCH_OUT_HEIGHT else planRate d r

/-- Stitched samples per second. -/
def stitchedSamples (d : Dict) : Rat :=
  if dictB d P.STCH_OUT_RUN then stitchedRate d * dictN d P.STCH_OUT_WIDTH * dictN d P.STCH_OUT_COMPONENTS else 0

/-- R200: samples per second that a contributing port delivers to the stitcher. -/
def portSamples (d : Dict) (p : Nat) : Rat := planRate d p * dictN d (P.PORT_WIDTH p) * compsOf d p

/-- R214: the real-time traffic in bytes per second. -/
def realTimeTraffic (d : Dict) : Rat :=
  if dictB d P.STCH_OUT_RUN then
    (((List.range 16).filter (contributes d)).map (fun p => 4 * portSamples d p)).sum +
      (if dictB d P.RECD_HIST_EN then 2 * stitchedSamples d else 0) +
      (if dictB d P.RECD_RUN && dictB d P.RECD_HIST_EN then (1000000 : Rat) * dictN d P.RECD_PATCH_BUDGET else 0)
  else 0

/-- R217, R230: the line rate of a profile channel's source. -/
def profLineRate (d : Dict) (c : Nat) : Rat :=
  let src := dictN d (P.PROF_SRC c)
  if src < 16 then planRate d src else stitchedRate d

/-- R230: the traffic of a channel in bytes per second. -/
def profTraffic (d : Dict) (c : Nat) : Rat :=
  let cols := dictN d (P.PROF_C1 c) + 1 - dictN d (P.PROF_C0 c)
  profLineRate d c / dictN d (P.PROF_K c) * cols * (if dictN d (P.PROF_L c) = 1 then 48 else 64)

/-- The profile channels that run. -/
def runningProfs (d : Dict) : List Nat := (List.range 16).filter (fun c => dictB d (P.PROF_RUN c))

/-- A sum of rationals over the instances below a bound. -/
def sumOver (n : Nat) (f : Nat → Rat) : Rat := ((List.range n).map f).sum

/-- R128, R467: the samples per second that enter a strip: each strip of a ganged pair takes half of the even port's. -/
def stripInput (d : Dict) (i : Nat) : Rat :=
  let p := if i % 2 = 1 ∧ ganged d (i - 1) then i - 1 else i
  let all := if dictB d (P.STRP_RUN p) then planRate d p * (dictN d (P.PORT_WIDTH p) * dictN d (P.PORT_COMPONENTS p) : Nat) else 0
  if ganged d p then all / 2 else all

/-- R467: the estimated power in mW. `hot` is T_hot in 1/16 °C, `cpu` CLK_CPU in 250 MHz units, `engines` the compress engines in
service, `duty` the strip duty in sixteenths, `burnish` whether Burnish is not suspended. -/
def powerMw (d : Dict) (hot : Int) (cpu engines duty : Nat) (burnish : Bool) : Rat :=
  let lanes := sumOver 64 (fun n => if dictB d (P.LANE_RUN n) then 40 + (5 : Rat) * dictN d (P.LANE_RATE n) / 1000000 else 0)
  let nets := (if dictB d (P.NETW_RUN 0) then 1000 else 0) + (if dictB d (P.NETW_RUN 1) then 1000 else 0) +
    (if dictB d P.TWIN_RUN then 400 else 0) + (if dictB d (P.NETW_RUN 2) then 100 else 0 : Rat)
  let traffic := realTimeTraffic d + ((runningProfs d).map (profTraffic d)).sum + 10000000000
  let dram := 4000 + (125 : Rat) / 2 * traffic / 1000000000
  let strips := sumOver 16 (fun i => 300 * min (stripInput d i / 1000000000) ((duty : Rat) * 2 / 16))
  let stitch := 200 * stitchedSamples d / 1000000000
  let cmpr := if dictB d P.CMPR_RUN then (625 : Rat) / 2 * engines else 0
  let cores := (2 : Rat) / 5 * 250 * cpu * ((List.range 8).filter (fun k => dictB d (P.CORE_RUN k))).length
  let rest := 3000 + (if 800 < hot then 40 * ((hot : Rat) / 16 - 50) else 0)
  lanes + nets + dram + strips + stitch + cmpr + cores + (if burnish then 300 else 0) + rest

/-- R466: the cap of a step in mW. -/
def capMw (k : Nat) : Rat := 58000 - 4000 * k

/-- R470: the power of the configuration that would result, with measures 1 and 2 at their limits. -/
def resultingPower (d : Dict) (hot : Int) : Rat :=
  powerMw d (max hot 1360) (min (dictN d P.THRM_CORE_MIN) (dictN d P.CORE_CLK_MAX)) 16 16 false

end Sys2Proof.Machine
end

