-- ==== Sys2Proof/Machine/Colour.lean ====
section
/-! DEFINITION. Machine/Colour.lean: colour reconstruction (chapter "Colour Reconstruction"). -/
namespace Sys2Proof.Machine

/-- R182: the colour (0 R, 1 G, 2 B) of the site at row parity `ry` and column parity `rx`. -/
def bayer (phase ry rx : Nat) : Nat :=
  let k := 2 * (ry % 2) + rx % 2
  let row : List Nat := match phase with | 0 => [0, 1, 1, 2] | 1 => [1, 0, 2, 1] | 2 => [1, 2, 0, 1] | _ => [2, 1, 1, 0]
  at0 row k

/-- R183: a row of the window with respect to row `c`: present, without LOSS or FILL, and in mode 1 of the same frame. -/
def rowIn (mode : Nat) (c : Stamp) (r : Option Line) : Option (List Nat) :=
  match r with
  | some l => if stampLost l.stamp ∨ (mode = 1 ∧ l.stamp.frame ≠ c.frame) then none else some l.px
  | none => none

/-- R184: the five rows of the filled window, top to bottom, whether any was substituted, and single-row form, which replaces the rows beside c. -/
def fillRowsWin (c : List Nat) (u2 u1 d1 d2 : Option (List Nat)) : List (List Nat) × Bool × Bool :=
  let pick := fun (a b : Option (List Nat)) => match a with | some r => r | none => b.getD c
  let sub := u2.isNone || d2.isNone || (u1.isNone != d1.isNone)
  ([pick u2 d2, pick u1 d1, c, pick d1 u1, pick d2 u2], sub, u1.isNone && d1.isNone)

/-- R184: sample v(c + dy, x + dx) of the filled window; a column outside the line takes its mirror image about x. -/
def winAt (rows : List (List Nat)) (w x : Nat) (dy dx : Int) : Int :=
  let r := (rows[(dy + 2).toNat]?).getD []
  let j := (x : Int) + dx
  ((at0 r (if j < 0 ∨ (w : Int) ≤ j then ((x : Int) - dx).toNat else j.toNat) : Nat) : Int)

/-- R186: a direction of interpolation. -/
inductive Dir where
  | h | v | avg
  deriving DecidableEq

/-- R186: the direction at a site. -/
def siteDir (v : Int → Int → Int) (ratio : Nat) : Dir :=
  let hh := (v 0 (-1) - v 0 1).natAbs + (2 * v 0 0 - v 0 (-2) - v 0 2).natAbs
  let vv := (v (-1) 0 - v 1 0).natAbs + (2 * v 0 0 - v (-2) 0 - v 2 0).natAbs
  if vv * ratio < hh * 64 then .v else if hh * ratio < vv * 64 then .h else .avg

/-- R187: four times the colour difference of the non-green neighbour at (dy, dx). -/
def e4 (v : Int → Int → Int) (dir : Dir) (dy dx : Int) : Int :=
  let g4 := match dir with
    | .h => 2 * (v dy (dx - 1) + v dy (dx + 1))
    | .v => 2 * (v (dy - 1) dx + v (dy + 1) dx)
    | .avg => v dy (dx - 1) + v dy (dx + 1) + v (dy - 1) dx + v (dy + 1) dx
  4 * v dy dx - g4

/-- R187, R188: the triple of a site of colour `col` whose row neighbours have colour `rowCol`. -/
def siteRgb (v : Int → Int → Int) (dir : Dir) (single : Bool) (col rowCol : Nat) : List Nat :=
  let put := fun (c : Nat) (own green other : Nat) => if c = 0 then [own, green, other] else [other, green, own]
  if col ≠ 1 then
    let gh := 2 * (v 0 (-1) + v 0 1) + 2 * v 0 0 - v 0 (-2) - v 0 2
    let gv := 2 * (v (-1) 0 + v 1 0) + 2 * v 0 0 - v (-2) 0 - v 2 0
    let gc := match dir with
      | .h => satU (rnd gh 2) 16
      | .v => satU (rnd gv 2) 16
      | .avg => satU (rnd (gh + gv) 3) 16
    let other := if single then gc
      else satU (rnd (16 * (gc : Int) + e4 v dir (-1) (-1) + e4 v dir (-1) 1 + e4 v dir 1 (-1) + e4 v dir 1 1) 4) 16
    put col (v 0 0).toNat gc other
  else
    let g := v 0 0
    let cr := satU (rnd (8 * g + e4 v dir 0 (-1) + e4 v dir 0 1) 3) 16
    let cc := if single then g.toNat else satU (rnd (8 * g + e4 v dir (-1) 0 + e4 v dir 1 0) 3) 16
    put rowCol cr g.toNat cc

/-- R190: the matrix on one triple, with the results that saturated. -/
def colourMatrix (d : Dict) (i : Nat) (t : List Nat) : List Nat × Nat :=
  let row := fun (r : Nat) =>
    let m := fun (c : Nat) => dictVal d (P.COLR_M i (3 * r + c)) * (at0 t c : Int)
    rnd (m 0 + m 1 + m 2) 12 + dictVal d (if r = 0 then P.COLR_OFF_R i else if r = 1 then P.COLR_OFF_G i else P.COLR_OFF_B i)
  let raw := (List.range 3).map row
  (raw.map (fun v => satU v 16), (raw.filter (fun v => decide ((satU v 16 : Int) ≠ v))).length)

/-- Samples taken three at a time. -/
def triples (px : List Nat) : List (List Nat) := (List.range (px.length / 3)).map (fun k => (px.drop (3 * k)).take 3)

/-- R190: the matrix on a line of triples while MATRIX_EN is 1. -/
def matrixLine (d : Dict) (i : Nat) (ts : List (List Nat)) : List Nat × Nat :=
  if dictVal d (P.COLR_MATRIX_EN i) = 1 then
    let out := ts.map (colourMatrix d i)
    (out.flatMap Prod.fst, (out.map Prod.snd).sum)
  else (ts.flatten, 0)

/-- R128, R193: what the counters of a colour unit gain: substituted, single-row, H, V, saturations, for the columns up to the cut and, of a ganged pair,
for those beyond. -/
abbrev ColrGain := List Nat × List Nat

/-- R183 to R190: a line of a mosaic port: its samples, and what the counters of R193 gain; `cut` is the first column of a second unit. -/
def mosaicLine (d : Dict) (i mode cut : Nat) (c : Line) (past wait : List Line) : List Nat × ColrGain :=
  let w := dictN d (P.PORT_WIDTH i)
  if stampLost c.stamp then (List.replicate (3 * w) (dictN d (P.PORT_FILL_VALUE i)), ([0, 0, 0, 0, 0], [0, 0, 0, 0, 0]))
  else
    let n := past.length
    let row := rowIn mode c.stamp
    let below := fun (k : Nat) => match wait[k]? with
      | some l => if (wait.take (k + 1)).any Line.first then none else row (some l)
      | none => none
    let (rows, sub, single) := fillRowsWin c.px (if 2 ≤ n then row past[n - 2]? else none) (if 1 ≤ n then row past[n - 1]? else none) (below 0) (below 1)
    let ry := if mode = 1 then c.stamp.lineInFrame else c.stamp.globalLine
    let phase := dictN d (P.COLR_PHASE i)
    let sites := (List.range w).map (fun x =>
      let v := winAt rows w x
      let dir := if single then .h else siteDir v (dictN d (P.COLR_RATIO i))
      (siteRgb v dir single (bayer phase ry x) (bayer phase ry (x + 1)), dir))
    let part := fun (l : List (List Nat × Dir)) =>
      let (px, sat) := matrixLine d i (l.map Prod.fst)
      (px, [b2n sub, b2n single, (l.filter (fun p => p.2 == .h)).length, (l.filter (fun p => p.2 == .v)).length, sat])
    let (a, na) := part (sites.take cut)
    let (b, nb) := part (sites.drop cut)
    (a ++ b, (na, nb))

/-- R185: the port is stopped and nothing more comes to its colour unit. -/
def portDrained (s : State) (i : Nat) : Bool := !(port s i).run && (port s i).out.isEmpty && (strip s i).inq.isEmpty

/-- R193: the counters of one emitted line. -/
def colrCount (n : List Nat) (x : Colr) : Colr :=
  { x with lines := x.lines + 1, subst := x.subst + at0 n 0, single := x.single + at0 n 1, hDir := x.hDir + at0 n 2, vDir := x.vDir + at0 n 3, msat := x.msat + at0 n 4 }

/-- R185: row c, with the rows that wait behind it, may leave a colour unit in modes 1 and 2: row c + 2 has arrived, the frame ends, or the port has stopped
since. -/
def mayEmit (s : State) (i mode : Nat) (c : Line) (wait : List Line) : Bool :=
  decide (2 ≤ wait.length) || (mode == 1 && (hasFlag c.stamp.flags 14 || (match wait with | l :: _ => hasFlag l.stamp.flags 14 | [] => false))) ||
    portDrained s i || wait.any Line.first

/-- The item of a line in the CORR, WEB or TILE product (R301). -/
def lineItem (product source : Nat) (l : Line) (rowBytes : List Chunk) (masked : List Chunk) : Item :=
  { product := product, source := source, epoch := l.stamp.epoch, firstId := l.stamp.globalLine, chunks := rowBytes, masked := masked
    frame := l.stamp.frame, lineInFrame := l.stamp.lineInFrame, frameStart := hasFlag l.stamp.flags 13, last := hasFlag l.stamp.flags 14
    loss := hasFlag l.stamp.flags 0, refNs := stampNs l.stamp }

/-- R185, R191, R195: a line leaves the colour unit for the CORR product and the stitcher, which takes the lines from the port's switch line on until it stops. -/
def colourOut (i : Nat) (l : Line) (ups : List (Nat × Nat)) (s : State) : State :=
  let px := upsetPx ups l.px
  let s := feedLine 6 l.stamp.globalLine (lineCheck px == l.stamp.lineCheck) (lineItem 2 i l [.stamp l.stamp, .bytes (pxBytes px)] []) (switchFlows 2 i l.stamp.epoch s)
  let x := s.stch.ins.get {} i
  let begun := prmAtB s s.stch.epoch (P.STCH_RUN i) && (x.base.isSome || !x.inq.isEmpty)
  if s.stch.run && (begun || (prmAtB s l.stamp.epoch (P.STCH_RUN i) && prmAtB s l.stamp.epoch P.STCH_OUT_RUN)) then
    { s with stch.ins := s.stch.ins.set {} i { x with inq := x.inq ++ [l] } }
  else s

/-- R181 to R192: COLOUR_LINE: the oldest row that waits leaves, if R185 lets it. `upset` are samples that a memory error
changed since the strip (R404). -/
def execColourLine (strip : Fin 16) (upset : LineUpset (Nat × Nat)) (s : State) : Host.Outcome State Fault Refusal :=
  let i := strip.val
  let x := colr s i
  match x.wait with
  | [] => .next s
  | c :: wait =>
    let d := dictAt s c.stamp.epoch
    let mode := dictN d (P.COLR_MODE i)
    let mosaic := mode == 1 || mode == 2
    if mosaic && !mayEmit s i mode c wait then .next s
    else
      let s := if c.first then closeProduct 2 i s else s
      let past := if c.first then [] else x.past
      let g := ganged d i
      let cut := dictN d (P.PORT_WIDTH i) / (if g then 2 else 1)
      let c := { c with px := upsetPx upset.entry c.px }
      let bad := lineCheck c.px != c.stamp.lineCheck
      let s := if bad then { s with chk.colour := s.chk.colour + 1 } else s
      let (px, n) :=
        if mosaic then mosaicLine d i mode cut c past wait
        else if mode = 3 ∧ ¬ stampLost c.stamp then
          let (a, sa) := matrixLine d i ((triples c.px).take cut)
          let (b, sb) := matrixLine d i ((triples c.px).drop cut)
          (a ++ b, ([0, 0, 0, 0, sa], [0, 0, 0, 0, sb]))
        else (c.px, ([0, 0, 0, 0, 0], [0, 0, 0, 0, 0]))
      let check := if mode = 0 then c.stamp.lineCheck else lineCheck px
      let l : Line := { stamp := { c.stamp with flags := setFlagIf bad c.stamp.flags 5, lineCheck := check }, comps := compsOf d i, px := px, first := c.first }
      let s := setColr i (colrCount n.1 { x with wait := wait, past := (past ++ [c]).drop (past.length - 1) }) s
      let s := if g then setColr (i + 1) (colrCount n.2 (colr s (i + 1))) s else s
      let s := colourOut i l upset.former s
      .next (if portDrained s i && wait.isEmpty then closeProduct 2 i s else s)

end Sys2Proof.Machine
end

