-- ==== Sys2Proof/Machine/Stitch.lean ====
section
/-! DEFINITION. Machine/Stitch.lean: alignment and stitching (chapter "Alignment and Stitching"), and the line history of R253. -/
namespace Sys2Proof.Machine

/-- Input `p` of the stitcher. -/
def stchIn (s : State) (p : Nat) : StchIn := s.stch.ins.get {} p

/-- Replace input `p`. -/
def setStchIn (p : Nat) (x : StchIn) (s : State) : State := { s with stch.ins := s.stch.ins.set {} p x }

/-- R365: an overflow of real-time port `r` holds its stream. -/
def rtpHeld (s : State) (r : Nat) : Bool := (s.memc.rtps.get {} r).held

/-- The ports that contribute (R195). -/
def contributors (d : Dict) : List Nat := (List.range 16).filter (contributes d)

/-- R198: Dmax. -/
def dMax (d : Dict) : Nat := (contributors d).foldl (fun m q => max m (dictN d (P.STCH_MD_DELAY q))) 0

/-- Area mode (R210). -/
def areaMode (d : Dict) : Bool := dictVal d P.STCH_OUT_MODE == 1

/-- R200: a ring of MD_DELAY + 2 lines is full: the next line waits. -/
def ringFull (d : Dict) (p : Nat) (x : StchIn) : Bool := !areaMode d && decide (dictN d (P.STCH_MD_DELAY p) + 2 ≤ x.ring.length)

/-- R197, R200: an input line is written to its ring or tile store at an index and row; every line written whose TIME is not that of the reference
port's line of the same index is MISPAIRED. -/
def storeLine (p idx row : Nat) (l : Line) (s : State) : State :=
  let d := dictAt s s.stch.epoch
  let x := stchIn s p
  let area := areaMode d
  let new := (x.times.find? idx).isNone
  let rows := fun (q : Nat) => if area then ((stchIn s q).ring.filter (fun e => e.1 == idx)).length else 1
  let keep := area || decide (dMax d - dictN d (P.STCH_MD_DELAY p) - 1 ≤ idx)
  let ended := if area && hasFlag l.stamp.flags 14 then x.ended ++ [idx] else x.ended
  let s := setStchIn p { x with
    inq := x.inq.drop 1, ring := if keep then x.ring ++ [(idx, row, l)] else x.ring, ended := ended
    times := (Map.insert x.times idx (stampNs l.stamp)).filter (fun t => decide (idx < t.1 + 65538)) } s
  let s := if keep then s else { s with stch.discarded := s.stch.discarded + 1 }
  let r := dictN d P.STCH_OUT_REF_PORT
  let miss := if p = r then ((contributors d).filter (fun q => q ≠ r)).flatMap (fun q =>
        match (stchIn s q).times.find? idx with | some t => if new && t != stampNs l.stamp then List.replicate (rows q) q else [] | none => [])
    else match (stchIn s r).times.find? idx with
      | some t => if t = stampNs l.stamp then [] else [p]
      | none => []
  forEach miss (fun _ s => raiseOpen 328 { s with stch.mispaired := true, stch.nMispaired := s.stch.nMispaired + 1 }) s

/-- R212: a row's frame lies two frames or more beyond the one that is composed. -/
def tooFar (s : State) (frame : Nat) : Bool :=
  let ahead := (frame + 2 ^ 32 - s.stch.frame) % 2 ^ 32
  decide (2 ≤ ahead) && decide (ahead < 2 ^ 31)

/-- R197, R200, R212: STCH_DELAY_WRITE: the oldest corrected line of input `p` is written, where its ring has room. A row of frame F + 2 waits while frame F is
not composed. -/
def execStchDelayWrite (port : Fin 16) (s : State) : Host.Outcome State Fault Refusal :=
  let p := port.val
  let x := stchIn s p
  match x.inq with
  | [] => .next s
  | l :: rest =>
    let d := dictAt s s.stch.epoch
    if rtpHeld s (p / 4) || ringFull d p x then .next s else
    let t := l.stamp
    let area := areaMode d
    let base := match x.base with
      | some b => some b
      | none => if area then (if hasFlag t.flags 13 then some t.frame else none) else some t.globalLine
    match base with
    | none => .next (setStchIn p { x with inq := rest } s)
    | some b =>
      -- the counts wrap (R10)
      let idx := if area then (t.frame + 2 ^ 32 - b) % 2 ^ 32 else (t.globalLine + 2 ^ 48 - b) % 2 ^ 48
      if area && tooFar s idx then .next s
      else .next (storeLine p idx (if area then t.lineInFrame else 0) l (setStchIn p { x with base := some b } s))

/-- R212: COMPOSE_LATE: a row that input `p` holds overflows its elastic buffer and becomes a LOSS line: the newest one that is not yet lost. -/
def execComposeLate (port : Fin 16) (s : State) : Host.Outcome State Fault Refusal :=
  let p := port.val
  let x := stchIn s p
  match x.base, firstIdx (fun k => decide (k < x.inq.length) && ((x.inq.reverse[k]?).map (fun l => !hasFlag l.stamp.flags 0)).getD false) x.inq.length with
  | some b, some k =>
    let i := x.inq.length - 1 - k
    let l := x.inq.getD i { stamp := {}, comps := 1, px := [] }
    if tooFar s ((l.stamp.frame + 2 ^ 32 - b) % 2 ^ 32) && areaMode (dictAt s s.stch.epoch) then
      let px := List.replicate l.px.length (prmAtN s l.stamp.epoch (P.PORT_FILL_VALUE p))
      let l := { l with px := px, stamp := { l.stamp with flags := setFlag l.stamp.flags 0, lineCheck := lineCheck px } }
      .next (raiseOpen 329 (setStchIn p { x with inq := x.inq.set i l } { s with stch.rowsLost := s.stch.rowsLost + 1 }))
    else .next s
  | _, _ => .next s

/-! ### Samples of a port at a stitched line (R198, R201 to R204) -/

/-- The stored line of an input at an index and row. -/
def storedLine (x : StchIn) (idx row : Nat) : Option Line := (x.ring.find? (fun e => e.1 == idx && e.2.1 == row)).map (fun e => e.2.2)

/-- R198: the index a and the fraction f that stitched line `n` takes of port `p`; line(0) alone stands for index −1. -/
def lineIndex (d : Dict) (p n : Nat) : Nat × Nat :=
  let y : Int := 16 * ((n : Int) + dMax d) - 16 * dictN d (P.STCH_MD_DELAY p) - dictN d (P.STCH_MD_FRAC p)
  let a := Int.fdiv y 16
  if a < 0 then (0, 0) else (a.toNat, (y % 16).toNat)

/-- R201: a line may be used for its samples. -/
def usable (x : StchIn) (idx row : Nat) (l : Line) : Bool := !stampLost l.stamp && !(x.bad.contains (idx, row))

/-- What a port gives a stitched line: the lines read with their place, and its samples where it is not lost. -/
structure PortPart where
  port : Nat
  read : List (Nat × Nat × Line)
  px   : Option (List Nat)

/-- R198, R201: the part of port `p` in stitched line `n`; none while a line is missing. -/
def linePart (s : State) (d : Dict) (n p : Nat) : Option PortPart :=
  let x := stchIn s p
  let (a, f) := lineIndex d p n
  match storedLine x a 0 with
  | none => none
  | some la =>
    if f = 0 then some ⟨p, [(a, 0, la)], if usable x a 0 la then some la.px else none⟩
    else match storedLine x (a + 1) 0 with
      | none => none
      | some lb =>
        let px := match usable x a 0 la, usable x (a + 1) 0 lb with
          | true, true => some (List.zipWith (fun u v => (rnd (((16 - f) * u + f * v : Nat) : Int) 4).toNat) la.px lb.px)
          | true, false => some la.px
          | false, true => some lb.px
          | false, false => none
        some ⟨p, [(a, 0, la), (a + 1, 0, lb)], px⟩

/-- R203: a coefficient, s1.14. -/
def coef (d : Dict) (set ph t : Nat) : Int := ofCode 16 (tabField d P.COEF (2 * ((set * 64 + ph) * 8 + t)) 2)

/-- R202: the source position of column `x` in 1/64 px. -/
def srcPos (d : Dict) (p x : Nat) : Int :=
  rnd (((x : Int) - dictN d (P.STCH_X0 p)) * dictVal d (P.STCH_CD_SCALE p) + dictVal d (P.STCH_CD_OFFSET p)) 24

/-- R202: an index mirrored at the edges of a line of `w` columns. -/
def mirror (w : Nat) (j : Int) : Nat :=
  let j := if j < 0 then -j else j
  (if (w : Int) - 1 < j then 2 * ((w : Int) - 1) - j else j).toNat

/-- R202, R204: the sample of port `p` at output column `x` and component `c`. -/
def mapped (d : Dict) (p comps : Nat) (px : List Nat) (x c : Nat) : Nat :=
  if dictVal d (P.STCH_CD_MODE p) = 1 then at0 px ((x - dictN d (P.STCH_X0 p) + dictN d (P.STCH_CD_SHIFT p)) * comps + c)
  else
    let w := dictN d (P.PORT_WIDTH p)
    let q := srcPos d p x
    let i := Int.fdiv q 64
    let ph := (q % 64).toNat
    let acc : Int := (List.range 8).foldl (fun acc t =>
      let h := coef d (dictN d (P.STCH_CD_SET p)) ph t + (if t = 3 then 16384 else 0)
      acc + h * (at0 px (mirror w (i - 3 + t) * comps + c) : Int)) 0
    satU (rnd acc 14) 16

/-! ### Weights and blending (R205 to R207) -/

/-- R205: the weight at `x` of a range E0 to E1 with ramps. -/
def rampWeight (e0 e1 l r x : Nat) : Nat :=
  if x < e0 ∨ e1 < x then 0
  else
    let a := if x < e0 + l then min 65536 (((x + 1 - e0) * 65536 + (l + 1) / 2) / (l + 1)) else 65536
    if e1 < x + r then min a (((e1 + 1 - x) * 65536 + (r + 1) / 2) / (r + 1)) else a

/-- R205: column `x` and row `y` of the output lie in port `p`'s coverage range. -/
def covers (d : Dict) (p x y : Nat) : Bool :=
  if areaMode d then
    decide (dictN d (P.STCH_TILE_X p) ≤ x ∧ x < dictN d (P.STCH_TILE_X p) + dictN d (P.PORT_WIDTH p) ∧
      dictN d (P.STCH_TILE_Y p) ≤ y ∧ y < dictN d (P.STCH_TILE_Y p) + dictN d (P.PORT_HEIGHT p))
  else decide (dictN d (P.STCH_X0 p) ≤ x ∧ x ≤ dictN d (P.STCH_X1 p))

/-- R205: the weight of port `p` at column `x` and row `y`. -/
def weight (d : Dict) (p x y : Nat) : Nat :=
  let l := dictN d (P.STCH_RAMP_L p)
  let r := dictN d (P.STCH_RAMP_R p)
  if areaMode d then
    let tx := dictN d (P.STCH_TILE_X p)
    let ty := dictN d (P.STCH_TILE_Y p)
    rampWeight tx (tx + dictN d (P.PORT_WIDTH p) - 1) l r x *
      rampWeight ty (ty + dictN d (P.PORT_HEIGHT p) - 1) (dictN d (P.STCH_RAMP_T p)) (dictN d (P.STCH_RAMP_B p)) y
  else rampWeight (dictN d (P.STCH_X0 p)) (dictN d (P.STCH_X1 p)) l r x

/-- R202, R204, R210: the sample of a part at an output pixel. -/
def partSample (d : Dict) (comps : Nat) (px : List Nat) (p x c : Nat) : Nat :=
  if areaMode d then at0 px ((x - dictN d (P.STCH_TILE_X p)) * comps + c) else mapped d p comps px x c

/-- R206: the output samples of column `x`, and whether S > 0. -/
def blend (d : Dict) (parts : List PortPart) (x y : Nat) : List Nat × Bool :=
  let comps := dictN d P.STCH_OUT_COMPONENTS
  let ws := parts.filterMap (fun q => match q.px with
    | some px => let w := weight d q.port x y; if w = 0 then none else some (w, q.port, px)
    | none => none)
  let sum := (ws.map (fun q => q.1)).sum
  if sum = 0 then (List.replicate comps (dictN d P.STCH_OUT_FILL_VALUE), false)
  else ((List.range comps).map (fun c =>
    (2 * (ws.map (fun q => q.1 * partSample d comps q.2.2 q.2.1 x c)).sum + sum) / (2 * sum)), true)

/-- R207: the bytes of a coverage mask. -/
def maskBytes (m : List Bool) : List Byte :=
  leBytes ((m.length + 7) / 8) (m.foldr (fun b acc => b2n b + 2 * acc) 0)

/-! ### The stitched line (R207 to R209, R213) -/

/-- R14: the flags ORed from the contributing lines: LOSS, FILL, LINK_CHECK_ERR, STAGE_CHECK_ERR, UNCERTAIN_EPOCH, ADOPTED,
THROTTLED. -/
def orMask : Word16 := 0x01F3

/-- R14: the flags copied from the reference line. -/
def refMask : Word16 := 0x1E00

/-- R82 step 1: the epoch of the next stitched line, whose reference line carries `refEpoch`. -/
def stitchEpoch (s : State) (refEpoch : Nat) (fs : Bool) : Nat :=
  match s.sys.cinch with
  | some c => if c.phase = 2 ∧ 16 ∈ c.waiting ∧ refEpoch = s.sys.epoch ∧ (fs ∨ 16 ∉ c.frameOnly) then s.sys.epoch else s.stch.epoch
  | none => s.stch.epoch

/-- R213: a stitched line enters its preview row; a full row leaves for the PREV product. -/
def previewRow (d : Dict) (l : Line) (s : State) : State :=
  let dx := dictN d P.STCH_OUT_PREV_DX
  let dy := dictN d P.STCH_OUT_PREV_DY
  let t := l.stamp
  let n := dictN d P.STCH_OUT_WIDTH / dx * l.comps
  let sums := (List.range n).map (fun k =>
    ((List.range dx).map (fun j => at0 l.px ((k / l.comps * dx + j) * l.comps + k % l.comps))).sum)
  let row : PrevRow := match s.stch.prevRow with
    | some r => if t.lineInFrame % dy = 0 then ⟨t, sums, 1⟩
        else ⟨{ r.stamp with flags := r.stamp.flags ||| t.flags }, List.zipWith (· + ·) r.sums sums, r.lines + 1⟩
    | none => ⟨t, sums, 1⟩
  if row.lines < dy then
    (if s.stch.prevRow.isNone ∧ t.lineInFrame % dy ≠ 0 then s else { s with stch.prevRow := some row })
  else
    let px := row.sums.map (fun (v : Nat) => (rnd (v : Int) (Nat.log2 (dx * dy))).toNat)
    let st := { row.stamp with lineCheck := lineCheck px }
    feed { product := 4, source := 0xFF, epoch := st.epoch, firstId := st.globalLine, chunks := [.stamp st, .bytes (pxBytes px)], frame := st.frame,
           lineInFrame := st.lineInFrame, frameStart := hasFlag st.flags 13, last := hasFlag st.flags 14, loss := hasFlag st.flags 0, refNs := stampNs t }
      { s with stch.prevRow := none }

/-- R253: the stitched line n is written to slot n mod HIST_DEPTH of the line history. -/
def writeHistory (d : Dict) (l : Line) (s : State) : State :=
  let depth := dictN d P.RECD_HIST_DEPTH
  if dictVal d P.RECD_HIST_EN = 1 then
    let h := s.recd.hist.filter (fun e => e.2.stamp.globalLine % depth != l.stamp.globalLine % depth) ++ [(s.stch.runNo, l)]
    { s with recd.hist := h.drop (h.length - depth) }
  else s

/-- R226: the published sets of the running stitched channels, whichever component each of them measures. -/
def refSets (d : Dict) (s : State) : List RefSet :=
  ((List.range 16).filter (fun c => (prof s c).run && dictVal d (P.PROF_SRC c) == 16)).map
    (fun c => let x := prof s c; ⟨c, dictN d (P.PROF_C0 c), dictN d (P.PROF_C1 c), x.pubRef, x.pubSigma, x.pubValid⟩)

/-- R234: the sets of channels that still run; a channel that has stopped leaves its columns without a reference until its next latch. -/
def keepRefs (d : Dict) (refs : List RefSet) : List RefSet :=
  refs.filter (fun r => dictVal d (P.PROF_RUN r.chan) == 1 && dictVal d (P.PROF_SRC r.chan) == 16)

/-- R234: of the sets latched for the frame, those of the component that SEGM classes on a line. -/
def compRefs (d : Dict) (refs : List RefSet) : List RefSet := refs.filter (fun r => dictVal d (P.PROF_COMP r.chan) == dictVal d P.SEGM_COMP)

/-- R208: a stitched line goes to PROF, SEGM, the line history, and the products. `profUps` and `ups` are the samples that PROF and the unit former read
otherwise (R404). -/
def emitStitched (d : Dict) (l : Line) (profUps ups : List (Nat × Nat)) (s : State) : State :=
  let t := l.stamp
  let fs := hasFlag t.flags 13
  let s := { s with stch.emitted := s.stch.emitted + 1, stch.lost := s.stch.lost + b2n (hasFlag t.flags 0), stch.gaps := s.stch.gaps + b2n (hasFlag t.flags 15) }
  let s := raiseIf fs 330 t.globalLine s
  let s := forEach [3, 4, 5, 6, 9] (fun p s => switchFlows p 0xFF t.epoch s) (switchProfiles 16 t.epoch s)
  let refs := if fs then some (refSets d s) else none
  let s := if s.segm.run || dictVal d P.SEGM_RUN == 1 || !s.segm.inq.isEmpty then { s with segm.inq := s.segm.inq ++ [(l, refs)], segm.runNo := s.stch.runNo }
    else { s with segm.refs := keepRefs d (refs.getD s.segm.refs) }
  let s := feedProfiles 16 l.comps t (upsetPx profUps l.px) s
  let s := writeHistory d l s
  let l : Line := { l with px := upsetPx ups l.px }
  let body : List Chunk := [.stamp t, .bytes (pxBytes l.px)]
  let masked : List Chunk := [.stamp t, .bytes (padTo 8 (maskBytes l.mask)), .bytes (pxBytes l.px)]
  previewRow d l (feedLine 7 t.globalLine (lineCheck l.px == t.lineCheck) (lineItem (if areaMode d then 9 else 3) 0xFF l body masked) s)

/-- R206 to R208: form output row `y` from the parts. `ref` is the reference line, `bad` tells that a check or a read-back
failed. -/
def formRow (d : Dict) (parts : List PortPart) (ref : Stamp) (epoch y lineInFrame frame globalLine : Nat) (fs fe bad : Bool) : Line :=
  let w := dictN d P.STCH_OUT_WIDTH
  let cols := (List.range w).map (fun x => blend d parts x y)
  let mask := cols.map Prod.snd
  let px := cols.flatMap Prod.fst
  let ports := contributors d
  let covered := (List.range w).map (fun x => ports.any (fun p => covers d p x y))
  let gap := covered.any (!·)
  let lost := (List.zipWith (fun c m => c && !m) covered mask).any id
  let flags := parts.foldl (fun f q => q.read.foldl (fun f r => f ||| (r.2.2.stamp.flags &&& orMask)) f) (ref.flags &&& refMask)
  let flags := setFlagIf gap (setFlagIf fe (setFlagIf fs (setFlagIf bad (setFlagIf lost flags 0) 5) 13) 14) 15
  { stamp := { port := 0xFF, flags := flags, lineInFrame := lineInFrame, frame := frame, epoch := epoch, globalLine := globalLine, timeS := ref.timeS
               timeNs := ref.timeNs, position := ref.position, lineCheck := lineCheck px }
    comps := dictN d P.STCH_OUT_COMPONENTS, px := px, mask := mask }

end Sys2Proof.Machine
end

