-- ==== Sys2Proof/Machine/Segment.lean ====
section
/-! DEFINITION. Machine/Segment.lean: segmentation (chapter "Segmentation of the Stitched Image"). -/
namespace Sys2Proof.Machine

/-- A pixel of a line after R234: its column, value, class, whole reference ρ (R243), and that its reference was invalid. -/
structure PixClass where
  x     : Nat
  v     : Nat
  cls   : Nat
  rho   : Nat
  noref : Bool

/-- A run (R236): class set, limits, member pixels, and the mark of a mask gap beside it. -/
structure Run where
  set     : Nat
  a       : Nat
  b       : Nat
  members : List PixClass
  gapAdj  : Bool

/-- R234, R226: the published ref, σ and valid bit of a column; invalid where no channel covers it. -/
def refAt (refs : List RefSet) (x : Nat) : Nat × Nat × Bool :=
  match refs.find? (fun r => decide (r.c0 ≤ x ∧ x ≤ r.c1)) with
  | some r => (at0 r.ref (x - r.c0), at0 r.sigma (x - r.c0), r.valid)
  | none => (0, 0, false)

/-- R234: the class of column `x`. -/
def classPix (d : Dict) (refs : List RefSet) (skip : Bool) (mask : Bool) (x v : Nat) : PixClass :=
  let (r, sg, valid) := refAt refs x
  let fixed := dictVal d P.SEGM_NOREF_MODE == 1
  let refv := if valid then some r else if fixed then some (dictN d P.SEGM_FIX_REF * 256) else none
  let sig := if valid then sg else 0
  let en := fun k => bitOf (dictN d P.SEGM_CLASS_EN) k
  let rho := match refv with | some q => (rnd (q : Int) 8).toNat | none => v
  let cls :=
    if !mask || decide (x < dictN d P.SEGM_X_START) || decide (dictN d P.SEGM_X_END < x) || skip then 0
    else if dictN d P.SEGM_SAT_LEVEL ≤ v ∧ en 3 then 3
    else match refv with
      | none => 0
      | some q =>
        let td := max (dictN d P.SEGM_T_DARK * 256) (rnd ((dictN d P.SEGM_K_DARK * sig : Nat) : Int) 8).toNat
        let tb := max (dictN d P.SEGM_T_BRIGHT * 256) (rnd ((dictN d P.SEGM_K_BRIGHT * sig : Nat) : Int) 8).toNat
        if en 1 ∧ v * 256 + td < q then 1 else if en 2 ∧ q + tb < v * 256 then 2 else 0
  ⟨x, v, cls, rho, !valid⟩

/-- R236: a column in the gap after `b` and before `x` whose mask bit is 0. -/
def maskGap (mask : List Bool) (b x : Nat) : Bool := ((mask.drop (b + 1)).take (x - b - 1)).any (!·)

/-- R236: member pixels of one class set, in column order, join into runs. -/
def joinRuns (set gapX : Nat) (mask : List Bool) (ms : List PixClass) : List Run :=
  let blocked := fun (k : Int) => decide (0 ≤ k) && decide (k < mask.length) && !((mask[k.toNat]?).getD true)
  let runs := ms.foldl (fun (acc : List Run) m =>
    match acc with
    | r :: rest =>
      let gap := m.x - r.b - 1
      if gap ≤ gapX ∧ ¬ maskGap mask r.b m.x then { r with b := m.x, members := r.members ++ [m] } :: rest
      else
        let adj := decide (gap ≤ gapX) && maskGap mask r.b m.x
        ⟨set, m.x, m.x, [m], adj⟩ :: { r with gapAdj := r.gapAdj || adj } :: rest
    | [] => [⟨set, m.x, m.x, [m], false⟩]) []
  runs.reverse.map (fun r => { r with gapAdj := r.gapAdj || blocked ((r.a : Int) - 1) || blocked ((r.b : Int) + 1) })

/-- R236, R237: the runs of a line in the order in which they are processed. -/
def lineRuns (d : Dict) (mask : List Bool) (px : List PixClass) : List Run :=
  let gx := dictN d P.SEGM_GAP_X
  if dictVal d P.SEGM_MERGE_CLASSES = 1 then joinRuns 0 gx mask (px.filter (fun p => p.cls ≠ 0))
  else
    let all := [1, 2, 3].flatMap (fun k => joinRuns k gx mask (px.filter (fun p => p.cls == k)))
    all.insertionSort (fun r q => r.a < q.a ∨ (r.a = q.a ∧ r.set ≤ q.set))

/-- What a line works on: the open objects in ascending number, the segments cut, the object counter, the contexts in use and the
frontier entries taken, the counters, and the events raised (source and argument). -/
structure SegWork where
  objs   : List Obj
  cuts   : List Obj := []
  next   : Nat
  ctx    : Nat
  store  : Nat
  counts : SegmCounts
  events : List (Nat × Nat) := []

/-- R242: object `o` is folded into survivor `s`. -/
def foldObj (s o : Obj) : Obj :=
  let first := min s.first o.first
  let ext := fun (f : Nat → Nat → Nat) (u v : Nat) => if o.empty then u else if s.empty then v else f u v
  let alts := ([some o.chain, o.alt, s.alt].filterMap id).filter (fun c => c ≠ s.chain)
  { s with
    first := first, posFirst := if o.first < s.first then o.posFirst else s.posFirst
    last := max s.last o.last, posLast := if s.last < o.last then o.posLast else s.posLast, lo := max s.lo o.lo
    xMin := ext min s.xMin o.xMin, vMin := ext min s.vMin o.vMin, xMax := ext max s.xMax o.xMax, vMax := ext max s.vMax o.vMax
    ports := s.ports ||| o.ports, flags := setFlagIf (o.chain != s.chain) (s.flags ||| o.flags) 9
    area := s.area + o.area, nDark := s.nDark + o.nDark, nBright := s.nBright + o.nBright, nSat := s.nSat + o.nSat, sumX := s.sumX + o.sumX
    sumY := s.sumY + s.area * (s.first - first) + (o.sumY + o.area * (o.first - first)), sumD := s.sumD + o.sumD, sumD2 := s.sumD2 + o.sumD2
    runs := min (s.runs + o.runs) (2 ^ 32 - 1), merges := min (s.merges + o.merges + 1) 65535, loss := max s.loss o.loss
    alt := alts.foldl (fun m c => match m with | some k => some (min k c) | none => some c) none
    frontier := s.frontier ++ o.frontier, newRuns := s.newRuns ++ o.newRuns, empty := s.empty && o.empty }

/-- R247: the ports whose coverage meets columns a to b at row `y`. -/
def portsOf (d : Dict) (a b y : Nat) : Nat :=
  ((contributors d).filter (fun p =>
    if areaMode d then
      decide (dictN d (P.STCH_TILE_X p) ≤ b ∧ a < dictN d (P.STCH_TILE_X p) + dictN d (P.PORT_WIDTH p) ∧
        dictN d (P.STCH_TILE_Y p) ≤ y ∧ y < dictN d (P.STCH_TILE_Y p) + dictN d (P.PORT_HEIGHT p))
    else decide (dictN d (P.STCH_X0 p) ≤ b ∧ a ≤ dictN d (P.STCH_X1 p)))).foldl (fun m p => m + 2 ^ p) 0

/-- R243: one member pixel joins an object on line `n`. -/
def addPixel (n : Nat) (o : Obj) (p : PixClass) : Obj :=
  let dv : Int := (p.v : Int) - p.rho
  { o with
    area := o.area + 1, nDark := o.nDark + b2n (p.cls == 1), nBright := o.nBright + b2n (p.cls == 2), nSat := o.nSat + b2n (p.cls == 3)
    sumX := o.sumX + p.x, sumY := o.sumY + (n - o.first), sumD := o.sumD + dv, sumD2 := o.sumD2 + dv.natAbs * dv.natAbs
    vMin := min o.vMin p.v, vMax := max o.vMax p.v, flags := setFlagIf p.noref o.flags 10 }

/-- R243: a run on the line of stamp `t` joins an object. -/
def addRun (d : Dict) (t : Stamp) (r : Run) (o : Obj) : Obj :=
  let n := t.globalLine
  let v0 := (r.members.head?.map PixClass.v).getD 0
  let o := if o.empty then { o with xMin := r.a, xMax := r.b, vMin := v0, vMax := v0, empty := false } else o
  let o := r.members.foldl (addPixel n) o
  let ports := o.ports ||| portsOf d r.a r.b t.lineInFrame
  let edge := r.a == dictN d P.SEGM_X_START || r.b == dictN d P.SEGM_X_END ||
    (areaMode d && (t.lineInFrame == 0 || t.lineInFrame + 1 == dictN d P.STCH_OUT_HEIGHT))
  let seam := decide (2 ≤ ((List.range 16).filter (fun p => bitOf ports p)).length)
  { o with
    xMin := min o.xMin r.a, xMax := max o.xMax r.b, runs := min (o.runs + 1) (2 ^ 32 - 1), last := max o.last n
    posLast := if o.last < n then t.position else o.posLast, ports := ports, lo := n
    flags := setFlagIf seam (setFlagIf edge (setFlagIf r.gapAdj o.flags 4) 6) 3
    newRuns := if o.region.isSome then o.newRuns else o.newRuns ++ [(r.a, r.b)] }

/-- R240: a new object on the line of stamp `t`. -/
def newObj (num set : Nat) (t : Stamp) (region : Option Nat) : Obj :=
  { num := num, chain := num, set := set, first := t.globalLine, last := t.globalLine, posFirst := t.position, posLast := t.position, lo := t.globalLine
    region := region, flags := if region.isSome then 4 else 0 }

/-- R245: a due object is cut: the segment so far, and its continuation under a new number, whose context is the same memory (R246). -/
def cutObj (num : Nat) (t : Stamp) (o : Obj) : Obj × Obj :=
  ({ o with flags := setFlag o.flags 0, newRuns := [] },
   { newObj num o.set t o.region with
     chain := o.chain, flags := setFlagIf (hasFlag o.flags 11) (setFlagIf o.region.isSome 2 2) 11, lo := o.lo, frontier := o.frontier, newRuns := o.newRuns, held := o.held })

/-- R245: the due objects among those named are cut, in ascending number. -/
def cutDue (t : Stamp) (nums : List Nat) (w : SegWork) : SegWork × List Nat :=
  nums.foldl (fun (acc : SegWork × List Nat) k =>
    match acc.1.objs.find? (fun o => o.num == k) with
    | some o =>
      if o.due then
        let (seg, cont) := cutObj acc.1.next t o
        ({ acc.1 with objs := acc.1.objs.filter (fun q => q.num != k) ++ [cont], cuts := acc.1.cuts ++ [seg], next := acc.1.next + 1,
                      counts := { acc.1.counts with cuts := acc.1.counts.cuts + 1, opened := acc.1.counts.opened + 1 },
                      events := acc.1.events ++ [(348, seg.num)] }, acc.2 ++ [cont.num])
      else (acc.1, acc.2 ++ [k])
    | none => acc) (w, [])

/-- Replace an object by number. -/
def putObj (o : Obj) (w : SegWork) : SegWork := { w with objs := w.objs.map (fun q => if q.num = o.num then o else q) }

/-- R241: a run joins the overflow object of its region. -/
def overflowRun (d : Dict) (t : Stamp) (r : Run) (w : SegWork) : SegWork :=
  let g := r.a / 4096
  match w.objs.find? (fun o => o.region == some g) with
  | some o =>
    let (w, ids) := cutDue t [o.num] w
    match ids.head? with
    | some k => (match w.objs.find? (fun q => q.num == k) with
        | some q => putObj (addRun d t r q) w
        | none => w)
    | none => w
  | none =>
    let o := addRun d t r (newObj w.next 0 t (some g))
    { w with objs := w.objs ++ [o], next := w.next + 1, counts.opened := w.counts.opened + 1, events := w.events ++ [(347, o.num)] }

/-- R238: run `r` is connected to a frontier run [c, d]. -/
def connected (gapX : Nat) (r : Run) (f : Nat × Nat) : Bool := decide (f.1 ≤ r.b + 1 + gapX) && decide (r.a ≤ f.2 + 1 + gapX)

/-- R239: one run is treated. -/
def treatRun (d : Dict) (t : Stamp) (w : SegWork) (r : Run) : SegWork :=
  let w := { w with counts.runs := w.counts.runs + 1 }
  if 65536 ≤ w.store then overflowRun d t r { w with counts.ovfFront := w.counts.ovfFront + 1 }
  else
    let found := (w.objs.filter (fun o => o.region.isNone && o.set == r.set && o.frontier.any (connected (dictN d P.SEGM_GAP_X) r))).map Obj.num
    let (w, ids) := cutDue t found w
    match ids.foldl (fun m k => match m with | some j => some (min j k) | none => some k) (none : Option Nat) with
    | none =>
      if 16384 ≤ w.ctx then overflowRun d t r { w with counts.ovfCtx := w.counts.ovfCtx + 1 }
      else
        let o := addRun d t r (newObj w.next r.set t none)
        { w with objs := w.objs ++ [o], next := w.next + 1, ctx := w.ctx + 1, store := w.store + 1, counts.opened := w.counts.opened + 1 }
    | some k =>
      match w.objs.find? (fun o => o.num == k) with
      | none => w
      | some s0 =>
        let others := w.objs.filter (fun o => ids.contains o.num && o.num != k)
        let s1 := others.foldl foldObj s0
        let freed := (others.map Obj.held).sum
        let w := { w with objs := w.objs.filter (fun o => !(ids.contains o.num && o.num != k)), store := w.store - freed + 1
                          counts.merges := w.counts.merges + others.length }
        putObj (addRun d t r s1) w

/-- R245, R246: hand over an object at the end of the line of stamp `t`, under its number as read. -/
def handOver (t : Stamp) (runNo rowZero : Nat) (o : Obj) : ClosedObj :=
  { obj := { o with num := o.numRead.getD o.num, flags := setFlagIf (decide (o.loss ≠ 0)) o.flags 5, loss := min o.loss (2 ^ 32 - 1) }, epoch := t.epoch, h := t.globalLine, refNs := stampNs t
    runNo := runNo, rowZero := rowZero }

/-- R246: an object closed with too small an area is counted and not handed over. -/
def keepsObj (minArea : Nat) (o : Obj) : Bool := decide (minArea ≤ o.area) || hasFlag o.flags 0 || hasFlag o.flags 1 || hasFlag o.flags 11

/-- R245 steps 1 to 4: the end of a line: cuts and closed objects leave in ascending number. `closes` names the objects that close
with the flags they gain. -/
def endLine (d : Dict) (t : Stamp) (rowZero : Nat) (lineLoss : Bool) (closes : Obj → Option Word16) (w : SegWork) (s : State) : State :=
  let bump := fun (o : Obj) => { o with loss := o.loss + b2n lineLoss }
  let objs := w.objs.map bump
  let shut := objs.filterMap (fun o => (closes o).map (fun f => { o with flags := o.flags ||| f }))
  let left := objs.filter (fun o => (closes o).isNone)
  let maxLen := dictN d P.SEGM_MAX_LENGTH
  let left := left.map (fun o => { o with
    due := o.due || decide (maxLen ≤ (t.globalLine + 2 ^ 48 - o.first) % 2 ^ 48 + 1), frontier := if o.newRuns.isEmpty then o.frontier else o.newRuns
    held := if o.newRuns.isEmpty then o.frontier.length else o.newRuns.length, newRuns := [] })
  let minArea := dictN d P.SEGM_MIN_AREA
  let go := ((w.cuts.map bump) ++ shut.filter (keepsObj minArea)).insertionSort (fun a b => a.num ≤ b.num)
  let outs := go.map (handOver t s.segm.runNo rowZero)
  let fe := hasFlag t.flags 14
  let outs := outs.mapIdx (fun i o => { o with lastOf := fe && i + 1 == outs.length })
  let c := w.counts
  let c := { c with handed := c.handed + outs.length, small := c.small + (shut.filter (fun o => !keepsObj minArea o)).length,
                    ovfClosed := c.ovfClosed + (shut.filter (fun o => o.region.isSome)).length }
  let s := { s with segm.objs := left, segm.next := w.next, segm.counts := c, recd.inq := s.recd.inq ++ outs }
  forEach w.events (fun e s => raise e.1 e.2 s) s

/-- R78, R263: the S-class values that waited for RECD to stop take effect. -/
def applyRecd (s : State) : State :=
  match s.sys.recdLater with
  | some d => { s with sys.applied := overlay s.sys.applied d, sys.recdLater := none }
  | none => s

/-- R263, R267: RECD stops once nothing waits. -/
def stopRecdIfDone (s : State) : State :=
  if s.recd.stopping && s.recd.inq.isEmpty && s.recd.patches.isEmpty then
    closeProduct 5 0xFF (applyRecd { s with recd.run := false, recd.stopping := false })
  else s

/-- R245: SEGM stops: every open object closes with STOPPED. -/
def stopSegm (s : State) : State :=
  let s := match s.segm.lastLine with
    | some t =>
      let d := dictAt s s.segm.epoch
      endLine d t s.segm.rowZero false (fun _ => some (0x100 : Word16))
        { objs := s.segm.objs, next := s.segm.next, ctx := 0, store := 0, counts := s.segm.counts } s
    | none => s
  stopRecdIfDone { s with segm.run := false, segm.objs := [], segm.lastLine := none, segm.stopping := false, recd.stopping := s.recd.run }

/-- R240, R235: SEGM starts. -/
def startSegm (epoch : Nat) (s : State) : State :=
  { s with segm.run := true, segm.epoch := epoch, segm.objs := [], segm.next := 0, segm.skip := false, segm.lastLine := none, segm.stopping := false,
           recd.run := true, recd.stopping := false } |> applyRecd

/-- R246: a field of an object's context, or an entry of its frontier (23), as an uncorrectable error leaves it: `v` is a free value. OBJECT (24) is as read in what
is handed over. -/
def spoil (f v : Nat) (o : Obj) : Obj :=
  match f with
  | 0 => { o with area := v % 2 ^ 48 }
  | 1 => { o with nDark := v % 2 ^ 48 }
  | 2 => { o with nBright := v % 2 ^ 48 }
  | 3 => { o with nSat := v % 2 ^ 48 }
  | 4 => { o with sumX := v % 2 ^ 56 }
  | 5 => { o with sumY := v % 2 ^ 56 }
  | 6 => { o with sumD := ofCode 56 v }
  | 7 => { o with sumD2 := v % 2 ^ 72 }
  | 8 => { o with xMin := v % 2 ^ 18 }
  | 9 => { o with xMax := v % 2 ^ 18 }
  | 10 => { o with vMin := v % 2 ^ 16 }
  | 11 => { o with vMax := v % 2 ^ 16 }
  | 12 => { o with runs := v % 2 ^ 32 }
  | 13 => { o with merges := v % 2 ^ 16 }
  | 14 => { o with ports := v % 2 ^ 16 }
  | 15 => { o with posFirst := ofCode 48 v }
  | 16 => { o with posLast := ofCode 48 v }
  | 17 => { o with loss := v % 2 ^ 32 }
  | 18 => { o with first := v % 2 ^ 48 }
  | 19 => { o with last := v % 2 ^ 48 }
  | 20 => { o with chain := v % 2 ^ 64 }
  | 21 => { o with alt := if v % 2 ^ 64 = 2 ^ 64 - 1 then none else some (v % 2 ^ 64) }
  | 22 => { o with flags := BitVec.ofNat 16 v }
  | 23 => { o with frontier := o.frontier.set (v % max 1 o.frontier.length) (v / 2 ^ 16 % 2 ^ 18, v / 2 ^ 34 % 2 ^ 18) }
  | 24 => { o with numRead := some (v % 2 ^ 64) }
  | _ => { o with set := v % 4 }

/-- R246: the objects whose memory held an uncorrectable error on this line carry ECC_ERR, their fields as read. -/
def spoilObjs (ecc : List (Nat × Fin 26)) (s : State) : State :=
  forEach ecc (fun e s =>
    let (v, s) := fresh s
    { s with segm.objs := s.segm.objs.map (fun o => if o.num = e.1 then (let o := spoil e.2.val v o; { o with flags := setFlag o.flags 11 }) else o) }) s

/-- R233 to R246: SEGM_LINE: the next stitched line is segmented. `ecc` are the open objects whose memory held an uncorrectable error on this
line, by number, each with the field that it struck (R246), `upset` samples that a memory error changed since the stitcher (R404). -/
def execSegmLine (ecc : List (Nat × Fin 26)) (upset : List (Nat × Nat)) (s : State) : Host.Outcome State Fault Refusal :=
  match s.segm.inq with
  | [] => .next s
  | (l, refs) :: rest =>
    let t := l.stamp
    let n := t.globalLine
    if dataPathHeld s || waitsHeartbeat s 16 n then .next s
    else
      let d := dictAt s t.epoch
      let s := { s with segm.inq := rest, segm.refs := keepRefs d (refs.getD s.segm.refs) }
      let s := if dictVal d P.SEGM_RUN = 1 then (if s.segm.run then s else startSegm t.epoch s) else if s.segm.run then stopSegm s else s
      if !s.segm.run then .next s
      else
        let px := upsetPx upset l.px
        let s := verifyLine 9 t px s
        let out := forcedOut s 9 0
        let t : Stamp := { t with flags := setFlagIf out t.flags 0 }
        let l : Line := { l with mask := if out then [] else l.mask }
        let (kinds, s) := beginLine 16 n s
        let skip := if kinds.contains 1 then false else s.segm.skip || kinds.contains 0
        let force := kinds.contains 2
        let refs := compRefs d s.segm.refs
        let s := spoilObjs ecc s
        let rowZero := if hasFlag t.flags 13 then n else s.segm.rowZero
        let w := dictN d P.STCH_OUT_WIDTH
        let comp := dictN d P.SEGM_COMP
        let pix := (List.range w).map (fun x => classPix d refs skip ((l.mask[x]?).getD false) x (at0 px (x * l.comps + comp)))
        let cnt := fun k => (pix.filter (fun p => p.cls == k)).length
        let c := s.segm.counts
        let c := { c with lines := c.lines + 1, dark := c.dark + cnt 1, bright := c.bright + cnt 2, sat := c.sat + cnt 3,
                          noref := c.noref + (pix.filter (fun p => p.cls != 0 && p.noref)).length }
        let open_ := (s.segm.objs.filter (fun o => o.region.isNone)).length
        let work : SegWork := { objs := s.segm.objs, next := s.segm.next, ctx := open_, store := (s.segm.objs.map Obj.held).sum, counts := c }
        let work := (lineRuns d l.mask pix).foldl (treatRun d t) work
        let work := { work with counts.high := max work.counts.high work.ctx }
        let frameEnds := areaMode d && hasFlag t.flags 14
        let closes := fun (o : Obj) =>
          if force then some (0x80 : Word16)
          else if hasFlag o.flags 11 || frameEnds || decide (o.lo + dictN d P.SEGM_GAP_Y + 1 ≤ n) then some 0
          else none
        let s := { s with segm.skip := skip, segm.rowZero := rowZero, segm.lastLine := some t, segm.epoch := t.epoch }
        let s := endLine d t rowZero (hasFlag t.flags 0) closes work s
        .next (if s.segm.stopping && s.segm.inq.isEmpty then stopSegm s else s)

end Sys2Proof.Machine
end

