-- ==== Sys2Proof/Machine/Record.lean ====
section
/-! DEFINITION. Machine/Record.lean: object records, patches and marking (chapter "Object Records, Patches and Marking"). -/
namespace Sys2Proof.Machine

/-! ### Derived values (R255) -/

/-- Rounded division of a sum, scaled by 2^8, by the area: (2 * (x << 8) + A) // (2 * A). An area of 0, which only an uncorrectable error
leaves (R246), gives a free value (DESIGN CHOICE, log entry 119). -/
def meanCode (x : Int) (a : Nat) : Int := if a = 0 then Config.derived 0 x 0 else Int.fdiv (2 * (x * 256) + a) (2 * a)

/-- R255: POS_CENTRE. -/
def posCentre (o : Obj) : Int :=
  let dl : Int := (o.last : Int) - o.first
  if dl = 0 then o.posFirst
  else o.posFirst + Int.fdiv (2 * (o.posLast - o.posFirst) * meanCode o.sumY o.area + 256 * dl) (512 * dl)

/-- R255: CD_UM(x). -/
def cdUm (d : Dict) (x : Nat) : Int := satS (rnd ((x : Int) * dictVal d P.RECD_UM_PER_COL) 20 + dictVal d P.RECD_CD_ORIGIN_UM) 32

/-- R255: MD_UM. -/
def mdUm (d : Dict) (o : Obj) : Int := satS (rnd ((posCentre o - dictVal d P.RECD_MD_ORIGIN) * dictVal d P.RECD_UM_PER_COUNT) 16) 48

/-- R255: SD_D, a free value where no z satisfies its inequality or every z does (log entry 119). -/
def sdCode (o : Obj) : Nat :=
  let q : Int := (o.area : Int) * o.sumD2 - o.sumD * o.sumD
  if o.area = 0 ∨ q < 0 then (Config.derived 1 o.area q).toNat % 2 ^ 32 else isqrt ((65536 * q).toNat / (o.area * o.area))

/-- R256: record FLAGS bits 10:0 and 13. -/
def recFlags (o : Obj) : Nat := o.flags.toNat % 2048 + 8192 * b2n (hasFlag o.flags 11)

/-- R259: a rule feature. -/
def feature (d : Dict) (o : Obj) (code : Nat) : Int :=
  let len : Int := (o.last : Int) - o.first + 1
  let width : Int := (o.xMax : Int) - o.xMin + 1
  match code with
  | 0x00 => o.area
  | 0x01 => len
  | 0x02 => width
  | 0x03 => rnd (((o.posLast - o.posFirst).natAbs : Int) * dictVal d P.RECD_UM_PER_COUNT) 16
  | 0x04 => cdUm d o.xMax - cdUm d o.xMin
  | 0x05 => o.nDark
  | 0x06 => o.nBright
  | 0x07 => o.nSat
  | 0x08 => o.vMin
  | 0x09 => o.vMax
  | 0x0A => meanCode o.sumD o.area
  | 0x0B => sdCode o
  | 0x0C => meanCode o.sumX o.area
  | 0x0D => satS (rnd (meanCode o.sumX o.area * dictVal d P.RECD_UM_PER_COL) 28 + dictVal d P.RECD_CD_ORIGIN_UM) 32
  | 0x0E => o.set
  | 0x0F => recFlags o
  | 0x10 => o.ports
  | 0x11 => o.runs
  | _ => if len * width = 0 then Config.derived 2 o.area 0 else Int.fdiv ((o.area : Int) * 256) (len * width)

/-! ### Rules (R258 to R261) -/

/-- A byte of rule `r`. -/
def ruleByte (d : Dict) (r k : Nat) : Nat := tabField d P.RULES (104 * r + k) 1

/-- R258: test `t` of rule `r` passes. -/
def testPasses (d : Dict) (o : Obj) (r t : Nat) : Bool :=
  let b := 104 * r + 8 + 24 * t
  let f := feature d o (tabField d P.RULES b 1)
  let lo := ofCode 64 (tabField d P.RULES (b + 8) 8)
  let hi := ofCode 64 (tabField d P.RULES (b + 16) 8)
  let bits := toCode 64 f &&& toCode 64 lo
  match tabField d P.RULES (b + 1) 1 with
  | 0 => decide (lo ≤ f ∧ f ≤ hi)
  | 1 => decide (f < lo ∨ hi < f)
  | 2 => bits == toCode 64 lo
  | _ => bits == 0

/-- R260: the first enabled rule whose tests all pass. -/
def matchRule (d : Dict) (o : Obj) : Option Nat :=
  firstIdx (fun r => ruleByte d r 0 == 1 && (List.range (ruleByte d r 1)).all (testPasses d o r)) 256

/-- R260: the verdict: RULE, MATCHED, CLASS, SEVERITY, PATCH, MARK and EMIT. -/
structure Verdict where
  rule     : Nat
  matched  : Bool
  cls      : Nat
  severity : Nat
  patch    : Bool
  mark     : Nat
  emits    : Bool

/-- R260. -/
def verdict (d : Dict) (o : Obj) : Verdict :=
  match matchRule d o with
  | some r => ⟨r, true, ruleByte d r 2, ruleByte d r 3, ruleByte d r 4 == 1, ruleByte d r 5, ruleByte d r 6 == 1⟩
  | none => ⟨0, false, dictN d P.RECD_DEF_CLASS, dictN d P.RECD_DEF_SEVERITY, false, 0xFF, dictVal d P.RECD_DEF_EMIT == 1⟩

/-! ### Patches (R262 to R264, R268) -/

/-- R262: the patch of a record: the request, PATCH_TRUNC, PATCH_OVERSIZE, and whether it is cut. -/
def patchOf (d : Dict) (k : ClosedObj) : PatchReq × Bool × Bool × Bool :=
  let o := k.obj
  let mx := dictN d P.RECD_PATCH_MARGIN_X
  let my := dictN d P.RECD_PATCH_MARGIN_Y
  let w := dictN d P.STCH_OUT_WIDTH
  let x0 := o.xMin - mx
  let x1 := min (o.xMax + mx) (w - 1)
  let bottom := o.last + my
  let bottom := if areaMode d then min bottom (k.rowZero + dictN d P.STCH_OUT_HEIGHT - 1) else bottom
  let nCut := max k.h bottom
  let oldest := nCut + 1 - dictN d P.RECD_HIST_DEPTH
  let start := if areaMode d then max (o.first - my) k.rowZero else o.first - my
  let top := max start oldest
  let hist := dictVal d P.RECD_HIST_EN == 1
  let big := decide (dictN d P.RECD_PATCH_MAX_COLS < x1 + 1 - x0) || decide (dictN d P.RECD_PATCH_MAX_LINES < bottom + 1 - start)
  let trunc := decide (start < top)
  let none_ := decide (bottom < top) || !hist
  ({ object := o.num, epoch := k.epoch, runNo := k.runNo, x0 := x0, x1 := x1, top := top, bottom := bottom, nCut := nCut, truncTop := trunc
     clampLeft := decide (o.xMin < mx), clampRight := decide (w - 1 < o.xMax + mx) }, trunc || none_, big, !big && !none_)

/-- R253: line `n` of the stitcher's run `run`, where its slot holds it. -/
def histLine (s : State) (run n : Nat) : Option Line := (s.recd.hist.find? (fun e => e.1 == run && e.2.stamp.globalLine == n)).map Prod.snd

/-- R262: line `n` as a patch sees it: a line that was never written is FILL_VALUE with LOSS. -/
def patchLine (d : Dict) (s : State) (run n : Nat) : Line :=
  match histLine s run n with
  | some l => l
  | none => { stamp := { globalLine := n, flags := 1 }, comps := dictN d P.STCH_OUT_COMPONENTS
              px := List.replicate (dictN d P.STCH_OUT_WIDTH * dictN d P.STCH_OUT_COMPONENTS) (dictN d P.STCH_OUT_FILL_VALUE) }

/-- R268: the chunks of a patch body. -/
def patchBody (d : Dict) (s : State) (q : PatchReq) (bottom : Nat) (truncBottom : Bool) : List Chunk × Bool :=
  let comps := dictN d P.STCH_OUT_COMPONENTS
  let lines := (List.range (bottom + 1 - q.top)).map (fun i => patchLine d s q.runNo (q.top + i))
  let loss := lines.any (fun l => hasFlag l.stamp.flags 0)
  let pf := b2n q.truncTop + 2 * b2n truncBottom + 4 * b2n q.clampLeft + 8 * b2n q.clampRight + 16 * b2n loss
  let head := leBytes 8 q.object ++ leBytes 6 q.top ++ leBytes 2 0 ++ leBytes 4 q.x0 ++ leBytes 4 (q.x1 + 1 - q.x0) ++ leBytes 4 lines.length ++
    leBytes 1 comps ++ leBytes 1 pf ++ leBytes 2 0
  let pad := List.replicate ((8 - 2 * lines.length % 8) % 8) (0 : Byte)
  let px := padTo 8 (lines.flatMap (fun l => pxBytes ((l.px.drop (q.x0 * comps)).take ((q.x1 + 1 - q.x0) * comps))))
  ([.stamp ((lines.head?.map Line.stamp).getD {}), .bytes head, .flags (lines.map (fun l => l.stamp.flags)), .bytes (pad ++ px)], loss)

/-- The newest line of a run in the history. -/
def histLast (s : State) (run : Nat) : Option Nat := ((s.recd.hist.filter (fun e => e.1 == run)).getLast?).map (fun e => e.2.stamp.globalLine)

/-- R262 to R264: PATCH_CUT: the oldest request whose line n_cut is in the ring, or whose stream has ended, is cut. -/
def execPatchCut (s : State) : Host.Outcome State Fault Refusal :=
  let ended := fun (q : PatchReq) => !s.stch.run || s.stch.runNo != q.runNo
  match s.recd.patches.find? (fun q => ended q || (match histLast s q.runNo with | some n => decide (q.nCut ≤ n) | none => false)) with
  | none => .next s
  | some q =>
    if rtpHeld s 7 then .next s else
    let d := dictAt s q.epoch
    let last := (histLast s q.runNo).getD q.bottom
    let bottom := min q.bottom last
    let (chunks, loss) := patchBody d s q bottom (decide (bottom < q.bottom))
    let ref := (histLine s q.runNo (min q.nCut last)).map (fun l => stampNs l.stamp)
    let s := { s with recd.patches := s.recd.patches.erase q, recd.counts.patches := s.recd.counts.patches + 1 }
    .next (stopRecdIfDone (feed { product := 6, source := 0xFF, epoch := q.epoch, firstId := q.object, chunks := chunks, last := true, loss := loss, top := some q.top
                                  refNs := ref.getD (nowNs s) } s))

/-! ### Records and markers (R256, R265 to R267) -/

/-- R265: MARK_POS of station `k`. -/
def markPos (d : Dict) (o : Obj) (k : Nat) : Int :=
  let r := match dictN d (P.RECD_MARK_REF k) with
    | 0 => o.posFirst
    | 1 => posCentre o
    | _ => o.posLast
  satS (r + dictVal d (P.RECD_MARK_OFFSET k)) 48

/-- R266: a marker entry is inserted and its outcome counted. -/
def insertMarker (d : Dict) (o : Obj) (k : Nat) (s : State) : State :=
  let attr := dictN d (P.RECD_MARK_ATTR k)
  let e : PcEntry := { pos := markPos d o k, late := bitOf attr 0, bidir := bitOf attr 1, tag := o.num % 65536, width := dictN d (P.RECD_MARK_WIDTH k) }
  let (r, s) := insertPc (dictN d (P.RECD_MARK_PC k)) e s
  let c := s.recd.counts
  let c := { c with marked := c.marked + b2n (r == 1), missed := c.missed + b2n (r == 3), late := c.late + b2n (r == 4),
                    refused := c.refused + b2n (r == 2 || r == 6) }
  raiseIf (r == 2 || r == 3 || r == 6) 349 o.num { s with recd.counts := c }

/-- R256: the 128 bytes of a record. -/
def recordBytes (d : Dict) (k : ClosedObj) (v : Verdict) (trunc big : Bool) : List Byte :=
  let o := k.obj
  let mark := decide (v.mark < 8)
  let flags := recFlags o + 2048 * b2n trunc + 4096 * b2n big
  leBytes 8 o.num ++ leBytes 8 o.chain ++ leBytes 6 o.first ++ leBytes 6 o.last ++ leBytes 4 k.epoch ++ leBytes 2 flags ++ leBytes 2 o.ports ++
  leBytes 6 (toCode 48 o.posFirst) ++ leBytes 6 (toCode 48 o.posLast) ++ leBytes 6 (toCode 48 (posCentre o)) ++ leBytes 2 o.merges ++
  leBytes 6 (toCode 48 (mdUm d o)) ++ leBytes 2 (min o.loss 65535) ++ leBytes 4 o.xMin ++ leBytes 4 o.xMax ++ leBytes 4 (toCode 32 (cdUm d o.xMin)) ++
  leBytes 4 (toCode 32 (cdUm d o.xMax)) ++ leBytes 6 o.area ++ leBytes 2 o.vMin ++ leBytes 2 o.vMax ++ leBytes 5 (toCode 40 (meanCode o.sumX o.area)) ++
  leBytes 5 (toCode 40 (meanCode o.sumY o.area)) ++ leBytes 7 (toCode 56 o.sumD) ++ leBytes 9 o.sumD2 ++
  leBytes 6 (if mark then toCode 48 (markPos d o v.mark) else 0) ++ leBytes 1 v.rule ++ leBytes 1 v.cls ++ leBytes 1 v.severity ++
  leBytes 1 (if mark then v.mark else 0xFF) ++ leBytes 1 o.set ++ leBytes 1 (b2n v.matched + 2 * b2n v.patch + 4 * b2n mark)

/-- R255 to R268: RECORD_FORMED: the next object handed big becomes a record. A 257th patch waits (R264). -/
def execRecordFormed (s : State) : Host.Outcome State Fault Refusal :=
  match s.recd.inq with
  | [] => .next (stopRecdIfDone s)
  | k :: rest =>
    let d := dictAt s k.epoch
    let o := k.obj
    let v := verdict (asRead s d) o
    let (q, trunc, big, cut) := patchOf d k
    if v.patch && cut && decide (256 ≤ s.recd.patches.length) then .next s
    else
      let trunc := v.patch && trunc
      let big := v.patch && big
      let mark := decide (v.mark < 8)
      let rec_ := recordBytes d k v trunc big
      let c := s.recd.counts
      let c := { c with formed := c.formed + 1, emitted := c.emitted + b2n v.emits, suppressed := c.suppressed + b2n (!v.emits), noRule := c.noRule + b2n (!v.matched),
                        trunc := c.trunc + b2n trunc, oversize := c.oversize + b2n big, markReq := c.markReq + b2n mark }
      let s := { s with recd.inq := rest, recd.counts := c, recd.patches := if v.patch && cut then s.recd.patches ++ [q] else s.recd.patches }
      let s := raiseIf trunc 350 o.num s
      let s := if mark then insertMarker d o v.mark s else s
      let s :=
        if v.emits then
          let s := feed { product := 5, source := 0xFF, epoch := k.epoch, firstId := o.num, chunks := [.bytes rec_], cap := dictN d P.RECD_OBJ_BATCH
                          loss := hasFlag o.flags 5, refNs := k.refNs } s
          let qn := prmN s P.RECD_RECORD_QUEUE
          if qn = 0xFFFF then s
          else
            let (done, t) := unitPush qn (wordsOf rec_) s
            if done then t else { t with recd.counts.dropped := t.recd.counts.dropped + 1 }
        else s
      let s := if k.lastOf then closeUnits false 5 0xFF s else s
      .next (stopRecdIfDone s)

end Sys2Proof.Machine
end

