-- ==== Sys2Proof/Machine/HostPort.lean ====
section
/-! DEFINITION. Machine/HostPort.lean: the two-wire target port HT: its addresses, pointers and function maps (chapter
"Two-Wire Buses"). The doorbell runs a packet and stands in Machine/Commands.lean. -/
namespace Sys2Proof.Machine

/-- R455: the effective base as the configuration gives it. -/
def htBase (s : State) : Nat :=
  prmN s P.TWB_HT_BASE + (if prmB s P.TWIN_RUN then (prmN s P.TWB_HT_MASK + 1) * prmN s P.TWIN_UNIT_ID else 0)

/-- R455: a base and mask take effect at a STOP. -/
def latchBase (s : State) : State := { s with ht.base := htBase s, ht.mask := prmN s P.TWB_HT_MASK }

/-- R455: an address is in the range of the port. -/
def htMatches (s : State) (addr : Nat) : Bool := addr - addr % (s.ht.mask + 1) == s.ht.base && decide (s.ht.base ≤ addr)

/-- R7, R455, R503: the port answers: PORST_N is high and its RUN is 1. -/
def htRuns (s : State) : Bool := !s.boot.porst && prmB s (P.TWB_RUN 8)

/-- R455, R502: a function is acknowledged: functions 0 to 2, and in stage FAILED only the status window. -/
def htFunction (s : State) (f : Nat) : Bool := if s.boot.stage = 7 then f == 1 else decide (f ≤ 2)

/-- R455: HT_ADDRESS: a transaction addresses the port; `again` tells that it follows a repeated START, so that no STOP came between. -/
def execHtAddress (addr : Fin 128) (reading again : Bool) (s : State) : Host.Outcome State Fault Refusal :=
  let s := if again then s else latchBase { s with ht.fn := none, ht.bell := none }
  if htRuns s = false ∨ htMatches s addr.val = false then .next { s with ht.fn := none }
  else
    let f := addr.val % (s.ht.mask + 1)
    let s := { s with ht.addressed := s.ht.addressed + 1 }
    if htFunction s f then .next { s with ht.fn := some f, ht.reading := reading, ht.have2 := 0 }
    else .next { s with ht.fn := none, ht.notAcked := s.ht.notAcked + 1 }

/-- The pointer of a function. -/
def htPtr (s : State) (f : Nat) : Nat := s.ht.ptrs.get 0 f

/-- Set the pointer of a function. -/
def setHtPtr (f v : Nat) (s : State) : State := { s with ht.ptrs := s.ht.ptrs.set 0 f v }

/-- R456: a written byte advances the pointer within its page of 64 bytes. -/
def pageNext (p : Nat) : Nat := p - p % 64 + (p + 1) % 64

/-- R96: the entries of a ring from an index on; bit 63 of the request selects the mirror ring. -/
def logFrom (s : State) (req : Nat) : List LogEntry :=
  (if bitOf req 63 then s.sys.log.mirror else s.sys.log.entries).filter (fun e => decide (req % 2 ^ 63 ≤ e.index))

/-- The log reader loads the entry that a request names; past the newest entry it holds 64 zero bytes. -/
def loadEntry (req : Nat) (s : State) : State :=
  match logFrom s req with
  | e :: _ => { s with ht.logIndex := e.index, ht.logEntry := logBytes e }
  | [] => { s with ht.logIndex := req % 2 ^ 63, ht.logEntry := List.replicate 64 0 }

/-- The log reader loads the next entry of its ring. -/
def loadNext (s : State) : State := loadEntry ((s.ht.logIndex + 1) % 2 ^ 63 + (if bitOf s.ht.logReq 63 then 2 ^ 63 else 0)) s

/-- Replace a byte of a little-endian value of eight bytes. -/
def setByte8 (v k : Nat) (b : Byte) : Nat := ofLe ((leBytes 8 v).set k b)

/-- A byte that no register takes is discarded and counted (R456). -/
def htDiscard (s : State) : State := { s with ht.discarded := s.ht.discarded + 1 }

/-- R456: a byte is stored at a pointer of a function. -/
def htStore (f p : Nat) (b : Byte) (s : State) : State :=
  if f = 0 ∧ p < 0x1000 then { s with ht.cmd := s.ht.cmd.set 0 p b }
  else if f = 0 ∧ p = 0x1000 ∧ b = 1 then { s with ht.bell := some b }
  else if f = 2 ∧ p < 8 then
    let s := { s with ht.logReq := setByte8 s.ht.logReq p b }
    if p = 7 then loadEntry s.ht.logReq s else s
  else htDiscard s

/-- R456: HT_WRITE_BYTE: the first two bytes of a write set the pointer, high byte first; each further byte is stored. -/
def execHtWriteByte (value : Byte) (s : State) : Host.Outcome State Fault Refusal :=
  match s.ht.fn with
  | none => .next s
  | some f =>
    if s.ht.reading then .next s
    else if s.ht.have2 = 0 then .next { s with ht.ptrHigh := value, ht.have2 := 1 }
    else if s.ht.have2 = 1 then .next (setHtPtr f (s.ht.ptrHigh.toNat * 256 + value.toNat) { s with ht.have2 := 2 })
    else .next (setHtPtr f (pageNext (htPtr s f)) (htStore f (htPtr s f) value s))

/-- R458: ALERT_CAUSE is read and cleared. -/
def clearCauses (s : State) : State := { s with ht.causes := 0, ht.quieted := 0 }

/-- R52: the last byte of the reply is read: the state returns to 0 unless an overrun stands, and the next reply that waits takes its place. -/
def consumeReply (s : State) : State :=
  let s := { s with ht.state := if s.ht.state = 2 then 0 else s.ht.state, ht.reply := [] }
  match s.ht.waiting with
  | r :: rs => htReply r { s with ht.waiting := rs }
  | [] => s

/-- R52: HT_REPLY_CONSUMED: the host has read the last byte of the reply. -/
def execHtReplyConsumed (s : State) : Host.Outcome State Fault Refusal :=
  .next (if s.ht.reply = [] then s else consumeReply s)

/-- R456: a byte of a function map at a pointer. -/
def htByte (s : State) (f p : Nat) : Byte :=
  if f = 0 then
    if p < 0x1000 then s.ht.cmd.get 0 p
    else if 0x2000 ≤ p ∧ p < 0x3000 then s.ht.reply.getD (p - 0x2000) 0
    else 0
  else if f = 1 then
    (leBytes 1 s.ht.state ++ leBytes 1 s.ht.causes.toNat ++ leBytes 2 s.ht.reply.length ++ leBytes 4 s.sys.epoch ++ leBytes 1 s.twin.state ++
      leBytes 1 s.boot.stage).getD p 0
  else if p < 8 then (leBytes 8 s.ht.logReq).getD p 0
  else if p < 16 then (leBytes 8 s.ht.logIndex).getD (p - 8) 0
  else if 0x40 ≤ p ∧ p < 0x80 then s.ht.logEntry.getD (p - 0x40) 0
  else 0

/-- The effect of reading a byte: ALERT_CAUSE clears, and the last byte of a reply consumes it. -/
def htReadEffect (f p : Nat) (s : State) : State :=
  if f = 1 ∧ p = 1 then clearCauses s
  else if f = 0 ∧ s.ht.reply ≠ [] ∧ p + 1 = 0x2000 + s.ht.reply.length then consumeReply s
  else s

/-- R456: HT_READ_BYTE: the byte at the pointer is read and the pointer advances; a log read past 0x007F loads the next entry at 0x0040. -/
def execHtReadByte (s : State) : Host.Outcome State Fault Refusal :=
  match s.ht.fn with
  | none => .next s
  | some f =>
    if s.ht.reading = false then .next s
    else
      let wrap := f == 2 && htPtr s f == 0x80
      let s := if wrap then setHtPtr 2 0x40 (loadNext s) else s
      let p := htPtr s f
      let s := { s with ht.driven := htByte s f p }
      .next (setHtPtr f ((p + 1) % 2 ^ 16) (htReadEffect f p s))

/-- R457: HT_HOST_HOLD: the host has held SCL low beyond 25 ms: the transaction ends without a STOP. -/
def execHtHostHold (s : State) : Host.Outcome State Fault Refusal :=
  match s.ht.fn with
  | none => .next s
  | some _ => .next { s with ht.fn := none, ht.bell := none, ht.holds := s.ht.holds + 1 }

/-- R458: HT_ALERT_RESPONSE: the host reads address 0x0C while HALERT_N is low: the port answers with function 0 of its base and, if it wins the
arbitration, releases the line. -/
def execHtAlertResponse (wins : Bool) (s : State) : Host.Outcome State Fault Refusal :=
  if htRuns s = false ∨ halertLow s = false then .next s
  else
    let s := { s with ht.driven := BitVec.ofNat 8 (2 * s.ht.base) }
    .next (if wins then { s with ht.quieted := s.ht.quieted ||| s.ht.causes } else s)

end Sys2Proof.Machine
end

