-- ==== Sys2Proof/Machine/Thermal.lean ====
section
/-! DEFINITION. Machine/Thermal.lean: sensing, the power cap, enforcement and the beginning of a stop (chapter "Temperature, Power
Limits and Shutdown"). -/
namespace Sys2Proof.Machine

/-! ### Sites (R462 to R464) -/

/-- Site `k`. -/
def site (s : State) (k : Nat) : Site := s.thrm.sites.get {} k

/-- Replace site `k`. -/
def setSite (k : Nat) (x : Site) (s : State) : State := { s with thrm.sites := s.thrm.sites.set {} k x }

/-- R463: the healthy sites. -/
def healthySites (s : State) : List Nat := (List.range 24).filter (fun k => !(site s k).faulty)

/-- R463: the sites that count: the healthy ones, or every site while fewer than 12 are healthy. -/
def countingSites (s : State) : List Nat :=
  let h := healthySites s
  if h.length < 12 then List.range 24 else h

/-- R463: the site of the hottest reading and T_hot, in 1/16 °C. -/
def hottest (s : State) : Nat × Int :=
  (countingSites s).foldl (fun m k => if m.2 < (site s k).reading then (k, (site s k).reading) else m)
    (((countingSites s).head?.getD 0), (site s ((countingSites s).head?.getD 0)).reading)

/-- T_hot in 1/16 °C. -/
def tHot (s : State) : Int := (hottest s).2

/-- R471: a write or erase of the store is inhibited. -/
def storeInhibited (s : State) : Bool := decide (tHot s < -400) || decide (1520 < tHot s)

/-! ### The cap (R465, R466) -/

/-- R463, R466: the cap step that θ, λ and the healthy sites give. -/
def capStep (s : State) : Nat :=
  let n := (healthySites s).length
  max (max s.thrm.theta s.thrm.lambda) (if n < 12 then 7 else if n < 20 then 4 else 0)

/-- R472: NORMAL or THROTTLING follows the cap step and the measures; HT's cause 1 marks a change of state. -/
def setThermal (n : Nat) (s : State) : State := if s.thrm.state = n then s else htCause 1 { s with thrm.state := n }

/-- R472: the thermal state below STOPPING. -/
def mildState (s : State) : State :=
  if s.thrm.state < 2 then setThermal (if s.thrm.cap = 0 ∧ s.thrm.measures = [] then 0 else 1) s else s

/-- R466: the cap step is formed again; a change raises THRM_CAP, and a rise above 0 sets THROTTLED. -/
def updateCap (s : State) : State :=
  let k := capStep s
  if k = s.thrm.cap then mildState s
  else mildState (raise 557 k { s with thrm.cap := k, thrm.flags := setFlagIf (s.thrm.cap == 0) s.thrm.flags 0 })

/-- R465: θ rises by one. `limited` marks a cause that has no effect within 1 ms of the previous rise. -/
def riseTheta (limited : Bool) (s : State) : State :=
  let soon := match s.thrm.lastRise with | some t => decide (monoNs s < t + 1000000) | none => false
  if limited && soon then { s with thrm.nIgnored := s.thrm.nIgnored + 1 }
  else updateCap { s with thrm.theta := min 7 (s.thrm.theta + 1), thrm.lastRise := some (monoNs s), thrm.nRises := s.thrm.nRises + b2n (decide (s.thrm.theta < 7)) }

/-- T_hot stands at or above THROTTLE_TJ. -/
def throttleHot (s : State) : Bool := decide ((16 * prmN s P.THRM_THROTTLE_TJ : Nat) ≤ tHot s)

/-- T_hot stands below THROTTLE_TJ − THROTTLE_HYST. -/
def recoverCool (s : State) : Bool := decide (tHot s < 16 * ((prmN s P.THRM_THROTTLE_TJ : Int) - prmN s P.THRM_THROTTLE_HYST))

/-! ### Stops (R472 to R475) -/

/-- R474 step 1: the orderly stop begins. -/
def beginStop (byCommand : Bool) (s : State) : State :=
  let s := setThermal 2 { s with thrm.stopStep := 1, thrm.byCommand := byCommand, thrm.rearmed := false, thrm.nOrderly := s.thrm.nOrderly + 1 }
  abandonCinch 0x0505 (refuseFree 0x0505) (raise 559 0 s)

/-- What the data domains hold is lost when they are powered off: every unit of PD5 to PD21 stands at its reset values. A fired Cinch waits for no
stream, as each has stopped (R84, R83). -/
def cutData (s : State) : State :=
  let s := forEach (List.range 64) endEyeScans s
  { s with
    lanes := [], ports := [], motn := {}, strips := [], colrs := [], stch := {}, profs := [], segm := {}, recd := {}, cmpr := {}, twcs := []
    qdma := {}, netw := { sent := s.netw.sent }, chk := {}, thrm.biased := [], thrm.ungated := [], thrm.ungateQ := [], thrm.low := []
    core := { busErrors := s.core.busErrors }
    sys.cinch := s.sys.cinch.map (fun c => { c with waiting := [], frameOnly := [] }) }

/-- R475: the hard stop: PD3 to PD23 are cut, the claim is released, DRAM is lost and the cause is kept. -/
def hardStop (cause k : Nat) (s : State) : State :=
  let s := cutData (releaseClaim (abandonCinch 0x0505 (refuseFree 0x0505) s))
  let s := setThermal 4 { s with
    mem := [], badBlocks := [], memc := {}, sys.log.entries := [], sys.log.mirror := [], thrm.trip := some ⟨cause, k, tHot s, false⟩
    thrm.nHard := s.thrm.nHard + 1, thrm.byCommand := false, thrm.rearmed := false, thrm.stopStep := 0
    boot.domains := min s.boot.domains 3, boot.clusterA := false, boot.clusterB := false, boot.clocks := s.boot.clocks &&& 3 }
  raise 559 1 s

/-- R473: the largest rate of rise among the sites that count, in K/s. -/
def fastestRise (s : State) : Rat := (countingSites s).foldl (fun m k => max m (site s k).rise) 0

/-- R473: T_hot has reached ORDERLY_TJ: the orderly stop where it ends in time, else the hard stop. -/
def orderlyReached (s : State) : State :=
  let ρ := fastestRise s
  let left : Rat := (120 - (tHot s : Rat) / 16) / ρ
  let stop : Rat := ((prmN s P.THRM_DRAIN_MAX : Rat) + 2) / 1000
  if ρ ≤ 1 ∨ stop ≤ left then beginStop false s else hardStop 1 (hottest s).1 s

/-- R462, R463, R465, R473, R475, R476: SENSOR_READING: every site yields its reading of one gate. -/
def execSensorReading (codes : List Int) (s : State) : Host.Outcome State Fault Refusal :=
  let was := tHot s
  let s := forEach (List.range 24) (fun k s =>
    match codes[k]? with
    | some c => setSite k { site s k with reading := c, sum := (site s k).sum + c, n := (site s k).n + 1 } s
    | none => s) s
  let trip := (countingSites s).find? (fun k => decide (1920 ≤ (site s k).reading))
  match trip with
  | some k => .next (if s.thrm.state = 4 then s else hardStop 0 k s)
  | none =>
    let hot := throttleHot s
    let s := if hot && !s.thrm.above then riseTheta false { s with thrm.above := true } else { s with thrm.above := hot }
    let rearm : Int := 16 * prmN s P.THRM_REARM_TJ
    if s.thrm.state < 2 ∧ (16 * prmN s P.THRM_ORDERLY_TJ : Nat) ≤ tHot s then .next (orderlyReached s)
    else if 3 ≤ s.thrm.state ∧ s.thrm.rearmed = false ∧ tHot s < rearm then
      .next (if s.thrm.byCommand && decide (was < rearm) then { s with thrm.rearmed := true } else raiseOpen 560 { s with thrm.rearmed := true })
    else .next s

/-- R464: RISE_WINDOW: the 1 ms window ends: the rates are formed, and one above its limit raises THRM_RISE. -/
def execRiseWindow (s : State) : Host.Outcome State Fault Refusal :=
  let s := forEach (List.range 24) (fun k s =>
    let x := site s k
    if x.n = 0 then s
    else
      let m : Rat := (x.sum : Rat) / 16 / x.n
      setSite k { x with sum := 0, n := 0, mean := some m, rise := match x.mean with | some p => (m - p) * 1000 | none => 0 } s) s
  let fast := (List.range 24).find? (fun k => prmN s (P.THRM_RISE_LIMIT k) != 0 && decide ((prmN s (P.THRM_RISE_LIMIT k) : Rat) < (site s k).rise))
  let soon := match s.thrm.lastRiseEv with | some t => decide (monoNs s < t + 10000000) | none => false
  match fast with
  | some k =>
    if soon then .next s
    else .next (riseTheta false (raise 558 k { s with
      thrm.flags := setFlag s.thrm.flags 1, thrm.lastRiseEv := some (monoNs s), thrm.nRiseEv := s.thrm.nRiseEv + 1 }))
  | none => .next s

/-- The median of readings in 1/16 °C, the mean of the two middle ones for an even number (DEDUCED, log entry 30). -/
def medianOf (l : List Int) : Rat :=
  let v := l.insertionSort (· ≤ ·)
  let n := v.length
  if n = 0 then 0 else (((v[(n - 1) / 2]?).getD 0 : Int) + ((v[n / 2]?).getD 0 : Int) : Rat) / 2

/-- R463: one comparison of a site with the median. -/
def crossCheck (m : Rat) (k : Nat) (s : State) : State :=
  let x := site s k
  let bad := decide ((128 : Rat) < |(x.reading : Rat) - m| - Config.siteGradient k)
  let y := if bad then { x with bad := x.bad + 1, good := 0 } else { x with good := x.good + 1, bad := 0 }
  let y := { y with faulty := if 3 ≤ y.bad then true else if 10 ≤ y.good then false else y.faulty }
  let s := setSite k y s
  if y.faulty = x.faulty then s
  else logDevice 0x3FF 0x0702 0 k { s with thrm.flags := setFlagIf y.faulty s.thrm.flags 4 }

/-- R463: the cross-check of every site. -/
def crossCheckAll (s : State) : State :=
  let h := healthySites s
  let m := medianOf ((if h.length < 12 then List.range 24 else h).map (fun k => (site s k).reading))
  updateCap (forEach (List.range 24) (crossCheck m) s)

/-- R463, R483: SITE_CROSS_CHECK, every 100 ms. -/
def execSiteCrossCheck (s : State) : Host.Outcome State Fault Refusal :=
  let s := crossCheckAll s
  let t := s.bkgd.tasks.get {} 3
  .next { s with bkgd.tasks := s.bkgd.tasks.set {} 3 { t with doneNs := nowNs s } }

/-- R465: THETA_STEP_PERIOD: a further STEP_PERIOD has passed with T_hot at or above THROTTLE_TJ. -/
def execThetaStepPeriod (s : State) : Host.Outcome State Fault Refusal :=
  .next (if throttleHot s then riseTheta false s else s)

/-- R465: THETA_RECOVER: RECOVER_TIME has passed below the hysteresis band without a rise. -/
def execThetaRecover (s : State) : Host.Outcome State Fault Refusal :=
  .next (if recoverCool s && decide (0 < s.thrm.theta) then updateCap { s with thrm.theta := s.thrm.theta - 1 } else s)

/-! ### Enforcement (R467 to R469) -/

/-- CLK_CPU in 250 MHz units. -/
def cpuStep (s : State) : Nat := prmN s P.CORE_CLK_MAX - measured s 2

/-- R289: compress engines in service. -/
def enginesIn (s : State) : Nat := 16 - measured s 3

/-- R467, R484: E in mW. Burnish takes its term while nothing suspends it. -/
def estimate (s : State) : Rat :=
  powerMw s.sys.applied (tHot s) (cpuStep s) (enginesIn s) (stripDuty s) (measured s 1 == 0 && !s.bkgd.suspended && decide (s.thrm.state < 2))

/-- R468: whether a measure has an increment left. -/
def hasIncrement (s : State) (m : Nat) : Bool :=
  if m = 1 then measured s 1 == 0
  else if m = 2 then decide (prmN s P.THRM_CORE_MIN < cpuStep s)
  else if m = 3 then prmB s P.CMPR_RUN && decide (0 < enginesIn s)
  else decide (prmN s P.THRM_MIN_DUTY < stripDuty s) && (List.range 16).any (fun i => prmB s (P.STRP_RUN i))

/-- R468: apply one increment of a measure, and note what it saves. -/
def applyMeasure (m : Nat) (s : State) : State :=
  let t := { s with thrm.measures := (m, 0) :: s.thrm.measures }
  let saved := (estimate s - estimate t).floor.toNat
  let t := { s with thrm.measures := (m, saved) :: s.thrm.measures, thrm.nApplied := s.thrm.nApplied + 1 }
  if m = 3 then takeEngine (enginesIn t) t
  else if m = 4 then { t with thrm.flags := setFlag t.thrm.flags 2, thrm.low := (List.range 16).filter (fun i => prmB s (P.STRP_RUN i)) } else t

/-- R468, R469, R479: release the most recent increment. An engine and the strips at full duty wait to be ungated. -/
def releaseMeasure (s : State) : State :=
  match s.thrm.measures with
  | (m, _) :: rest =>
    let t := { s with thrm.measures := rest, thrm.lastRelease := some (monoNs s), thrm.nReleased := s.thrm.nReleased + 1 }
    if m = 3 then { t with thrm.ungateQ := t.thrm.ungateQ ++ [16 + (16 - measured s 3)] }
    else if m = 4 && measured t 4 == 0 then { t with thrm.ungateQ := t.thrm.ungateQ ++ t.thrm.low }
    else t
  | [] => s

/-! ### Staggered start (R478, R479) -/

/-- The dictionary that a pending Cinch would apply. -/
def stagedDict (s : State) : Option Dict := s.sys.cinch.map (fun c => (s.sys.stage.get {} c.set).dict)

/-- A scalar as a pending Cinch would set it. -/
def resultVal (s : State) (id : Nat) : Int :=
  match stagedDict s with
  | some d => (d.vals.find? id).getD (prm s id)
  | none => prm s id

/-- R478: the lane quads that the pending Cinch starts and that are not yet biased, in ascending order. -/
def quadsToBias (s : State) : List Nat :=
  (List.range 4).filter (fun q => !s.thrm.biased.contains q &&
    (List.range 16).any (fun k => decide (resultVal s (P.LANE_RUN (16 * q + k)) = 1)))

/-- The pending Cinch has passed its checks and is at step 3 of R84. -/
def arming (s : State) : Bool := match s.sys.cinch with | some c => c.phase == 1 | none => false

/-- R478: QUAD_BIAS: the next lane quad is biased. -/
def execQuadBias (s : State) : Host.Outcome State Fault Refusal :=
  match arming s, quadsToBias s with
  | true, q :: _ => .next { s with thrm.biased := (s.thrm.biased ++ [q]).insertionSort (· ≤ ·) }
  | _, _ => .next s

/-- R469, R479: STRIP_UNGATE: the next strip or compress engine is ungated at a line boundary. -/
def execStripUngate (s : State) : Host.Outcome State Fault Refusal :=
  match s.thrm.ungateQ with
  | k :: rest =>
    let s := { s with thrm.ungateQ := rest }
    .next (if k < 16 then { s with thrm.ungated := (k :: s.thrm.ungated).dedup.insertionSort (· ≤ ·), thrm.low := if stripDuty s = 16 then s.thrm.low.filter (· ≠ k) else s.thrm.low }
           else engineInService (k - 16) s)
  | [] => .next s

/-! ### Commands (R466, R473, R481) -/

/-- R481: POWER_STATUS. -/
def doPowerStatus (h : Hdr) (s : State) : State :=
  xesil (.powerStatus h) { op := 0x0A01, h := h } false (fun _ => []) (fun _ => [])
    (fun _ s => .done (leBytes 1 s.thrm.state ++ leBytes 1 s.thrm.cap ++ leBytes 1 s.thrm.theta ++ leBytes 1 s.thrm.lambda ++ leBytes 1 (hottest s).1 ++
      leBytes 3 0 ++ leBytes 2 (toCode 16 (tHot s)) ++ leBytes 2 0 ++ leBytes 4 s.thrm.estMw) false 0 s)
    (fun _ => []) s

/-- R466: POWER_CAP_LIMIT sets λ. -/
def doPowerCapLimit (h : Hdr) (lowest : Nat) (s : State) : State :=
  xesil (.powerCapLimit h lowest) { op := 0x0A02, h := h, params := leBytes 1 lowest ++ leBytes 7 0, count := 1, value := lowest } false
    (fun _ => []) (fun _ => if 7 < lowest then refuse1 0x0301 0 0 else [])
    (fun _ s => .done [] false lowest (updateCap { s with thrm.lambda := lowest }))
    (fun _ => []) s

/-- R473: ORDERLY_STOP begins the orderly stop at any temperature. It is refused from STOPPING on (R472), and completes when the
device is STOPPED. -/
def doOrderlyStop (h : Hdr) (s : State) : State :=
  xesil (.orderlyStop h) { op := 0x0A04, h := h, count := 1 } true (fun _ => []) (fun _ => [])
    (fun _ s => .defer (beginStop true s)) (fun _ => []) s

end Sys2Proof.Machine
end

