-- ==== Sys2Proof/Machine/Store.lean ====
section
/-! DEFINITION. Machine/Store.lean: the configuration store, its operations and commands (chapter "Burnish and Background Work"),
and the persistence of the change log (R97). -/
namespace Sys2Proof.Machine

/-! ### Items and blocks (R489 to R491) -/

/-- A block holds 128 KiB. -/
def blockSize : Nat := 131072

/-- The blocks that a copy of a length takes: the data alone counts, as the 4 MiB log takes 32 (DEDUCED, log entry 31). -/
def blocksFor (n : Nat) : Nat := max 1 ((n + blockSize - 1) / blockSize)

/-- An item of the store. -/
def storeItem (s : State) (i : Nat) : StoreItem := s.stor.items.get {} i

/-- Replace an item. -/
def setStoreItem (i : Nat) (x : StoreItem) (s : State) : State := { s with stor.items := s.stor.items.set {} i x }

/-- R490: the valid copy of the highest generation. -/
def newestCopy (x : StoreItem) : Option StoreCopy :=
  (x.copies.filter StoreCopy.good).foldl (fun m c => match m with
    | some b => if b.gen < c.gen then some c else m
    | none => some c) none

/-- R490: the state of an item. -/
def itemState (x : StoreItem) : Nat :=
  if x.copies = [] then 0
  else match x.copies.filter StoreCopy.good with
    | [] => 4
    | [_] => 3
    | a :: b :: _ => if a.gen = b.gen then 1 else 2

/-- The blocks that copies hold. -/
def heldBlocks (s : State) : List Nat := s.stor.items.flatMap (fun p => p.2.copies.flatMap StoreCopy.blocks)

/-- R489, R492: the blocks of the user pool. -/
def userBlocks (s : State) : List Nat := (List.range 3968 ++ s.stor.pool).filter (fun b => !s.stor.worn.contains b)

/-- R491: the erase count of a block. -/
def eraseCount (s : State) (b : Nat) : Nat := s.stor.wear.get 0 b

/-- The free blocks of the user pool. -/
def freeBlocks (s : State) : List Nat :=
  let held := heldBlocks s
  (userBlocks s).filter (fun b => !held.contains b)

/-- R491: the free blocks with the lowest erase counts, where there are enough. -/
def takeBlocks (n : Nat) (s : State) : Option (List Nat) :=
  let f := (freeBlocks s).insertionSort (fun a b => eraseCount s a < eraseCount s b ∨ (eraseCount s a = eraseCount s b ∧ a ≤ b))
  if f.length < n then none else some (f.take n)

/-! ### Operations (R490 to R493) -/

/-- The operation at the head. -/
def setHead (x : StoreOp) (s : State) : State := { s with stor.ops := x :: s.stor.ops.drop 1 }

/-- R97: a persistence that the store refused is logged and retried. -/
def persistRefused (status : Nat) (s : State) : State :=
  logDevice (if status = 0x0801 then 564 else 0x3FF) status 0 0 { s with sys.log.retry := true }

/-- An operation ends with a status: it leaves the queue and its command gets the final reply. -/
def failOp (x : StoreOp) (status : Nat) (s : State) : State :=
  let s := { s with stor.ops := s.stor.ops.drop 1 }
  let s := if status = 0x0801 then raiseOpen 564 { s with stor.nFailed := s.stor.nFailed + 1 }
           else if status = 0x0802 then { s with thrm.flags := setFlag s.thrm.flags 3, thrm.nInhibit := s.thrm.nInhibit + 1 }
           else s
  let s := if x.last ≠ [] then persistRefused status s else s
  match x.why with
  | .command a b => (match findDeferred s a b with | some d => failDeferred d (refuse1 status x.item 0) s | none => s)
  | _ => s

/-- R97: a persistence has completed. -/
def persisted (x : StoreOp) (s : State) : State :=
  match x.last.getLast? with
  | some e => logNow { kind := 8, count := 1, value := e.index } { s with sys.log.persisted := e.index, sys.log.persistedEntries := x.last, sys.log.retry := false }
  | none => s

/-- An operation completes. -/
def doneOp (x : StoreOp) (s : State) : State :=
  let s := { s with stor.ops := s.stor.ops.drop 1 }
  let s := persisted x s
  match x.why with
  | .command a b => (match findDeferred s a b with | some d => endDeferred d 0 [] false 0 s | none => s)
  | .pending => { s with stor.nPending := s.stor.nPending + 1 }
  | .wear => { s with stor.nMoves := s.stor.nMoves + 1, bkgd.tasks := s.bkgd.tasks.set {} 6 { s.bkgd.tasks.get {} 6 with doneNs := nowNs s } }
  | .persist => s

/-- R490: the new version: the bytes not covered come from the newest valid copy; those between its end and the first byte written are free. -/
def newVersion (x : StoreOp) (s : State) : List Byte × State :=
  if x.whole then (x.data, s)
  else
    let old := match newestCopy (storeItem s x.item) with | some c => c.data | none => []
    let (gap, s) := gapBytes (x.off - old.length) s
    ((old ++ gap).take x.off ++ x.data ++ old.drop (x.off + x.data.length), s)

/-- R490, R493: the pool can give the blocks of both copies of a new version, those that the older copies release among them. -/
def poolGives (n item : Nat) (s : State) : Bool :=
  let x := storeItem s item
  let kept := ((newestCopy x).toList.flatMap StoreCopy.blocks).length
  decide (2 * n ≤ (freeBlocks s).length + (x.copies.flatMap StoreCopy.blocks).length - kept)

/-- R490 step 1, R471, R493: the operation at the head begins, or fails for the inhibit or for want of blocks. -/
def beginOp (x : StoreOp) (s : State) : State :=
  if storeInhibited s then failOp x 0x0802 s
  else if x.erase then
    let bs := (storeItem s x.item).copies.flatMap StoreCopy.blocks
    setHead { x with begun := true, blocks := bs, todo := bs } s
  else match x.why with
  | .wear => setHead { x with begun := true } s
  | .pending =>
    match newestCopy (storeItem s x.item) with
    | some c => (match takeBlocks (max 1 c.blocks.length) s with
      | some bs => setHead { x with begun := true, second := true, full := c.data, gen := c.gen, blocks := bs, todo := bs } s
      | none => failOp x 0x0801 s)
    | none => { s with stor.ops := s.stor.ops.drop 1 }
  | _ =>
    let (full, s) := newVersion x (if x.last ≠ [] then supMove (supAddr 1) (supAddr 2) x.data.length s else s)
    let gen := match newestCopy (storeItem s x.item) with | some c => c.gen + 1 | none => 1
    let n := if x.need = 0 then blocksFor full.length else x.need
    if poolGives n x.item s = false then failOp x 0x0801 s
    else match takeBlocks n s with
    | some bs => setHead { x with begun := true, full := full, gen := gen, blocks := bs, todo := bs } s
    | none => failOp x 0x0801 s

/-- R491: operations run one at a time; the next begins when the store is free. -/
def pumpStoreN : Nat → State → State
  | 0, s => s
  | n + 1, s =>
    match s.stor.ops with
    | x :: _ => if x.begun then s else pumpStoreN n (beginOp x s)
    | [] => s

/-- The next waiting operation begins. -/
def pumpStore (s : State) : State := pumpStoreN (s.stor.ops.length + 1) s

/-- A store operation joins the queue. -/
def queueStore (x : StoreOp) (s : State) : State := { s with stor.ops := s.stor.ops ++ [x] }

/-- R492, R493: a worn block is retired: its replacement from the spares, which takes its contents, or none where no spare is left: then the store is
DEGRADED and an item with a copy in the block loses that copy (SINGLE, or CORRUPT where it was the last). -/
def retireBlock (b : Nat) (s : State) : Option Nat × State :=
  let s := { s with stor.worn := s.stor.worn ++ [b], stor.nRetired := s.stor.nRetired + 1 }
  if s.stor.spares = 0 then
    let s := if s.stor.degraded then s else raiseOpen 563 { s with stor.degraded := true }
    let s := { s with stor.items := s.stor.items.map (fun (p : Nat × StoreItem) => (p.1, { p.2 with copies := p.2.copies.map (fun c => if c.blocks.contains b then { c with good := false, blocks := [] } else c) })) }
    (none, logDevice 563 0x0801 0 b s)
  else
    let r := 3968 + (128 - s.stor.spares)
    let moved := s.stor.items.map (fun (p : Nat × StoreItem) => (p.1, ({ copies := p.2.copies.map (fun c =>
      { c with blocks := c.blocks.map (fun k => if k = b then r else k) }) } : StoreItem)))
    let s := { s with stor.items := moved }
    (some r, logDevice 0x3FF 0 0 b { s with stor.spares := s.stor.spares - 1, stor.pool := s.stor.pool ++ [r] })

/-- R492: the operation met a worn block: it goes on with the replacement, or with another free block, or fails. -/
def replaceBlock (x : StoreOp) (b : Nat) (s : State) : State :=
  let (r, s) := retireBlock b s
  let r : Option Nat := match r with
    | some r => some r
    | none => (match takeBlocks (x.blocks.length + 1) s with
      | some fs => fs.find? (fun f => !x.blocks.contains f)
      | none => none)
  match r with
  | some r => setHead { x with blocks := x.blocks.map (fun k => if k = b then r else k), todo := r :: x.todo.drop 1, erased := false } s
  | none => failOp x 0x0801 s

/-- R490 steps 1 and 2, R493: the first copy is verified: the older copy is released and the second begins; where the pool no longer has its blocks
the write fails with the item as it was. -/
def firstCopyDone (x : StoreOp) (s : State) : State :=
  let keep := (newestCopy (storeItem s x.item)).toList
  let t := setStoreItem x.item ⟨⟨x.gen, x.full, x.blocks, true⟩ :: keep⟩ s
  match takeBlocks x.blocks.length t with
  | some bs => setHead { x with second := true, blocks := bs, todo := bs, erased := false } t
  | none => failOp x 0x0801 s

/-- R490 step 3, R491: the copy being written is whole. -/
def copyDone (x : StoreOp) (s : State) : State :=
  if x.erase then doneOp x { s with stor.items := s.stor.items.erase x.item }
  else match x.why with
  | .wear =>
    let dst := x.blocks.head?.getD 0
    doneOp x { s with stor.items := s.stor.items.map (fun (p : Nat × StoreItem) => (p.1, { p.2 with copies := p.2.copies.map (fun c =>
      { c with blocks := c.blocks.map (fun b => if b = x.source then dst else b) }) })) }
  | _ =>
    if x.second then
      let first := (newestCopy (storeItem s x.item)).toList
      doneOp x (setStoreItem x.item ⟨⟨x.gen, x.full, x.blocks, true⟩ :: first⟩ { s with stor.nWritten := s.stor.nWritten + b2n (x.why != .pending) })
    else firstCopyDone x s

/-- R471: before the next block the inhibit is judged. -/
def nextBlock (x : StoreOp) (s : State) : State :=
  if storeInhibited s then failOp x 0x0802 s else setHead x s

/-- R491 to R493: STORE_BLOCK_DONE: an erase or program of the block in hand completes; `good` tells that it verified. -/
def execStoreBlockDone (good : Bool) (s : State) : Host.Outcome State Fault Refusal :=
  match s.stor.ops with
  | x :: _ =>
    if !x.begun then .next s
    else match x.todo with
    | [] => .next (pumpStore (copyDone x s))
    | b :: rest =>
      if !x.erased then
        let s := { s with stor.wear := s.stor.wear.set 0 b (eraseCount s b + 1) }
        let s := if x.erase then { s with stor.items := s.stor.items.map (fun (p : Nat × StoreItem) => (p.1, { p.2 with copies := p.2.copies.map (fun c =>
          if c.blocks.contains b then { c with good := false } else c) })) } else s
        if good && decide (eraseCount s b < prmN s P.STOR_WEAR_LIMIT) then
          if x.erase then
            let y := { x with todo := rest }
            .next (pumpStore (if rest = [] then copyDone y s else nextBlock y s))
          else .next (pumpStore (nextBlock { x with erased := true } s))
        else if x.erase then
          let y := { x with todo := rest }
          let s := (retireBlock b s).2
          .next (pumpStore (if rest = [] then copyDone y s else nextBlock y s))
        else .next (pumpStore (replaceBlock x b s))
      else if good then
        let y := { x with todo := rest, erased := false }
        .next (pumpStore (if rest = [] then copyDone y s else nextBlock y s))
      else .next (pumpStore (replaceBlock x b s))
  | [] => .next s

/-- R490: PENDING_COMPLETION: Burnish completes a PENDING item once the inhibit has ended. -/
def execPendingCompletion (item : Nat) (s : State) : Host.Outcome State Fault Refusal :=
  if storeInhibited s = false ∧ itemState (storeItem s item) = 2 ∧ (s.stor.ops.any (fun x => x.item == item)) = false then
    .next (pumpStore (queueStore { why := .pending, item := item } s))
  else .next s

/-! ### Persistence of the log (R97) -/

/-- R97: the newest 65,536 entries. -/
def newestEntries (s : State) : List LogEntry := s.sys.log.entries.drop (s.sys.log.entries.length - 65536)

/-- R97: a persistence is queued: 4 MiB as an item of the supervisor's. -/
def queuePersist (why : StoreWhy) (s : State) : State :=
  let es := newestEntries s
  queueStore { why := why, item := Config.logItem, data := es.flatMap logBytes, whole := true, need := 32, last := es } s

/-- R97: LOG_PERSIST_PERIOD has passed. -/
def execLogPersistPeriod (s : State) : Host.Outcome State Fault Refusal := .next (pumpStore (queuePersist .persist s))

/-- R97: 60 s have passed since a persistence was refused. -/
def execLogPersistRetry (s : State) : Host.Outcome State Fault Refusal :=
  .next (if s.sys.log.retry then pumpStore (queuePersist .persist s) else s)

/-- R97: LOG_PERSIST. -/
def doLogPersist (h : Hdr) (s : State) : State :=
  pumpStore (xesil (.logPersist h) { op := 0x0403, h := h, count := 1 } true (fun _ => []) (fun _ => [])
    (fun _ s => .defer (queuePersist (.command h.session h.seq) s)) (fun _ => []) s)

/-! ### Commands (R65, R490) -/

/-- R489, R89, R90: the refusal of a principal that writes an item. The supervisor's items are its own. -/
def storeOwn (h : Hdr) (item : Nat) (s : State) : List Detail :=
  let role := match session s h.session with | some x => x.role | none => 0
  match itemErr s h.via.principal role (if item < 0x10000 then 0 else 2) 0x17 false with
  | some st => refuse1 st item 0
  | none => []

/-- The owner of an item for a reader (R89, R90). -/
def storeReadOwn (h : Hdr) (item : Nat) (s : State) : List Detail :=
  let role := match session s h.session with | some x => x.role | none => 0
  match itemErr s h.via.principal role (if item < 0x10000 then 0 else 2) 0x17 true with
  | some st => refuse1 st item 0
  | none => []

/-- R490: STORE_LIST: identifier, size and state of the items from the first one on, in 12 bytes each (DESIGN CHOICE, log entry 32). -/
def doStoreList (h : Hdr) (first count : Nat) (s : State) : State :=
  xesil (.storeList h first count) { op := 0x0901, h := h, params := leBytes 4 first ++ leBytes 4 count } false (fun _ => []) (fun _ => [])
    (fun room s =>
      let its := ((s.stor.items.filter (fun p => decide (first ≤ p.1))).take count).map (fun p =>
        leBytes 4 p.1 ++ leBytes 4 (match newestCopy p.2 with | some c => c.data.length | none => 0) ++ leBytes 1 (itemState p.2) ++ leBytes 3 0)
      let (ps, more) := fitItems room [] its
      .done ps more 0 s)
    (fun _ => []) s

/-- R490: STORE_READ returns bytes of the valid copy of the highest generation. -/
def doStoreRead (h : Hdr) (item off len : Nat) (s : State) : State :=
  xesil (.storeRead h item off len) { op := 0x0902, h := h, params := leBytes 4 item ++ leBytes 4 off ++ leBytes 4 len } false
    (storeReadOwn h item) (fun _ => if 4040 < len then refuse1 0x0301 0 8 else [])
    (fun room s =>
      let x := storeItem s item
      match newestCopy x with
      | some c =>
        if c.data.length < off + len then .refuse (refuse1 0x0301 item 4)
        else .done ((c.data.drop off).take (min len room)) (decide (room < len)) 0 s
      | none => if x.copies = [] then .refuse (refuse1 0x0302 item 0) else .refuse (refuse1 0x0803 item 0))
    (fun _ => []) s

/-- R490: STORE_WRITE. The boot set is written only by STAGE_SAVE (R506). -/
def doStoreWrite (h : Hdr) (item off : Nat) (data : List Byte) (s : State) : State :=
  pumpStore (xesil (.storeWrite h item off data)
    { op := 0x0903, h := h, params := leBytes 4 item ++ leBytes 4 off ++ data, subject := item, count := 1 } true
    (fun s => if item = 0x100 then refuse1 0x0201 item 0 else storeOwn h item s)
    (fun _ => if 4048 < data.length then refuse1 0x0301 0 8 else [])
    (fun _ s => .defer (queueStore { why := .command h.session h.seq, item := item, off := off, data := data } s))
    (fun _ => []) s)

/-- R65: STORE_ERASE. -/
def doStoreErase (h : Hdr) (item : Nat) (s : State) : State :=
  pumpStore (xesil (.storeErase h item)
    { op := 0x0904, h := h, params := leBytes 4 item ++ leBytes 4 0, subject := item, count := 1 } true (storeOwn h item) (fun _ => [])
    (fun _ s => if (storeItem s item).copies = [] then .refuse (refuse1 0x0302 item 0)
      else .defer (queueStore { why := .command h.session h.seq, item := item, erase := true } s))
    (fun _ => []) s)

/-- R491: WEAR_LEVELLING, every 10 min: the contents of the least-worn block move into the most-worn free block where the counts differ by
more than WEAR_SPREAD. -/
def wearMove (s : State) : Option (Nat × Nat) :=
  let us := userBlocks s
  let low := us.foldl (fun m b => match m with | some a => if eraseCount s b < eraseCount s a then some b else m | none => some b) (none : Option Nat)
  let high := us.foldl (fun m b => max m (eraseCount s b)) 0
  let held := heldBlocks s
  let src := (us.filter held.contains).foldl (fun m b => match m with | some a => if eraseCount s b < eraseCount s a then some b else m | none => some b) (none : Option Nat)
  let dst := (freeBlocks s).foldl (fun m b => match m with | some a => if eraseCount s a < eraseCount s b then some b else m | none => some b) (none : Option Nat)
  match low, src, dst with
  | some l, some a, some b => if prmN s P.STOR_WEAR_SPREAD < high - eraseCount s l then some (a, b) else none
  | _, _, _ => none

end Sys2Proof.Machine
end

