-- ==== Sys2Proof/Machine/Memc.lean ====
section
/-! DEFINITION. Machine/Memc.lean: the memory controller (chapter "In-Package Memory and Its Controller"). -/
namespace Sys2Proof.Machine

/-- Channel `c`. -/
def memChan (s : State) (c : Nat) : MemChan := s.memc.chans.get {} c

/-- Replace channel `c`. -/
def setMemChan (c : Nat) (x : MemChan) (s : State) : State := { s with memc.chans := s.memc.chans.set {} c x }

/-- Real-time port `r`. -/
def rtp (s : State) (r : Nat) : Rtp := s.memc.rtps.get {} r

/-- Replace real-time port `r`. -/
def setRtp (r : Nat) (x : Rtp) (s : State) : State := { s with memc.rtps := s.memc.rtps.set {} r x }

/-! ### Addressing (R361) -/

/-- R361: where a DRAM address lies. -/
structure MemLoc where
  chan : Nat
  bank : Nat
  row  : Nat
  col  : Nat
  deriving DecidableEq, Repr

/-- R361: the mapping of a DRAM address under MEMC[0].INTERLEAVE. -/
def memLoc (il addr : Nat) : MemLoc :=
  let g := addr / 2 ^ (10 + il)
  let c := g / 16 * 2 ^ (10 + il) + addr % 2 ^ (10 + il)
  { chan := Nat.xor (Nat.xor (field g 3 0) (field g 7 4)) (Nat.xor (field g 11 8) (field g 15 12))
    bank := Nat.xor (field c 14 11) (field c 18 15)
    row := c / 2 ^ 15
    col := c % 2 ^ 11 }

/-- R359, R361: the check block of a data block, by its number in the channel: 32 consecutive data blocks share one. -/
def checkBlock (il addr : Nat) : Nat := (addr / 2 ^ (10 + il) / 16 * 2 ^ (10 + il) + addr % 2 ^ (10 + il)) / 2048

/-- R361: the mapping in force. -/
def locOf (s : State) (addr : Nat) : MemLoc := memLoc (prmN s P.MEMC_INTERLEAVE) addr

/-- A bank of a channel. -/
def bank (x : MemChan) (b : Nat) : Bank := x.banks.get {} b

/-- Replace a bank of a channel. -/
def setBank (b : Nat) (y : Bank) (x : MemChan) : MemChan := { x with banks := x.banks.set {} b y }

/-! ### Row disturbance (R368, R369) -/

/-- R369: the leading requester of a tracked row. -/
def leader (r : RhRow) : Nat := (r.reqs.foldl (fun m p => if m.2 < p.2 then p else m) (0, 0)).1

/-- R368: an activation of a row by a requester: the tracked rows afterwards, and the row's entry. -/
def trackRow (row req : Nat) (rows : List RhRow) : List RhRow × RhRow :=
  match rows.find? (fun r => r.row == row) with
  | some r =>
    let r' : RhRow := { r with count := r.count + 1, reqs := r.reqs.insert req (r.reqs.get 0 req + 1) }
    (rows.map (fun q => if q.row = row then r' else q), r')
  | none =>
    if rows.length < 16 then let r : RhRow := ⟨row, 1, [(req, 1)]⟩; (rows ++ [r], r)
    else
      match rows.foldl (fun m q => match m with | some a => if q.count < RhRow.count a then some q else m | none => some q) (none : Option RhRow) with
      | some low => let r : RhRow := ⟨row, low.count + 1, [(req, 1)]⟩; (rows.map (fun q => if q = low then r else q), r)
      | none => (rows, ⟨row, 1, [(req, 1)]⟩)

/-- R364: work of priority 1 waits at a channel, once. -/
def askUrgent (u : Urgency) (x : MemChan) : MemChan := if x.urgent.contains u then x else { x with urgent := x.urgent ++ [u] }

/-- R368, R369: an activation: the row is open and tracked, and the package demands an RFM where the bank's rolling count passes its limit. At each
multiple of RH_THRESHOLD an RFM is issued, the leading requester is throttled by one step, and MEM_RH_THROTTLE is raised and logged. -/
def activate (c b row req : Nat) (s : State) : State :=
  let x := memChan s c
  let y := bank x b
  let (rows, r) := trackRow row req y.rows
  let x := setBank b { y with row := some row, rows := rows, raa := y.raa + 1 } x
  let s := setMemChan c (if Config.raaLimit < y.raa + 1 then askUrgent (.rfm b) x else x) s
  if r.count % prmN s P.MEMC_RH_THRESHOLD = 0 then
    let x := askUrgent (.rfm b) (memChan s c)
    let l := leader r
    let step := min 8 (x.steps.get 0 l + 1)
    let s := setMemChan c { x with throttles := x.throttles + b2n (decide (x.steps.get 0 l < 8)),
                                   steps := x.steps.set 0 l step, hit := (x.hit ++ [l]).dedup } s
    logDeviceN 375 0 0 (l + 2 ^ 8 * c + 2 ^ 16 * b + 2 ^ 24 * row) step (raiseOpen 375 s)
  else s

/-- R364: a row hit. -/
def rowHit (s : State) (c : Nat) (addr : Nat) : Bool := (bank (memChan s c) (locOf s addr).bank).row == some (locOf s addr).row

/-- R368: an access opens its row where that is not open. -/
def openRow (c addr req : Nat) (s : State) : State := if rowHit s c addr then s else activate c (locOf s addr).bank (locOf s addr).row req s

/-- R359, R375: an access uses the check block of its data block: it enters the check cache as the most recently used, and an update corrects an error that
it holds. -/
def useCheck (c addr : Nat) (write : Bool) (s : State) : State :=
  let x := memChan s c
  let k := checkBlock (prmN s P.MEMC_INTERLEAVE) addr
  let dirty := write || x.checks.any (fun e => e.1 == k && e.2)
  setMemChan c { x with checks := ((k, dirty) :: x.checks.filter (fun e => e.1 != k)).take 64
                        checkErrs := if write then x.checkErrs.filter (· ≠ k) else x.checkErrs } s

/-- R360: what a read makes of flipped bits of a code word (0 no error, 1 correctable, 2 uncorrectable): a single one is corrected; two, and any in one
byte, are detected. What the code makes of others the spec does not state: a free value. -/
def readKind (flips : List (Fin 528)) (s : State) : Nat × State :=
  match (flips.map Fin.val).dedup with
  | [] => (0, s)
  | [_] => (1, s)
  | [_, _] => (2, s)
  | b :: bs => if bs.all (fun k => k / 8 == b / 8) then (2, s) else let (v, s) := fresh s; (v % 3, s)

/-! ### Errors (R373, R374, R376) -/

/-- R376: the error record. -/
def recordErr (c addr req : Nat) (un : Bool) (s : State) : State :=
  let x := memChan s c
  if x.errValid && x.errUn && !un then s
  else setMemChan c { x with errValid := true, errUn := un, errReq := req, errAddr := addr } s

/-- R373: a correctable error. A scrub read writes the corrected block back; any other queues a scrub. -/
def memCe (c addr req : Nat) (s : State) : State :=
  let s := raiseOpen 371 (recordErr c addr req false s)
  let x := memChan s c
  let hour := (monoNs s :: x.hour).filter (fun t => decide (monoNs s < t + 3600 * 1000000000))
  let big := decide (prmN s P.MEMC_CE_LIMIT < hour.length)
  let s := setMemChan c { x with ces := x.ces + 1, hour := hour, noted := big, ceLimit := x.ceLimit || big,
                                 scrubs := if req = 16 then x.scrubs else x.scrubs ++ [addr] } s
  if big && !x.noted then logDevice 372 0x0701 0 c (raiseOpen 372 s) else s

/-- R403: an uncorrectable read of a transmit buffer: a unit whose first segment is not chosen is dropped whole, a unit begun loses
the segment and is counted. -/
def netBadRead (p f seq : Nat) (s : State) : State :=
  let x := netPort s p
  match (List.range 8).find? (fun q => (txQueue x q).units.any (fun u => u.flow == f && u.seq == seq)) with
  | some q =>
    let t := txQueue x q
    match t.units.find? (fun u => u.flow == f && u.seq == seq) with
    | some u =>
      if u.begun then
        setNetPort p { setTxQueue x q { t with units := t.units.map (fun v => if v = u then { v with sent := min v.bytes.length (v.sent + leAt v.entry 22 2) } else v) } with
          bufDrop := x.bufDrop + 1 } s
      else dispose f 2 seq u.product p (raise (352 + 3 * (p % 3) + 1) f
        (setNetPort p { setTxQueue x q { t with units := t.units.filter (· ≠ u) } with bufDrop := x.bufDrop + 1 } s))
    | none => s
  | none => s

/-- R374: an uncorrectable read of the line history: the line carries LOSS from then on, and the samples of the block are as read, free values. -/
def spoilHistory (n k : Nat) (s : State) : State :=
  let s := { s with recd.hist := s.recd.hist.map (fun e =>
    if e.2.stamp.globalLine = n then (e.1, { e.2 with stamp := { e.2.stamp with flags := setFlag e.2.stamp.flags 0 } }) else e) }
  forEach (List.range 32) (fun i s =>
    let (v, s) := fresh s
    { s with recd.hist := s.recd.hist.map (fun e => if e.2.stamp.globalLine = n then (e.1, { e.2 with px := e.2.px.set (k + i) (v % 2 ^ 16) }) else e) }) s

/-- R374: an uncorrectable error, and its effect on the requester. -/
def memUe (c : Nat) (t : MemTxn) (s : State) : State :=
  let addr := t.addr / 64 * 64
  let s := recordErr c addr t.req true s
  let x := memChan s c
  let s := setMemChan c { x with ues := x.ues + 1, ue := true } { s with badBlocks := (addr :: s.badBlocks).dedup.insertionSort (· ≤ ·) }
  let s := logDevice 373 0x0701 0 addr (raiseOpen 373 s)
  if t.req = 13 ∨ t.req = 14 then { s with core.busErrors := s.core.busErrors + 1 }
  else match t.engine, t.unit with
  | some e, _ => dropCoding e s
  | none, some u => netBadRead u.1 u.2.1 u.2.2 s
  | none, none => match t.line with
    | some l => if t.req = 7 then spoilHistory l.1 l.2 s else s
    | none => s

/-! ### Scheduling (R358, R363 to R366) -/

/-- R366: a port in panic. -/
def inPanic (s : State) (r : Nat) : Bool := (rtp s r).panic.isSome

/-- Any port in panic. -/
def anyPanic (s : State) : Bool := (List.range 8).any (inPanic s)

/-- R364: the priority of a transaction. -/
def memPriority (s : State) (t : MemTxn) : Nat :=
  if t.req < 8 then (if inPanic s t.req then 2 else 3)
  else if t.req = 16 then 6
  else if prmN s P.MEMC_AGE_MAX < t.waited then 4 else 5

/-- R364, R366, R369, R370: a transaction may be granted now: no older one of its requester waits for its block, its requester's throttle step, which admits
one grant in 2^s command slots, admits it, and neither retraining nor panic holds it back. -/
def mayGrant (s : State) (c : Nat) (older : List MemTxn) (t : MemTxn) : Bool :=
  let x := memChan s c
  x.state == 0 && (x.train == 0 || decide (t.req < 8)) && !(older.any (fun o => o.req == t.req && o.addr / 64 == t.addr / 64)) &&
    decide (x.steps.get 0 t.req = 0 ∨ 2 ^ x.steps.get 0 t.req ≤ x.slots.get 0 t.req) && !(t.req == 16 && anyPanic s)

/-- R364: the choice among the waiting transactions, oldest first: by priority, then row hit, then age. It answers the place of the one chosen. -/
def chooseTxn (s : State) (c : Nat) (ts : List MemTxn) : Option (Nat × MemTxn) :=
  let key := fun (t : MemTxn) => 2 * memPriority s t + b2n (!rowHit s c t.addr)
  ((List.range ts.length).filterMap (fun i => match ts[i]? with
    | some t => if mayGrant s c (ts.take i) t then some (i, t) else none
    | none => none)).foldl (fun m t => match m with | some a => if key t.2 < key a.2 then some t else m | none => some t) none

/-- R358: a transaction that moves more than one aligned block of 64 bytes is split into its blocks, of which the first carries the error found. -/
def splitTxn (t : MemTxn) : List MemTxn :=
  (List.range ((t.addr % 64 + t.size + 63) / 64)).map (fun k =>
    let first := if k = 0 then t.addr else t.addr / 64 * 64 + 64 * k
    let last := min (t.addr + t.size) (t.addr / 64 * 64 + 64 * (k + 1))
    { t with addr := first, len := last - first, data := (t.data.drop (first - t.addr)).take (last - first), flips := if k = 0 then t.flips else [] })

/-- R363: transactions move into a channel queue of 256 entries while it has room. -/
def fillQueue (x : MemChan) : MemChan :=
  let n := 256 - x.queue.length
  { x with queue := x.queue ++ x.blocked.take n, blocked := x.blocked.drop n }

/-- R358, R361, R363: transactions reach a channel: the blocks of theirs that lie in it. -/
def arrive (c : Nat) (ts : List MemTxn) (s : State) : State :=
  let new := (ts.flatMap splitTxn).filter (fun t => (locOf s t.addr).chan == c && decide (t.addr < dramEnd))
  let x := memChan s c
  setMemChan c (fillQueue { x with blocked := x.blocked ++ new.map (fun t => ⟨t, monoNs s⟩) })
    { s with memc.reads := s.memc.reads ++ (new.filter (fun t => !t.write)).map (fun t => ⟨t.req, t.addr / 64 * 64, false⟩) }

/-- R364: how long a waiting transaction has waited. -/
def aged (s : State) (w : MemWait) : MemTxn := { w.txn with waited := w.txn.waited + (monoNs s - w.at_) }

/-- The first read of a requester's block that has not been served is served. -/
def serveRead (req addr : Nat) : List ReadWait → List ReadWait
  | [] => []
  | r :: rs => if r.req = req ∧ r.addr = addr ∧ r.done = false then { r with done := true } :: rs else r :: serveRead req addr rs

/-- R364: the reads whose data can return: served ones before which no read of their requester waits. -/
def returnable : List ReadWait → List ReadWait → List ReadWait
  | _, [] => []
  | before, r :: rs => if r.done && !before.any (fun b => b.req == r.req && !b.done) then r :: returnable (before ++ [r]) rs else returnable (before ++ [r]) rs

/-- R364: a read has been served: read data returns to each requester in the order of its requests. -/
def returnReads (req addr : Nat) (s : State) : State :=
  let rs := serveRead req addr s.memc.reads
  let back := returnable [] rs
  { s with memc.reads := rs.filter (fun r => !back.contains r), memc.returned := s.memc.returned ++ back.map (fun r => (r.req, r.addr)) }

/-- R364, R373 to R375: the effect of a granted transaction. A write of a whole block ends its error; a write of a part reads the block first, which stays
in error if it was; a core's write stores its data. -/
def grant (c : Nat) (t : MemTxn) (s : State) : State :=
  let blk := t.addr / 64 * 64
  let s := useCheck c t.addr t.write (openRow c t.addr t.req s)
  let x := memChan s c
  let s := setMemChan c { x with reads := x.reads + b2n (!t.write), writes := x.writes + b2n t.write, slots := x.slots.set 0 t.req 0 } s
  let s := if t.req < 8 then setRtp t.req { rtp s t.req with bytes := (rtp s t.req).bytes + 64 } s else s
  if t.write then
    let s := if t.req = 13 ∨ t.req = 14 then { s with mem := s.mem.store t.addr t.data } else s
    if t.size = 64 then { s with badBlocks := s.badBlocks.filter (· ≠ blk) } else if s.badBlocks.contains blk then memUe c t s else s
  else
    let s := returnReads t.req blk s
    let (kind, s) := readKind t.flips s
    if kind = 2 ∨ s.badBlocks.contains blk then memUe c t s
    else if kind = 1 then memCe c blk t.req (markCheck c t s)
    else s
where
  /-- R375: an error of a check bit is an error of its check block. -/
  markCheck (c : Nat) (t : MemTxn) (s : State) : State :=
    if t.flips.any (fun b => decide (512 ≤ b.val)) then
      setMemChan c { memChan s c with checkErrs := ((memChan s c).checkErrs ++ [checkBlock (prmN s P.MEMC_INTERLEAVE) t.addr]).dedup } s
    else s

/-- R367: a bank is refreshed. -/
def refreshed (y : Bank) : Bank := { y with row := none, raa := y.raa - Config.raaRefresh }

/-- R364, R367, R368: work of priority 1 is issued: a forced refresh, or an RFM. -/
def issueUrgent (u : Urgency) (x : MemChan) : MemChan :=
  match u with
  | .refresh b => { setBank b { refreshed (bank x b) with owed := (bank x b).owed - 1 } x with forced := x.forced + 1 }
  | .rfm b => { setBank b { bank x b with row := none, raa := (bank x b).raa - Config.raaLimit } x with rfms := x.rfms + 1 }

/-- R364: MEMORY_TRANSACTION: the transactions given, in order, reach the channel, and at a command slot it issues the oldest work of priority 1, or grants
one of the transactions that wait. -/
def execMemoryTransaction (ch : Fin 16) (waiting : List MemTxn) (s : State) : Host.Outcome State Fault Refusal :=
  let c := ch.val
  let s := arrive c waiting s
  let x := memChan s c
  let s := setMemChan c { x with slots := x.steps.map (fun p => (p.1, x.slots.get 0 p.1 + 1)) } s
  let x := memChan s c
  match (if x.state = 0 then x.urgent else []) with
  | u :: us => .next (setMemChan c (issueUrgent u { x with urgent := us }) s)
  | [] => match chooseTxn s c (x.queue.map (aged s)) with
    | some (i, t) => .next (grant c t (setMemChan c (fillQueue { x with queue := x.queue.eraseIdx i }) s))
    | none => .next s

/-! ### Real-time ports (R365, R366) -/

/-- R214: the bytes per second of a real-time port: the writes of four ports, the reads of eight, the history writes, the patch reads. -/
def rtpRate (d : Dict) (r : Nat) : Rat :=
  let half := fun (lo n : Nat) => (((List.range 16).filter (fun p => decide (lo ≤ p ∧ p < lo + n) && contributes d p)).map (fun p => 2 * portSamples d p)).sum
  if !dictB d P.STCH_OUT_RUN then 0
  else if r < 4 then half (4 * r) 4
  else if r < 6 then half (8 * (r - 4)) 8
  else if !dictB d P.RECD_HIST_EN then 0
  else if r = 6 then 2 * stitchedSamples d
  else if dictB d P.RECD_RUN then (1000000 : Rat) * dictN d P.RECD_PATCH_BUDGET else 0

/-- R365: the cover of a port: its traffic to one channel in 80 µs. -/
def cover (s : State) (r : Nat) : Nat := (rtpRate s.sys.applied r / 16 * 80 / 1000000).floor.toNat

/-- R365: the slices of a port overflow: beyond their base of 4 KiB each they hold more than the shared remainder. -/
def sliceOver (bytes : List Nat) : Bool := decide (983040 < (bytes.map (· - 4096)).sum)

/-- R365: the bytes of the sixteen slices by their lags. -/
def lagBytes (s : State) (r : Nat) (y : Rtp) : List Nat := (List.range 16).map (fun c => y.lags.get 0 c * cover s r / 100)

/-- R365, R366: MEM_PANIC: a slice of a real-time port reports its lag, in percent of the cover: beyond PANIC_LEVEL the port enters panic. A stream that was
held goes on once the slices have room. -/
def execMemPanic (r : Fin 8) (ch : Fin 16) (lag : Nat) (s : State) : Host.Outcome State Fault Refusal :=
  let y := rtp s r.val
  let y := { y with lags := y.lags.set 0 ch.val lag, peak := max y.peak lag }
  let y := { y with held := y.held && sliceOver (lagBytes s r.val y) }
  if prmN s (P.MEMC_PANIC_LEVEL (16 + r.val)) < lag ∧ y.panic = none then
    .next (raiseOpen 374 (setRtp r.val { y with panic := some (monoNs s), panics := y.panics + 1 } s))
  else .next (setRtp r.val y s)

/-- R366: PANIC_EXIT: every slice has fallen below half of PANIC_LEVEL: the lags of the sixteen slices; of one not given, the last lag stands. -/
def execPanicExit (r : Fin 8) (lags : List Nat) (s : State) : Host.Outcome State Fault Refusal :=
  let y := rtp s r.val
  let now := (List.range 16).map (fun i => lags[i]?.getD (y.lags.get 0 i))
  match y.panic with
  | some t =>
    if now.all (fun l => decide (2 * l < prmN s (P.MEMC_PANIC_LEVEL (16 + r.val)))) then
      .next (setRtp r.val { y with lags := (List.range 16).filterMap (fun i => if now[i]?.getD 0 = 0 then none else some (i, now[i]?.getD 0)),
                                   panic := none, held := false, panicNs := y.panicNs + (monoNs s - t) } s)
    else .next s
  | none => .next s

/-- R365: ELASTIC_OVERFLOW: the slices of a port would hold more than its buffer: the one that overflows is latched, and the port's stream is held. With
room again, the stream goes on. -/
def execElasticOverflow (f : SliceFill) (s : State) : Host.Outcome State Fault Refusal :=
  let y := rtp s f.rtp.val
  .next (setRtp f.rtp.val (if sliceOver f.bytes then { y with overflow := true, overflows := y.overflows + b2n (!y.held), held := true } else { y with held := false }) s)

/-! ### Refresh (R358, R367, R377) -/

/-- R367: REFRESH_INTERVAL: a refresh of a bank falls due. `burst` tells that a real-time burst runs on the bank, `idle` that the bank is
idle. In a burst it is postponed, and at the limit takes priority 1; without one it is issued in its interval, and one that was postponed with it, or one in
advance on an idle bank. -/
def execRefreshInterval (ch : Fin 16) (bk : Fin 16) (burst idle : Bool) (s : State) : Host.Outcome State Fault Refusal :=
  let c := ch.val
  let x := memChan s c
  let y := bank x bk.val
  let up := min 8 (y.owed + 1)
  if x.state ≠ 0 then .next (setMemChan c (setBank bk.val { y with owed := up } x) s)
  else if burst = false then
    let owed := if 0 < y.owed then y.owed - 1 else if idle then max (-8) (y.owed - 1) else y.owed
    .next (setMemChan c { setBank bk.val { refreshed y with owed := owed } x with urgent := x.urgent.filter (· ≠ .refresh bk.val) } s)
  else if up = 8 then .next (setMemChan c (askUrgent (.refresh bk.val) (setBank bk.val { y with owed := 8 } x)) s)
  else .next (setMemChan c { setBank bk.val { y with owed := up } x with postponed := x.postponed + 1 } s)

/-- R367, R377: MR4_READ, every 4 ms: the refresh rate of the package's channels (1, 2 or 4 times); a temperature above the package's limit
raises MEM_HOT and steps θ. -/
def execMr4Read (pkg : Fin 4) (rate : Nat) (hot : Bool) (s : State) : Host.Outcome State Fault Refusal :=
  let s := forEach (List.range 4) (fun k s => setMemChan (4 * pkg.val + k) { memChan s (4 * pkg.val + k) with rate := rate } s) s
  .next (if hot then riseTheta true (raiseOpen 377 s) else s)

/-- R358: ZQ_LATCH, every 64 ms. -/
def execZqLatch (s : State) : Host.Outcome State Fault Refusal := .next { s with memc.zq := s.memc.zq + 1 }

/-- R369: RH_WINDOW_END: the requesters whose rows all stayed below the threshold return to step 0; the counts begin again. -/
def execRhWindowEnd (ch : Fin 16) (s : State) : Host.Outcome State Fault Refusal :=
  let x := memChan s ch.val
  .next (setMemChan ch.val { x with steps := x.steps.filter (fun p => x.hit.contains p.1), hit := []
                                    banks := x.banks.filterMap (fun p => let y := { p.2 with rows := [] }; if y = {} then none else some (p.1, y)) } s)

/-! ### Retraining (R370, R371) -/

/-- R484: Burnish is suspended. -/
def burnishSuspended (s : State) : Bool := measured s 1 != 0 || s.bkgd.suspended || decide (2 ≤ s.thrm.state)

/-- A calibration MEM_RETRAIN that has started asks for a channel. -/
def retrainTest (s : State) (c : Nat) : Bool :=
  s.bkgd.tests.any (fun t => t.code == 0x0101 && t.inst == c && (t.started || !burnishSuspended s))

/-- R365, R370: the real-time ports that read: their slices of a channel hold data fetched ahead. -/
def readPorts : List Nat := [4, 5, 7]

/-- R370 step 1: every real-time read slice of a channel raises its target read-ahead to its cover. -/
def raiseAhead (c : Nat) (s : State) : State := forEach readPorts (fun r s => setRtp r { rtp s r with ahead := (rtp s r).ahead.set 0 c (cover s r) } s) s

/-- R370: the attempt or the retraining has ended: the target read-ahead of the channel's slices is the usual one. -/
def usualAhead (c : Nat) (s : State) : State := forEach readPorts (fun r s => setRtp r { rtp s r with ahead := (rtp s r).ahead.erase c } s) s

/-- R370: RETRAIN_START: a channel that Burnish or CALIBRATE asked for begins retraining, while no other does, no port is in panic and every lag lies
below 25 %. -/
def execRetrainStart (ch : Fin 16) (s : State) : Host.Outcome State Fault Refusal :=
  let c := ch.val
  let x := memChan s c
  let asked := (s.bkgd.wants.contains c && !burnishSuspended s) || retrainTest s c
  let calm := !anyPanic s && (List.range 8).all (fun r => (rtp s r).lags.all (fun p => decide (p.2 < 25)))
  let free := (List.range 16).all (fun k => (memChan s k).train == 0)
  if asked ∧ calm ∧ free ∧ x.state = 0 then
    .next (setMemChan c { x with train := 1, again := false } { raiseAhead c s with bkgd.nRetrain := s.bkgd.nRetrain + 1 })
  else .next s

/-- R370 steps 2 and 3: RETRAIN_READ_AHEAD_FULL: the banks are precharged and the channel enters self-refresh. -/
def execRetrainReadAheadFull (ch : Fin 16) (s : State) : Host.Outcome State Fault Refusal :=
  let x := memChan s ch.val
  if x.train = 1 ∧ anyPanic s = false then
    .next (setMemChan ch.val { x with train := 3, state := 1, banks := x.banks.filterMap (fun p =>
      let y := { p.2 with row := none }; if y = {} then none else some (p.1, y)) } s)
  else .next s

/-- R370: RETRAIN_ABANDONED: a panic before step 3 abandons the attempt, which is retried after the panic ends. -/
def execRetrainAbandoned (ch : Fin 16) (s : State) : Host.Outcome State Fault Refusal :=
  let x := memChan s ch.val
  if x.train = 1 ∧ anyPanic s then .next (setMemChan ch.val { x with train := 0, again := true, failed := x.failed + 1 } (usualAhead ch.val s)) else .next s

/-- R370 steps 6 and 7: RETRAIN_DONE: owed refreshes are issued and the channel resumes; where training found no eye it keeps its settings and
MEM_RETRAIN reports the failure. -/
def execRetrainDone (ch : Fin 16) (eye : Bool) (s : State) : Host.Outcome State Fault Refusal :=
  let c := ch.val
  let x := memChan s c
  if x.train ≠ 3 then .next s
  else
    let s := usualAhead c s
    let s := setMemChan c { x with
      train := 0, state := 0, urgent := x.urgent.filter (fun u => match u with | .refresh _ => false | .rfm _ => true), trained := x.trained + b2n eye, failed := x.failed + b2n (!eye)
      banks := x.banks.filterMap (fun p => let y := if 0 < p.2.owed then { refreshed p.2 with owed := 0 } else p.2; if y = {} then none else some (p.1, y)) } s
    let s := { s with bkgd.wants := s.bkgd.wants.filter (· ≠ c), bkgd.retrainedNs := s.bkgd.retrainedNs.insert c (monoNs s),
                      bkgd.retrainTemp := s.bkgd.retrainTemp.insert c (site s (15 + c / 4)).reading }
    let t := s.bkgd.tasks.get {} 5
    let s := if s.bkgd.wants = [] then { s with bkgd.tasks := s.bkgd.tasks.set {} 5 { t with doneNs := nowNs s } } else s
    .next (if eye then s else raiseOpen 376 s)

/-! ### Registers that a read clears (R376) -/

/-- R376: MC_ERR_HI_READ returns and clears the error record. -/
def execMcErrHiRead (a : Acc) (ch : Fin 16) (s : State) : Host.Outcome State Fault Refusal :=
  let c := ch.val
  .next (windowRead a true 0x0F (c * 0x40 + 8)
    (fun s => let x := memChan s c; 2 ^ 31 * b2n x.errValid + 2 ^ 30 * b2n x.errUn + 2 ^ 22 * x.errReq + x.errAddr / 2 ^ 32 % 16)
    (fun s => setMemChan c { memChan s c with errValid := false, errUn := false, errReq := 0, errAddr := (memChan s c).errAddr % 2 ^ 32 } s) s)

/-- R376: RTP_STATUS_READ returns the lags and clears LAG_PEAK. -/
def execRtpStatusRead (a : Acc) (r : Fin 8) (s : State) : Host.Outcome State Fault Refusal :=
  .next (windowRead a true 0x0F (0x800 + r.val * 0x10)
    (fun s => let y := rtp s r.val
      2 ^ 24 * min 255 y.peak + 2 ^ 16 * min 255 (y.lags.foldl (fun m p => max m p.2) 0) + 2 * b2n y.overflow + b2n y.panic.isSome)
    (fun s => setRtp r.val { rtp s r.val with peak := 0 } s) s)

end Sys2Proof.Machine
end

