-- ==== Sys2Proof/Machine/Stitched.lean ====
section
/-! DEFINITION. Machine/Stitched.lean: the stitched lines and the composed rows, and the start and stop of the stitcher with what
follows it (R195 to R201, R209 to R211). -/

namespace Sys2Proof.Machine

/-- R14, R209, R245, R267, R300: the stitcher stops at its switch line, and with it SEGM and RECD behind their last line. -/
def stopStitcher (s : State) : State :=
  let s := { s with stch.run := false, stch.ins := [], stch.prevRow := none }
  let s := forEach (if s.recd.run then [3, 4, 6, 9] else [3, 4, 5, 6, 9]) (fun p s => closeProduct p 0xFF s) s
  if s.segm.run then (if s.segm.inq.isEmpty then stopSegm s else { s with segm.stopping := true }) else s

/-- R195, R197: the stitcher starts. -/
def startStitcher (s : State) : State :=
  { s with stch := { s.stch with
      run := true, runNo := s.stch.runNo + 1, startEpoch := s.sys.epoch, epoch := s.sys.epoch, ins := [], next := 0, globalLine := 0, frame := 0, lineInFrame := 0, frameLen := 0
      prevRow := none } }

/-- R404: a word of COEF in error is read for port `p`: one of a phase that its columns take. -/
def coefBad (s : State) (d : Dict) (p : Nat) : Bool :=
  dictVal d (P.STCH_CD_MODE p) != 1 && s.chk.copies.any (fun c => c.tab == P.COEF) &&
    (List.range (dictN d (P.STCH_X1 p) + 1 - dictN d (P.STCH_X0 p))).any (fun k =>
      let row := (dictN d (P.STCH_CD_SET p) * 64 + (srcPos d p (dictN d (P.STCH_X0 p) + k) % 64).toNat) * 2
      copyBad s P.COEF row || copyBad s P.COEF (row + 1))

/-- R404: memory upsets in the tile row read of a port: (port, sample, value as read). -/
def upsetPart (ups : List (Nat × Nat × Nat)) (q : PortPart) : PortPart :=
  let mine := ups.filterMap (fun u => if u.1 = q.port then some u.2 else none)
  if mine.isEmpty then q else { q with
    read := q.read.map (fun r => (r.1, r.2.1, { r.2.2 with px := upsetPx mine r.2.2.px })), px := q.px.map (upsetPx mine) }

/-- R487: a stitcher that a forced test has taken out of service contributes nothing from the port concerned, or from any. -/
def testedPart (s : State) (q : PortPart) : PortPart := if forcedOut s 7 q.port || forcedOut s 7 16 then { q with px := none } else q

/-- R208: the lines of a part whose check fails. -/
def badReads (q : PortPart) : List Nat := (q.read.filter (fun r => lineCheck r.2.2.px != r.2.2.stamp.lineCheck)).map (fun r => r.1)

/-- R254: a pending patch still has to read the line in the slot that line `n` would take. -/
def historyHeld (s : State) (d : Dict) (n : Nat) : Bool :=
  let depth := dictN d P.RECD_HIST_DEPTH
  dictVal d P.RECD_HIST_EN == 1 && s.recd.hist.any (fun e =>
    let m := e.2.stamp.globalLine
    m % depth == n % depth && s.recd.patches.any (fun q => q.runNo == e.1 && decide (q.top ≤ m ∧ m ≤ q.bottom)))

/-- R249, R254, R261, R365: the stitched stream is held: segmentation or the record unit has not finished the line before, a patch
still reads the history, or a real-time port that it reads or writes has overflowed. -/
def streamHeld (s : State) (d : Dict) : Bool :=
  !s.segm.inq.isEmpty || !s.recd.inq.isEmpty || historyHeld s d s.stch.globalLine ||
    (contributors d).any (fun p => rtpHeld s (4 + p / 8)) || (dictVal d P.RECD_HIST_EN == 1 && rtpHeld s 6)

/-- R198, R200: stitched line `n` reads the line of index `j` of port `p`, for the first time. -/
def newlyRead (d : Dict) (s : State) (n p j : Nat) : Bool :=
  let (a, f) := lineIndex d p n
  (contributors d).contains p && (j == a || (f != 0 && j == a + 1)) && decide ((stchIn s p).readTo ≤ j)

/-- R201: lines, by port and index, whose read-back for this line is uncorrectable are marked. -/
def markBad (errs : List (Nat × Nat)) (n : Nat) (d : Dict) (s : State) : State :=
  forEach (errs.filter (fun e => newlyRead d s n e.1 e.2)) (fun e s =>
    let x := stchIn s e.1
    if x.bad.contains (e.2, 0) then s else setStchIn e.1 { x with bad := x.bad ++ [(e.2, 0)] } { s with stch.readErrs := s.stch.readErrs + 1 }) s

/-- R404, R208: memory upsets in stored lines, each (port, index, sample, value as read), found as they are first read. -/
def upsetStored (ups : List (Nat × Nat × Nat × Nat)) (n : Nat) (d : Dict) (s : State) : State :=
  forEach (ups.filter (fun u => newlyRead d s n u.1 u.2.1)) (fun u s =>
    let x := stchIn s u.1
    setStchIn u.1 { x with ring := x.ring.map (fun r => if r.1 = u.2.1 then (r.1, r.2.1, { r.2.2 with px := upsetPx [u.2.2] r.2.2.px }) else r) } s) s

/-- R200: after stitched line `n` the lines it has read are known, and each ring keeps the line before the next one to be read (R198). -/
def afterLine (d : Dict) (n p : Nat) (x : StchIn) : StchIn :=
  let (a, f) := lineIndex d p n
  let low := n + dMax d - dictN d (P.STCH_MD_DELAY p)
  { x with readTo := max x.readTo (if f = 0 then a + 1 else a + 2)
           ring := x.ring.filter (fun y => decide (low ≤ y.1)), bad := x.bad.filter (fun y => decide (low ≤ y.1)) }

/-- R78, R82, R195: the set that stops the stitcher has stopped a contributing port too, whose last line has come and which lacks
its part of the next stitched line (`has` tells): the stitched switch line is never formed, and the stitcher stops in its place. -/
def stitchEnded (s : State) (has : Nat → Bool) : Bool :=
  (match s.sys.cinch with | some c => c.phase == 2 && c.waiting.contains 16 | none => false) && prm s P.STCH_OUT_RUN == 0 &&
    (contributors (dictAt s s.stch.epoch)).any (fun p =>
      !(port s p).run && (port s p).out.isEmpty && (s.strips.get {} p).inq.isEmpty && (s.colrs.get {} p).wait.isEmpty &&
        (stchIn s p).inq.isEmpty && !has p)

/-- R198 to R209, R213, R253: STITCHED_LINE: the next stitched line in line mode. `readErr` are the lines, by port and index, whose read-back
holds an uncorrectable error (R201), `upset` memory upsets (R404); both are found as a line is first read. -/
def execStitchedLine (readErr : List (Nat × Nat)) (upset : LineUpset (Nat × Nat × Nat × Nat)) (s : State) : Host.Outcome State Fault Refusal :=
  let d0 := dictAt s s.stch.epoch
  let n := s.stch.next
  if !s.stch.run || areaMode d0 || dataPathHeld s || waitsStitched s s.stch.globalLine || streamHeld s d0 then .next s
  else
    let ports := contributors d0
    let r := dictN d0 P.STCH_OUT_REF_PORT
    if stitchEnded s (fun p => (linePart s d0 n p).isSome) then .next (stopStitcher (passSwitch 16 s))
    else if ports.isEmpty || ports.any (fun p => (linePart s d0 n p).isNone) then .next s
    else
      let ref := match linePart s d0 n r with | some q => ((q.read.head?).map (fun x => x.2.2.stamp)).getD {} | none => {}
      let fs := s.stch.lineInFrame == 0
      let e := stitchEpoch s ref.epoch fs
      let d := dictAt s e
      let s := if e = s.sys.epoch then passSwitch 16 s else s
      if dictVal d P.STCH_OUT_RUN = 0 then .next (stopStitcher s)
      else
        let s := upsetStored upset.entry n d (markBad readErr n d s)
        let parts := (ports.filterMap (linePart s d n)).map (testedPart s)
        let fails := parts.any (fun q => !(badReads q).isEmpty)
        let s := { s with chk.stitch := s.chk.stitch + (parts.map (fun q => ((badReads q).filter (newlyRead d s n q.port)).length)).sum }
        let coefs := parts.any (fun q => coefBad s d q.port)
        let anyBad := ports.any (fun p => match linePart s d n p with | some q => q.read.any (fun x => (stchIn s p).bad.contains (x.1, x.2.1)) | none => false)
        let len := if fs then dictN d P.STCH_OUT_FRAME_LENGTH else s.stch.frameLen
        let fe := s.stch.lineInFrame + 1 == len
        let l := formRow (asRead s d) parts ref e 0 s.stch.lineInFrame s.stch.frame s.stch.globalLine fs fe (fails || anyBad || coefs)
        let s := { s with stch := { s.stch with
          epoch := e, next := n + 1, globalLine := (s.stch.globalLine + 1) % 2 ^ 48, frameLen := len, lineInFrame := if fe then 0 else s.stch.lineInFrame + 1
          frame := if fe then (s.stch.frame + 1) % 2 ^ 32 else s.stch.frame
          ins := s.stch.ins.map (fun x => (x.1, afterLine d n x.1 x.2)) } }
        .next (emitStitched d l upset.prof upset.former s)

/-! ### Area mode (R210, R211) -/

/-- R210, R211: the part of port `p` in row `y` of stitched frame `f`: none of its rows covers the row, or the row of its tile. -/
def rowPart (s : State) (d : Dict) (f y p : Nat) : Option PortPart :=
  let ty := dictN d (P.STCH_TILE_Y p)
  if y < ty ∨ ty + dictN d (P.PORT_HEIGHT p) ≤ y then none
  else
    let x := stchIn s p
    match storedLine x f (y - ty) with
    | some l => some ⟨p, [(f, y - ty, l)], if usable x f (y - ty) l then some l.px else none⟩
    | none => some ⟨p, [], none⟩

/-- R211: AREA_COMPOSITION: the next row of a stitched frame is composed, once every contributing port has delivered its frame.
`readErr` are the ports whose tile row has an uncorrectable read-back (R201), `upset` memory upsets (R404). -/
def execAreaComposition (readErr : List Nat) (upset : LineUpset (Nat × Nat × Nat)) (s : State) : Host.Outcome State Fault Refusal :=
  let d0 := dictAt s s.stch.epoch
  let f := s.stch.frame
  let y := s.stch.lineInFrame
  let ports := contributors d0
  if !s.stch.run || !areaMode d0 || dataPathHeld s || waitsStitched s s.stch.globalLine || streamHeld s d0 then .next s
  else if stitchEnded s (fun p => (stchIn s p).ended.contains f) then .next (stopStitcher (passSwitch 16 s))
  else if ports.isEmpty || ports.any (fun p => !((stchIn s p).ended.contains f)) then .next s
  else
    let ref := ((storedLine (stchIn s (dictN d0 P.STCH_OUT_REF_PORT)) f 0).map Line.stamp).getD {}
    let e := if y = 0 then stitchEpoch s ref.epoch true else s.stch.epoch
    let d := dictAt s e
    let s := if e = s.sys.epoch then passSwitch 16 s else s
    if dictVal d P.STCH_OUT_RUN = 0 then .next (stopStitcher s)
    else
      let s := forEach (readErr.filter (fun p => ports.contains p && (rowPart s d f y p).isSome)) (fun p s =>
        let x := stchIn s p
        setStchIn p { x with bad := x.bad ++ [(f, y - dictN d (P.STCH_TILE_Y p))] } { s with stch.readErrs := s.stch.readErrs + 1 }) s
      let parts := (ports.filterMap (rowPart s d f y)).map (fun q => testedPart s (upsetPart upset.entry q))
      let fails := (parts.map (fun q => (badReads q).length)).sum
      let anyBad := parts.any (fun q => q.read.any (fun x => (stchIn s q.port).bad.contains (x.1, x.2.1)))
      let fe := y + 1 == dictN d P.STCH_OUT_HEIGHT
      let l := formRow d parts ref e y y f s.stch.globalLine (y == 0) fe (decide (0 < fails) || anyBad)
      let drop := fun (x : StchIn) => { x with ring := x.ring.filter (fun r => decide (f < r.1)), ended := x.ended.filter (fun r => decide (f < r))
                                               bad := x.bad.filter (fun r => decide (f < r.1)) }
      let s := { s with
        chk.stitch := s.chk.stitch + fails
        stch := { s.stch with
          epoch := e, globalLine := (s.stch.globalLine + 1) % 2 ^ 48, next := s.stch.next + 1, lineInFrame := if fe then 0 else y + 1
          frame := if fe then (f + 1) % 2 ^ 32 else f, ins := if fe then s.stch.ins.map (fun x => (x.1, drop x.2)) else s.stch.ins } }
      .next (emitStitched d l upset.prof upset.former s)

end Sys2Proof.Machine
end

