-- ==== Sys2Proof/Machine/Start.lean ====
section
/-! DEFINITION. Machine/Start.lean: reset, clocks, start-up and restarts (chapter "Reset, Clocks and Start-Up"), and the steps of an orderly stop
(R474). -/
namespace Sys2Proof.Machine

/-! ### Restarts (R507) -/

/-- R362: what a restart keeps of the configuration: MEMC[0].INTERLEAVE where DRAM is held. -/
def heldDict (kind : Nat) (s : State) : Dict :=
  if kind = 1 then { vals := s.sys.applied.vals.filter (fun p => p.1 == P.MEMC_INTERLEAVE) } else {}

/-- R507: a restart of a kind. The store, the keys and what AON keeps stay; the configuration returns to its defaults at EPOCH 0, every session
closes, the claim is released, and start-up begins again. Observations of the model stay as well. -/
def restart (kind : Nat) (s : State) : State :=
  let s := releaseClaim s
  let r : State := {
    pending := s.pending, freeCtr := s.freeCtr
    sys := { applied := heldDict kind s, keys := s.sys.keys, outbox := s.sys.outbox, cinched := false
             log := { entries := if kind = 1 then s.sys.log.entries else [], mirror := if kind = 1 then s.sys.log.mirror else [], next := s.sys.log.next, persisted := s.sys.log.persisted
                      persistedEntries := s.sys.log.persistedEntries } }
    tk := if kind = 2 then {} else { s.tk with ports := [] }
    netw := { sent := s.netw.sent }, twin := { sent := s.twin.sent, lineHigh := s.twin.lineHigh || s.twin.driving }
    core := { busErrors := s.core.busErrors, rdata := s.core.rdata }, evnt := { gpxLevel := s.evnt.gpxLevel }
    ht := { state := 1 }
    thrm := { sites := s.thrm.sites, trip := s.thrm.trip }
    stor := { s.stor with ops := [] }
    boot := { porst := false, stage := 0, domains := if kind = 2 then 1 else if kind = 0 then 3 else 5, clocks := s.boot.clocks &&& (if kind = 1 then 7 else 3)
              kind := kind, banks := s.boot.banks, slot := if kind = 1 then s.boot.slot else 0, version := if kind = 1 then s.boot.version else 0
              advance := kind == 1 && s.boot.advance, held := kind == 1, mapped := kind == 1, written := s.boot.written, generation := s.boot.generation, preferred := s.boot.preferred
              rollback := s.boot.rollback }
    memc := { chans := if kind = 1 then (List.range 16).map (fun c => (c, { state := 2 })) else [] }
    mem := if kind = 1 then s.mem.filter (fun c => decide (c.1 < dramEnd)) else []
    badBlocks := if kind = 1 then s.badBlocks.filter (fun b => decide (b < dramEnd)) else [] }
  if kind = 2 then r else stopClock r

/-- R476: a thermal restart leaves θ at 7. -/
def thermalRestart (s : State) : State :=
  let s := restart (if s.thrm.state = 3 then 1 else 0) s
  { s with thrm.theta := 7, thrm.cap := 7, thrm.state := 1 }

/-- R65, R507: RESET takes effect after its reply. -/
def doReset (h : Hdr) (kind : Nat) (s : State) : State :=
  let s := xesil (.reset h kind) { op := 0x0006, h := h, params := leBytes 1 kind, count := 1, value := kind } false (fun _ => [])
    (fun _ => if 2 < kind then refuse1 0x0301 0 0 else [])
    (fun _ s => .done [] false kind { s with boot.resetting := some kind })
    (fun _ => []) s
  match s.boot.resetting with
  | some k => restart k s
  | none => s

/-- R476: THERMAL_RESTART. -/
def doThermalRestart (h : Hdr) (s : State) : State :=
  let s := xesil (.thermalRestart h) { op := 0x0A03, h := h, count := 1 } false (fun _ => []) (fun _ => [])
    (fun _ s => if (s.thrm.state = 3 ∨ s.thrm.state = 4) ∧ s.thrm.rearmed then .done [] false 0 { s with boot.resetting := some 3 }
                else .refuse (refuseFree 0x0505))
    (fun _ => []) s
  if s.boot.resetting = none then s else thermalRestart s

/-! ### Power-on (R497 to R504) -/

/-- R497, R507: PORST_N_ASSERT: the device is in reset. The store, the keys, the flash and the fuses keep what they hold. -/
def execPorstNAssert (s : State) : Host.Outcome State Fault Refusal :=
  .next { State.reset with
    pending := s.pending, freeCtr := s.freeCtr
    sys := { keys := s.sys.keys, outbox := s.sys.outbox
             log := { next := s.sys.log.next, persisted := s.sys.log.persisted, persistedEntries := s.sys.log.persistedEntries } }
    netw := { sent := s.netw.sent }, twin := { sent := s.twin.sent, lineHigh := s.twin.lineHigh || s.twin.driving }
    core := { busErrors := s.core.busErrors, rdata := s.core.rdata }, evnt := { gpxLevel := s.evnt.gpxLevel }
    stor := { s.stor with ops := [] }
    boot := { written := s.boot.written, generation := s.boot.generation, preferred := s.boot.preferred, rollback := s.boot.rollback } }

/-- R503, R504, R517: PORST_N_RELEASE: PD0 is up, HT answers at its defaults with state byte 1, and the I/O banks select their levels (bit 0 bank A,
bit 1 bank B at 3.3 V). -/
def execPorstNRelease (banks : Fin 4) (s : State) : Host.Outcome State Fault Refusal :=
  .next (if s.boot.porst then { s with boot.porst := false, boot.domains := 1, boot.banks := banks.val, ht.state := 1 } else s)

/-- R370, R483: the sixteen channels have been trained: the time and the reading of each one's site are noted. -/
def trainAll (s : State) : State :=
  { s with memc := {}, bkgd.retrainedNs := (List.range 16).map (fun c => (c, monoNs s))
           bkgd.retrainTemp := (List.range 16).map (fun c => (c, (site s (15 + c / 4)).reading)) }

/-- R503: stage LOAD begins once the boot ROM has read the descriptors, PD3 and PD4 are up and CLK_MEM is locked: the channels are trained. -/
def toLoad (s : State) : State :=
  if s.boot.stage = 1 ∧ 5 ≤ s.boot.domains ∧ bitOf s.boot.clocks 2 then trainAll { s with boot.stage := 2 } else s

/-- R498: the domains that a synthesiser needs, as positions of R477. -/
def clockNeeds (k : Nat) : Nat := if k < 2 then 1 else if k = 2 then 4 else 6

/-- R498, R504: SYNTHESISER_LOCK: a synthesiser of the table locks (0 CLK_CTL, 1 CLK_TIME, 2 CLK_MEM, 3 CLK_FAB, 4 CLK_PIX, 5 CLK_CPU). At the lock of CLK_TIME the
Timekeeper is preset to MTIME × 6.4 ns; `m` is MTIME. -/
def execSynthesiserLock (clk : Fin 6) (m : Nat) (s : State) : Host.Outcome State Fault Refusal :=
  if s.boot.porst ∨ s.boot.domains < clockNeeds clk.val then .next s
  else
    let t := { s with boot.clocks := s.boot.clocks ||| 2 ^ clk.val }
    if clk.val = 1 ∧ bitOf s.boot.clocks 1 = false then
      let fs := m * 64
      .next { t with tk.secs := fs / 10000000000, tk.ns := fs / 10 % 1000000000, tk.acc := (fs % 10) * 2 ^ 48 / 10, tk.cycles := (16 * m + 4) / 5 }
    else .next (toLoad t)

/-- R440: a core of a cluster needs power. -/
def clusterNeeded (s : State) (b : Nat) : Bool := (List.range 4).any (fun k => prmB s (P.CORE_RUN (4 * b + k)))

/-- R477: POWER_DOMAIN_UP: the next domain in order is up; after PD21 a cluster of which a core needs power. -/
def execPowerDomainUp (s : State) : Host.Outcome State Fault Refusal :=
  if s.boot.porst ∨ 3 ≤ s.thrm.state then .next s
  else if s.boot.domains < 22 then .next (toLoad { s with boot.domains := s.boot.domains + 1 })
  else if clusterNeeded s 0 ∧ s.boot.clusterA = false then .next { s with boot.clusterA := true }
  else if clusterNeeded s 1 ∧ s.boot.clusterB = false then .next { s with boot.clusterB := true }
  else .next s

/-- R500: a boot descriptor as read: GENERATION and PREFERRED where it is valid. -/
def descriptor (b : List Byte) : Option (Nat × Nat) :=
  if leAt b 0 4 = 0x44425954 ∧ leAt b 60 4 = crc32c (b.take 60) ∧ leAt b 8 1 ≤ 1 then some (leAt b 4 4, leAt b 8 1) else none

/-- R500: the descriptor that governs. The spec names none where neither is valid or both carry the same GENERATION. -/
def governing (a b : List Byte) : Option (Nat × Nat) :=
  match descriptor a, descriptor b with
  | some x, some y => if x.1 < y.1 then some y else if y.1 < x.1 then some x else if x = y then some x else none
  | some x, none => some x
  | none, some y => some y
  | none, none => none

/-- R500, R502: BOOT_ROM: PD2 is up and CLK_CTL locked: the boot ROM reads the descriptors and tries the preferred slot first. -/
def execBootRom (descA descB : List Byte) (s : State) : Host.Outcome State Fault Refusal :=
  if s.boot.porst ∨ s.boot.stage ≠ 0 ∨ s.boot.kind = 1 ∨ s.boot.domains < 3 ∨ bitOf s.boot.clocks 0 = false then .next s
  else
    match governing descA descB with
    | some (g, p) => .next (toLoad { s with boot.stage := 1, boot.generation := g, boot.preferred := p, boot.tries := [p, 1 - p] })
    | none =>
      let (v, s) := fresh s
      .next (toLoad { s with boot.stage := 1, boot.preferred := v % 2, boot.tries := [v % 2, 1 - v % 2] })

/-- R439, R501: the header of a supervisor image is well formed and its version not below the rollback counter. -/
def imageOk (rollback : Nat) (hdr : List Byte) : Bool :=
  let flags := leAt hdr 6 2
  let len := leAt hdr 8 4
  let load := leAt hdr 16 8
  let entry := leAt hdr 24 8
  decide (leAt hdr 0 4 = 0x53555954 ∧ leAt hdr 4 2 = 1 ∧ flags % 2 = 1 ∧ flags < 4 ∧ 64 ≤ len ∧ len ≤ 16777216 ∧ len % 64 = 0 ∧ load % 64 = 0 ∧
    load ≤ entry ∧ entry < load + len ∧ rollback ≤ leAt hdr 12 4 ∧ hdr.length = 128) && (hdr.drop 80).all (fun b => b == 0)

/-- R501 to R503: IMAGE_LOADED: an image is copied and checked: its header, and `good` that LOAD and ENTRY lie in the supervisor's region and that digest and
signature verify. An image that is refused leaves the other slot to try. -/
def execImageLoaded (hdr : List Byte) (good : Bool) (s : State) : Host.Outcome State Fault Refusal :=
  match s.boot.tries with
  | k :: rest =>
    if s.boot.stage ≠ 2 then .next s
    else if good && imageOk s.boot.rollback hdr then
      .next { s with boot.stage := 4, boot.slot := k, boot.version := leAt hdr 12 4, boot.advance := bitOf (leAt hdr 6 2) 1, boot.tries := [] }
    else .next { s with boot.tries := rest, boot.stage := if rest = [] then 3 else 2 }
  | [] => .next s

/-- R502: BOOT_FAILED: both slots are refused. -/
def execBootFailed (s : State) : Host.Outcome State Fault Refusal :=
  .next (if s.boot.stage = 3 ∧ s.boot.tries = [] then { s with boot.stage := 7 } else s)

/-- R503, R501: stage READY; an image that advances the rollback counter raises it. -/
def becomeReady (s : State) : State :=
  { s with boot.stage := 6, boot.readyNs := some (nowNs s), boot.rollback := if s.boot.advance then max s.boot.rollback s.boot.version else s.boot.rollback }

/-- R97, R475, R503: STORE_MOUNTED: the ring holds the persisted entries where DRAM was not held, a RESTART entry is logged, and after a hard stop its cause. -/
def execStoreMounted (s : State) : Host.Outcome State Fault Refusal :=
  if s.boot.stage ≠ 4 then .next s
  else
    let s := { s with boot.stage := 5, ht.state := 0, sys.log.entries := if s.boot.held then s.sys.log.entries else s.sys.log.persistedEntries }
    let s := logNow { kind := 7, count := 1, value := s.boot.kind } s
    let s := match s.thrm.trip with
      | some t => if t.noted then s else logDevice 559 0x0505 t.site t.cause { s with thrm.trip := some { t with noted := true } }
      | none => s
    .next (if s.boot.held then becomeReady s else s)

/-- R505: DRAM_INITIALISED: the initialisation write ends. -/
def execDramInitialised (s : State) : Host.Outcome State Fault Refusal :=
  .next (if s.boot.stage = 5 then becomeReady s else s)

/-- R507, R372: RESTART_DRAM_HELD: the digest of the image kept in DRAM is checked, and the channels leave self-refresh and are trained; where the
check fails the restart goes on as kind 0. -/
def execRestartDramHeld (good : Bool) (s : State) : Host.Outcome State Fault Refusal :=
  if s.boot.kind ≠ 1 ∨ s.boot.stage ≠ 0 ∨ s.boot.porst then .next s
  else if good then .next (trainAll { s with boot.stage := 4 })
  else .next (restart 0 s)

/-! ### The orderly stop (R474) -/

/-- R474 step 2: every port stops, and every stream with it. -/
def stopStreams (s : State) : State :=
  let s := forEach (List.range 16) (fun p s => if (port s p).run then passSwitch p (stopPort p s) else s) s
  let s := if s.stch.run then passSwitch 16 (stopStitcher s) else s
  stopSegm (forEach (List.range 16) stopProf s)

/-- R474 step 3: the units still queued, in the coding backlog, in an engine or in a transmit queue, are discarded. -/
def dropQueued (s : State) : State :=
  let s := forEach s.cmpr.backlog cmprDrop (forEach (List.range 16) dropCoding { s with cmpr.backlog := [] })
  forEach (List.range 3) (fun p s =>
    forEach (List.range 8) (fun q s =>
      let us := (txQueue (netPort s p) q).units
      let s := setNetPort p { setTxQueue (netPort s p) q { txQueue (netPort s p) q with units := [] } with bufDrop := (netPort s p).bufDrop + us.length } s
      forEach us (fun (u : TxUnit) s => dispose u.flow 2 u.seq u.product p s) s) s) s

/-- R474 step 4: a DEVICE entry records the stop, and the log is persisted where the store may be written. -/
def logStop (s : State) : State :=
  let s := logDevice 559 0x0505 0 0 s
  if storeInhibited s then s else pumpStore (queuePersist .persist s)

/-- R474 step 6: the claim is released and the domains down to PD5 are off: STOPPED. The ORDERLY_STOP command completes. -/
def powerOff (s : State) : State :=
  let s := cutData (releaseClaim s)
  let s := setThermal 3 { s with boot.domains := min 5 s.boot.domains, boot.clusterA := false, boot.clusterB := false, boot.clocks := s.boot.clocks &&& 7 }
  forEach (s.sys.deferred.filter (fun d => d.opcode == 0x0A04)) (fun d s => endDeferred d 0 [] false 0 s) s

/-- R474: ORDERLY_STOP_STEP: the next step of the table ends. -/
def execOrderlyStopStep (s : State) : Host.Outcome State Fault Refusal :=
  if s.thrm.state ≠ 2 then .next s
  else
    let n := s.thrm.stopStep + 1
    let s := { s with thrm.stopStep := n }
    if n = 2 then .next (stopStreams s)
    else if n = 3 then .next (dropQueued s)
    else if n = 4 then .next (logStop s)
    else if n = 5 then .next (forEach (List.range 16) (fun c s => setMemChan c { memChan s c with state := 2 } s) s)
    else .next (powerOff s)

end Sys2Proof.Machine
end

