-- ==== Sys2Proof/Machine/Burnish.lean ====
section
/-! DEFINITION. Machine/Burnish.lean: background tasks, telemetry, tests and calibrations (chapter "Burnish and Background Work"). -/
namespace Sys2Proof.Machine

/-! ### Tasks (R483, R484) -/

/-- A task of R483. -/
def task (s : State) (k : Nat) : Task := s.bkgd.tasks.get {} k

/-- Replace a task. -/
def setTask (k : Nat) (x : Task) (s : State) : State := { s with bkgd.tasks := s.bkgd.tasks.set {} k x }

/-- A task completes. -/
def taskDone (k : Nat) (s : State) : State := setTask k { task s k with doneNs := nowNs s } s

/-- R483: TASK_EN enables a task: bits 0 to 3 are tasks 1, 4, 5 and 6. -/
def taskOn (s : State) (k : Nat) : Bool := bitOf (prmN s P.BKGD_TASK_EN) (if k = 1 then 0 else k - 3)

/-- R484: a period ends while its task is suspended or unfinished. -/
def overrun (k : Nat) (s : State) : State :=
  let x := task s k
  setTask k { x with owed := true, overruns := x.overruns + 1 }
    { s with bkgd.nOverruns := s.bkgd.nOverruns + 1, bkgd.overdue := s.bkgd.overdue ||| 2 ^ (k - 1) }

/-- The blocks of a running DRAM_SCRUB test (R486), all of its channel's or the first ones that its argument counts, or those that a corrected
error queued (R373). -/
def scrubAsked (s : State) (addr : Nat) : Bool :=
  let c := (locOf s addr).chan
  let il := prmN s P.MEMC_INTERLEAVE
  let k := (addr / 2 ^ (10 + il) / 16 * 2 ^ (10 + il) + addr % 2 ^ (10 + il)) / 64
  (memChan s c).scrubs.contains addr || testOn s 0x0F c (fun t => t.code == 0x0002 && (t.arg == 0 || decide (k < t.arg)))

/-- R360, R364, R368, R373, R374, R483: DRAM_SCRUB: a block is read at priority 6, where no transaction can be granted, and its flipped bits show: the next one of the programme, or
one that `which` names because an error queued it or a test scrubs it. -/
def execDramScrub (which : Option Nat) (flips : List (Fin 528)) (s : State) : Host.Outcome State Fault Refusal :=
  let addr := (match which with | some a => a | none => s.bkgd.scrub) / 64 * 64
  let c := (locOf s addr).chan
  let may := match which with
    | some _ => scrubAsked s addr
    | none => taskOn s 1 && !burnishSuspended s
  if !may || anyPanic s || (memChan s c).state != 0 || decide (dramEnd ≤ addr) || (chooseTxn s c ((memChan s c).queue.map (aged s))).isSome then .next s
  else
    let s := useCheck c addr false (openRow c addr 16 s)
    let x := memChan s c
    let s := setMemChan c { x with reads := x.reads + 1, scrubs := x.scrubs.filter (· ≠ addr) } { s with bkgd.nScrub := s.bkgd.nScrub + 1 }
    let (kind, s) := readKind flips s
    let s := if kind = 2 ∨ s.badBlocks.contains addr then memUe c { req := 16, addr := addr } s
             else if kind = 1 then (let s := memCe c addr 16 s; setMemChan c { memChan s c with writes := (memChan s c).writes + 1 } s)
             else s
    match which with
    | some _ => .next s
    | none =>
      let next := addr + 64
      .next (if next < dramEnd then { s with bkgd.scrub := next } else taskDone 1 { s with bkgd.scrub := 0 })

/-- R166, R404, R483: SRAM_SCRUB: the words of a second are read; `corrected` of them had a correctable error, and `found` are calibration entries found
uncorrectable. Every uncorrectable entry is restored from its master. -/
def execSramScrub (corrected : Nat) (found : List (Fin 16 × Nat)) (s : State) : Host.Outcome State Fault Refusal :=
  let s := forEach found (fun f s => raise (280 + 3 * f.1.val) f.2 s) s
  let restored := ((List.range 16).map (fun i => (strip s i).bad.length)).sum + found.length + s.chk.copies.length
  let s := { s with chk.copies := [] }
  let s := forEach (List.range 16) (fun i s => setStrip i { strip s i with soft := [], bad := [] } s) s
  .next (taskDone 2 { s with bkgd.nSram := s.bkgd.nSram + corrected, bkgd.nRestored := s.bkgd.nRestored + restored })

/-- A lane is under EYE_SCAN (R112). -/
def eyeScanned (s : State) (n : Nat) : Bool := s.sys.deferred.any (fun d => match d.cmd with | .eyeScan _ l => l == n | _ => false)

/-- R483: the lanes in ascending order after the one measured last. -/
def nextEyeLane (s : State) : Option Nat :=
  ((List.range 64).map (fun k => (s.bkgd.eyeLane + 1 + k) % 64)).find? (fun n => (lane s n).state == 2 && !eyeScanned s n)

/-- R483, R485: EYE_TRACKING: one LOCKED lane is measured: its openings in 1/64 UI and in 4 mV units. -/
def execEyeTracking (horizontal vertical : Nat) (s : State) : Host.Outcome State Fault Refusal :=
  if taskOn s 4 = false then .next s
  else if burnishSuspended s then .next (overrun 4 s)
  else match nextEyeLane s with
    | some n =>
      let v := min 255 horizontal * 256 + min 255 vertical
      let s := { s with bkgd.eyeLane := n, bkgd.eyes := s.bkgd.eyes.set 0 n v, bkgd.nEyes := s.bkgd.nEyes + 1 }
      let s := setTask 4 { task s 4 with owed := false, doneNs := nowNs s } s
      .next (raiseIf (decide (horizontal < prmN s P.BKGD_EYE_MIN)) 562 n s)
    | none => .next (setTask 4 { task s 4 with owed := false, doneNs := nowNs s } s)

/-- R483: the reading of a channel's site has moved by RETRAIN_DELTA since its last retraining. -/
def siteMoved (s : State) (c : Nat) : Bool :=
  match s.bkgd.retrainTemp.find? c with
  | some t => decide ((16 * prmN s P.BKGD_RETRAIN_DELTA : Nat) ≤ |(site s (15 + c / 4)).reading - t|)
  | none => false

/-- R483: RETRAIN_PERIOD: Burnish requests a retraining of every channel in turn as the period ends, or of one channel whose site has moved. -/
def execRetrainPeriod (ch : Option (Fin 16)) (s : State) : Host.Outcome State Fault Refusal :=
  if taskOn s 5 = false then .next s
  else match ch with
    | some c =>
      .next (if siteMoved s c.val && !(s.bkgd.wants.contains c.val) then { s with bkgd.wants := s.bkgd.wants ++ [c.val] } else s)
    | none =>
      if burnishSuspended s || !s.bkgd.wants.isEmpty then .next (overrun 5 s)
      else .next { s with bkgd.wants := List.range 16 }

/-- R491, R494: a move of wear levelling, where one is due; where none is, the task is complete. -/
def startWear (s : State) : State :=
  match wearMove s with
  | some (src, dst) => pumpStore (queueStore { why := .wear, item := 0, blocks := [dst], todo := [dst], source := src } s)
  | none => taskDone 6 s

/-- R483, R491: WEAR_LEVELLING, every 10 min. -/
def execWearLevelling (s : State) : Host.Outcome State Fault Refusal :=
  if taskOn s 6 = false then .next s
  else if burnishSuspended s || s.stor.ops.any (fun x => x.why == .wear) then .next (overrun 6 s)
  else .next (startWear s)

/-- R484: Burnish is no longer suspended: the tests that waited start and the tasks that were owed a run take it. -/
def resumeBurnish (s : State) : State :=
  if burnishSuspended s then s
  else
    let s := { s with bkgd.tests := s.bkgd.tests.map (fun t => if t.code < 0x10 ∨ t.code = 0x101 then { t with started := true } else t) }
    let s := if (task s 5).owed then setTask 5 { task s 5 with owed := false } { s with bkgd.wants := (s.bkgd.wants ++ List.range 16).dedup } else s
    if (task s 6).owed then startWear (setTask 6 { task s 6 with owed := false } s) else s

/-- R467, R468, R484: POWER_ESTIMATE: E is formed and at most one increment is applied or released. The release of measure 1 resumes Burnish. -/
def execPowerEstimate (s : State) : Host.Outcome State Fault Refusal :=
  let e := estimate s
  let cap := capMw s.thrm.cap
  let s := { s with thrm.estMw := e.floor.toNat, thrm.nMsLow := s.thrm.nMsLow + b2n (decide (stripDuty s < 16)) }
  let soon := match s.thrm.lastRelease with | some t => decide (monoNs s < t + 10000000) | none => false
  let saved : Nat := match s.thrm.measures with | (_, v) :: _ => v | [] => 0
  if cap < e then
    match [1, 2, 3, 4].find? (hasIncrement s) with
    | some m => .next (mildState (applyMeasure m s))
    | none => .next s
  else if s.thrm.measures ≠ [] ∧ e + saved ≤ cap - 1000 ∧ soon = false then .next (resumeBurnish (mildState (releaseMeasure s)))
  else .next s

/-! ### Telemetry (R485) -/

/-- LOSS lines of a port since it started to count (R139). -/
def lossLines (s : State) (p : Nat) : Nat := (port s p).counts.lossTimeout + (port s p).counts.lossOverflow

/-- The highest erase count of a user block. -/
def eraseMax (s : State) : Nat := (userBlocks s).foldl (fun m b => max m (eraseCount s b)) 0

/-- R485: the 512 bytes of a snapshot. -/
def snapshotBytes (s : State) : List Byte :=
  leBytes 8 s.bkgd.snapshots ++ leBytes 6 s.tk.secs ++ leBytes 4 s.tk.ns ++
  leBytes 2 ((logClockFlags s).toNat + 4 * b2n (burnishSuspended s)) ++ leBytes 4 s.sys.epoch ++ leBytes 1 s.thrm.state ++ leBytes 1 s.thrm.cap ++
  leBytes 1 s.twin.state ++ leBytes 1 (b2n s.stor.degraded) ++ leBytes 4 s.thrm.estMw ++
  (List.range 24).flatMap (fun k => leBytes 2 (if (site s k).faulty then 0x8000 else toCode 16 (site s k).reading)) ++
  (List.range 64).flatMap (fun n => leBytes 2 (s.bkgd.eyes.get 0 n)) ++
  (List.range 16).flatMap (fun c =>
    leBytes 4 ((memChan s c).hour.filter (fun t => decide (monoNs s < t + 3600 * 1000000000))).length ++
    leBytes 2 (min 65535 ((monoNs s - s.bkgd.retrainedNs.get 0 c) / 1000000000)) ++ leBytes 2 0) ++
  (List.range 16).flatMap (fun p => leBytes 4 ((lossLines s p : Int) - s.bkgd.lost.get 0 p).toNat) ++
  (List.range 8).flatMap (fun r => leBytes 1 (min 255 (rtp s r).peak)) ++
  leBytes 8 ((s.cmpr.backlog.map (fun u => u.body.length)).sum) ++ leBytes 2 s.stor.spares ++ leBytes 2 s.stor.worn.length ++
  leBytes 4 (eraseMax s) ++ leBytes 2 s.bkgd.overdue ++ List.replicate 86 0

/-- R485: a snapshot is taken: it is kept, it enters the TELE flow, and what it reports since the previous one begins again. -/
def teleSnap (s : State) : State :=
  let b := snapshotBytes s
  let n := s.bkgd.snapshots
  let s := { s with bkgd.latest := b, bkgd.snapshots := n + 1, bkgd.overdue := 0
                    bkgd.lost := (List.range 16).filterMap (fun p => if lossLines s p = 0 then none else some (p, (lossLines s p : Int))) }
  taskDone 7 (feed { product := 11, source := 0xFF, epoch := s.sys.epoch, firstId := n, chunks := [.bytes b], last := true, refNs := nowNs s } s)

/-- R485: TELE_SNAP: TELE_PERIOD has passed. -/
def execTeleSnap (s : State) : Host.Outcome State Fault Refusal := .next (teleSnap s)

/-- R485: TELEMETRY_READ returns the latest snapshot. -/
def doTelemetryRead (h : Hdr) (s : State) : State :=
  xesil (.telemetryRead h) { op := 0x0304, h := h } false (fun _ => []) (fun _ => [])
    (fun room s => .done (s.bkgd.latest.take room) (decide (room < s.bkgd.latest.length)) 0 s) (fun _ => []) s

/-! ### Tests and calibrations (R486 to R488) -/

/-- The class of a test: 0 N, 1 G, 2 X; none for an unknown code. -/
def testClass (code : Nat) : Option Nat :=
  if code = 1 ∨ code = 2 ∨ code = 3 ∨ code = 0x101 then some 0
  else if code = 0x10 ∨ code = 0x11 then some 1
  else if code = 0x20 ∨ code = 0x21 ∨ code = 0x102 then some 2
  else none

/-- R486: the unit and instances that a code admits. -/
def testAdmits (code unit inst : Nat) : Bool :=
  if code = 1 then unit == 0x13 && decide (inst < 24)
  else if code = 2 ∨ code = 0x101 then unit == 0x0F && decide (inst < 16)
  else if code = 3 ∨ code = 0x21 ∨ code = 0x102 then unit == 2 && decide (inst < 64)
  else if code = 0x10 then unit == 5 && decide (inst < 16)
  else if code = 0x11 then unit == 0x0B && decide (inst < 16)
  else (unit == 5 && decide (inst < 16)) || (unit == 7 && decide (inst ≤ 16)) || (unit == 9 && inst == 0) || (unit == 0x10 && decide (inst < 128))

/-- R487: a unit instance is in service. -/
def inService (s : State) (unit inst : Nat) : Bool :=
  if unit = 2 then prmB s (P.LANE_RUN inst)
  else if unit = 5 then prmB s (P.STRP_RUN inst)
  else if unit = 7 then s.stch.run
  else if unit = 9 then s.segm.run
  else if unit = 0x0B then prmB s P.CMPR_RUN && decide ((engine s inst).state < 4)
  else if unit = 0x10 then
    (if inst < 64 then chanBusy (chan s inst)
     else (List.range 16).any (fun k => producer s (16 * (inst - 64) + k) != 0 || consumerOf s (16 * (inst - 64) + k) != 0))
  else true

/-- R486, R102, R110: what the start of a test does to its unit. -/
def beginTest (t : TestRun) (s : State) : State :=
  if t.code = 1 then crossCheckAll s
  else if t.code = 0x21 then
    setLane t.inst { lane s t.inst with
      prbsMode := 2, prbsPattern := 4, injection := 0, prbsRate := 0, errs := 0, bits := 0, prbsSync := false, prbsLeft := false, prbsPos := 0, inject := 0, gen := prbsSeed 4
      forced := t.forced } s
  else if t.code = 0x102 ∧ (lane s t.inst).state ≠ 0 then endEyeScans t.inst (setLane t.inst (startAcquire (lane s t.inst)) s)
  else s

/-- R486: what the end of a test does to its unit: the lane returns to its use, the working copies are reloaded. -/
def leaveTest (t : TestRun) (s : State) : State :=
  if t.code = 0x21 then setLane t.inst { stopPrbs (lane s t.inst) with prbsMode := 0, forced := false } s
  else if t.code = 0x20 ∧ t.unit = 5 then setStrip t.inst { strip s t.inst with soft := [], bad := [] } s
  else s

/-- R487: the refusal by class, and whether the test starts at once. -/
def testStart (h : Hdr) (code unit inst : Nat) (s : State) : Nat × Bool × Bool :=
  let role := roleOf s h
  let strong := h.via.principal == .sup || h.via.principal == .twin || (h.via.principal == .mgmt && role == 2)
  let served := inService s unit inst
  match testClass code with
  | some 0 => (0, !burnishSuspended s, false)
  | some 1 => (0, !served && !burnishSuspended s, false)
  | _ => if !served then (0, true, false) else if !h.force then (0x0502, false, false) else if strong then (0, true, true) else (0x0206, false, false)

/-- R7, R486 to R488: TEST_RUN and CALIBRATE, of a unit instance that is open to the principal. -/
def doTest (i : Instr) (op : Nat) (h : Hdr) (code unit inst arg : Nat) (s : State) : State :=
  xesil i { op := op, h := h, params := leBytes 2 code ++ leBytes 1 unit ++ leBytes 1 inst ++ leBytes 4 arg, count := 1 } true (resErr h unit inst)
    (fun _ => if testClass code = none then refuseFree 0x0302 else if testAdmits code unit inst then [] else refuse1 0x0303 0 2)
    (fun _ s =>
      if s.bkgd.tests.any (fun t => t.unit == unit && t.inst == inst) then .refuse (refuseFree 0x0501)
      else
        let (st, now, out) := testStart h code unit inst s
        if st ≠ 0 then .refuse (refuseFree st)
        else
          let t : TestRun := { code := code, unit := unit, inst := inst, arg := arg, session := h.session, seq := h.seq, started := now, startNs := monoNs s, forced := out }
          let s := { s with bkgd.tests := s.bkgd.tests ++ [t] }
          .defer (if now then beginTest t s else s))
    (fun _ => []) s

/-- R486: TEST_RUN. -/
def doTestRun (h : Hdr) (test unit inst arg : Nat) (s : State) : State := doTest (.testRun h test unit inst arg) 0x0501 h test unit inst arg s

/-- R486: CALIBRATE. -/
def doCalibrate (h : Hdr) (test unit inst arg : Nat) (s : State) : State := doTest (.calibrate h test unit inst arg) 0x0502 h test unit inst arg s

/-- R487: the stream of a gap test's unit stands between a FRAME_END line and the next FRAME_START: a strip's port, or the stitched stream. -/
def gapOpen (s : State) (unit inst : Nat) : Bool :=
  if unit = 5 then !(port s inst).inFrame && (port s inst).lineInFrame == 0 else s.stch.lineInFrame == 0

/-- R487: GAP_WINDOW_TEST: a deferred gap test runs in a window of its unit's stream. -/
def execGapWindowTest (unit inst : Nat) (s : State) : Host.Outcome State Fault Refusal :=
  if gapOpen s unit inst && !burnishSuspended s then
    .next { s with bkgd.tests := s.bkgd.tests.map (fun t =>
      if t.unit = unit ∧ t.inst = inst ∧ testClass t.code = some 1 then { t with started := true, startNs := monoNs s } else t) }
  else .next s

/-- A test leaves its unit (R59, R61, R488). -/
def forgetTest (sess seq : Nat) (s : State) : State :=
  match s.bkgd.tests.find? (fun t => t.session == sess && t.seq == seq) with
  | some t =>
    let s := { s with bkgd.tests := s.bkgd.tests.filter (· ≠ t) }
    if t.started then leaveTest t s else s
  | none => s

/-- R488: a test runs: it has started, or it is of class N and Burnish runs. -/
def testRunning (s : State) (t : TestRun) : Bool := t.started || (testClass t.code == some 0 && !burnishSuspended s)

/-- R488: the 32 bytes of a result block. -/
def resultBlock (t : TestRun) (outcome usecs detail measured : Nat) : List Byte :=
  leBytes 2 t.code ++ leBytes 1 t.unit ++ leBytes 1 t.inst ++ leBytes 1 outcome ++ leBytes 3 0 ++ leBytes 4 usecs ++ leBytes 4 0 ++
    leBytes 8 detail ++ leBytes 8 measured

/-- R487, R488: TEST_DONE: the test of a unit instance ends: 0 pass, 1 fail, 2 abandoned. An abandoned gap test is retried in the next window. -/
def execTestDone (unit inst : Nat) (outcome : Fin 3) (usecs detail measured : Nat) (s : State) : Host.Outcome State Fault Refusal :=
  match s.bkgd.tests.find? (fun t => t.unit == unit && t.inst == inst) with
  | none => .next s
  | some t =>
    if !testRunning s t then .next s
    else if outcome = 2 ∧ testClass t.code = some 1 ∧ inService s unit inst then
      .next { s with bkgd.tests := s.bkgd.tests.map (fun u => if u = t then { u with started := false } else u) }
    else
      let s := leaveTest t { s with bkgd.tests := s.bkgd.tests.filter (· ≠ t), bkgd.nTests := s.bkgd.nTests + 1 }
      let s := if t.code = 0x0003 ∧ outcome ≠ 2 then { s with bkgd.nEyes := s.bkgd.nEyes + 1 } else s
      let s := raise (if outcome = 0 then 561 else 562) t.code s
      match findDeferred s t.session t.seq with
      | some d => .next (endDeferred d (if outcome = 0 then 0 else 0x070A) (resultBlock t outcome.val usecs detail measured) false 0 s)
      | none => .next s

end Sys2Proof.Machine
end

