-- ==== Sys2Proof/Machine/Route.lean ====
section
/-! DEFINITION. Machine/Route.lean: the passage of events through Reins and what each consumer input does (R415 to R423). -/
namespace Sys2Proof.Machine

/-- An event that a Rein has passed. -/
structure Passed where
  rein : Nat
  src  : Nat
  arg  : Nat
  deriving DecidableEq, Repr

/-- R418 step 3: an event enters every Rein that names its source, or the one that RN_FIRE named; the answer is those that pass it. -/
def passReins (groups : Word32) (e : InFlight) (s : State) : List Passed × State :=
  let names := match e.rein with
    | some n => [n]
    | none => (List.range 256).filter (fun n => prmN s (P.EVNT_SRC n) == e.src)
  names.foldl (fun acc n =>
    let (on, t) := gateRein groups n acc.2
    (if on then acc.1 ++ [⟨n, prmN s (P.EVNT_SRC n), e.arg⟩] else acc.1, t)) ([], s)

/-- R418 step 3: the events of one cycle, gated by the group state of that cycle (R417). -/
def passAll (es : List InFlight) (s : State) : List Passed × State :=
  let g := s.evnt.groups
  es.foldl (fun acc e => let (ps, t) := passReins g e acc.2; (acc.1 ++ ps, t)) ([], s)

/-- R422: a consumer input is busy. -/
def consumerBusy (s : State) (c : Nat) : Bool :=
  if c < 35 then decide (4 ≤ (latchSlot s (slotOf c).1).pending.length)
  else if 147 ≤ c ∧ c ≤ 210 then chanBusy (chan s (c - 147))
  else if 211 ≤ c ∧ c ≤ 338 then hasFlag ((s.core.cores.get {} ((c - 211) / 16)).ip) ((c - 211) % 16)
  else if 339 ≤ c ∧ c ≤ 378 then (consumer s c).pending
  else false

/-- R436: an event on input `j` of core `k` sets its pending bit. -/
def pendCore (k j : Nat) (s : State) : State :=
  let x := s.core.cores.get {} k
  { s with core.cores := s.core.cores.set {} k { x with ip := setFlag x.ip j } }

/-- R415: what a consumer input does with an event. -/
def consumerAct (c : Nat) (p : Passed) (s : State) : State :=
  if c < 35 then latchEvent c (prmB s (P.EVNT_LINE_ARG p.rein)) p.arg s
  else if c ≤ 50 then ltgStep (c - 35) true s
  else if c ≤ 82 then { s with evnt.gpxPulse := setFlag s.evnt.gpxPulse (c - 51) }
  else if c ≤ 114 then { s with evnt.groups := setFlag s.evnt.groups (c - 83) }
  else if c ≤ 146 then { s with evnt.groups := w1c s.evnt.groups (BitVec.ofNat 32 (2 ^ (c - 115))) }
  else if c ≤ 210 then startChan (c - 147) s
  else if c ≤ 338 then pendCore ((c - 211) / 16) ((c - 211) % 16) s
  else if c ≤ 378 then setConsumer c { consumer s c with pending := true } s
  else if c = 379 then riseTheta true s
  else if c = 380 then { s with bkgd.suspended := true }
  else if c = 381 then { s with bkgd.suspended := false }
  else if c = 382 then logDevice p.src 0 p.rein p.arg s
  else teleSnap s

/-- R422: an event that meets a busy input sets OVERRUN and is counted. -/
def overrunConsumer (c : Nat) (s : State) : State :=
  let x := consumer s c
  setConsumer c { x with overrun := true, overruns := satInc 16 x.overruns } s

/-- R423: coincident events are noted. -/
def noteCoincidence (c : Nat) (s : State) : State :=
  let x := consumer s c
  setConsumer c { x with coincidence := true, coincidences := satInc 16 x.coincidences } s

/-- R422: one event at one input. -/
def deliver (c : Nat) (p : Passed) (s : State) : State := if consumerBusy s c then overrunConsumer c s else consumerAct c p s

/-- R416, R423: the events of a cycle at one input: one from each selector coincide and act once, with A's argument. A device without the claim ignores those of its
line-latched consumers (R342, R420). -/
def deliverAll (ps : List Passed) (c : Nat) (s : State) : State :=
  if c < 35 && !holdsClaim s then s else
  let (a, b) := selectors s c
  let as := ps.filter (fun p => p.rein == a)
  let bs := if a = b then [] else ps.filter (fun p => p.rein == b)
  match as, bs with
  | x :: xs, _ :: ys => forEach (xs ++ ys) (deliver c) (deliver c x (noteCoincidence c s))
  | xs, ys => forEach (xs ++ ys) (deliver c) s

/-- R417: an enable and a disable of a group in one cycle leave it disabled, with the coincidence flag of the disable input. -/
def groupClash (ps : List Passed) (k : Nat) (s : State) : State :=
  let hit := fun c => let (a, b) := selectors s c; ps.any (fun p => p.rein == a || p.rein == b)
  if hit (83 + k) && hit (115 + k) then noteCoincidence (115 + k) s else s

/-- R484: BKGD_RESUME lets tasks resume; with BKGD_SUSPEND in the same cycle the flag stays set. -/
def suspendClash (ps : List Passed) (s : State) : State :=
  let hit := fun c => let (a, b) := selectors s c; ps.any (fun p => p.rein == a || p.rein == b)
  if hit 381 then (if hit 380 then { s with bkgd.suspended := true } else resumeBurnish s) else s

/-- R418: EVENT_ROUTED: the first `n` events in flight pass the Reins in one CLK_CTL cycle and reach their consumers. -/
def execEventRouted (n : Nat) (s : State) : Host.Outcome State Fault Refusal :=
  let es := s.evnt.inflight.take n
  let (ps, s) := passAll es { s with evnt.inflight := s.evnt.inflight.drop n }
  let s := forEach (List.range 384) (deliverAll ps) s
  .next (suspendClash ps (forEach (List.range 32) (groupClash ps) s))

end Sys2Proof.Machine
end

