-- ==== Sys2Proof/Machine/Session.lean ====
section
/-! DEFINITION. Machine/Session.lean: sessions, cancelling, keys and the small commands of group 0x00xx (chapter "Xesil Command
Packets"). -/
namespace Sys2Proof.Machine

/-! ### Cancelling (R61) -/

/-- What a deferred command holds of a unit is given up: an engine or CRC unit, or a deferred test. -/
def forgetDeferred (d : Deferred) (s : State) : State :=
  if d.opcode = 0x0703 then forgetCrcJob d.session d.seq s
  else if d.opcode / 256 = 7 then forgetJob (d.session, d.seq) s
  else forgetTest d.session d.seq s

/-- R61, R84: a deferred command ends before it commits, with a status. A Cinch that is pending is abandoned. -/
def dropDeferred (status : Nat) (d : Deferred) (s : State) : State :=
  match s.sys.cinch with
  | some c =>
    if c.session = d.session ∧ c.seq = d.seq ∧ d.opcode = 0x0201 then abandonCinch status (refuseFree status) s
    else failDeferred d (refuseFree status) (forgetDeferred d s)
  | none => failDeferred d (refuseFree status) (forgetDeferred d s)

/-- R61, R66: a session closes: its cancellable commands are cancelled and its staging sets return to FREE. -/
def closeSession (n : Nat) (s : State) : State :=
  let s := forEach (s.sys.deferred.filter (fun d => d.session == n && cancellable s d)) (dropDeferred 0x0506) s
  { s with sys.sessions := s.sys.sessions.erase n, sys.stage := s.sys.stage.filter (fun p => !(p.2.owner == n && p.2.state == 1)) }

/-- R55: an MGMT session. -/
def isMgmt (n : Nat) : Bool := decide (0x10000 ≤ n)

/-- The MGMT sessions open now. -/
def mgmtSessions (s : State) : List Nat := (s.sys.sessions.map Prod.fst).filter isMgmt

/-- R55, R51: the sessions that a key slot opened close. -/
def closeSlot (k : Nat) (s : State) : State :=
  let ns := (s.sys.sessions.filter (fun p => match p.2.via with | .udp _ slot _ => slot == k && isMgmt p.1 | _ => false)).map Prod.fst
  forEach ns closeSession s

/-! ### Commands (R55, R56, R61, R65, R67) -/

/-- A session identifier from 0x0001_0000 up that is not open, the first from a random one on. -/
def freeSession (used : List Nat) (v : Nat) : Nat :=
  let base := v % (2 ^ 32 - 0x10000)
  match (List.range 17).find? (fun k => !used.contains (0x10000 + (base + k) % (2 ^ 32 - 0x10000))) with
  | some k => 0x10000 + (base + k) % (2 ^ 32 - 0x10000)
  | none => 0x10000 + base

/-- R55, R60: SESSION_OPEN. The packet size runs from 128 to 4,096 in multiples of 8, 0 standing for 1,432. -/
def doSessionOpen (h : Hdr) (pktSize idleMs : Nat) (s : State) : State :=
  xesil (.sessionOpen h pktSize idleMs) { op := 0x0001, h := h, params := leBytes 2 pktSize ++ leBytes 2 0 ++ leBytes 4 idleMs } false (fun _ => [])
    (fun _ => if pktSize ≠ 0 ∧ (pktSize < 128 ∨ 4096 < pktSize ∨ pktSize % 8 ≠ 0) then refuse1 0x0301 0 0 else [])
    (fun _ s =>
      if 16 ≤ (mgmtSessions s).length then .refuse (refuseFree 0x0601)
      else
        let role := match h.via with | .udp _ slot _ => (s.sys.keys.get {} slot).role | _ => 0
        let (v, s) := fresh s
        let n := freeSession (mgmtSessions s) v
        .done (leBytes 4 n ++ leBytes 1 role ++ leBytes 3 0) false 0
          (setSession n { via := h.via, role := role, pktSize := if pktSize = 0 then 1432 else pktSize, tokens := 128 * 1000000000, tokenNs := monoNs s
                          idleMs := if idleMs = 0 then prmN s P.SYS_SESSION_IDLE else idleMs } s))
    (fun _ => []) s

/-- R55: SESSION_CLOSE. -/
def doSessionClose (h : Hdr) (s : State) : State :=
  xesil (.sessionClose h) { op := 0x0002, h := h } false (fun _ => []) (fun _ => [])
    (fun _ s => .done [] false 0 (if isMgmt h.session then closeSession h.session s else s)) (fun _ => []) s

/-- R56: SESSION_RESYNC: the next expected SEQ is 1. DESIGN CHOICE (log entry 85): commands that are held stay held. -/
def doSessionResync (h : Hdr) (s : State) : State :=
  xesil (.sessionResync h) { op := 0x0003, h := h } false (fun _ => []) (fun _ => [])
    (fun _ s => match session s h.session with
      | some x => .done (leBytes 4 1) false 0 (setSession h.session { x with nextSeq := 1, replies := [] } s)
      | none => .done (leBytes 4 1) false 0 s)
    (fun _ => []) s

/-- R65: ECHO. -/
def doEcho (h : Hdr) (data : List Byte) (s : State) : State :=
  xesil (.echo h data) { op := 0x0004, h := h, params := data } false (fun _ => []) (fun _ => [])
    (fun room s => .done (data.take room) (decide (room < data.length)) 0 s) (fun _ => []) s

/-- R530: the order code, "TRY6416-A1-I". -/
def orderCode : List Byte := ([0x54, 0x52, 0x59, 0x36, 0x34, 0x31, 0x36, 0x2D, 0x41, 0x31, 0x2D, 0x49, 0, 0, 0, 0] : List Byte)

/-- R65: DEVICE_INFO. -/
def doDeviceInfo (h : Hdr) (s : State) : State :=
  xesil (.deviceInfo h) { op := 0x0005, h := h } false (fun _ => []) (fun _ => [])
    (fun _ s => .done (orderCode ++ leBytes 1 Config.revision ++ leBytes 1 s.twin.state ++ leBytes 2 0 ++ leBytes 4 s.boot.version ++ leBytes 16 Config.uniqueId)
      false 0 s)
    (fun _ => []) s

/-- R61: CANCEL names the TAG of a deferred command of its session. The spec states no status for a TAG that names none: which code of R68 it is, is a
free value, as are the identifier and the detail of its entry (log entry 12). DESIGN CHOICE (log entry 124): of two deferred commands of a session with the
same TAG it acts on the one deferred first. -/
def doCancel (h : Hdr) (tag : Nat) (s : State) : State :=
  let (v, s) := fresh s
  xesil (.cancel h tag) { op := 0x0007, h := h, params := leBytes 2 tag ++ leBytes 6 0 } false (fun _ => []) (fun _ => [])
    (fun _ s => match s.sys.deferred.find? (fun d => d.session == h.session && d.tag == tag) with
      | some d => if cancellable s d then .done [] false 0 (dropDeferred 0x0506 d s) else .refuse (refuseFree 0x0508)
      | none => .refuse (refuseFree (errorCodes.getD (v % errorCodes.length) 0x0301)))
    (fun _ => []) s

/-- R67: DETAIL_READ returns the kept detail block from the entry named. -/
def doDetailRead (h : Hdr) (first : Nat) (s : State) : State :=
  xesil (.detailRead h first) { op := 0x0008, h := h, params := leBytes 4 first ++ leBytes 4 0 } false (fun _ => []) (fun _ => [])
    (fun room s =>
      let ds := match session s h.session with | some x => x.detail.getD [] | none => []
      let (ps, more) := detailParams (room + 40) first ds
      .done ps more 0 s)
    (fun _ => []) s

/-- R50: a command that changes a key has ended. -/
def endKey (s : State) : State := { s with sys.oldKey := none }

/-- R51: the checks of a key slot. -/
def slotBad (slot : Nat) : List Detail := if 7 < slot then refuse1 0x0303 slot 0 else []

/-- R50: a slot's key changes while a command runs: its replies and those to the commands that it ends are tagged under the key before. -/
def changeKey (slot : Nat) (x : KeySlot) (s : State) : State :=
  closeSlot slot { s with sys.oldKey := some (slot, (s.sys.keys.get {} slot).key), sys.keys := s.sys.keys.set {} slot x }

/-- R51, R94: KEY_PROVISION writes a key and its role into a slot of the store; the sessions that the slot opened close (R55). -/
def doKeyProvision (h : Hdr) (slot role : Nat) (key : List Byte) (s : State) : State :=
  endKey <| xesil (.keyProvision h slot role key)
    { op := 0x0907, h := h, params := leBytes 1 slot ++ leBytes 1 role ++ leBytes 6 0 ++ key, subject := slot, count := 1, value := role, noDigest := true } false
    (fun _ => []) (fun _ => slotBad slot ++ (if 2 < role then refuse1 0x0301 0 1 else []))
    (fun _ s =>
      if storeInhibited s then .refuse (refuseFree 0x0802)
      else .done [] false role (changeKey slot ⟨role, key⟩ s))
    (fun _ => []) s

/-- R51: KEY_REVOKE disables a slot and closes the sessions that it opened. -/
def doKeyRevoke (h : Hdr) (slot : Nat) (s : State) : State :=
  endKey <| xesil (.keyRevoke h slot) { op := 0x0908, h := h, params := leBytes 1 slot ++ leBytes 7 0, subject := slot, count := 1 } false
    (fun _ => []) (fun _ => slotBad slot)
    (fun _ s =>
      if storeInhibited s then .refuse (refuseFree 0x0802)
      else .done [] false 0 (changeKey slot {} s))
    (fun _ => []) s

/-! ### Time limits and failures (R51, R55, R56, R64) -/

/-- R51: UDP_AUTH_FAILURE: a datagram with a disabled or wrong slot, another ALG or a tag that does not verify. A source that is ignored is not heard (R64). -/
def execUdpAuthFailure (addr : Nat) (s : State) : Host.Outcome State Fault Refusal :=
  let s := countRx 2 s
  .next (if !accepting s || (s.sys.auth.get {} addr).blocked then s else authFailure addr s)

/-- R64: AUTH_BLOCK_EXPIRY: 10 s have passed since the source was ignored. -/
def execAuthBlockExpiry (addr : Nat) (s : State) : Host.Outcome State Fault Refusal :=
  match s.sys.auth.find? addr with
  | some x => .next { s with sys.auth := Map.insert s.sys.auth addr { x with blocked := false } }
  | none => .next s

/-- R55: SESSION_IDLE_TIMEOUT: an MGMT session has received no packet within its idle time. -/
def execSessionIdleTimeout (session : Nat) (s : State) : Host.Outcome State Fault Refusal :=
  .next (if isMgmt session && (s.sys.sessions.find? session).isSome then closeSession session s else s)

/-- R56, R93: SEQ_HOLD_TIMEOUT: the gap has not filled within 50 ms: each held command receives 0x0107 with the expected SEQ, and is logged with the time
of its receipt. -/
def execSeqHoldTimeout (session : Nat) (s : State) : Host.Outcome State Fault Refusal :=
  match Machine.session s session with
  | some x =>
    let s := if x.held = [] then s else setSession session { x with held := [] } s
    .next (forEach x.held (fun e s => { refuseEarly e.cmd (refuse1 0x0107 0 x.nextSeq) { s with sys.since := some (e.timeS, e.timeNs) } with sys.since := none }) s)
  | none => .next s

/-- R59: DEFERRED_TIME_LIMIT: a deferred command's own time limit has passed: a job after 10 s (R291, R410), a test after 10 s (R488), FW_COMMIT
after 120 s (R441). -/
def execDeferredTimeLimit (session seq : Nat) (s : State) : Host.Outcome State Fault Refusal :=
  match findDeferred s session seq with
  | some d =>
    if d.opcode / 256 = 7 ∨ d.opcode = 0x0501 ∨ d.opcode = 0x0502 ∨ d.opcode = 0x0906 then .next (failDeferred d (refuseFree 0x0507) (if d.opcode = 0x0906 then s else forgetDeferred d s))
    else .next s
  | none => .next s

end Sys2Proof.Machine
end

