-- ==== Sys2Proof/Machine/Cores.lean ====
section
/-! DEFINITION. Machine/Cores.lean: the application cores: worlds, interrupts, refusals, debug access, the core loader, and the
update of the supervisor's firmware (chapter "Application Cores and the Supervisor"). -/
namespace Sys2Proof.Machine

/-- Application core `k`. -/
def appCore (s : State) (k : Nat) : AppCore := s.core.cores.get {} k

/-- Replace application core `k`. -/
def setAppCore (k : Nat) (x : AppCore) (s : State) : State := { s with core.cores := s.core.cores.set {} k x }

/-- The offset of a register of core `k` (R442). -/
def coreOff (k off : Nat) : Nat := k * 0x100 + off

/-! ### Registers of a core (R431, R436, R437, R442) -/

/-- R431: AC_WORLD_SET: core `k` itself, in machine mode (`machine`) and in the secure world, selects its world. -/
def execAcWorldSet (a : Acc) (core : Fin 8) (machine : Bool) (value : Word32) (s : State) : Host.Outcome State Fault Refusal :=
  let k := core.val
  .next (windowWrite a (systemRight a.principal) false 0x16 (coreOff k 4) value.toNat (fun s =>
    let x := appCore s k
    if a.source = k ∧ a.principal = .appS ∧ machine ∧ x.running ∧ x.world = false then setAppCore k { x with world := hasFlag value 0 } s else s) s)

/-- R436: the inputs whose bits a principal may change. -/
def inputMask (s : State) (p : Principal) (k : Nat) : Word16 :=
  if systemRight p then 0xFFFF
  else if p = .appN then ~~~(BitVec.ofNat 16 (prmN s (P.CORE_INT_WORLD k)))
  else 0

/-- R436: a principal may write AC_IP and AC_IE at all. -/
def inputRight (p : Principal) : Bool := systemRight p || p == .appN

/-- R436: AC_IP_WRITE: the pending bits written as 1 clear, within the writer's rights. -/
def execAcIpWrite (a : Acc) (core : Fin 8) (value : Word32) (s : State) : Host.Outcome State Fault Refusal :=
  let k := core.val
  .next (windowWrite a (inputRight a.principal) false 0x16 (coreOff k 8) value.toNat (fun s =>
    let x := appCore s k
    setAppCore k { x with ip := w1c x.ip (value.truncate 16 &&& inputMask s a.principal k) } s) s)

/-- R436: a write of AC_IE. -/
def writeAcIe (a : Acc) (k : Nat) (value : Word32) (s : State) : State :=
  windowWrite a (inputRight a.principal) false 0x16 (coreOff k 0xC) value.toNat (fun s =>
    let x := appCore s k
    let m := inputMask s a.principal k
    setAppCore k { x with ie := (x.ie &&& ~~~m) ||| (value.truncate 16 &&& m), ieRsv := if a.principal = .appN then x.ieRsv else value.toNat / 2 ^ 16 } s) s

/-- R437: the machine timer interrupt stands while MTIME has reached AC_TIMECMP. -/
def refreshTimer (k : Nat) (s : State) : State :=
  let x := appCore s k
  setAppCore k { x with timerInt := decide (x.timecmp ≤ mtime s) } s

/-- R437: TIMER_INTERRUPT: MTIME is compared with AC_TIMECMP. -/
def execTimerInterrupt (core : Fin 8) (s : State) : Host.Outcome State Fault Refusal := .next (refreshTimer core.val s)

/-- R437: a write of AC_TIMECMP_LO or AC_TIMECMP_HI. -/
def writeTimecmp (a : Acc) (k : Nat) (hi : Bool) (value : Word32) (s : State) : State :=
  windowWrite a (systemRight a.principal) false 0x16 (coreOff k (if hi then 0x14 else 0x10)) value.toNat (fun s =>
    let x := appCore s k
    let t := if hi then x.timecmp % 2 ^ 32 + value.toNat * 2 ^ 32 else x.timecmp / 2 ^ 32 * 2 ^ 32 + value.toNat
    refreshTimer k (setAppCore k { x with timecmp := t } s)) s

/-- R437: MSIP: a write of AC_SWI raises the machine software interrupt until 0 is written. -/
def execMsip (a : Acc) (core : Fin 8) (value : Word32) (s : State) : Host.Outcome State Fault Refusal :=
  let k := core.val
  .next (windowWrite a (systemRight a.principal) false 0x16 (coreOff k 0x18) value.toNat (fun s => setAppCore k { appCore s k with msip := hasFlag value 0, swiRsv := value.toNat / 2 } s) s)

/-- R436: the machine external interrupt of core `k`: a pending, enabled input of the secure world. -/
def machineExt (s : State) (k : Nat) : Bool := ((appCore s k).ip &&& (appCore s k).ie &&& BitVec.ofNat 16 (prmN s (P.CORE_INT_WORLD k))) != 0

/-- R436: the supervisor external interrupt of core `k`: a pending, enabled input of the normal world. -/
def supervisorExt (s : State) (k : Nat) : Bool := ((appCore s k).ip &&& (appCore s k).ie &&& ~~~(BitVec.ofNat 16 (prmN s (P.CORE_INT_WORLD k)))) != 0

/-- R442: MTIME_CAPTURE: a read of MTIME_LO captures both halves. -/
def execMtimeCapture (a : Acc) (s : State) : Host.Outcome State Fault Refusal :=
  .next (windowRead a true 0x16 0x1000 mtime (fun s => { s with core.mtimeCap := mtime s }) s)

/-- R442: the value of REFUSE_INFO. -/
def refuseInfo (r : Refused) : Nat :=
  2 ^ 31 * b2n r.valid + 2 ^ 30 * b2n r.window + 2 ^ 29 * b2n r.write + 2 ^ 26 * r.principal + r.source

/-- R434, R442: REFUSE_INFO_READ returns the recorded refusal and clears it; REFUSE_ADDR stays. -/
def execRefuseInfoRead (a : Acc) (s : State) : Host.Outcome State Fault Refusal :=
  .next (windowRead a true 0x16 0x1010 (fun s => refuseInfo s.core.refused) (fun s => { s with core.refused := { addr := s.core.refused.addr } }) s)

/-! ### DRAM and the level-2 caches (R430, R432, R433) -/

/-- An access of a core ends with a bus error. -/
def busError (s : State) : State := { s with core.busErrors := s.core.busErrors + 1 }

/-- R430: an access touches a line of 64 bytes that was lost. -/
def touchesLost (s : State) (addr len : Nat) : Bool := s.core.lost.any (fun l => decide (l < addr + len ∧ addr < l + 64))

/-- R433: DRAM_ACCESS_REFUSED: a core accesses DRAM outside the regions open to it: a bus error, and the refusal is recorded with WINDOW clear. An access
beyond the DRAM range ends with a bus error (R432), and so does one to a lost line until a core writes the whole line (R430). -/
def execDramAccessRefused (a : Acc) (addr len : Nat) (write : Bool) (s : State) : Host.Outcome State Fault Refusal :=
  if dramEnd < addr + len then .next (busError s)
  else if inRegions s (if a.principal = .appN then 3 else 2) addr len = false then .next (recordRefusal false write a addr (busError s))
  else if touchesLost s addr len = false then .next s
  else if write ∧ addr % 64 = 0 ∧ len % 64 = 0 then .next { s with core.lost := s.core.lost.filter (fun l => !decide (addr ≤ l ∧ l < addr + len)) }
  else .next (busError s)

/-- R430, R405: L2_ECC_ERROR: a level-2 word of cluster `cluster` fails. A correctable error is corrected; an uncorrectable one invalidates a clean line and loses
a dirty one, and the access that needs it ends with a bus error. -/
def execL2EccError (cluster : Fin 2) (index line : Nat) (uncorr dirty : Bool) (s : State) : Host.Outcome State Fault Refusal :=
  if (if cluster.val = 0 then s.boot.clusterA else s.boot.clusterB) = false then .next s
  else if uncorr then
    let s := recordEcc true 8 index { s with chk.ue := s.chk.ue + 1, core.l2Ue := s.core.l2Ue + 1 }
    let s := logDevice 556 0x0701 0 (8 + index * 256) (raiseOpen 556 s)
    .next (if dirty then busError { s with core.lost := (line :: s.core.lost).dedup } else s)
  else .next (raiseOpen 555 (recordEcc false 8 index { s with chk.ce := s.chk.ce + 1, core.l2Ce := s.core.l2Ce + 1 }))

/-! ### Debug access (R438) -/

/-- R438: DEBUG_UNLOCK: a signed request of at most 256 bytes unlocks debug access; `good` tells that its signature verifies under the key whose hash is fused. -/
def execDebugUnlock (request : List Byte) (good : Bool) (s : State) : Host.Outcome State Fault Refusal :=
  if s.core.unlocked ∨ !good ∨ 256 < request.length ∨ accepting s = false then .next s
  else .next (logNow { kind := 4, principal := 6, transport := 5, opcode := 0x3FF, count := 1 } { s with core.unlocked := true })

/-! ### Boot of the cores (R439, R440) -/

/-- R439: a core loader's header is well formed. -/
def loaderOk (h : List Byte) : Bool :=
  let len := leAt h 8 4
  let load := leAt h 16 8
  let entry := leAt h 24 8
  decide (h.length = 128 ∧ leAt h 0 4 = 0x4C435954 ∧ leAt h 4 2 = 1 ∧ leAt h 6 2 ≤ 1 ∧ 64 ≤ len ∧ len ≤ 4194304 ∧ len % 64 = 0 ∧ leAt h 12 4 = 0 ∧
    load % 64 = 0 ∧ load ≤ entry ∧ entry < load + len) && (h.drop 80).all (fun b => b == 0)

/-- R440: the core is started or stopped, as the values of RUN at the fire say. -/
def coreRuns (s : State) : List Nat := (List.range 8).filter (fun k => prmB s (P.CORE_RUN k))

/-- R440: cores are released at ENTRY, in machine mode and in the secure world. -/
def releaseCores (ks : List Nat) (s : State) : State :=
  forEach ks (fun k s => setAppCore k { appCore s k with running := true, world := false, bootFail := false } s) s

/-- R440: a core held in reset loses its state; BOOT_FAIL tells of its last boot. -/
def resetCore (k : Nat) (s : State) : State := setAppCore k { bootFail := (appCore s k).bootFail } s

/-- R440: the fire of a Cinch takes RUN from the values `was` to the applied ones. -/
def fireCores (was : List Nat) (s : State) : State :=
  let now := coreRuns s
  let s := forEach (was.filter (fun k => !now.contains k)) resetCore s
  let s := { s with boot.clusterA := s.boot.clusterA && now.any (fun k => decide (k < 4)), boot.clusterB := s.boot.clusterB && now.any (fun k => decide (4 ≤ k)) }
  if now = [] then { s with core.boot := 0, core.hdr := [], core.loaded := false }
  else if was = [] then { s with core.boot := 1, core.hdr := [], core.loaded := false }
  else if s.core.loaded then releaseCores (now.filter (fun k => !was.contains k)) s
  else s

/-- R440: a boot fails: the cores stay in reset with BOOT_FAIL and a DEVICE entry tells why. -/
def failBoot (status : Nat) (s : State) : State :=
  let s := forEach (coreRuns s) (fun k s => setAppCore k { appCore s k with bootFail := true } s) { s with core.boot := 0, core.hdr := [] }
  logDevice 0x3FF status (if prm s P.CORE_BOOT_SRC = 1 then prmN s P.CORE_BOOT_ITEM else 0) 0 s

/-- R440: the status of an item that cannot be read, where it cannot: 0x0302 missing, 0x0803 unreadable. -/
def itemFault (s : State) (item : Nat) : Option Nat :=
  let x := storeItem s item
  if x.copies = [] then some 0x0302 else if newestCopy x = none then some 0x0803 else none

/-- The bytes of an item. -/
def itemData (s : State) (item : Nat) : List Byte := match newestCopy (storeItem s item) with | some c => c.data | none => []

/-- R440 step 1: CORE_BOOT: the loader's header is read, from the store or, with BOOT_SRC 0, from the boot flash (`hdr`). -/
def execCoreBoot (hdr : List Byte) (s : State) : Host.Outcome State Fault Refusal :=
  if s.core.boot ≠ 1 then .next s
  else
    let store := prm s P.CORE_BOOT_SRC = 1
    let item := prmN s P.CORE_BOOT_ITEM
    match if store then itemFault s item else none with
    | some st => .next (failBoot st s)
    | none =>
      let h := if store then (itemData s item).take 128 else hdr
      if loaderOk h = false then
        let (v, s) := fresh s
        .next (failBoot (errorCodes.getD (v % errorCodes.length) 0x0804) s)
      else if inRegions s 2 (leAt h 16 8) (leAt h 8 4) = false then .next (failBoot 0x0306 s)
      else .next { s with core.boot := 2, core.hdr := h }

/-- R440 step 3: the status of a failed verification; `digest` and `signature` tell that SHA-384 and ECDSA verify. -/
def loaderFault (s : State) (digest signature : Bool) : Option Nat :=
  if !digest then some 0x0804
  else if bitOf (leAt s.core.hdr 6 2) 0 then
    match itemFault s (prmN s P.CORE_BOOT_KEY_ITEM) with
    | some st => some st
    | none => if signature then none else some 0x0804
  else if prmB s P.CORE_BOOT_VERIFY then some 0x0804 else none

/-- R440 steps 2 to 4: CORE_LOADER_DONE: the body has been copied to LOAD and verified, and every core with RUN = 1 is released at ENTRY, or the boot fails. -/
def execCoreLoaderDone (body : List Byte) (digest signature : Bool) (s : State) : Host.Outcome State Fault Refusal :=
  if s.core.boot ≠ 2 then .next s
  else
    let h := s.core.hdr
    let len := leAt h 8 4
    let bytes := if prm s P.CORE_BOOT_SRC = 1 then ((itemData s (prmN s P.CORE_BOOT_ITEM)).drop 128).take len else body.take len
    let s := storeMem (leAt h 16 8) bytes s
    match loaderFault s (digest && bytes.length == len) signature with
    | some st => .next (failBoot st s)
    | none => .next (releaseCores (coreRuns s) { s with core.boot := 0, core.loaded := true, core.entry := leAt h 24 8 })

/-! ### Firmware update (R441) -/

/-- The size of the staging buffer. -/
def stagingSize : Nat := 0x1000000

/-- R441: the bytes of the staging buffer; unwritten ones read 0xFF. -/
def stagedImage (s : State) (len : Nat) : List Byte := (List.range len).map (fun i => (s.core.staging.find? i).getD 0xFF)

/-- R441: FW_STAGE writes its chunk at its offset. -/
def doFwStage (h : Hdr) (off : Nat) (data : List Byte) (s : State) : State :=
  xesil (.fwStage h off data) { op := 0x0905, h := h, params := leBytes 4 off ++ leBytes 4 0 ++ data, count := 1 } false (fun _ => [])
    (fun _ => if stagingSize < off + data.length ∨ 4048 < data.length then refuse1 0x0301 0 0 else [])
    (fun _ s => .done [] false 0 { s with
      core.staging := (List.range data.length).foldl (fun m i => m.insert (off + i) (data.getD i 0)) s.core.staging })
    (fun _ => []) s

/-- R441: FW_COMMIT is deferred while the image is checked and written. -/
def doFwCommit (h : Hdr) (len : Nat) (s : State) : State :=
  xesil (.fwCommit h len) { op := 0x0906, h := h, params := leBytes 4 len ++ leBytes 4 0, count := 1 } true (fun _ => []) (fun _ => [])
    (fun _ s => .defer s) (fun _ => []) s

/-- R441: the image's checks: signed, not below the rollback counter, at most 16 MiB; `good` tells that the signature verifies. -/
def stagedOk (s : State) (len : Nat) (good : Bool) : Bool :=
  let h := stagedImage s 16
  good && decide (len ≤ stagingSize ∧ 128 ≤ len ∧ s.boot.rollback ≤ leAt h 12 4)

/-- R441, R500: FW_COMMIT ends: the image stands in the inactive slot, which the other descriptor marks preferred with the next GENERATION; a write or
read-back fault leaves the preferred slot as it was. -/
def endFwCommit (d : Deferred) (len : Nat) (res : DeferredResult) (s : State) : State :=
  let img := stagedImage s len
  let ok := stagedOk s len res.good
  let s := { s with core.staging := [] }
  let slot := 1 - s.boot.slot
  if !ok then failDeferred d (refuseFree 0x0804) s
  else if res.status ≠ 0 then failDeferred d (refuseFree 0x0702) s
  else
    endDeferred d 0 [] false 0 { s with boot.written := Map.insert s.boot.written slot img, boot.preferred := slot, boot.generation := s.boot.generation + 1 }

end Sys2Proof.Machine
end

