-- ==== Sys2Proof/Machine/Windows.lean ====
section
/-! DEFINITION. Machine/Windows.lean: WINDOW_ACCESS, an access to a register that has no command of its own: the register maps of
R118, R158, R327, R376, R393, R411, R425, R442, R459 and R480 (R434). -/
namespace Sys2Proof.Machine

/-- The low or high 32 bits of a value. -/
def half (hi : Bool) (v : Nat) : Nat := if hi then v / 2 ^ 32 % 2 ^ 32 else v % 2 ^ 32

/-- A register that a unit lists: what a read returns and does, and whether the read is permitted. -/
structure RegRead where
  value : Nat
  act   : State → State := id
  open_ : Bool := true

/-- A register that takes writes: the right, whether it is logged, and the effect. -/
structure RegWrite where
  right  : Bool
  logged : Bool := false
  act    : State → State := id

/-- A register that only returns a value. -/
def ro (v : Nat) : Option RegRead := some { value := v }

/-! ### LANE (R118) -/

/-- A read of a lane's block. -/
def laneRead (s : State) (off : Nat) : Option RegRead :=
  let n := off / 0x100
  let x := lane s n
  if 64 ≤ n then none
  else match off % 0x100 with
    | 0x00 => ro (2 ^ 24 * x.ctle + 2 ^ 8 * x.state + 2 ^ 6 * b2n x.aligned + 2 ^ 5 * b2n x.lol + 2 ^ 4 * b2n x.los + 2 ^ 3 * b2n (x.state == 3) +
        2 ^ 2 * b2n x.cdrLock + 2 * b2n x.prbsSync + b2n (prmB s (P.LANE_RUN n) && quadOn s (n / 16)))
    | 0x04 => ro x.flags.toNat
    | 0x08 => ro 0
    | 0x0C => ro (2 ^ 31 * b2n x.valid + 2 ^ 30 * b2n x.seen + 2 ^ 29 * b2n x.invSeen + 2 ^ 24 * x.slip + x.hits % 2 ^ 16)
    | 0x10 => ro (half false x.snapErrs)
    | 0x14 => ro (half true x.snapErrs)
    | 0x18 => ro (half false x.snapBits)
    | 0x1C => ro (half true x.snapBits)
    | _ => none

/-- A write to a lane's block. A write of LN_CONTROL that sets a bit has the commands SNAP, CNT_CLEAR and BITSLIP. -/
def laneWrite (s : State) (a : Acc) (off : Nat) (v : Word32) : Option RegWrite :=
  let n := off / 0x100
  if 64 ≤ n then none
  else if off % 0x100 = 0x04 then
    some { right := laneRight s a n, act := fun s => setLane n { lane s n with flags := w1c (lane s n).flags v } s }
  else if off % 0x100 = 0x08 ∧ v.toNat % 8 = 0 then some { right := laneRight s a n }
  else none

/-! ### MOTN (R158) -/

/-- A read of an axis' or compare unit's block. -/
def motnRead (s : State) (off : Nat) : Option RegRead :=
  let n := off / 0x100
  if n < 8 then
    let x := axis s n
    let (g1, g2, g3) := if x.gained then gains (prmN s (P.MOTN_AX_BANDWIDTH n)) else (0, 0, 0)
    match off % 0x100 with
    | 0x00 => ro (2 ^ 4 * b2n x.pend + 2 ^ 3 * b2n x.dir + 2 ^ 2 * b2n x.still + 2 * b2n x.valid + b2n x.run)
    | 0x04 => ro x.flags.toNat
    | 0x0C => ro (half true (toCode 64 x.cap.pos))
    | 0x10 => ro (half false (toCode 64 x.cap.speed))
    | 0x14 => ro (half true (toCode 64 x.cap.speed))
    | 0x18 => ro (half false (toCode 64 x.cap.accel))
    | 0x1C => ro (half true (toCode 64 x.cap.accel))
    | 0x20 => ro (half false (toCode 64 x.cap.index))
    | 0x24 => ro (half true (toCode 64 x.cap.index))
    | 0x28 => ro (toCode 32 g1)
    | 0x2C => ro (half false (toCode 48 g2))
    | 0x30 => ro (half true (toCode 48 g2))
    | 0x34 => ro (toCode 32 g3)
    | _ => none
  else if 16 ≤ n ∧ n < 24 then
    let x := pc s (n - 16)
    match off % 0x100 with
    | 0x00 => ro (2 ^ 29 * x.result + x.list.length)
    | 0x04 => ro x.flags.toNat
    | 0x08 => ro x.insLo.toNat
    | 0x0C => ro x.insHi.toNat
    | 0x10 => ro 0
    | 0x14 => ro 0
    | _ => none
  else none

/-- The write of a flag register of MOTN. The registers of R340 are written by `pcWrite`. -/
def motnWrite (s : State) (a : Acc) (off : Nat) (v : Word32) : Option RegWrite :=
  let n := off / 0x100
  if off % 0x100 ≠ 0x04 then none
  else if n < 8 then
    some { right := writeRight a.principal (prmN s (P.MOTN_AX_OWNER n)) (prmB s (P.MOTN_AX_SECURE n)), act := fun s => setAxis n { axis s n with flags := w1c (axis s n).flags v } s }
  else if 16 ≤ n ∧ n < 24 then
    some { right := pcRight s a (n - 16), act := fun s => setPc (n - 16) { pc s (n - 16) with flags := w1c (pc s (n - 16)).flags v } s }
  else none

/-- R340: the register of a compare unit that a write names, where it has no command of its own: PC_INS_POS_LO, PC_INS_POS_HI, and PC_CONTROL with neither or both
of its bits. -/
def pcReg (off : Nat) (v : Word32) : Option (Nat × Nat) :=
  let n := off / 0x100
  let r := off % 0x100
  if 16 ≤ n ∧ n < 24 ∧ (r = 8 ∨ r = 0xC ∨ (r = 0x14 ∧ hasFlag v 16 = hasFlag v 17)) then some (n - 16, r) else none

/-! ### TIME (R327) -/

/-- The capture that a read of TK_SNAP_S_LO takes. -/
def snapTime (s : State) : State :=
  { s with tk.snap := { secs := s.tk.secs, ns := s.tk.ns, frac := s.tk.acc / 2 ^ 16, rate := rateNow s, offset := satS (rndRat s.tk.offset) 32,
                        path := satU (rndRat (meanPath s (s.tk.parent - 1))) 32 } }

/-- The role of a PTP port in TK_STATUS. -/
def ptpRole (s : State) (p : Nat) : Nat := (ptpPort s p).role

/-- A read of the TIME window. -/
def timeRead (s : State) (off : Nat) : Option RegRead :=
  let x := s.tk.snap
  match off with
  | 0x00 => ro (2 ^ 12 * b2n s.tk.restep + 2 ^ 10 * s.tk.parent + 2 ^ 8 * ptpRole s 2 + 2 ^ 6 * ptpRole s 1 + 2 ^ 4 * ptpRole s 0 + s.tk.state)
  | 0x04 => ro s.tk.flags.toNat
  | 0x08 => some { value := half false s.tk.secs, act := snapTime }
  | 0x0C => ro (half true x.secs)
  | 0x10 => ro x.ns
  | 0x14 => ro x.frac
  | 0x18 => ro (half false (toCode 64 x.rate))
  | 0x1C => ro (half true (toCode 64 x.rate))
  | 0x20 => ro (toCode 32 x.offset)
  | 0x24 => ro x.path
  | _ => none

/-- A write of the TIME window. -/
def timeWrite (_ : State) (a : Acc) (off : Nat) (v : Word32) : Option RegWrite :=
  if off = 0x04 then some { right := systemRight a.principal, act := fun s => { s with tk.flags := w1c s.tk.flags v } } else none

/-! ### MEMC (R376) -/

/-- A read of the MEMC window. -/
def memcRead (s : State) (off : Nat) : Option RegRead :=
  let c := off / 0x40
  let x := memChan s c
  if 16 ≤ c then none
  else match off % 0x40 with
    | 0x00 =>
      let thr := x.steps.foldl (fun m p => max m p.2) 0
      let owed := x.banks.foldl (fun m p => max m p.2.owed) 0
      let pan := (List.range 8).foldl (fun m r => m + 2 ^ r * b2n (rtp s r).panic.isSome) 0
      ro (2 ^ 28 * min 15 thr + 2 ^ 24 * owed.toNat + 2 ^ 16 * pan + 2 ^ 3 * b2n x.ceLimit + 2 ^ 2 * b2n x.ue + x.state)
    | 0x04 => ro (x.errAddr % 2 ^ 32 / 64 * 64)
    | _ => none

/-- A write of the MEMC window: the flags of MC_STATUS and OVERFLOW of RTP_STATUS. -/
def memcWrite (_ : State) (a : Acc) (off : Nat) (v : Word32) : Option RegWrite :=
  let c := off / 0x40
  let r := (off - 0x800) / 0x10
  if off % 0x40 = 0 ∧ c < 16 then
    some { right := systemRight a.principal, act := fun s =>
      let x := memChan s c
      setMemChan c { x with ceLimit := x.ceLimit && !hasFlag v 3, ue := x.ue && !hasFlag v 2 } s }
  else if 0x800 ≤ off ∧ off % 0x10 = 0 ∧ r < 8 then
    some { right := systemRight a.principal, act := fun s => setRtp r { rtp s r with overflow := (rtp s r).overflow && !hasFlag v 1 } s }
  else none

/-! ### QDMA (R393, R435) -/

/-- A read of a queue's block. Of a mailbox queue only Q_PACKETS is polled, and the pop registers are read by its principal (R435). -/
def queueRead (s : State) (a : Acc) (q r : Nat) : Option RegRead :=
  let x := queue s q
  let poll := decide (q < 1016)
  match r with
  | 0x00 => some { value := 2 ^ 30 * producer s q + 2 ^ 28 * consumerOf s q + x.words.length, open_ := poll }
  | 0x04 => ro (packets x)
  | 0x08 => some { value := x.flags.toNat, open_ := poll }
  | 0x0C => some { value := 0, open_ := poll }
  | 0x10 => some { value := 0, open_ := poll }
  | 0x14 => some { value := 4 * x.pushRsv + 2 * b2n x.pushErr + b2n x.pushEnd, open_ := poll || pushRight s a.principal q }
  | 0x18 => some { value := 0, open_ := poll }
  | 0x24 => some { value := x.popHi, open_ := poll || popRight s a.principal q }
  | 0x28 => some { value := 2 ^ 31 * b2n x.popValid + 2 * b2n x.popErr + b2n x.popEnd, open_ := poll || popRight s a.principal q }
  | _ => none

/-- A read of a channel's block. -/
def chanRead (s : State) (c r : Nat) : Option RegRead :=
  let x := chan s c
  match r with
  | 0x00 => ro (half false x.src)
  | 0x04 => ro (half true x.src)
  | 0x08 => ro (half false x.dst)
  | 0x0C => ro (half true x.dst)
  | 0x10 => ro x.count
  | 0x14 => ro x.ring
  | 0x18 => ro (2 ^ 22 * x.srcKind + 2 ^ 20 * x.dstKind + 2 ^ 19 * b2n x.pktAlign + 2 ^ 18 * b2n x.errStop + x.pktBlocks + x.ctrlRsv)
  | 0x1C => ro (2 ^ 16 * x.startMark + x.stopMark)
  | 0x20 => ro (2 ^ 29 * x.state + 2 ^ 25 * x.errCode + 2 ^ 22 * x.errField + 2 ^ 21 * b2n x.flushed + 2 ^ 20 * b2n x.errMark)
  | 0x24 => ro x.remain
  | 0x28 => ro x.wrPtr
  | 0x2C => ro x.swPtr
  | 0x30 => ro (half false x.errAddr)
  | 0x34 => ro (half true x.errAddr)
  | _ => none

/-- A read of the QDMA window. -/
def qdmaRead (s : State) (a : Acc) (off : Nat) : Option RegRead :=
  if off < 0x10000 then queueRead s a (off / 0x40) (off % 0x40)
  else if off < 0x11000 then chanRead s ((off - 0x10000) / 0x40) (off % 0x40)
  else none

/-- R380: a write of Q_PUSH_LO or Q_PUSH_MARKS acts where the window is the queue's producer, and sets REFUSED elsewhere. -/
def pushAccess (q : Nat) (f : Queue → Queue) (s : State) : State :=
  if producer s q ≠ 0 then refuseQueue q s else setQueue q (f (queue s q)) s

/-- A write of a queue's push registers or flags. -/
def queueWrite (s : State) (a : Acc) (q r : Nat) (v : Word32) : Option RegWrite :=
  let own := decide (q < 1016) && writeRight a.principal (prmN s (P.QUEUE_OWNER q)) (prmB s (P.QUEUE_SECURE q))
  match r with
  | 0x08 => some { right := own, act := fun s => setQueue q { queue s q with flags := w1c (queue s q).flags v } s }
  | 0x0C => if hasFlag v 0 then none else some { right := own, logged := true }
  | 0x10 => some { right := pushRight s a.principal q, act := pushAccess q (fun x => { x with pushLo := v.toNat }) }
  | 0x14 => some { right := pushRight s a.principal q, act := pushAccess q (fun x => { x with pushEnd := hasFlag v 0, pushErr := hasFlag v 1, pushRsv := v.toNat / 4 }) }
  | _ => none

/-- A write of a channel's block. DC_CTRL starts and stops by START and STOP; SW_PTR moves while the channel runs (R385). -/
def chanWrite (s : State) (a : Acc) (c r : Nat) (v : Word32) : Option RegWrite :=
  let right := writeRight a.principal (prmN s (P.QDMA_OWNER c)) (prmB s (P.QDMA_SECURE c))
  let w := v.toNat
  let desc (f : Chan → Chan) (logged : Bool) : Option RegWrite := some { right := right, logged := logged, act := descWrite c f }
  match r with
  | 0x00 => desc (fun x => { x with src := x.src / 2 ^ 32 * 2 ^ 32 + w }) false
  | 0x04 => desc (fun x => { x with src := x.src % 2 ^ 32 + w * 2 ^ 32 }) false
  | 0x08 => desc (fun x => { x with dst := x.dst / 2 ^ 32 * 2 ^ 32 + w }) false
  | 0x0C => desc (fun x => { x with dst := x.dst % 2 ^ 32 + w * 2 ^ 32 }) false
  | 0x10 => desc (fun x => { x with count := w }) false
  | 0x14 => desc (fun x => { x with ring := w }) false
  | 0x18 => if hasFlag v 31 || hasFlag v 30 then none else desc (ctrlFields v) true
  | 0x1C => desc (fun x => { x with startMark := w / 2 ^ 16, stopMark := w % 2 ^ 16 }) false
  | 0x2C => some { right := right, act := fun s => setChan c { chan s c with swPtr := w } s }
  | _ => none

/-- A write of the QDMA window. -/
def qdmaWrite (s : State) (a : Acc) (off : Nat) (v : Word32) : Option RegWrite :=
  if off < 0x10000 then queueWrite s a (off / 0x40) (off % 0x40) v
  else if off < 0x11000 then chanWrite s a ((off - 0x10000) / 0x40) (off % 0x40) v
  else none

/-! ### EVNT (R425) -/

/-- A read of the EVNT window. -/
def evntRead (s : State) (off : Nat) : Option RegRead :=
  if off < 0x1000 then
    let n := off / 0x10
    match off % 0x10 with
    | 0x00 => ro (2 ^ 22 * prmN s (P.EVNT_SRC n) + 2 ^ 17 * prmN s (P.EVNT_GROUP n) + 2 ^ 16 * b2n (reinOn s.evnt.groups s n) + 2 ^ 15 * b2n (prmB s (P.EVNT_LINE_ARG n)))
    | 0x04 => some { value := (rein s n).count, act := fun s => setRein n { rein s n with count := 0 } s }
    | 0x08 => ro (rein s n).arg
    | 0x0C => ro 0
    | _ => none
  else if off = 0x2000 then ro s.evnt.groups.toNat
  else if off = 0x2004 ∨ off = 0x2008 ∨ off = 0x200C then ro 0
  else if 0x3000 ≤ off ∧ off < 0x3000 + 384 * 8 then
    let c := (off - 0x3000) / 8
    let x := consumer s c
    match off % 8 with
    | 0 => ro (2 * b2n x.coincidence + b2n x.overrun)
    | 4 => some { value := 2 ^ 16 * x.overruns + x.coincidences, act := fun s => setConsumer c { consumer s c with overruns := 0, coincidences := 0 } s }
    | _ => none
  else if 0x4000 ≤ off ∧ off < 0x4000 + 17 * 0x10 then
    let x := latchSlot s ((off - 0x4000) / 0x10)
    match off % 0x10 with
    | 0x00 => ro (2 ^ 31 * b2n x.late + 2 ^ 4 * x.lastKind + x.pending.length)
    | 0x04 => ro (half false x.lastLine)
    | 0x08 => ro (half true x.lastLine)
    | _ => none
  else none

/-- A write of the EVNT window. -/
def evntWrite (s : State) (a : Acc) (off : Nat) (v : Word32) : Option RegWrite :=
  if off < 0x1000 ∧ off % 0x10 = 0x08 then
    let n := off / 0x10
    some { right := writeRight a.principal (prmN s (P.EVNT_OWNER n)) (prmB s (P.EVNT_SECURE n)), act := fun s => setRein n { rein s n with arg := v.toNat } s }
  else if 0x3000 ≤ off ∧ off < 0x3000 + 384 * 8 ∧ off % 8 = 0 then
    let c := (off - 0x3000) / 8
    some { right := systemRight a.principal, act := fun s =>
      let x := consumer s c
      setConsumer c { x with overrun := x.overrun && !hasFlag v 0, coincidence := x.coincidence && !hasFlag v 1 } s }
  else if 0x4000 ≤ off ∧ off < 0x4000 + 17 * 0x10 ∧ off % 0x10 = 0 then
    let i := (off - 0x4000) / 0x10
    some { right := systemRight a.principal, act := fun s => setLatchSlot i { latchSlot s i with late := (latchSlot s i).late && !hasFlag v 31 } s }
  else none

/-! ### TWB (R459) -/

/-- A word of a buffer. -/
def bufWord (m : Map Byte) (i : Nat) : Nat := ofLe ((List.range 4).map (fun k => m.get 0 (i + k)))

/-- A read of a channel's block. -/
def twbRead (s : State) (off : Nat) : Option RegRead :=
  let t := off / 0x400
  let r := off % 0x400
  let x := twc s t
  if 8 ≤ t then none
  else if r = 0 then
    ro (2 ^ 31 * b2n (x.act != 0) + 2 ^ 30 * b2n x.busBusy + 2 ^ 28 * x.stuck + 2 ^ 27 * b2n (twQuiet s t) + 2 ^ 20 * x.result + 2 ^ 10 * x.bytes)
  else if r = 4 then ro x.flags.toNat
  else if r = 8 then ro (2 ^ 18 * x.rlen + 2 ^ 9 * x.wlen + 2 * x.addr + x.cmdRsv)
  else if 0x100 ≤ r ∧ r < 0x200 then ro (bufWord x.tx (r - 0x100))
  else if 0x200 ≤ r ∧ r < 0x300 then ro (bufWord x.rx (r - 0x200))
  else none

/-- A write of a channel's block. TW_CMD acts by GO, CLEAR and RESET. -/
def twbWrite (s : State) (a : Acc) (off : Nat) (v : Word32) : Option RegWrite :=
  let t := off / 0x400
  let r := off % 0x400
  let right := twRight s a.principal t
  if 8 ≤ t then none
  else if r = 4 then some { right := right, act := fun s => setTwc t { twc s t with flags := w1c (twc s t).flags v } s }
  else if r = 8 ∧ field v.toNat 31 29 = 0 then some { right := right, logged := true, act := fun s => setTwc t (cmdFields v (twc s t)) s }
  else if 0x100 ≤ r ∧ r < 0x200 then
    some { right := right, act := fun s =>
      setTwc t { twc s t with tx := (List.range 4).foldl (fun m k => m.set 0 (r - 0x100 + k) (BitVec.ofNat 8 (v.toNat / 256 ^ k))) (twc s t).tx } s }
  else none

/-! ### THRM (R480) -/

/-- A read of the THRM window. -/
def thrmRead (s : State) (off : Nat) : Option RegRead :=
  if off = 0 then
    ro (2 ^ 29 * s.thrm.state + 2 ^ 26 * s.thrm.cap + 2 ^ 23 * s.thrm.theta + 2 ^ 20 * s.thrm.lambda + 2 ^ 15 * (hottest s).1 + 2 ^ 10 * (healthySites s).length)
  else if off = 4 then
    ro (2 ^ 31 * b2n (measured s 1 != 0) + 2 ^ 27 * cpuStep s + 2 ^ 22 * enginesIn s + 2 ^ 17 * stripDuty s + min (2 ^ 17 - 1) s.thrm.estMw)
  else if off = 8 then ro s.thrm.flags.toNat
  else if 0x100 ≤ off ∧ off < 0x100 + 96 ∧ off % 4 = 0 then
    let x := site s ((off - 0x100) / 4)
    ro (2 ^ 31 * b2n x.faulty + toCode 16 x.reading)
  else if 0x200 ≤ off ∧ off < 0x200 + 96 ∧ off % 4 = 0 then ro (toCode 16 (satS (rndRat (site s ((off - 0x200) / 4)).rise) 16))
  else none

/-- A write of the THRM window. -/
def thrmWrite (_ : State) (a : Acc) (off : Nat) (v : Word32) : Option RegWrite :=
  if off = 8 then some { right := systemRight a.principal, act := fun s => { s with thrm.flags := w1c s.thrm.flags v } } else none

/-! ### CHK (R411) -/

/-- A read of the CHK window. -/
def chkRead (s : State) (off : Nat) : Option RegRead :=
  let k := off / 0x40
  let x := crcUnit s k
  if off = 0x400 then ro s.chk.ecc.index
  else if 8 ≤ k then none
  else match off % 0x40 with
    | 0x00 => ro (4 * x.cfgRsv + x.preset)
    | 0x04 => ro 0
    | 0x08 => ro (2 ^ 31 * b2n (crcBusy s k) + 2 ^ 2 * b2n x.refused + 2 * b2n x.errMark + b2n x.reached)
    | 0x0C => ro x.limit
    | 0x10 => ro x.saved.count
    | 0x18 => ro (half true x.saved.state)
    | 0x1C => ro (half false x.saved.result)
    | 0x20 => ro (half true x.saved.result)
    | _ => none

/-- A write of CK_STATUS. -/
def clearCkFlags (k : Nat) (v : Word32) (s : State) : State :=
  setCrcUnit k { crcUnit s k with refused := (crcUnit s k).refused && !hasFlag v 2, errMark := (crcUnit s k).errMark && !hasFlag v 1 } s

/-- A write of the CHK window. CK_CONFIG, CK_CONTROL.INIT and CK_STATE have commands of their own. -/
def chkWrite (s : State) (a : Acc) (off : Nat) (v : Word32) : Option RegWrite :=
  let k := off / 0x40
  if 8 ≤ k then none
  else match off % 0x40 with
    | 0x04 => if hasFlag v 0 then none else some { right := crcRight s a.principal k, act := crcWrite k id }
    | 0x08 => some { right := crcRight s a.principal k, act := clearCkFlags k v }
    | 0x0C => some { right := crcRight s a.principal k, act := crcWrite k (fun x => { x with limit := v.toNat }) }
    | _ => none

/-! ### CORE (R442) -/

/-- A read of the CORE window. -/
def coreRead (s : State) (off : Nat) : Option RegRead :=
  let k := off / 0x100
  let x := appCore s k
  if k < 8 then
    match off % 0x100 with
    | 0x00 => ro (2 ^ 3 * b2n x.bootFail + 2 ^ 2 * b2n x.halted + 2 * b2n x.world + b2n x.running)
    | 0x04 => ro 0
    | 0x08 => ro x.ip.toNat
    | 0x0C => ro (2 ^ 16 * x.ieRsv + x.ie.toNat)
    | 0x10 => ro (half false x.timecmp)
    | 0x14 => ro (half true x.timecmp)
    | 0x18 => ro (2 * x.swiRsv + b2n x.msip)
    | _ => none
  else if off = 0x1004 then ro (half true s.core.mtimeCap)
  else if off = 0x1008 then ro (half false s.core.refused.addr)
  else if off = 0x100C then ro (half true s.core.refused.addr)
  else none

/-! ### The access (R434) -/

/-- R434 step 4: the register that a read names. -/
def regRead (s : State) (a : Acc) (unit off : Nat) : Option RegRead :=
  if unit = 0x02 then laneRead s off
  else if unit = 0x04 then motnRead s off
  else if unit = 0x0D then timeRead s off
  else if unit = 0x0F then memcRead s off
  else if unit = 0x10 then qdmaRead s a off
  else if unit = 0x11 then evntRead s off
  else if unit = 0x12 then twbRead s off
  else if unit = 0x13 then thrmRead s off
  else if unit = 0x15 then chkRead s off
  else if unit = 0x16 then coreRead s off
  else none

/-- The register that a write names. -/
def regWrite (s : State) (a : Acc) (unit off : Nat) (v : Word32) : Option RegWrite :=
  if unit = 0x02 then laneWrite s a off v
  else if unit = 0x04 then motnWrite s a off v
  else if unit = 0x0D then timeWrite s a off v
  else if unit = 0x0F then memcWrite s a off v
  else if unit = 0x10 then qdmaWrite s a off v
  else if unit = 0x11 then evntWrite s a off v
  else if unit = 0x12 then twbWrite s a off v
  else if unit = 0x13 then thrmWrite s a off v
  else if unit = 0x15 then chkWrite s a off v
  else none

/-- The registers whose reads have a command of their own (Q_POP_LO, PC_FIRED, PC_MISSED, AX_POS_LO, MC_ERR_HI, RTP_STATUS, CK_STATE_LO, CHK_ECC_HI, TW_ALERT,
MTIME_LO and REFUSE_INFO). -/
def ownRead (unit off : Nat) : Bool :=
  (unit == 0x10 && decide (off < 0x10000) && off % 0x40 == 0x20) ||
  (unit == 0x04 && decide (0x1000 ≤ off ∧ off < 0x1800) && (off % 0x100 == 0x18 || off % 0x100 == 0x1C)) ||
  (unit == 0x04 && decide (off < 0x800) && off % 0x100 == 0x08) ||
  (unit == 0x0F && ((decide (off < 0x400) && off % 0x40 == 0x08) || (decide (0x800 ≤ off ∧ off < 0x880) && off % 0x10 == 0))) ||
  (unit == 0x15 && (off == 0x404 || (decide (off < 0x200) && off % 0x40 == 0x14))) ||
  (unit == 0x12 && decide (off < 0x2000) && off % 0x400 == 0x0C) ||
  (unit == 0x16 && (off == 0x1000 || off == 0x1010))

/-- R434 steps 3 to 7: a read of a window. -/
def readWindow (a : Acc) (unit off : Nat) (s : State) : State :=
  if ownRead unit off then s
  else match regRead s a unit off with
    | some r => windowRead a r.open_ unit off (fun _ => r.value) r.act s
    | none => if a.principal = .dbg ∧ s.core.unlocked = false then s else { s with core.rdata := 0 }

/-- R434: the write right of the block that an offset lies in. -/
def blockRight (s : State) (a : Acc) (unit off : Nat) : Bool :=
  let p := a.principal
  if unit = 0x02 then laneRight s a (off / 0x100)
  else if unit = 0x04 then
    let n := off / 0x100
    if n < 16 then writeRight p (prmN s (P.MOTN_AX_OWNER n)) (prmB s (P.MOTN_AX_SECURE n)) else pcRight s a (n - 16)
  else if unit = 0x10 then
    if off < 0x10000 then decide (off / 0x40 < 1016) && writeRight p (prmN s (P.QUEUE_OWNER (off / 0x40))) (prmB s (P.QUEUE_SECURE (off / 0x40)))
    else
      let c := (off - 0x10000) / 0x40
      writeRight p (prmN s (P.QDMA_OWNER c)) (prmB s (P.QDMA_SECURE c))
  else if unit = 0x11 ∧ off < 0x1000 then writeRight p (prmN s (P.EVNT_OWNER (off / 0x10))) (prmB s (P.EVNT_SECURE (off / 0x10)))
  else if unit = 0x12 then twRight s p (off / 0x400)
  else if unit = 0x15 ∧ off < 0x400 then crcRight s p (off / 0x40)
  else systemRight p

/-- R434 steps 3 and 5: a write of a register that takes none is ignored, and recorded where the writer lacks the right. -/
def writeOther (a : Acc) (unit off : Nat) (s : State) : State :=
  if a.principal = .dbg ∧ s.core.unlocked = false then s
  else if (ownRead unit off || (regRead s a unit off).isSome) && !blockRight s a unit off then refuseWindow true a unit off s
  else s

/-- R436, R437: the registers of a core that have rules of their own: AC_IE and AC_TIMECMP. -/
def coreWrite (a : Acc) (off : Nat) (v : Word32) (s : State) : State :=
  let k := off / 0x100
  if k < 8 ∧ off % 0x100 = 0x0C then writeAcIe a k v s
  else if k < 8 ∧ off % 0x100 = 0x10 then writeTimecmp a k false v s
  else if k < 8 ∧ off % 0x100 = 0x14 then writeTimecmp a k true v s
  else writeOther a 0x16 off s

/-- R434 steps 3 to 7: a write of a window. -/
def writeWindow (a : Acc) (unit off : Nat) (v : Word32) (s : State) : State :=
  if unit = 0x16 then coreWrite a off v s
  else match if unit = 0x04 then pcReg off v else none with
    | some (n, r) => pcWrite a n r v s
    | none => match regWrite s a unit off v with
      | some w => windowWrite a w.right w.logged unit off v.toNat w.act s
      | none => writeOther a unit off s

/-- R432, R434: WINDOW_ACCESS: an access at a physical address that is no access to memory. `aligned` tells that it is a naturally aligned 32-bit access and no atomic,
LR or SC. Reserved ranges and units end with a bus error, and so does an access of APP-N to the lower half of the scratch SRAM. -/
def execWindowAccess (a : Acc) (write aligned : Bool) (addr : Nat) (value : Word32) (s : State) : Host.Outcome State Fault Refusal :=
  if addr < dramEnd then .next s
  else if inScratch addr 4 = true then .next (if a.principal == .appN && decide (addr < scratchBase + 0x80000) then busError s else s)
  else if addr < 0x1001000000 ∨ 0x1018000000 ≤ addr ∨ aligned = false ∨ addr % 4 ≠ 0 then .next (busError s)
  else
    let unit := (addr - 0x1000000000) / 0x1000000
    let off := addr % 0x1000000
    .next (if write then writeWindow a unit off value s else readWindow a unit off s)

end Sys2Proof.Machine
end

