-- ==== Sys2Proof/Machine/Query.lean ====
section
/-! DEFINITION. Machine/Query.lean: the queries of group 0x03xx and the change log's commands (chapters "Xesil Command Packets" and
"Staging, Cinch, Ownership and the Change Log"). -/
namespace Sys2Proof.Machine

/-! ### Reading parameters (R71, R74, R90) -/

/-- The owner of a scalar or table identifier; the mark 255 of a row stands for the OWNER of the Rein (R427). -/
def itemOwner (s : State) (id : Nat) : Option Nat :=
  match paramRow id with
  | some r => some (if r.owner = 255 then prmN s (P.EVNT_OWNER (pidInst id)) else r.owner)
  | none => (tabRow id).map (fun _ => 2)

/-- R89, R90, R419: the status that refuses a principal an identifier: SRC, GROUP and LINE_ARG of a Rein are open to its OWNER and SUP only. -/
def idErr (s : State) (p : Principal) (role : Nat) (read : Bool) (id : Nat) : Option Nat :=
  match itemOwner s id with
  | some o =>
    match itemErr s p role o (pidUnit id) read with
    | some st => some st
    | none => if (paramRow id).any (fun r => r.owner == 255) && p != .sup && p != .twin && p.code != o then some 0x0201 else none
  | none => none

/-- The refusals of step 10 for identifiers that a command names, with their indices. -/
def itemsOwn (s : State) (p : Principal) (role : Nat) (read : Bool) (ids : List Nat) : List Detail :=
  ids.zipIdx.filterMap (fun (id, k) =>
    (idErr s p role read id).map (fun st => ⟨st, id, k⟩))

/-- R71: the CRC-64/XZ of a table's full contents in a dictionary. -/
def tabCheck (d : Dict) (t : TabRow) (id : Nat) : Nat := crc64 (tabBytes d id 0 t.size)

/-- R71: an entry of PARAM_READ and STAGE_READ: identifier, status, value. -/
def paramEntry (d : Dict) (id : Nat) : List Byte :=
  match paramRow id, tabRow id with
  | some _, _ => leBytes 4 id ++ leBytes 2 0 ++ leBytes 2 0 ++ leBytes 8 (paramRaw (dictVal d id))
  | none, some t => leBytes 4 id ++ leBytes 2 0 ++ leBytes 2 0 ++ leBytes 8 (tabCheck d t id)
  | none, none => leBytes 4 id ++ leBytes 2 0x0302 ++ leBytes 2 0 ++ leBytes 8 0

/-- R71, R90: PARAM_READ: applied values, and the check value of a table's applied contents. -/
def doParamRead (h : Hdr) (ids : List Nat) (s : State) : State :=
  xesil (.paramRead h ids) { op := 0x0301, h := h, params := leBytes 4 ids.length ++ ids.flatMap (leBytes 4) } false
    (fun s => itemsOwn s h.via.principal (roleOf s h) true ids) (fun _ => [])
    (fun room s => let (ps, more) := fitItems room [] (ids.map (paramEntry s.sys.applied)); .done ps more 0 s)
    (fun _ => []) s

/-! ### Status blocks -/

/-- The unit instances that exist (R4). -/
def instExists (unit inst : Nat) : Bool :=
  (unitRows unit).any (fun r => decide (r.instLo ≤ inst ∧ inst ≤ r.instHi)) || (unit == 0x15 && inst == 0x10) ||
    (unit == 0x0F && decide (inst < 24)) || tabRows.any (fun t => decide (t.unit = unit ∧ t.instLo ≤ inst ∧ inst ≤ t.instHi))

/-- The refusal of step 11 for a unit instance, with the offset of the unit code where the unit has no instance at all. -/
def instBad (unit inst : Nat) : List Detail :=
  if instExists unit inst then [] else refuse1 0x0303 0 (b2n ((List.range 256).any (instExists unit)))

/-- R355: LINK: 2 while the link is UP, 0 while it is powered down (R330). When a link that is not UP trains the spec does not say: 0 or 1, a free value. -/
def linkCode (s : State) : Nat := if s.twin.link = 2 then 2 else if prmB s P.TWIN_RUN then Config.free s.freeCtr % 2 else 0

/-- R355: the reply of TWIN_STATUS. -/
def twinBlock (s : State) : List Byte :=
  leBytes 1 s.twin.state ++ leBytes 1 (linkCode s) ++ leBytes 1 (prmN s P.TWIN_UNIT_ID) ++ leBytes 1 (b2n s.twin.lineHigh + 2 * b2n s.twin.driving) ++
  leBytes 4 s.twin.peerEpoch ++ leBytes 8 s.twin.compared ++ leBytes 8 s.twin.diverged ++
  leBytes 8 s.twin.lastId ++ leBytes 1 s.twin.lastProduct ++ leBytes 1 s.twin.lastResult ++ leBytes 6 0

/-- R292: IN_DONE, OUT_DONE and NEXT_ENTRY of the work in hand. What an engine has taken and delivered since it began or last stopped is a
snapshot that the spec times nowhere: free values, not below those of its last stop nor beyond its work. -/
def engineProgress (s : State) (e : Nat) : Nat × Nat × Nat :=
  let x := engine s e
  if x.state = 1 ∨ x.state = 2 then
    let v := fun k => Config.free (s.freeCtr + 3 * e + k)
    let (nIn, nOut) := match x.unit with
      | some u => (u.bodyLen, (codedUnit (unitCoding s u) u.body).length - 32)
      | none => (2 ^ 32 - 1, 2 ^ 32 - 1)
    (between (x.inDone, nIn) (v 0), between (x.outDone, nOut) (v 1), between (264, 65536) (v 2))
  else (x.inDone, x.outDone, x.nextEntry)

/-- R292: the entry of an engine. -/
def engineBlock (s : State) (e : Nat) : List Byte :=
  let x := engine s e
  let (nIn, nOut, next) := engineProgress s e
  leBytes 1 x.state ++ leBytes 1 0 ++ leBytes 2 (match x.unit with | some u => u.flow | none => 0xFFFF) ++ leBytes 4 nIn ++ leBytes 4 nOut ++ leBytes 4 next

/-- R494: the state of a task: 0 idle, 1 running, 2 suspended, 3 disabled. Tasks 2, 3 and 7 always run. -/
def taskState (s : State) (k : Nat) : Nat :=
  if k = 2 ∨ k = 3 ∨ k = 7 then 1
  else if taskOn s k = false then 3
  else if burnishSuspended s then 2
  else if k = 1 ∨ (k = 5 ∧ (List.range 16).any (fun c => (memChan s c).train != 0)) ∨ (k = 6 ∧ s.stor.ops.any (fun x => x.why == .wear)) then 1
  else 0

/-- R494: the entry of a task. -/
def taskBlock (s : State) (k : Nat) : List Byte :=
  leBytes 1 k ++ leBytes 1 (taskState s k) ++ leBytes 2 0 ++ leBytes 4 (task s k).overruns ++ leBytes 8 (task s k).doneNs

/-- R494: the status block of the store. -/
def storeBlock (s : State) : List Byte :=
  let bs := userBlocks s
  let sum := (bs.map (eraseCount s)).sum
  leBytes 1 (b2n s.stor.degraded) ++ leBytes 1 0 ++ leBytes 2 s.stor.spares ++ leBytes 2 (freeBlocks s).length ++ leBytes 2 0 ++
    leBytes 4 (eraseMax s) ++ leBytes 4 (if bs = [] then 0 else sum / bs.length)

/-- R503: the status block of SYS. -/
def bootBlock (s : State) : List Byte :=
  leBytes 1 s.boot.stage ++ leBytes 1 s.boot.slot ++ leBytes 1 s.boot.kind ++ leBytes 1 s.boot.banks ++ leBytes 4 s.boot.version ++ leBytes 8 (s.boot.readyNs.getD 0)

/-- R65: the values that the spec says a status block reports where it gives the block no layout: PT_STATUS.STATE (R135), MISPAIRED
(R197) and currentUtcOffset (R323). -/
def statusValues (s : State) (unit inst : Nat) : List Int :=
  if unit = 0x03 then [((port s inst).state : Int)]
  else if unit = 0x07 then [(b2n s.stch.mispaired : Int)]
  else if unit = 0x0D then [s.tk.utcOffset]
  else []

/-- The status block of a unit whose chapter gives its layout. -/
def statusBlock (s : State) (unit : Nat) : Option (List (List Byte)) :=
  if unit = 0x01 then some [bootBlock s]
  else if unit = 0x0B then some ((List.range 20).map (engineBlock s))
  else if unit = 0x0E then some [twinBlock s]
  else if unit = 0x14 then some ((List.range 7).map (fun k => taskBlock s (k + 1)))
  else if unit = 0x17 then some [storeBlock s]
  else none

/-- R60, R65: a status block of unstated layout, cut to the room, and whether it was: a constant function of the part, of a free value and of the values
that it reports (log entry 93). -/
def unstatedStatus (room unit inst : Nat) (s : State) : (List Byte × Bool) × State :=
  let (v, s) := fresh s
  let b := Config.statusBlock unit inst ((v : Int) :: statusValues s unit inst)
  ((b.take room, decide (room < b.length)), s)

/-- A counter block of a size and contents that the spec does not state: both are free values. -/
def openBlock (room : Nat) (s : State) : List Byte × State :=
  let (n, s) := fresh s
  gapBytes (n % (room + 1)) s

/-- R65: STATUS_READ. -/
def doStatusRead (h : Hdr) (unit inst : Nat) (s : State) : State :=
  xesil (.statusRead h unit inst) { op := 0x0302, h := h, params := leBytes 1 unit ++ leBytes 1 inst ++ leBytes 6 0 } false (fun _ => [])
    (fun _ => instBad unit inst)
    (fun room s => match statusBlock s unit with
      | some items => let (ps, more) := fitItems room [] items; .done ps more 0 (if unit = 0x0B then { s with freeCtr := s.freeCtr + 60 } else s)
      | none => let ((b, more), s) := unstatedStatus room unit inst s; .done b more 0 s)
    (fun _ => []) s

/-! ### Counter blocks -/

/-- The counters of R139. -/
def portCounts (x : PortCounts) : List Nat :=
  [x.crc, x.code, x.seq, x.header, x.skew, x.length, x.received, x.delivered, x.lossTimeout, x.lossOverflow, x.fill, x.excess, x.late, x.unsolicited,
   x.hbLost, x.dropped]

/-- The counters of R179. -/
def stripCounts (x : StripCounts) : List Nat :=
  [x.lines, x.lost, x.statics, x.dyn, x.noNbr, x.high, x.low, x.ce, x.ue, x.updates, x.freezes, x.held, x.throttled, x.stage]

/-- The counters of R250. -/
def segmCounts (x : SegmCounts) : List Nat :=
  [x.lines, x.dark, x.bright, x.sat, x.noref, x.runs, x.opened, x.handed, x.small, x.merges, x.cuts, x.ovfCtx, x.ovfFront, x.ovfClosed, x.high, x.held]

/-- The counters of R269. -/
def recdCounts (x : RecdCounts) : List Nat :=
  [x.formed, x.emitted, x.suppressed, x.noRule, x.patches, x.trunc, x.oversize, x.markReq, x.marked, x.missed, x.late, x.refused, x.dropped, x.held]

/-- The counters of R356. -/
def twinCounts (x : Twin) : List Nat :=
  [x.hbMissed, x.hbLosses, x.takeovers, x.yields, x.joinsOk, x.joinsBad, x.adopted, x.adoptMiss, x.lateStamps, x.replays, x.silent, x.unitDrops]

/-- The counters of R377. -/
def memCounts (s : State) (i : Nat) : List Nat :=
  if i < 16 then
    let x := memChan s i
    [x.reads, x.writes, x.ces, x.ues, x.postponed, x.forced, x.rfms, x.throttles, x.trained, x.failed]
  else
    let x := rtp s (i - 16)
    [x.panics, x.overflows, x.bytes, x.panicNs + (match x.panic with | some t => monoNs s - t | none => 0)]

/-- The counters of R158. -/
def motnCounts (s : State) (i : Nat) : List Nat :=
  if i < 8 then let x := axis s i; [x.nIllegal, x.nSsiErr, x.nAbsorbed, x.nStill]
  else if i < 32 then let x := ltg s (i - 16); [x.issued, x.heldN, x.dropped]
  else let x := pc s (i - 32); [x.nFired, x.nLate, x.nMissed, x.nRefused, x.nOvf]

/-- The counters of R311. -/
def netCounts (x : NetPort) : List Nat :=
  [x.frames, x.bytes, x.units, x.late, x.lateDrop, x.bufDrop, x.pauseRx, x.pfcRx, x.rx, x.badRx, x.unclaimed, x.fecOk, x.fecBad, x.losses]

/-- The counters of R328. -/
def timeCounts (s : State) (i : Nat) : List Nat :=
  if i = 0 then [s.tk.nSteps, s.tk.nAccepted, s.tk.nOutliers, s.tk.nDelayOut, s.tk.nHoldover, s.tk.nParent]
  else let x := ptpPort s (i - 1); [x.received, x.sent, x.discarded, x.unmatched, x.annTimeouts, x.unanswered]

/-- The counters of R394. -/
def qdmaCounts (s : State) (i : Nat) : List Nat :=
  if i < 64 then let x := chan s i; [x.nRead, x.nWritten, x.nBursts, x.nErr, x.nFlush, x.nRefused]
  else (List.range 16).flatMap (fun k => let x := queue s (16 * (i - 64) + k); [x.pushed, x.dropped, x.timeouts])

/-- The counters of R460. -/
def twbCounts (s : State) (i : Nat) : List Nat :=
  if i < 8 then let x := twc s i; [x.nDone, x.nAddr, x.nData, x.nLost, x.nLostEnd, x.nHolds, x.nCured, x.nCureBad, x.nAlerts]
  else [s.ht.addressed, s.ht.notAcked, s.ht.discarded, s.ht.doorbells, s.ht.overruns, s.ht.holds]

/-- The counters of R412 and R413. -/
def chkCounts (s : State) (i : Nat) : List Nat :=
  if i = 16 then [s.chk.ce, s.chk.ue, s.chk.strip, s.chk.colour, s.chk.stitch, s.chk.prof.fails, s.chk.segm.fails, s.chk.former.fails]
  else let x := crcUnit s i; [x.bytes, x.jobs, x.nRefused]

/-- The counter block of a unit instance, where the unit's chapter gives one. -/
def counterBlock (s : State) (unit i : Nat) : Option (List Nat) :=
  match unit with
  | 0x03 => some (portCounts (port s i).counts)
  | 0x04 => some (motnCounts s i)
  | 0x05 => some (stripCounts (strip s i).counts)
  | 0x06 => let x := colr s i; some [x.lines, x.subst, x.single, x.hDir, x.vDir, x.msat]
  | 0x07 => let x := s.stch; some [x.emitted, x.lost, x.gaps, x.discarded, x.nMispaired, x.readErrs, x.rowsLost, x.waited]
  | 0x08 => let x := prof s i; some [x.samples, x.empties, x.shorts, x.latches, x.waited]
  | 0x09 => some (segmCounts s.segm.counts)
  | 0x0A => some (recdCounts s.recd.counts)
  | 0x0B => let x := s.cmpr; some [x.coded, x.bodyBytes, x.codeBytes, x.stored, x.blocks, x.resets, x.refs, x.dropped, x.jobsOk, x.jobsBad, x.decErrors, x.stops]
  | 0x0C => if i < 3 then some (netCounts (netPort s i)) else none
  | 0x0D => some (timeCounts s i)
  | 0x0E => some (twinCounts s.twin)
  | 0x0F => some (memCounts s i)
  | 0x10 => some (qdmaCounts s i)
  | 0x11 => let x := rein s i; some [x.passed, x.gated]
  | 0x12 => some (twbCounts s i)
  | 0x13 => let x := s.thrm; if i = 0 then some [x.nRises, x.nRiseEv, x.nApplied, x.nReleased, x.nMsLow, x.nInhibit, x.nOrderly, x.nHard] else none
  | 0x14 => let x := s.bkgd; some [x.nScrub, x.nSram, x.nRestored, x.nEyes, x.nRetrain, x.nOverruns, x.nTests]
  | 0x15 => some (chkCounts s i)
  | 0x17 => let x := s.stor; some [x.nWritten, x.nFailed, x.nRetired, x.nMoves, x.spares, x.nPending]
  | _ => none

/-- The counters of an instance of MOTN, MEMC, QDMA or CHK become 0. -/
def clearBanked (unit i : Nat) (s : State) : State :=
  match unit with
  | 0x04 =>
    if i < 8 then setAxis i { axis s i with nIllegal := 0, nSsiErr := 0, nAbsorbed := 0, nStill := 0 } s
    else if i < 32 then setLtg (i - 16) { ltg s (i - 16) with issued := 0, heldN := 0, dropped := 0 } s
    else setPc (i - 32) { pc s (i - 32) with nFired := 0, nLate := 0, nMissed := 0, nRefused := 0, nOvf := 0 } s
  | 0x0F =>
    if i < 16 then
      setMemChan i { memChan s i with reads := 0, writes := 0, ces := 0, ues := 0, postponed := 0, forced := 0, rfms := 0, throttles := 0, trained := 0, failed := 0 } s
    else setRtp (i - 16) { rtp s (i - 16) with panics := 0, overflows := 0, bytes := 0, panicNs := 0, panic := (rtp s (i - 16)).panic.map (fun _ => monoNs s) } s
  | 0x10 =>
    if i < 64 then setChan i { chan s i with nRead := 0, nWritten := 0, nBursts := 0, nErr := 0, nFlush := 0, nRefused := 0 } s
    else forEach (List.range 16) (fun k s =>
      let q := 16 * (i - 64) + k
      setQueue q { queue s q with pushed := 0, dropped := 0, timeouts := 0 } s) s
  | 0x15 =>
    if i = 16 then
      { s with chk.ce := 0, chk.ue := 0, chk.strip := 0, chk.colour := 0, chk.stitch := 0, chk.prof.fails := 0, chk.segm.fails := 0, chk.former.fails := 0 }
    else setCrcUnit i { crcUnit s i with bytes := 0, jobs := 0, nRefused := 0 } s
  | _ => s

/-- The counters of a port become 0. The LOSS lines counted since the last snapshot are kept for the next one (R485). -/
def clearPort (i : Nat) (s : State) : State :=
  let gap : Int := s.bkgd.lost.get 0 i - (lossLines s i : Int)
  setPort i { port s i with counts := {} } { s with bkgd.lost := Map.set 0 s.bkgd.lost i gap }

/-- R65: COUNTERS_READ with clear: the counters of the block become 0, and the highest number of contexts what it is now (R250). -/
def clearCounters (unit i : Nat) (s : State) : State :=
  match unit with
  | 0x03 => clearPort i s
  | 0x05 => setStrip i { strip s i with counts := {} } s
  | 0x06 => setColr i { colr s i with lines := 0, subst := 0, single := 0, hDir := 0, vDir := 0, msat := 0 } s
  | 0x07 => { s with stch.emitted := 0, stch.lost := 0, stch.gaps := 0, stch.discarded := 0, stch.nMispaired := 0, stch.readErrs := 0, stch.rowsLost := 0, stch.waited := 0 }
  | 0x08 => setProf i { prof s i with samples := 0, empties := 0, shorts := 0, latches := 0, waited := 0 } s
  | 0x09 => { s with segm.counts := { high := (s.segm.objs.filter (fun o => o.region.isNone)).length } }
  | 0x0A => { s with recd.counts := {} }
  | 0x0B => { s with cmpr.coded := 0, cmpr.bodyBytes := 0, cmpr.codeBytes := 0, cmpr.stored := 0, cmpr.blocks := 0, cmpr.resets := 0, cmpr.refs := 0,
                     cmpr.dropped := 0, cmpr.jobsOk := 0, cmpr.jobsBad := 0, cmpr.decErrors := 0, cmpr.stops := 0 }
  | 0x0C =>
    if i < 3 then
      setNetPort i { netPort s i with frames := 0, bytes := 0, units := 0, late := 0, lateDrop := 0, bufDrop := 0, pauseRx := 0, pfcRx := 0, rx := 0, badRx := 0,
                                      unclaimed := 0, fecOk := 0, fecBad := 0, losses := 0 } s
    else s
  | 0x0D =>
    if i = 0 then { s with tk.nSteps := 0, tk.nAccepted := 0, tk.nOutliers := 0, tk.nDelayOut := 0, tk.nHoldover := 0, tk.nParent := 0 }
    else
      setPtpPort (i - 1) { ptpPort s (i - 1) with received := 0, sent := 0, discarded := 0, unmatched := 0, annTimeouts := 0, unanswered := 0 } s
  | 0x0E => { s with twin.hbMissed := 0, twin.hbLosses := 0, twin.takeovers := 0, twin.yields := 0, twin.joinsOk := 0, twin.joinsBad := 0, twin.adopted := 0,
                     twin.adoptMiss := 0, twin.lateStamps := 0, twin.replays := 0, twin.silent := 0, twin.unitDrops := 0 }
  | 0x11 => setRein i { rein s i with passed := 0, gated := 0 } s
  | 0x12 =>
    if i < 8 then setTwc i { twc s i with nDone := 0, nAddr := 0, nData := 0, nLost := 0, nLostEnd := 0, nHolds := 0, nCured := 0, nCureBad := 0, nAlerts := 0 } s
    else { s with ht.addressed := 0, ht.notAcked := 0, ht.discarded := 0, ht.doorbells := 0, ht.overruns := 0, ht.holds := 0 }
  | 0x13 => { s with thrm.nRises := 0, thrm.nRiseEv := 0, thrm.nApplied := 0, thrm.nReleased := 0, thrm.nMsLow := 0, thrm.nInhibit := 0, thrm.nOrderly := 0, thrm.nHard := 0 }
  | 0x14 => { s with bkgd.nScrub := 0, bkgd.nSram := 0, bkgd.nRestored := 0, bkgd.nEyes := 0, bkgd.nRetrain := 0, bkgd.nOverruns := 0, bkgd.nTests := 0 }
  | 0x17 => { s with stor.nWritten := 0, stor.nFailed := 0, stor.nRetired := 0, stor.nMoves := 0, stor.nPending := 0 }
  | _ => clearBanked unit i s

/-- R65: COUNTERS_READ, open to all; its clear only to SUP, APP-S and MGMT, and for an owned resource under R7. -/
def doCountersRead (h : Hdr) (unit inst clear : Nat) (s : State) : State :=
  xesil (.countersRead h unit inst clear) { op := 0x0303, h := h, params := leBytes 1 unit ++ leBytes 1 inst ++ leBytes 1 clear ++ leBytes 5 0 } false
    (fun s => if clear ≠ 0 ∧ h.via.principal ≠ .sup ∧ h.via.principal ≠ .appS ∧ h.via.principal ≠ .mgmt then refuseFree 0x0205
      else if clear = 0 then [] else resErr h unit inst s)
    (fun _ => instBad unit inst ++ (if 1 < clear then refuse1 0x0301 0 2 else []))
    (fun room s => match counterBlock s unit inst with
      | some cs =>
        let (ps, more) := fitItems room [] (cs.map (leBytes 8))
        .done ps more 0 (if clear = 1 then clearCounters unit inst s else s)
      | none => let (b, s) := openBlock room s; .done b false 0 s)
    (fun _ => []) s

/-! ### Digests and twin status -/

/-- R302: DIGEST_READ: the kept digests of a flow from a sequence number on. -/
def doDigestRead (h : Hdr) (flow first count : Nat) (s : State) : State :=
  xesil (.digestRead h flow first count) { op := 0x0305, h := h, params := leBytes 2 flow ++ leBytes 6 0 ++ leBytes 8 first ++ leBytes 4 count } false (fun _ => [])
    (fun _ => if 1023 < flow then refuse1 0x0303 flow 0 else [])
    (fun room s =>
      let items := (((Machine.flow s flow).kept.filter (fun k => decide (first ≤ k.1))).take count).map (fun k => leBytes 8 k.1 ++ leBytes 8 k.2)
      let (ps, more) := fitItems room [] items
      .done ps more 0 s)
    (fun _ => []) s

/-- R355: TWIN_STATUS. -/
def doTwinStatus (h : Hdr) (s : State) : State :=
  xesil (.twinStatus h) { op := 0x0801, h := h } false (fun _ => []) (fun _ => []) (fun _ s => .done (twinBlock s) false 0 s) (fun _ => []) s

/-! ### The change log (R92 to R96) -/

/-- R96: LOG_READ. DESIGN CHOICE (log entry 89): the first-entry field carries bit 63 where the mirror ring was read, and repeats the index asked for
where no entry is returned. -/
def doLogRead (h : Hdr) (first count : Nat) (s : State) : State :=
  xesil (.logRead h first count) { op := 0x0401, h := h, params := leBytes 8 first ++ leBytes 4 count } false (fun _ => [])
    (fun _ => if 63 < count then refuse1 0x0301 0 8 else [])
    (fun room s =>
      let es := logFrom s first
      let idx := match es with | e :: _ => e.index + (if bitOf first 63 then 2 ^ 63 else 0) | [] => first
      let (ps, more) := fitItems room (leBytes 8 idx) ((es.take count).map logBytes)
      .done ps more 0 s)
    (fun _ => []) s

/-- R92, R94: LOG_MARK enters a MARK entry and its TEXT entry. The text has 1 to 48 bytes. -/
def doLogMark (h : Hdr) (text : List Byte) (s : State) : State :=
  let c : Cmd := { op := 0x0402, h := h, params := text, count := text.length, bad := if text = [] ∨ 48 < text.length then some 0x0105 else none }
  xesil (.logMark h text) c false (fun _ => []) (fun _ => [])
    (fun _ s =>
      let idx := s.sys.log.next
      let s := logCommit { kind := 5, principal := c.who.code, transport := h.via.code, timeS := (receivedAt s).1, timeNs := (receivedAt s).2, flags := cmdFlags h s,
                           opcode := 0x0402, tag := h.tag, epoch := s.sys.epoch, count := text.length, session := h.session, digest := crc64 text } s
      .done (leBytes 8 idx) false 0 (logCommit { kind := 6, text := text } s))
    (fun _ => []) s

/-- R95: LOG_REGISTER_WINDOW_CLOSE: 1 ms has passed since the first write of an open REGISTER entry. -/
def execLogRegisterWindowClose (principal : Principal) (addr : Nat) (s : State) : Host.Outcome State Fault Refusal :=
  .next (closeWindows (fun w => w.addr == addr && w.principal == principal.code) s)

/-- R95: LOGGED_REGISTER_WRITE: a principal writes a register marked L, named as R92 names it. -/
def execLoggedRegisterWrite (principal : Principal) (addr : Nat) (value : Word32) (s : State) : Host.Outcome State Fault Refusal :=
  .next (logRegister principal addr value.toNat s)

end Sys2Proof.Machine
end

