-- ==== Sys2Proof/Machine/Staging.lean ====
section
/-! DEFINITION. Machine/Staging.lean: staging sets and saved sets (chapter "Staging, Cinch, Ownership and the Change Log", R73 to R76). -/
namespace Sys2Proof.Machine

/-- A staging set. -/
def stageSet (s : State) (n : Nat) : StageSet := s.sys.stage.get {} n

/-- Replace a staging set. -/
def setStage (n : Nat) (x : StageSet) (s : State) : State := { s with sys.stage := s.sys.stage.set {} n x }

/-- R66: the refusal of a command that names a set: another session's or a FREE set, and the set of the pending Cinch. -/
def setRefusal (locks : Bool) (n sess : Nat) (s : State) : List Detail :=
  let x := stageSet s n
  if x.state = 0 ∨ x.owner ≠ sess then refuse1 0x0407 n 0
  else if locks && (x.state != 1) then refuse1 0x0503 n 0
  else []

/-- The refusal of step 11 for a set number. -/
def setBad (n : Nat) : List Detail := if 3 < n then refuse1 0x0303 n 0 else []

/-! ### Entries (R70, R74) -/

/-- R74: the identifiers that an entry of STAGE_WRITE names: every instance that defines the parameter for instance 0xFF, but for EVNT. -/
def entryIds (id : Nat) : List Nat :=
  if pidInst id = 0xFF ∧ pidUnit id ≠ 0x11 then (allInstances (pidUnit id) (pidNum id)).map (fun i => pid (pidUnit id) i (pidNum id)) else [id]

/-- R395: the fixed parameters of Q1016 to Q1023 and DC63. -/
def fixedItem (id : Nat) : Bool := pidUnit id == 0x10 && (match paramRow id with | some r => r.owner == 0 | none => false)

/-- R89, R90, R395: the refusal of step 10 for one identifier. -/
def stageErr (s : State) (p : Principal) (role : Nat) (id : Nat) : Option Nat :=
  if fixedItem id then some (if secureP s p role then 0x0201 else 0x0204)
  else idErr s p role false id

/-- The refusals of step 10 for the entries of STAGE_WRITE. -/
def entriesOwn (h : Hdr) (entries : List (Nat × Nat)) (s : State) : List Detail :=
  entries.zipIdx.filterMap (fun (e, k) => (((entryIds e.1).filterMap (stageErr s h.via.principal (roleOf s h))).head?).map (fun st => ⟨st, e.1, k⟩))

/-- R69 to R71: the refusal of step 11 for an entry: an identifier that is no scalar, or a value outside its range. -/
def entryErr (e : Nat × Nat) : Option Nat :=
  let ids := entryIds e.1
  if ids = [] ∨ (ids.any (fun id => (paramRow id).isNone)) = true then some 0x0302
  else if ids.all (fun id => match paramRow id with | some r => (decodeValue id r e.2).isSome | none => false) then none
  else some 0x0301

/-- The refusals of step 11 for the entries of STAGE_WRITE. -/
def entriesBad (entries : List (Nat × Nat)) : List Detail :=
  entries.zipIdx.filterMap (fun (e, k) => (entryErr e).map (fun st => ⟨st, e.1, k⟩))

/-- R339: a device-local parameter, which a Shadow drops from mirrored packets. -/
def localParam (id : Nat) : Bool :=
  pidUnit id == 0x0E || (pidUnit id == 0x0C && pidInst id == 2) || (pidUnit id == 0x0D && pidInst id == 3) || id == P.SYS_MGT_UDP_PORT

/-- The value that 64 bits carry for an identifier. -/
def rawValue (id raw : Nat) : Int := match paramRow id with | some r => (decodeValue id r raw).getD 0 | none => 0

/-- R74: a value is staged; a later one replaces an earlier one. -/
def stageValue (n : Nat) (keepLocal : Bool) (id raw : Nat) (s : State) : State :=
  if keepLocal && localParam id then s
  else
    let x := stageSet s n
    setStage n { x with dict := { x.dict with vals := Map.insert x.dict.vals id (rawValue id raw) } } s

/-- R74: the entries of a STAGE_WRITE are staged. -/
def stageEntries (n : Nat) (keepLocal : Bool) (entries : List (Nat × Nat)) (s : State) : State :=
  forEach entries (fun e s => forEach (entryIds e.1) (fun id s => stageValue n keepLocal id e.2 s) s) s

/-! ### Table bytes (R71, R75) -/

/-- Bytes laid over a table's staged bytes. -/
def layBytes (off : Nat) (data : List Byte) (m : Map Byte) : Map Byte := (data.zipIdx).foldl (fun m b => Map.insert m (off + b.2) b.1) m

/-- R71: bytes of a table are staged. -/
def stageBytes (n id off : Nat) (data : List Byte) (s : State) : State :=
  let x := stageSet s n
  setStage n { x with dict := { x.dict with tabs := Map.insert x.dict.tabs id (layBytes off data ((x.dict.tabs.find? id).getD [])) } } s

/-- R75: the bytes that a dictionary occupies in the staging area. -/
def areaOf (d : Dict) : Nat := (d.tabs.map (fun t => t.2.length)).sum

/-- R75: a block would exceed the staging area of 256 MiB. -/
def areaFull (n id off : Nat) (data : List Byte) (s : State) : Bool :=
  let t := stageBytes n id off data s
  decide (0x10000000 < (t.sys.stage.map (fun p => areaOf p.2.dict)).sum)

/-- R71: the refusal of step 11 for a block: an identifier that is no table, or a range outside the table. -/
def blockBad (id off len : Nat) : List Detail :=
  match tabRow id with
  | some t => if t.size < off + len then refuse1 0x0301 id 8 else []
  | none => refuse1 0x0302 id 4

/-- The refusal of step 10 for a table. -/
def tableOwn (h : Hdr) (id : Nat) (s : State) : List Detail :=
  match stageErr s h.via.principal (roleOf s h) id with
  | some st => refuse1 st id 0
  | none => []

/-- The parameters of a STAGE_BLOCK packet. -/
def blockParams (set id off : Nat) (data : List Byte) : List Byte :=
  leBytes 1 set ++ leBytes 3 0 ++ leBytes 4 id ++ leBytes 4 off ++ leBytes 4 0 ++ data

/-- Data cut into pieces of a size. -/
def pieces (n : Nat) : Nat → List Byte → List (List Byte)
  | 0, _ => []
  | k + 1, bs => if bs = [] then [] else bs.take n :: pieces n k (bs.drop n)

/-- R339: the STAGE_BLOCK packets that carry a range of a table. -/
def blockPackets (set id off : Nat) (data : List Byte) : List (Nat × List Byte) :=
  (pieces 4040 (data.length + 1) data).zipIdx.map (fun p => (0x0105, blockParams set id (off + 4040 * p.2) p.1))

/-! ### Commands (R66, R73, R74) -/

/-- R73: STAGE_OPEN takes the lowest FREE set. -/
def doStageOpen (h : Hdr) (s : State) : State :=
  xesil (.stageOpen h) { op := 0x0101, h := h } false (fun _ => []) (fun _ => [])
    (fun _ s => match (List.range 4).find? (fun n => (stageSet s n).state == 0) with
      | some n => .done (leBytes 1 n) false n (setStage n { state := 1, owner := h.session } s)
      | none => .refuse (refuseFree 0x0602))
    (fun _ => []) s

/-- The parameters of a STAGE_WRITE packet. -/
def writeParams (set : Nat) (entries : List (Nat × Nat)) : List Byte :=
  leBytes 1 set ++ leBytes 3 0 ++ leBytes 4 entries.length ++ entries.flatMap (fun e => leBytes 4 e.1 ++ leBytes 4 0 ++ leBytes 8 e.2)

/-- R74, R70: STAGE_WRITE. -/
def doStageWrite (h : Hdr) (set : Nat) (entries : List (Nat × Nat)) (s : State) : State :=
  let last := entries.getLast?.getD (0, 0)
  xesil (.stageWrite h set entries)
    { op := 0x0102, h := h, params := writeParams set entries, subject := last.1, count := entries.length, value := last.2,
      bad := if 253 < entries.length then some 0x0105 else none } false
    (entriesOwn h entries) (fun _ => setBad set ++ entriesBad entries)
    (fun _ s => match setRefusal true set h.session s with
      | [] => .done (leBytes 4 entries.length) false last.2 (stageEntries set (h.via.principal == .twin) entries s)
      | ds => .refuse ds)
    (fun _ => []) s

/-- R74: STAGE_READ. -/
def doStageRead (h : Hdr) (set : Nat) (ids : List Nat) (s : State) : State :=
  xesil (.stageRead h set ids) { op := 0x0103, h := h, params := leBytes 1 set ++ leBytes 3 0 ++ leBytes 4 ids.length ++ ids.flatMap (leBytes 4) } false
    (fun s => itemsOwn s h.via.principal (roleOf s h) true ids) (fun _ => setBad set)
    (fun room s => match setRefusal false set h.session s with
      | [] =>
        let (ps, more) := fitItems room [] (ids.map (paramEntry (overlay s.sys.applied (stageSet s set).dict)))
        .done ps more 0 s
      | ds => .refuse ds)
    (fun _ => []) s

/-- R73: STAGE_DISCARD. -/
def doStageDiscard (h : Hdr) (set : Nat) (s : State) : State :=
  xesil (.stageDiscard h set) { op := 0x0104, h := h, params := leBytes 1 set ++ leBytes 7 0, count := 1 } false (fun _ => []) (fun _ => setBad set)
    (fun _ s => match setRefusal true set h.session s with
      | [] => .done [] false 0 (setStage set {} s)
      | ds => .refuse ds)
    (fun _ => []) s

/-- R71, R75: STAGE_BLOCK. -/
def doStageBlock (h : Hdr) (set id off : Nat) (data : List Byte) (s : State) : State :=
  xesil (.stageBlock h set id off data)
    { op := 0x0105, h := h, params := blockParams set id off data, subject := id, count := 1, bad := if 4040 < data.length then some 0x0105 else none } false
    (tableOwn h id) (fun _ => setBad set ++ blockBad id off data.length)
    (fun _ s => match setRefusal true set h.session s with
      | [] => if areaFull set id off data s then .refuse (refuse1 0x0406 id 0) else .done [] false 0 (stageBytes set id off data s)
      | ds => .refuse ds)
    (fun _ => []) s

/-- R386, R392: the refusals of step 11 for a DRAM range of a command: `lenAt` and `addrAt` are the byte offsets of its fields. -/
def dmaRange (h : Hdr) (addr len addrAt lenAt : Nat) (s : State) : List Detail :=
  if addr % 64 ≠ 0 then refuse1 0x0305 0 addrAt
  else if len % 64 ≠ 0 then refuse1 0x0305 0 lenAt
  else if inRegions s h.via.principal.code addr len then [] else refuse1 0x0306 0 addrAt

/-- R71, R75, R392: STAGE_BLOCK_DMA: the bytes come through DC63; they are staged when the command completes. -/
def doStageBlockDma (h : Hdr) (set id off len addr : Nat) (s : State) : State :=
  xesil (.stageBlockDma h set id off len addr)
    { op := 0x0106, h := h, params := leBytes 1 set ++ leBytes 3 0 ++ leBytes 4 id ++ leBytes 4 off ++ leBytes 4 len ++ leBytes 8 addr, subject := id, count := 1 } true
    (tableOwn h id) (fun s => setBad set ++ (match blockBad id off len with | [] => dmaRange h addr len 16 12 s | ds => ds))
    (fun _ s => match setRefusal true set h.session s with
      | [] => if areaFull set id off (Memory.read s.mem addr len) s then .refuse (refuse1 0x0406 id 0) else .defer s
      | ds => .refuse ds)
    (fun _ => []) s

/-- The command that a deferred one was, for what it still mirrors (R339). -/
def deferredCmd (d : Deferred) : Cmd := { op := d.opcode, h := { via := d.via, session := d.session, seq := d.seq, tag := d.tag } }

/-- R61, R339: a staging command ends: the set has what it staged, and the packets that stand for it are mirrored. -/
def endStaging (d : Deferred) (packets : List (Nat × List Byte)) (s : State) : State :=
  endDeferred d 0 [] false 0 (mirrorCmd (deferredCmd d) 0 s.sys.epoch packets s)

/-- R71, R391, R392: STAGE_BLOCK_DMA completes: DC63 has read the range; an uncorrectable error in it ends the command with 0x0701. -/
def endStageDma (d : Deferred) (set id off len addr : Nat) (s : State) : State :=
  let t := supMove addr (supAddr 0) len s
  match setRefusal true set d.session s with
  | [] =>
    let data := Memory.read s.mem addr len
    if s.badBlocks.any (fun b => decide (b < addr + len ∧ addr < b + 64)) then failDeferred d (refuse1 0x0701 0 16) t
    else if areaFull set id off data s then failDeferred d (refuse1 0x0406 id 0) t
    else endStaging d (blockPackets set id off data) (stageBytes set id off data t)
  | ds => failDeferred d ds t

/-! ### Saved sets (R76) -/

/-- What a saved set holds: scalar entries and table blocks. -/
structure SavedSet where
  scalars : List (Nat × Nat)
  tables  : List (Nat × List Byte)
  deriving DecidableEq, Repr

/-- Identifiers in ascending order. -/
def ascending : List Nat → Bool
  | a :: b :: rest => decide (a < b) && ascending (b :: rest)
  | _ => true

/-- R76: the table blocks of a saved set. DESIGN CHOICE (log entry 129): bytes that remain after the last of them spoil the set. -/
def parseTables : Nat → List Byte → Option (List (Nat × List Byte))
  | 0, bs => if bs = [] then some [] else none
  | n + 1, bs =>
    let len := leAt bs 4 4
    let size := 8 + roundUp 8 len
    if bs.length < 8 ∨ bs.length < size then none
    else (parseTables n (bs.drop size)).map (fun ts => (leAt bs 0 4, (bs.drop 8).take len) :: ts)

/-- R76: the structure of a saved set: none where the header does not verify, the entries are out of order or a length overruns the item. -/
def parseSaved (bs : List Byte) : Option SavedSet :=
  let n := leAt bs 12 4
  let ok := decide (32 ≤ bs.length) && leAt bs 0 4 == 0x56455354 && leAt bs 4 2 == 1 && leAt bs 6 2 == 0 && leAt bs 20 8 == 0 &&
    leAt bs 28 4 == crc32c (bs.take 28) && decide (32 + 16 * n ≤ bs.length)
  if !ok then none
  else
    let sc := (List.range n).map (fun k => (leAt bs (32 + 16 * k) 4, leAt bs (40 + 16 * k) 8))
    match parseTables (leAt bs 16 4) (bs.drop (32 + 16 * n)) with
    | some ts => if ascending (sc.map Prod.fst) && ascending (ts.map Prod.fst) then some ⟨sc, ts⟩ else none
    | none => none

/-- R76: the refusal of the identifiers, then of the values and lengths, of a saved set, as STAGE_WRITE judges its entries. -/
def savedBad (x : SavedSet) : List Detail :=
  let undef := (x.scalars.filter (fun e => entryErr e == some 0x0302)).map (fun e => ({ status := 0x0302, id := e.1, value := 0 } : Detail)) ++
    (x.tables.filter (fun t => (tabRow t.1).isNone)).map (fun t => ({ status := 0x0302, id := t.1, value := 0 } : Detail))
  if undef ≠ [] then undef
  else
    (x.scalars.filter (fun e => entryErr e == some 0x0301)).map
      (fun e => ({ status := 0x0301, id := e.1, value := 0 } : Detail)) ++
    (x.tables.filter (fun t => match tabRow t.1 with | some r => decide (r.size < t.2.length) | none => false)).map
      (fun t => ({ status := 0x0301, id := t.1, value := 0 } : Detail))

/-- R395, R76: an entry gives a fixed parameter the value that it holds: STAGE_SAVE writes it and it is no change. -/
def heldFixed (id raw : Nat) : Bool := fixedItem id && rawValue id raw == paramDefault id

/-- The scalar entries of a saved set, one for each identifier that they name (R74), but for those that only repeat a fixed value. -/
def savedScalars (x : SavedSet) : List (Nat × Nat) :=
  (x.scalars.flatMap (fun e => (entryIds e.1).map (fun id => (id, e.2)))).filter (fun e => !heldFixed e.1 e.2)

/-- The refusals of step 10 for the items of a saved set. -/
def savedOwn (p : Principal) (role : Nat) (x : SavedSet) (s : State) : List Detail :=
  ((savedScalars x).map Prod.fst ++ x.tables.map Prod.fst).filterMap (fun id =>
    (stageErr s p role id).map (fun st => ({ status := st, id := id, value := 0 } : Detail)))

/-- R74, R76: a saved set is merged into a staging set. -/
def stageSaved (n : Nat) (x : SavedSet) (s : State) : State :=
  let s := forEach (savedScalars x) (fun e s => stageValue n false e.1 e.2 s) s
  forEach x.tables (fun t s => stageBytes n t.1 0 t.2 s) s

/-- R339: the packets that a load produced. -/
def savedPackets (n : Nat) (x : SavedSet) : List (Nat × List Byte) :=
  let sc := savedScalars x
  ((List.range ((sc.length + 252) / 253)).map (fun k => (0x0102, writeParams n ((sc.drop (253 * k)).take 253)))) ++
    x.tables.flatMap (fun t => blockPackets n t.1 0 t.2)

/-- R76: the store item that STAGE_LOAD_SAVED names, read and verified: the saved set, or the refusal. -/
def readSaved (s : State) (p : Principal) (role item : Nat) : List Detail × SavedSet :=
  match itemFault s item with
  | some st => (refuse1 st item 0, ⟨[], []⟩)
  | none =>
    match parseSaved (itemData s item) with
    | none => (refuse1 0x0803 item 0, ⟨[], []⟩)
    | some x => (match savedOwn p role x s with
      | [] => (savedBad x, x)
      | ds => (ds, x))

/-- R76: STAGE_LOAD_SAVED. -/
def doStageLoadSaved (h : Hdr) (set item : Nat) (s : State) : State :=
  xesil (.stageLoadSaved h set item) { op := 0x0107, h := h, params := leBytes 1 set ++ leBytes 3 0 ++ leBytes 4 item, subject := item, count := 1 } true
    (storeReadOwn h item) (fun _ => setBad set)
    (fun _ s => match setRefusal true set h.session s with
      | [] => .defer s
      | ds => .refuse ds)
    (fun _ => []) s

/-- The principal that a deferred command's transport gives it. -/
def Deferred.who (d : Deferred) : Principal := d.via.principal

/-- R76: STAGE_LOAD_SAVED completes: all of the set is staged, or nothing. -/
def endLoadSaved (d : Deferred) (set item : Nat) (s : State) : State :=
  match setRefusal true set d.session s with
  | [] =>
    (match readSaved s d.who d.role item with
     | ([], x) => endStaging d (savedPackets set x) (stageSaved set x s)
     | (ds, _) => failDeferred d ds s)
  | ds => failDeferred d ds s

/-- The scalar identifiers of a unit instance in ascending order. -/
def instScalars (unit inst : Nat) : List Nat :=
  (((unitRows unit).filter (fun r => decide (r.instLo ≤ inst ∧ inst ≤ r.instHi))).flatMap (fun r =>
    (List.range r.count).map (fun k => pid unit inst (r.num + r.step * k)))).insertionSort (· ≤ ·)

/-- Every scalar identifier in ascending order. -/
def allScalars : List Nat := (List.range 0x18).flatMap (fun u => (List.range 256).flatMap (instScalars u))

/-- Every table identifier in ascending order. -/
def allTables : List (Nat × TabRow) :=
  ((List.range 0x18).flatMap (fun u => (List.range 256).flatMap (fun i =>
    ((tabRows.filter (fun t => decide (t.unit = u ∧ t.instLo ≤ i ∧ i ≤ t.instHi))).map (fun t => (pid u i t.num, t))))))

/-- R76: the applied configuration as a saved set. -/
def savedImage (s : State) : List Byte :=
  let d := s.sys.applied
  let head := leBytes 4 0x56455354 ++ leBytes 2 1 ++ leBytes 2 0 ++ leBytes 4 s.sys.epoch ++ leBytes 4 allScalars.length ++ leBytes 4 allTables.length ++ leBytes 8 0
  head ++ leBytes 4 (crc32c head) ++
    allScalars.flatMap (fun id => leBytes 4 id ++ leBytes 4 0 ++ leBytes 8 (paramRaw (dictVal d id))) ++
    allTables.flatMap (fun t => leBytes 4 t.1 ++ leBytes 4 t.2.size ++ padTo 8 (tabBytes d t.1 0 t.2.size))

/-- R76: STAGE_SAVE writes the applied configuration to a store item. -/
def doStageSave (h : Hdr) (item : Nat) (s : State) : State :=
  pumpStore (xesil (.stageSave h item) { op := 0x0108, h := h, params := leBytes 4 item, subject := item, count := 1 } true
    (fun s => if item = 0x100 then [] else storeOwn h item s) (fun _ => [])
    (fun _ s => .defer (queueStore { why := .command h.session h.seq, item := item, data := savedImage s, whole := true } s))
    (fun _ => []) s)

end Sys2Proof.Machine
end

