-- ==== Sys2Proof/Machine/Checks.lean ====
section
/-! DEFINITION. Machine/Checks.lean: the checks of R86 over the configuration that a set would give, each with the rule of its unit's
chapter. An entry names the first parameter that its rule names (R87). -/
namespace Sys2Proof.Machine

/-- R87: entries in ascending identifier order, each once. -/
def sortDetails (ds : List Detail) : List Detail :=
  ds.dedup.insertionSort (fun a b => a.id < b.id ∨ (a.id = b.id ∧ a.value ≤ b.value))

/-- One entry where a condition holds. -/
def viol (c : Bool) (status id value : Nat) : List Detail := if c then refuse1 status id value else []

/-- The entry of check 4 (geometry). -/
def geo (c : Bool) (id detail : Nat) : List Detail := viol c 0x0401 id detail

/-- The entry of check 9 (ranges). -/
def rng (c : Bool) (id limit : Nat) : List Detail := viol c 0x0301 id limit

/-- The class of an identifier. -/
def idClass (id : Nat) : Cls :=
  match paramRow id, tabRow id with
  | some r, _ => r.cls
  | none, some t => t.cls
  | none, none => .I

/-- The identifiers that a set holds, in ascending order. -/
def stagedIds (d : Dict) : List Nat := (d.vals.map Prod.fst ++ d.tabs.map Prod.fst).insertionSort (· ≤ ·)

/-- The identifier of an instance's RUN, where it has one. -/
def runId (id : Nat) : Option Nat :=
  let r := pid (pidUnit id) (pidInst id) 0
  if (paramRow r).isSome then some r else none

/-! ### Checks 1 to 3 -/

/-- R137: a set changes the camera-side settings of a port. -/
def camsetChanges (old new : Dict) (p : Nat) : Bool :=
  dictVal old (P.PORT_CAMSET_COUNT p) != dictVal new (P.PORT_CAMSET_COUNT p) || tabBytes old (P.CAMSET p) 0 128 != tabBytes new (P.CAMSET p) 0 128

/-- R80, R86, R137, check 1: the boundary type. -/
def check1 (old new set : Dict) (btype axis mask : Nat) : List Detail :=
  (if btype = 0 then (stagedIds set).flatMap (fun id => viol (idClass id != .I) 0x0304 id 0) else []) ++
  (if btype = 3 then viol (decide (7 < axis) || !(dictB old (P.MOTN_RUN axis)) || !(dictB new (P.MOTN_RUN axis))) 0x0304 (P.MOTN_RUN axis) 3 else []) ++
  (List.range 16).flatMap (fun p => viol (camsetChanges old new p && !(btype == 1 && bitOf mask p)) 0x0304 (P.PORT_CAMSET_COUNT p) btype)

/-- R380: the queues that unit parameters name, each with its parameter. -/
def unitQueues (d : Dict) : List (Nat × Nat) :=
  ((List.range 16).map (fun p => (dictN d (P.PORT_EVENT_QUEUE p), P.PORT_EVENT_QUEUE p)) ++ [(dictN d P.RECD_RECORD_QUEUE, P.RECD_RECORD_QUEUE)] ++
    (enabledFlows d).filterMap (fun f =>
      let e := flowEntry d f
      if leAt e 3 1 = 3 then some (leAt e 28 2, P.FLOWS) else none)).filter (fun x => x.1 != 0xFFFF)

/-- R79: a queue has a producer or consumer other than the window in effect, and the set does not end it. -/
def queueInUse (s : State) (new : Dict) (q : Nat) : Bool :=
  (queue s q).chanProd.isSome || (queue s q).chanCons.isSome || (unitNames s q && (unitQueues new).any (fun x => x.1 == q))

/-- The queue of a QDMA queue parameter (R395). -/
def queueOfId (id : Nat) : Nat := 16 * (pidInst id - 0x40) + (pidNum id - 0x100) / 16

/-- R78, R79, R362: the instance of an S-class identifier is neither stopped nor stopped by the set. -/
def instanceRuns (s : State) (new : Dict) (id : Nat) : Bool :=
  let old := s.sys.applied
  let u := pidUnit id
  let i := pidInst id
  if u = 0x0F then s.boot.mapped && dictVal old id != dictVal new id
  else if u = 0x10 then (if i < 0x40 then chanBusy (chan s i) else queueInUse s new (queueOfId id))
  else if u = 0x15 then crcBusy s i
  else if u = 0x0D ∧ i ≠ 0 then dictB old P.TIME_RUN && dictB new P.TIME_RUN
  else match runId id with
    | some r => dictB old r && dictB new r
    | none => false

/-- Check 2: S-class values for instances that run. -/
def check2 (s : State) (new set : Dict) : List Detail :=
  (stagedIds set).flatMap (fun id => viol (idClass id == .S && instanceRuns s new id) 0x0405 id (256 * pidUnit id + pidInst id))

/-- R83: the port whose lines a unit takes: a port itself, or the reference port where only the stitched stream feeds the unit and a port outside the mask
contributes to it. -/
def feedingPort (new : Dict) (mask id : Nat) : Option Nat :=
  let u := pidUnit id
  let i := pidInst id
  let viaStitch := if (List.range 16).any (fun p => contributes new p && !bitOf mask p) then some (dictN new P.STCH_OUT_REF_PORT) else none
  if u = 0x03 then some i
  else if u = 0x05 ∨ u = 0x06 then some (if i % 2 = 1 ∧ ganged new (i - 1) then i - 1 else i)
  else if u = 0x07 ∧ i < 16 then some i
  else if u = 0x08 ∧ dictN new (P.PROF_SRC i) < 16 then some (dictN new (P.PROF_SRC i))
  else if u = 0x07 ∨ u = 0x08 ∨ u = 0x09 ∨ u = 0x0A then viaStitch
  else none

/-- Check 3: the port scope of a FRAME Cinch. -/
def check3 (new set : Dict) (mask : Nat) : List Detail :=
  (stagedIds set).flatMap (fun id => match feedingPort new mask id with
    | some p => viol (!bitOf mask p) 0x0401 id p
    | none => [])

/-! ### Check 4: geometry of ports, strips and generators -/

/-- R120: the lane rate of a CoaXPress rate code, in kbit/s. -/
def cxpRate (code : Nat) : Nat := ([0, 1250000, 2500000, 3125000, 5000000, 6250000, 10000000, 12500000] : List Nat).getD code 0

/-- R120: what the Cinch that starts a port requires of its lanes and uplink. -/
def startGeo (new : Dict) (p : Nat) : List Detail :=
  let lanes := (List.range (dictN new (P.PORT_CONNECTIONS p))).map (fun k => 4 * p + k)
  let code := dictN new (P.PORT_CXP_RATE p)
  if dictVal new (P.PORT_PROTOCOL p) = 0 then
    lanes.flatMap (fun n => geo (dictN new (P.LANE_RATE n) != cxpRate code) (P.LANE_RATE n) p ++ geo (dictVal new (P.LANE_WORD_MODE n) != 0) (P.LANE_WORD_MODE n) p) ++
      geo (dictN new (P.LANE_UPL_RATE (64 + p)) != (if 6 ≤ code then 1 else 0)) (P.LANE_UPL_RATE (64 + p)) p
  else lanes.flatMap (fun n => geo (dictVal new (P.LANE_WORD_MODE n) != dictVal new (P.LANE_WORD_MODE (4 * p))) (P.LANE_WORD_MODE n) p)

/-- R128, R140: a port's own conditions. -/
def portGeo (old new : Dict) (p : Nat) : List Detail :=
  let w := dictN new (P.PORT_WIDTH p) * dictN new (P.PORT_COMPONENTS p)
  let rate := planRate new p
  let gang := ganged new p
  let raw := dictB new (P.PORT_PROTOCOL p)
  let path := dictN new (P.PORT_TRIG_PATH p)
  geo (decide (32768 < w)) (P.PORT_WIDTH p) p ++
  geo (decide ((if gang then 4000000000 else 2000000000 : Rat) < w * rate)) (P.PORT_WIDTH p) p ++
  geo (dictB new (P.PORT_RUN p) && decide (rate = 0)) (P.PORT_PLAN_RATE p) p ++
  geo ((raw && path == 0) || (!raw && path == 2)) (P.PORT_PROTOCOL p) p ++
  geo (gang && dictB new (P.PORT_RUN (p + 1))) (P.PORT_RUN (p + 1)) (p + 1) ++
  geo (gang && dictN new (P.PORT_WIDTH p) % 32 != 0) (P.PORT_WIDTH p) p ++
  (if dictB new (P.PORT_RUN p) && !dictB old (P.PORT_RUN p) then startGeo new p else [])

/-- The strip of an odd port whose even neighbour is ganged: its own parameters are ignored (R128). -/
def gangOdd (d : Dict) (i : Nat) : Bool := i % 2 == 1 && ganged d (i - 1)

/-- R170, R171, R180: a strip's conditions. -/
def stripGeo (new : Dict) (i : Nat) : List Detail :=
  let c := dictN new (P.STRP_SHADE_CHANNEL i)
  let w := dictN new (P.PORT_WIDTH i) * dictN new (P.PORT_COMPONENTS i)
  let shade := dictB new (P.STRP_SHADE_EN i) && !gangOdd new i
  geo (!ganged new i && !gangOdd new i && dictVal new (P.STRP_RUN i) != dictVal new (P.PORT_RUN i)) (P.STRP_RUN i) i ++
  geo (shade && dictN new (P.PORT_COMPONENTS i) == 3) (P.STRP_SHADE_EN i) i ++
  geo (shade && (dictN new (P.PROF_SRC c) != i || dictN new (P.PROF_C0 c) != 0 || dictN new (P.PROF_C1 c) + 1 != w)) (P.STRP_SHADE_CHANNEL i) c

/-- R181, R194: a colour unit's conditions. -/
def colourGeo (new : Dict) (i : Nat) : List Detail :=
  let m := dictN new (P.COLR_MODE i)
  let comps := dictN new (P.PORT_COMPONENTS i)
  let bayer := m == 1 || m == 2
  geo (bayer && (dictVal new (P.PORT_MODE i) != (if m = 1 then 1 else 0) || comps != 1 || dictN new (P.STRP_NBR_STEP i) != 2 || decide (10912 < dictN new (P.PORT_WIDTH i))))
    (P.COLR_MODE i) i ++
  geo (m == 3 && comps != 3) (P.COLR_MODE i) i ++
  geo (m != 0 && dictVal new (P.COLR_RUN i) != dictVal new (P.STRP_RUN i)) (P.COLR_RUN i) i

/-- R119: a lane that the set starts has a rate that its port's protocol allows: for CoaXPress one of the seven of R120, for raw framing any. -/
def laneGeo (new set : Dict) (n : Nat) : List Detail :=
  geo (set.vals.any (fun v => v.1 == P.LANE_RUN n && v.2 == 1) && dictVal new (P.PORT_PROTOCOL (n / 4)) == 0 &&
    !((List.range 7).any (fun k => cxpRate (k + 1) == dictN new (P.LANE_RATE n)))) (P.LANE_RATE n) (n / 4)

/-- R416: the selectors of a consumer, A then B. -/
def dictSelectors (d : Dict) (c : Nat) : List Nat :=
  if 35 ≤ c ∧ c < 51 then (if dictN d (P.MOTN_LTG_SOURCE (c - 19)) = 2 then [dictN d (P.MOTN_LTG_REIN (c - 19))] else [])
  else ([tabField d P.CONSUMERS (4 * c) 2, tabField d P.CONSUMERS (4 * c + 2) 2]).filter (fun n => decide (n < 256))

/-- R140, R159, R357, R416: who drives which GPX pin: pin, parameter, detail. -/
def pinDrivers (d : Dict) : List (Nat × Nat × Nat) :=
  ((List.range 16).filter (fun p => dictB d (P.PORT_RUN p) && dictVal d (P.PORT_TRIG_PATH p) == 1)).map (fun p => (dictN d (P.PORT_TRIG_GPX p), P.PORT_TRIG_GPX p, p)) ++
  ((List.range 8).filter (fun n => dictB d (P.MOTN_RUN (32 + n)) && dictVal d (P.MOTN_PC_GPX (32 + n)) != 255)).map (fun n =>
    (dictN d (P.MOTN_PC_GPX (32 + n)), P.MOTN_PC_GPX (32 + n), 0xFF)) ++
  ((List.range 32).filter (fun k => dictSelectors d (51 + k) != [])).map (fun k => (k, P.CONSUMERS, 0xFF)) ++
  (if dictVal d P.TWIN_ROLE_GPX = 255 then [] else [(dictN d P.TWIN_ROLE_GPX, P.TWIN_ROLE_GPX, 0xFF)])

/-- A pin that two units drive. -/
def pinGeo (d : Dict) : List Detail :=
  let ps := pinDrivers d
  ps.flatMap (fun x => geo (decide (1 < (ps.filter (fun y => y.1 == x.1)).length)) x.2.1 x.2.2)

/-- R159, R517: generators, compare units and axes. -/
def motionGeo (s : State) (old new : Dict) : List Detail :=
  (List.range 16).flatMap (fun k =>
    let a := dictN new (P.MOTN_LTG_AXIS (16 + k))
    geo (dictB new (P.MOTN_RUN (16 + k)) && a != 255 && !dictB new (P.MOTN_RUN a)) (P.MOTN_LTG_AXIS (16 + k)) 0xFF ++
    geo (decide (dictN new (P.MOTN_LTG_DIV_N (16 + k)) < dictN new (P.MOTN_LTG_DIV_M (16 + k)))) (P.MOTN_LTG_DIV_M (16 + k)) 0xFF) ++
  (List.range 8).flatMap (fun n =>
    geo (dictB new (P.MOTN_RUN (32 + n)) && !dictB new (P.MOTN_RUN (dictN new (P.MOTN_PC_AXIS (32 + n))))) (P.MOTN_PC_AXIS (32 + n)) 0xFF) ++
  (List.range 8).flatMap (fun a => geo (dictB new (P.MOTN_RUN a) && !dictB old (P.MOTN_RUN a) && !bitOf s.boot.banks 1) (P.MOTN_RUN a) 0xFF)

/-! ### Check 4: geometry of the stitcher and what follows it -/

/-- R202: the source position in columns of an output column. -/
def sourceCol (new : Dict) (p x : Nat) : Int :=
  Int.fdiv (rnd (((x : Int) - dictVal new (P.STCH_X0 p)) * dictVal new (P.STCH_CD_SCALE p) + dictVal new (P.STCH_CD_OFFSET p)) 24) 64

/-- R195, R196: a contributing port's conditions. -/
def contribGeo (old new : Dict) (p : Nat) : List Detail :=
  let ref := dictN new P.STCH_OUT_REF_PORT
  geo (gangOdd new p) (P.STCH_RUN p) p ++
  geo (dictB old (P.PORT_RUN p) && !dictB new (P.PORT_RUN p)) (P.PORT_RUN p) p ++
  geo (dictVal new (P.PORT_TIMING p) != 0) (P.PORT_TIMING p) p ++
  geo (dictVal new (P.PORT_MODE p) != dictVal new P.STCH_OUT_MODE) (P.PORT_MODE p) p ++
  (List.range 5).flatMap (fun k => geo (dictVal new (pid 0x04 (16 + p) (k + 1)) != dictVal new (pid 0x04 (16 + ref) (k + 1))) (pid 0x04 (16 + p) (k + 1)) p)

/-- R215: the cover of a contributing port. -/
def coverGeo (new : Dict) (p : Nat) : List Detail :=
  let area := dictB new P.STCH_OUT_MODE
  let ow := dictN new P.STCH_OUT_WIDTH
  let w := dictN new (P.PORT_WIDTH p)
  let h := dictN new (P.PORT_HEIGHT p)
  let x0 := dictN new (P.STCH_X0 p)
  let x1 := dictN new (P.STCH_X1 p)
  let copy := dictB new (P.STCH_CD_MODE p)
  let sh := dictN new (P.STCH_CD_SHIFT p)
  let out := fun x => let i := sourceCol new p x; decide (i < 0) || decide ((w : Int) ≤ i)
  let tx := dictN new (P.STCH_TILE_X p)
  let ty := dictN new (P.STCH_TILE_Y p)
  let mosaic := dictB new (P.STCH_MOSAIC p)
  let covered := if area then w else x1 + 1 - x0
  geo (compsOf new p != dictN new P.STCH_OUT_COMPONENTS) P.STCH_OUT_COMPONENTS p ++
  geo (decide (covered < dictN new (P.STCH_RAMP_L p) + dictN new (P.STCH_RAMP_R p))) (P.STCH_RAMP_L p) p ++
  geo (decide (h < dictN new (P.STCH_RAMP_T p) + dictN new (P.STCH_RAMP_B p))) (P.STCH_RAMP_T p) p ++
  (if area then
    geo (decide (ow < tx + w)) (P.STCH_TILE_X p) p ++ geo (decide (dictN new P.STCH_OUT_HEIGHT < ty + h)) (P.STCH_TILE_Y p) p ++
    geo (decide (32768 < ow)) P.STCH_OUT_WIDTH p ++
    geo (mosaic && (tx % 2 != 0 || ty % 2 != 0)) (P.STCH_MOSAIC p) p
   else
    geo (decide (x1 < x0)) (P.STCH_X0 p) p ++ geo (decide (ow ≤ x1)) (P.STCH_X1 p) p ++
    geo (!copy && (out x0 || out x1)) (P.STCH_CD_SCALE p) p ++
    geo (copy && (decide (w ≤ sh) || decide (w + x0 ≤ x1 + sh))) (P.STCH_CD_SHIFT p) p) ++
  geo (mosaic && (dictVal new (P.COLR_MODE p) != 0 || (!area && (!copy || (x0 + sh) % 2 != 0 || dictN new (P.STCH_MD_DELAY p) % 2 != 0 ||
    dictVal new (P.STCH_MD_FRAC p) != 0)))) (P.STCH_MOSAIC p) p

/-- The first and last column and row that a contributing port covers. -/
def rectOf (d : Dict) (p : Nat) : Nat × Nat × Nat × Nat :=
  if dictB d P.STCH_OUT_MODE then
    let x := dictN d (P.STCH_TILE_X p)
    let y := dictN d (P.STCH_TILE_Y p)
    (x, x + dictN d (P.PORT_WIDTH p) - 1, y, y + dictN d (P.PORT_HEIGHT p) - 1)
  else (dictN d (P.STCH_X0 p), dictN d (P.STCH_X1 p), 0, 0)

/-- The ports that cover a point. -/
def coverAt (d : Dict) (cs : List Nat) (x y : Nat) : List Nat :=
  cs.filter (fun p => let (a, b, c, e) := rectOf d p; decide (a ≤ x ∧ x ≤ b ∧ c ≤ y ∧ y ≤ e))

/-- R215: a column that more than two ports cover, or a pixel that more than four tiles cover; the corners of the covers show every one. -/
def overlapGeo (new : Dict) (cs : List Nat) : List Detail :=
  let area := dictB new P.STCH_OUT_MODE
  cs.flatMap (fun p => cs.flatMap (fun q =>
    let x := (rectOf new p).1
    let y := (rectOf new q).2.2.1
    let hit := coverAt new cs x y
    let top := hit.foldl max 0
    geo (decide ((if area then 4 else 2) < hit.length)) (if area then P.STCH_TILE_X top else P.STCH_X0 top) top))

/-- R195, R214, R215: the stitcher, when it runs in the resulting configuration. -/
def stitchGeo (old new : Dict) : List Detail :=
  if !dictB new P.STCH_OUT_RUN then []
  else
    let cs := (List.range 16).filter (contributes new)
    let ref := dictN new P.STCH_OUT_REF_PORT
    (List.range 16).flatMap (fun p => geo (dictB old P.STCH_OUT_RUN && dictVal old (P.STCH_RUN p) != dictVal new (P.STCH_RUN p)) (P.STCH_RUN p) p) ++
    cs.flatMap (contribGeo old new) ++ cs.flatMap (coverGeo new) ++ overlapGeo new cs ++
    geo (!contributes new ref || (!dictB new P.STCH_OUT_MODE && dictVal new (P.STCH_MD_FRAC ref) != 0)) P.STCH_OUT_REF_PORT ref ++
    geo (decide (160000000000 < realTimeTraffic new)) 0 0xFF

/-- R218, R219, R230: the profile channels that run. -/
def profGeo (new : Dict) : List Detail :=
  let cs := runningProfs new
  let cols := fun c => dictN new (P.PROF_C1 c) + 1 - dictN new (P.PROF_C0 c)
  let own := cs.flatMap (fun c =>
    let src := dictN new (P.PROF_SRC c)
    let port := decide (src < 16)
    let comp := dictN new (P.PROF_COMP c)
    let comps := if port then 1 else dictN new P.STCH_OUT_COMPONENTS
    let len := if port then dictN new (P.PORT_WIDTH src) * dictN new (P.PORT_COMPONENTS src) else dictN new P.STCH_OUT_WIDTH
    geo (if port then !dictB new (P.STRP_RUN src) || gangOdd new src else !dictB new P.STCH_OUT_RUN) (P.PROF_SRC c) c ++
    geo (decide (comps ≤ comp)) (P.PROF_COMP c) c ++
    geo (decide (dictN new (P.PROF_C1 c) < dictN new (P.PROF_C0 c))) (P.PROF_C0 c) c ++ geo (decide (len ≤ dictN new (P.PROF_C1 c))) (P.PROF_C1 c) c ++
    geo (!port && (cs.filter (fun e => decide (e < c))).any (fun e =>
      dictN new (P.PROF_SRC e) == 16 && dictN new (P.PROF_COMP e) == comp &&
        decide (dictN new (P.PROF_C0 e) ≤ dictN new (P.PROF_C1 c) ∧ dictN new (P.PROF_C0 c) ≤ dictN new (P.PROF_C1 e)))) (P.PROF_C0 c) c)
  let upto := fun c => cs.filter (fun e => decide (e ≤ c))
  let slots := cs.find? (fun c => decide (393216 < ((upto c).map cols).sum))
  let traffic := cs.find? (fun c => decide (16000000000 < ((upto c).map (profTraffic new)).sum))
  own ++ (match slots with | some c => geo true (P.PROF_RUN c) c | none => []) ++ (match traffic with | some c => geo true (P.PROF_RUN c) c | none => [])

/-- R251: segmentation. -/
def segmGeo (new : Dict) : List Detail :=
  geo (dictB new P.SEGM_RUN && !dictB new P.STCH_OUT_RUN) P.SEGM_RUN 0xFF ++
  geo (decide (dictN new P.STCH_OUT_COMPONENTS ≤ dictN new P.SEGM_COMP)) P.SEGM_COMP 0xFF ++
  geo (decide (dictN new P.SEGM_X_END < dictN new P.SEGM_X_START)) P.SEGM_X_START 0xFF ++
  geo (decide (dictN new P.STCH_OUT_WIDTH ≤ dictN new P.SEGM_X_END)) P.SEGM_X_END 0xFF

/-- A byte of a rule (R258). -/
def ruleField (d : Dict) (r k : Nat) : Nat := tabField d P.RULES (104 * r + k) 1

/-- The rules whose bytes differ from the default. -/
def touchedRules (d : Dict) : List Nat := (((d.tabs.find? P.RULES).getD []).map (fun p => p.1 / 104)).dedup

/-- R270: records and marking. -/
def recdGeo (new : Dict) : List Detail :=
  let gen := 16 + dictN new P.STCH_OUT_REF_PORT
  let used := ((touchedRules new).filter (fun r => ruleField new r 0 == 1)).map (fun r => ruleField new r 5)
  geo (dictVal new P.RECD_RUN != dictVal new P.SEGM_RUN) P.RECD_RUN 0xFF ++
  ((List.range 8).filter (fun t => used.contains t)).flatMap (fun t =>
    let u := 32 + dictN new (P.RECD_MARK_PC t)
    geo (!dictB new (P.MOTN_RUN u) || dictVal new (P.MOTN_PC_AXIS u) != dictVal new (P.MOTN_LTG_AXIS gen)) (P.RECD_MARK_PC t) t ++
    geo (dictVal new (P.MOTN_LTG_SOURCE gen) != 0) (P.MOTN_LTG_SOURCE gen) t)

/-- Check 4. -/
def check4 (s : State) (new set : Dict) : List Detail :=
  let old := s.sys.applied
  (List.range 16).flatMap (fun p => portGeo old new p ++ stripGeo new p ++ colourGeo new p) ++ (List.range 64).flatMap (laneGeo new set) ++
    motionGeo s old new ++ pinGeo new ++ stitchGeo old new ++ profGeo new ++ segmGeo new ++ recdGeo new

/-! ### Check 5: flows -/

/-- R300, R312: the largest body of a line product: as many lines as a unit or a frame can hold. -/
def unitLines (items frame : Nat) : Nat := if items = 0 then frame else min items frame

/-- R301, R312: the largest body that the configuration can form for a flow. -/
def largestBody (d : Dict) (e : List Byte) : Nat :=
  let prod := leAt e 1 1
  let src := leAt e 2 1
  let items := leAt e 8 4
  let ow := dictN d P.STCH_OUT_WIDTH
  let sc := dictN d P.STCH_OUT_COMPONENTS
  let area := dictB d P.STCH_OUT_MODE
  let frame := if area then dictN d P.STCH_OUT_HEIGHT else dictN d P.STCH_OUT_FRAME_LENGTH
  let pframe := if dictB d (P.PORT_MODE src) then dictN d (P.PORT_HEIGHT src) else dictN d (P.PORT_FRAME_LENGTH src)
  if prod = 1 then unitLines items pframe * (48 + lineBytes d src)
  else if prod = 2 then unitLines items pframe * (48 + 2 * dictN d (P.PORT_WIDTH src) * compsOf d src)
  else if prod = 3 ∨ prod = 9 then unitLines items frame * (48 + (if bitOf (leAt e 7 1) 2 then maskLen ow else 0) + 2 * ow * sc)
  else if prod = 4 then frame / dictN d P.STCH_OUT_PREV_DY * (48 + 2 * (ow / dictN d P.STCH_OUT_PREV_DX) * sc)
  else if prod = 5 then 128 * dictN d P.RECD_OBJ_BATCH
  else if prod = 6 then
    let l := dictN d P.RECD_PATCH_MAX_LINES
    80 + roundUp 8 (2 * l) + roundUp 8 (2 * l * dictN d P.RECD_PATCH_MAX_COLS * sc)
  else if prod = 7 then
    let cols := dictN d (P.PROF_C1 src) + 1 - dictN d (P.PROF_C0 src)
    let fields := ((List.range 6).filter (bitOf (dictN d (P.PROF_FIELDS src)))).length
    dictN d (P.PROF_PROF_GROUP src) * (64 + roundUp 8 (3 * fields * cols))
  else if prod = 8 then 4208
  else if prod = 10 then 64 * items
  else 512

/-- R300: the largest UNIT_ITEMS of a product, where it has one. -/
def itemsMax (prod : Nat) : Option Nat :=
  if prod = 1 ∨ prod = 2 ∨ prod = 3 then some 1048576 else if prod = 9 then some 32768 else if prod = 10 then some 16384 else none

/-- R298, R312: the fields of an enabled flow's entry are in their ranges. -/
def flowFieldsOk (e : List Byte) : Bool :=
  let prod := leAt e 1 1
  let src := leAt e 2 1
  let items := leAt e 8 4
  let mod := leAt e 12 1
  let code := bitOf (leAt e 7 1) 0
  let pred := leAt e 6 1
  decide (1 ≤ prod ∧ prod ≤ 11) && (if prod = 1 ∨ prod = 2 ∨ prod = 7 ∨ prod = 8 then decide (src < 16) else src == 0xFF) &&
    decide (leAt e 3 1 ≤ 3) && decide (leAt e 5 1 ≤ 63) && decide (leAt e 7 1 < 8) && decide (1 ≤ mod ∧ mod ≤ 16) && decide (leAt e 13 1 < mod) &&
    (mod == 1 || lineDerived prod) && leAt e 14 1 != 0 && leAt e 15 1 == 0 && leAt e 30 2 == 0 && leAt e 54 10 == 0 &&
    decide (256 ≤ leAt e 22 2 ∧ leAt e 22 2 ≤ 9112) && leAt e 22 2 % 8 == 0 && decide (pred ≤ 3) &&
    (pred == 0 || (code && (prod == 2 || prod == 3 || prod == 9 || prod == 6 || prod == 4))) &&
    (match itemsMax prod with | some m => decide (items ≤ m) | none => true) && (prod != 10 || items != 0)

/-- R312: an entry's destination takes its largest unit and frame. -/
def flowFits (d : Dict) (e : List Byte) (unit : Nat) : Bool :=
  let port := leAt e 3 1
  let q := leAt e 4 1
  let v4 := (e.drop 32).take 12 == List.replicate 10 0 ++ [0xFF, 0xFF]
  let frame := 58 + (if bitOf (leAt e 20 2) 12 then 4 else 0) + (if v4 then 20 else 40) + leAt e 22 2
  if port < 3 then
    dictB d (P.NETW_RUN port) && decide (q < if port = 2 then 2 else 8) &&
      (if v4 then dictVal d (P.NETW_IPV4 port) != 0 else dictVal d (P.NETW_IPV6_HI port) != 0 || dictVal d (P.NETW_IPV6_LO port) != 0) &&
      decide (frame ≤ dictN d (P.NETW_MAX_FRAME port)) && decide (unit ≤ dictN d (P.NETW_Q_BUF port q) * 1048576)
  else decide (leAt e 28 2 ≤ 1015) && decide (unit ≤ 8 * dictN d (P.QUEUE_SIZE (leAt e 28 2)))

/-- R312: an enabled flow stands the check. R272, R284, R294 bound a coded flow. -/
def flowOk (d : Dict) (e : List Byte) : Bool :=
  let body := largestBody d e
  let code := bitOf (leAt e 7 1) 0
  let payload := if code then 32 + body + max 10 ((body + 63) / 64) else body
  flowFieldsOk e && decide (body ≤ 0xFFFFFFFF) && decide (64 + payload ≤ 0xFFFFFFFF) &&
    (!code || (dictB d P.CMPR_RUN && dictVal d P.CMPR_PRODUCT_ENGINES != 0)) && flowFits d e (64 + payload)

/-- Check 5. -/
def check5 (new : Dict) : List Detail :=
  (enabledFlows new).flatMap (fun f => viol (!flowOk new (flowEntry new f)) 0x0401 P.FLOWS f)

/-! ### Check 6: DRAM (R362, R433) -/

/-- R362: allocations are made in units of 64 KiB. -/
def allocUnit (n : Nat) : Nat := roundUp 65536 n

/-- R200, R211: what the stitcher holds of a contributing port: the delay ring, or two banks of the tile store. -/
def stitchAlloc (d : Dict) (p : Nat) : Nat :=
  let line := dictN d (P.PORT_WIDTH p) * compsOf d p * 2
  if dictB d P.STCH_OUT_MODE then 2 * allocUnit (line * dictN d (P.PORT_HEIGHT p)) else allocUnit ((dictN d (P.STCH_MD_DELAY p) + 2) * line)

/-- R230: what a running profile channel holds. -/
def profAlloc (d : Dict) (c : Nat) : Nat :=
  let cols := dictN d (P.PROF_C1 c) + 1 - dictN d (P.PROF_C0 c)
  let l := dictN d (P.PROF_L c)
  let fields := ((List.range 6).filter (bitOf (dictN d (P.PROF_FIELDS c)))).length
  allocUnit (24 * cols) + (if 1 < l then allocUnit (8 * l * cols) else 0) + allocUnit (dictN d (P.PROF_DELAY c) * (64 + roundUp 8 (3 * fields * cols)))

/-- R253: the line history. -/
def historyAlloc (d : Dict) : Nat :=
  let ow := dictN d P.STCH_OUT_WIDTH
  if dictB d P.STCH_OUT_RUN && dictB d P.RECD_HIST_EN then
    allocUnit (dictN d P.RECD_HIST_DEPTH * roundUp 64 (48 + (ow + 7) / 8 + 2 * ow * dictN d P.STCH_OUT_COMPONENTS)) else 0

/-- A DRAM region of the cores (R433): base and size. -/
def regionOf (d : Dict) (r : Nat) : Nat × Nat := (dictN d (P.CORE_REGION_BASE r), dictN d (P.CORE_REGION_SIZE r))

/-- The DRAM that a configuration takes: the regions, the allocations of the units that run, the staging area (256 MiB), the log ring (64 MiB), the
mirror ring (16 MiB) and the firmware staging buffer (16 MiB). -/
def dramUse (d : Dict) : Nat :=
  ((List.range 16).map (fun r => (regionOf d r).2)).sum +
    (if dictB d P.STCH_OUT_RUN then (((List.range 16).filter (contributes d)).map (stitchAlloc d)).sum else 0) +
    ((runningProfs d).map (profAlloc d)).sum + historyAlloc d + (if dictB d P.CMPR_RUN then dictN d P.CMPR_BACKLOG * 1048576 else 0) +
    (((List.range 3).filter (fun p => dictB d (P.NETW_RUN p))).map (fun p => dictN d (P.NETW_TXBUF p) * 1048576)).sum + 352 * 1048576

/-- 62 GiB (R361). -/
def dramBytes : Nat := 62 * 2 ^ 30

/-- Check 6. -/
def check6 (new : Dict) : List Detail :=
  viol (decide (dramBytes < dramUse new)) 0x0406 0 (dramUse new - dramBytes) ++
  (List.range 16).flatMap (fun r =>
    let (b, n) := regionOf new r
    viol (n != 0 && decide (dramBytes < b + n)) 0x0406 (P.CORE_REGION_BASE r) (b + n - dramBytes) ++
    viol (n != 0 && (List.range r).any (fun q => let (c, m) := regionOf new q; m != 0 && decide (b < c + m ∧ c < b + n))) 0x0406 (P.CORE_REGION_BASE r) 0)

/-! ### Check 7: Rein loops (R424) -/

/-- R424: a consumer can raise a source. -/
def canRaise (c src : Nat) : Bool :=
  if c < 32 then src == 281 + 3 * (c / 2)
  else if c < 35 then decide (347 ≤ src ∧ src ≤ 350)
  else if c < 51 then
    let k := c - 35
    decide (224 + 2 * k ≤ src ∧ src ≤ 225 + 2 * k) || decide (32 + 10 * k ≤ src ∧ src ≤ 41 + 10 * k) || decide (280 + 3 * k ≤ src ∧ src ≤ 282 + 3 * k) ||
      decide (331 ≤ src ∧ src ≤ 346) || decide (328 ≤ src ∧ src ≤ 350)
  else if c < 83 then src == 598 + (c - 51)
  else if 147 ≤ c ∧ c < 211 then decide (378 ≤ src ∧ src ≤ 553)
  else if c = 379 then src == 557
  else if c = 380 ∨ c = 381 then src == 561 || src == 562
  else false

/-- R424: Rein `n` leads to Rein `m`. -/
def leads (d : Dict) (n m : Nat) : Bool :=
  let src := dictN d (P.EVNT_SRC m)
  src != 0x3FF && (List.range 384).any (fun c => (dictSelectors d c).contains n && canRaise c src)

/-- The Reins of a list or that it leads to, in a number of steps. -/
def closure (d : Dict) (rs : List Nat) : Nat → List Nat → List Nat
  | 0, x => x
  | k + 1, x =>
    let y := rs.filter (fun m => x.contains m || x.any (fun n => leads d n m))
    if y = x then x else closure d rs k y

/-- The Reins that a Rein leads to by one link or more. -/
def ahead (d : Dict) (rs : List Nat) (n : Nat) : List Nat := closure d rs rs.length (rs.filter (leads d n))

/-- Check 7: the loops in ascending order of their lowest Rein, each Rein of a loop once. Only a Rein with a source can lie on one. -/
def check7 (new : Dict) : List Detail :=
  let rs := (List.range 256).filter (fun n => dictN new (P.EVNT_SRC n) != 0x3FF)
  let fwd := rs.map (fun n => (n, ahead new rs n))
  let loopOf := fun n => rs.filter (fun m => ((fwd.find? (fun p => p.1 == n)).map Prod.snd |>.getD []).contains m &&
    ((fwd.find? (fun p => p.1 == m)).map Prod.snd |>.getD []).contains n)
  rs.flatMap (fun n =>
    let l := loopOf n
    if l.head? = some n then l.map (fun m => ({ status := 0x0403, id := P.EVNT_SRC m, value := m } : Detail)) else [])

/-! ### Checks 8 and 9 -/

/-- R470: check 8. -/
def check8 (s : State) (new : Dict) : List Detail :=
  let excess := resultingPower new (tHot s) - capMw s.thrm.cap
  viol (decide (0 < excess)) 0x0404 0 excess.ceil.toNat

/-- R258, R259: the ranges of the rules. -/
def ruleRng (new : Dict) : List Detail :=
  (touchedRules new).flatMap (fun r =>
    let b := ruleField new r
    let on := b 0 == 1
    rng (decide (1 < b 0)) P.RULES (104 * r) ++
    rng (on && decide (8 ≤ b 5 ∧ b 5 ≤ 0xFE)) P.RULES (104 * r + 5) ++
    rng (on && decide (1 < b 4)) P.RULES (104 * r + 4) ++ rng (on && decide (1 < b 6)) P.RULES (104 * r + 6) ++
    rng ((List.range 4).any (fun t => decide (0x12 < b (8 + 24 * t)))) P.RULES (104 * r))

/-- R164: reserved bits of the calibration entries. -/
def calibRng (new : Dict) (i : Nat) : List Detail :=
  (((new.tabs.find? (P.CALIB i)).getD []).filter (fun p => decide (p.1 % 8 = 5 ∨ p.1 % 8 = 6) && p.2 != 0)).flatMap (fun p => rng true (P.CALIB i) (p.1 / 8))

/-- R146, R159: axes in SSI mode, and generators. DESIGN CHOICE (log entry 96): the bound on SSI_PERIOD is reported in ns, the unit of R146's sum. -/
def motionRng (new : Dict) : List Detail :=
  (List.range 8).flatMap (fun a =>
    let need := (dictN new (P.MOTN_AX_SSI_BITS a) + 1) * dictN new (P.MOTN_AX_SSI_CLKDIV a) * 4 + dictN new (P.MOTN_AX_SSI_PAUSE a) * 1000
    rng (dictB new (P.MOTN_AX_INPUT a) && decide (dictN new (P.MOTN_AX_SSI_PERIOD a) * 1000 < need)) (P.MOTN_AX_SSI_PERIOD a) need) ++
  (List.range 16).flatMap (fun k =>
    let n := dictN new (P.MOTN_LTG_DIV_N (16 + k))
    rng (decide (n ≤ dictN new (P.MOTN_LTG_PHASE (16 + k)))) (P.MOTN_LTG_PHASE (16 + k)) (n - 1))

/-- R180, R213, R230, R251: strips, profiles, preview and segmentation. -/
def lineRng (new : Dict) : List Detail :=
  (List.range 16).flatMap (fun i =>
    rng (decide (dictN new (P.STRP_CLIP_HI i) < dictN new (P.STRP_CLIP_LO i))) (P.STRP_CLIP_LO i) (dictN new (P.STRP_CLIP_HI i)) ++
    rng (decide (dictN new (P.STRP_M_MAX i) < dictN new (P.STRP_M_MIN i))) (P.STRP_M_MIN i) (dictN new (P.STRP_M_MAX i)) ++
    rng (decide (dictN new (P.PROF_L i) < dictN new (P.PROF_REF_MIN i))) (P.PROF_REF_MIN i) (dictN new (P.PROF_L i)) ++ calibRng new i) ++
  (let len := if dictB new P.STCH_OUT_MODE then P.STCH_OUT_HEIGHT else P.STCH_OUT_FRAME_LENGTH
   rng (dictN new len % dictN new P.STCH_OUT_PREV_DY != 0) len (Config.limit len)) ++
  (let depth := if dictB new P.RECD_HIST_EN then dictN new P.RECD_HIST_DEPTH else 65536
   rng (decide (depth < dictN new P.SEGM_MAX_LENGTH)) P.SEGM_MAX_LENGTH depth)

/-- R312, R313, R329: network and time. -/
def netRng (new : Dict) : List Detail :=
  (List.range 3).flatMap (fun p =>
    let sum := ((List.range (if p = 2 then 2 else 8)).map (fun q => dictN new (P.NETW_Q_BUF p q))).sum
    rng (decide (dictN new (P.NETW_TXBUF p) < sum)) (P.NETW_TXBUF p) (dictN new (P.NETW_TXBUF p)) ++
    rng (dictB new (P.NETW_RUN p) && dictVal new (P.NETW_MAC p) == 0) (P.NETW_MAC p) p) ++
  (List.range 3).flatMap (fun w =>
    let n := w + 1
    let t := dictN new (P.TIMEP_TRANSPORT n)
    let lacks := if t = 0 then dictVal new (P.NETW_IPV4 w) == 0
      else if t = 1 then dictVal new (P.NETW_IPV6_HI w) == 0 && dictVal new (P.NETW_IPV6_LO w) == 0 else dictVal new (P.NETW_MAC w) == 0
    rng (dictB new (P.TIMEP_PTP_EN n) && !dictB new (P.NETW_RUN w)) (P.TIMEP_PTP_EN n) (Config.limit (P.TIMEP_PTP_EN n)) ++
    rng (dictB new (P.TIMEP_PTP_EN n) && lacks) (P.TIMEP_TRANSPORT n) (Config.limit (P.TIMEP_TRANSPORT n)))

/-- R379, R380: queues. -/
def queueRng (s : State) (new : Dict) : List Detail :=
  let total := ((List.range 1016).map (fun q => dictN new (P.QUEUE_SIZE q))).sum
  let us := unitQueues new
  rng (decide (1040384 < total)) 0 (total - 1040384) ++
  us.flatMap (fun x => rng (decide (1 < (us.filter (fun y => y.1 == x.1)).length)) 0 x.1 ++ rng (queue s x.1).chanProd.isSome x.2 x.1)

/-- R414: the sources marked S. -/
def secureSource (src : Nat) : Bool :=
  decide (365 ≤ src ∧ src ≤ 377) || decide (554 ≤ src ∧ src ≤ 564) || src == 630 || src == 631

/-- R419, R436: Reins, sources and worlds. -/
def reinRng (new : Dict) : List Detail :=
  (List.range 256).flatMap (fun n => rng (secureSource (dictN new (P.EVNT_SRC n)) && !dictB new (P.EVNT_SECURE n)) (P.EVNT_SRC n) n) ++
  (List.range 8).flatMap (fun k => ((List.range 16).filter (fun j => !bitOf (dictN new (P.CORE_INT_WORLD k)) j)).flatMap (fun j =>
    ((dictSelectors new (211 + 16 * k + j)).filter (fun n => dictB new (P.EVNT_SECURE n))).flatMap (fun n => rng true P.CONSUMERS n)))

/-- R434: the OWNER and SECURE parameters of a resource, with the number that names it. -/
def resources : List (Nat × Nat) :=
  (List.range 64).map (fun n => (P.LANE_OWNER n, P.LANE_SECURE n)) ++ (List.range 8).map (fun a => (P.MOTN_AX_OWNER a, P.MOTN_AX_SECURE a)) ++
  (List.range 8).map (fun n => (P.MOTN_PC_OWNER (32 + n), P.MOTN_PC_SECURE (32 + n))) ++ (List.range 63).map (fun c => (P.QDMA_OWNER c, P.QDMA_SECURE c)) ++
  (List.range 1016).map (fun q => (P.QUEUE_OWNER q, P.QUEUE_SECURE q)) ++ (List.range 256).map (fun n => (P.EVNT_OWNER n, P.EVNT_SECURE n)) ++
  (List.range 8).map (fun t => (P.TWB_OWNER t, P.TWB_SECURE t)) ++ (List.range 8).map (fun k => (P.CHK_OWNER k, P.CHK_SECURE k))

/-- R434: a resource that APP-N owns is not secure. -/
def ownerRng (new : Dict) : List Detail :=
  resources.flatMap (fun r => rng (dictVal new r.1 == 3 && dictB new r.2) r.1 (Config.limit r.1))

/-- R446: the minima of a mode, in the order LOW, HIGH, SU_STA, HD_STA, SU_STO, BUF. -/
def busMin (mode : Nat) : List Nat :=
  if mode = 0 then [4700, 4000, 4700, 4000, 4000, 4700] else if mode = 1 then [1300, 600, 600, 600, 600, 1300] else [500, 260, 260, 260, 260, 500]

/-- R446, R455: two-wire channels and the target port. -/
def twoWireRng (new : Dict) : List Detail :=
  (List.range 8).flatMap (fun t =>
    (List.zip [P.TWB_LOW t, P.TWB_HIGH t, P.TWB_SU_STA t, P.TWB_HD_STA t, P.TWB_SU_STO t, P.TWB_BUF t] (busMin (dictN new (P.TWB_MODE t)))).flatMap (fun x =>
      rng (decide (dictN new x.1 * 4 < x.2)) x.1 t)) ++
  (let base := dictN new P.TWB_HT_BASE
   let mask := dictN new P.TWB_HT_MASK
   let eff := base + (if dictB new P.TWIN_RUN then (mask + 1) * dictN new P.TWIN_UNIT_ID else 0)
   rng (Nat.land base mask != 0) P.TWB_HT_BASE (Config.limit P.TWB_HT_BASE) ++
   rng (decide (eff < 8 ∨ 0x77 < eff + mask)) P.TWB_HT_BASE (Config.limit P.TWB_HT_BASE))

/-- R482: the thermal thresholds. -/
def thermalRng (new : Dict) : List Detail :=
  let t := dictN new P.THRM_THROTTLE_TJ
  rng (decide (t ≤ dictN new P.THRM_REARM_TJ + dictN new P.THRM_THROTTLE_HYST)) P.THRM_REARM_TJ (t - dictN new P.THRM_THROTTLE_HYST) ++
  rng (decide (dictN new P.THRM_ORDERLY_TJ ≤ t)) P.THRM_THROTTLE_TJ (dictN new P.THRM_ORDERLY_TJ)

/-- Check 9. -/
def check9 (s : State) (new : Dict) : List Detail :=
  ruleRng new ++ motionRng new ++ lineRng new ++ netRng new ++ queueRng s new ++ reinRng new ++ ownerRng new ++ twoWireRng new ++ thermalRng new

/-- R86: every check over a set; `bound` is the boundary type, axis and mask, none for CINCH_CHECK. -/
def runChecks (s : State) (set : Dict) (bound : Option (Nat × Nat × Nat)) : List Detail :=
  let new := overlay s.sys.applied set
  (match bound with | some (b, a, m) => sortDetails (check1 s.sys.applied new set b a m) | none => []) ++
  sortDetails (check2 s new set) ++
  (match bound with | some (1, _, m) => sortDetails (check3 new set m) | _ => []) ++
  sortDetails (check4 s new set) ++ sortDetails (check5 new) ++ sortDetails (check6 new) ++ check7 new ++ check8 s new ++ sortDetails (check9 s new)

end Sys2Proof.Machine
end

