-- ==== Sys2Proof/Machine/Cinch.lean ====
section
/-! DEFINITION. Machine/Cinch.lean: the Cinch (chapter "Staging, Cinch, Ownership and the Change Log", R77 to R87) and the boot set (R506). -/
namespace Sys2Proof.Machine

/-! ### Acceptance and checks (R84 steps 1 and 2) -/

/-- The staged values of the pending Cinch's set. -/
def cinchDict (s : State) (c : Cinch) : Dict := (stageSet s c.set).dict

/-- R289, R479: the strips and compress engines that the pending Cinch starts; an engine that the power cap has taken stays out. -/
def startsUngate (s : State) (new : Dict) : List Nat :=
  (List.range 16).filter (fun i => !prmB s (P.STRP_RUN i) && dictB new (P.STRP_RUN i)) ++
    (if !prmB s P.CMPR_RUN && dictB new P.CMPR_RUN then (List.range (16 - measured s 3)).map (16 + ·) else [])

/-- R178: the strips whose CALIB the set holds and whose ports are stopped: their tables are loaded before ARMED. -/
def stagedCalib (s : State) (set : Dict) : List Nat := (List.range 16).filter (fun i => (set.tabs.find? (P.CALIB i)).isSome && !(port s i).run)

/-- R84 step 2: the checks of a Cinch that waits for them; none before stage 6 (R503). -/
def beginChecks (s : State) : State :=
  match s.sys.cinch with
  | some c =>
    if c.phase ≠ 0 ∨ s.boot.stage ≠ 6 then s
    else match runChecks s (cinchDict s c) (some (c.btype, c.axis, c.mask)) with
      | [] => { s with sys.cinch := some { c with phase := 1, loads := stagedCalib s (cinchDict s c) }
                       thrm.ungateQ := s.thrm.ungateQ ++ startsUngate s (overlay s.sys.applied (cinchDict s c)) }
      | ds => abandonCinch (commonStatus ds) ds s
  | none => s

/-- R80: the refusals of step 11 for the boundary of a CINCH. -/
def boundaryBad (btype mask value : Nat) : List Detail :=
  if 4 < btype then refuse1 0x0301 0 1
  else if (btype = 1 ∧ mask = 0) ∨ (btype = 4 ∧ 1 < ((List.range 16).filter (bitOf mask)).length) then refuse1 0x0301 0 4
  else if (btype = 0 ∧ value ≠ 0) ∨ (btype = 1 ∧ value ≠ 0xFFFFFFFFFFFFFFFF ∧ 2 ^ 32 ≤ value) ∨
      (btype = 3 ∧ ¬ (value < 2 ^ 47 ∨ 2 ^ 64 - 2 ^ 47 ≤ value)) then refuse1 0x0301 0 8
  else []

/-- R66, R73, R351: a set and its Cinch are accepted; a join ends, to start again once the Cinch has finished. -/
def acceptCinch (c : Cinch) (s : State) : State :=
  let s := failJoin (if s.twin.join.isSome then { s with twin.rejoin := prmB s P.TWIN_AUTO_REJOIN } else s)
  setStage c.set { stageSet s c.set with state := 2 } { s with sys.cinch := some { c with from0 := (axis s c.axis).p }, twin.armedPeer := none }

/-- R80, R84: CINCH. The checks run at once, or in stage 6. -/
def doCinch (h : Hdr) (set btype axis mask value limitMs : Nat) (s : State) : State :=
  beginChecks (xesil (.cinch h set btype axis mask value limitMs)
    { op := 0x0201, h := h, count := 1
      params := leBytes 1 set ++ leBytes 1 btype ++ leBytes 1 axis ++ leBytes 1 0 ++ leBytes 2 mask ++ leBytes 2 0 ++ leBytes 8 value ++ leBytes 4 limitMs ++ leBytes 4 0 }
    true (fun _ => []) (fun _ => setBad set ++ boundaryBad btype mask value)
    (fun _ s => match setRefusal true set h.session s with
      | [] =>
        if s.sys.cinch.isSome then .refuse (refuse1 0x0503 set 0)
        else .defer (acceptCinch { set := set, session := h.session, seq := h.seq, btype := btype, axis := axis, mask := mask, value := value
                                   limitMs := if limitMs = 0 then 60000 else limitMs, mirrored := h.mirrored } s)
      | ds => .refuse ds)
    (fun _ => []) s)

/-- R86, R87: CINCH_CHECK runs every check but 1 and 3; the set is OPEN again in every case. -/
def doCinchCheck (h : Hdr) (set : Nat) (s : State) : State :=
  xesil (.cinchCheck h set) { op := 0x0202, h := h, params := leBytes 1 set ++ leBytes 7 0 } false (fun _ => []) (fun _ => setBad set)
    (fun _ s => match setRefusal true set h.session s with
      | [] => (match runChecks s (stageSet s set).dict none with
        | [] => .done (leBytes 8 0) false 0 s
        | ds => .refuse ds)
      | ds => .refuse ds)
    (fun _ => []) s

/-! ### Arming (R84 step 3) -/

/-- The lines of a port that are latched and have not left: rows of the frame in progress and of the triggers that wait, or due lines (R129, R130). -/
def latchedLines (s : State) (p : Nat) : Nat :=
  let x := port s p
  if prm s (P.PORT_MODE p) = 1 then
    (if x.inFrame ∧ x.frameLatch.isSome then x.height - x.row else 0) +
      (if prm s (P.PORT_TIMING p) = 1 then 0 else x.due.length * prmAtN s x.epoch (P.PORT_HEIGHT p))
  else if prm s (P.PORT_TIMING p) = 1 then (x.due.filter (fun u => u.begun || u.repl != 0)).length
  else x.due.length

/-- R84 step 3: a TIME or POSITION boundary, or the named line of a LINE boundary, has already passed. DESIGN CHOICE (log entry 98): a POSITION
has passed where the axis stands at it or on its other side since acceptance. -/
def boundaryPassed (s : State) (c : Cinch) : Bool :=
  if c.btype = 2 then decide (c.value < nowNs s)
  else if c.btype = 3 then
    let v := ofCode 64 c.value
    decide ((c.from0 - v) * ((axis s c.axis).p - v) ≤ 0)
  else if c.btype ≠ 4 then false
  else if c.mask = 0 then
    s.stch.run && (decide (c.value < s.stch.globalLine) ||
      (let r := prmN s P.STCH_OUT_REF_PORT
       match (s.stch.ins.get {} r).base with
       | some b =>
         if areaMode s.sys.applied then
           let f := b + c.value / prmN s P.STCH_OUT_HEIGHT
           let x := port s r
           decide (f < x.frame + b2n (decide (0 < x.lineInFrame) || (x.inFrame && x.frameLatch.isSome)) + (if prm s (P.PORT_TIMING r) = 1 then 0 else x.due.length))
         else decide (refLine s.sys.applied b c.value < (port s r).globalLine + latchedLines s r)
       | none => false))
  else (List.range 16).any (fun p => bitOf c.mask p && (port s p).run && decide (c.value < (port s p).globalLine + latchedLines s p))
where
  /-- The line of the reference port from which stitched line `n` takes its TIME (R197, R198). -/
  refLine (d : Dict) (b n : Nat) : Nat :=
    let dmax := ((List.range 16).filter (contributes d)).foldl (fun m q => max m (dictN d (P.STCH_MD_DELAY q))) 0
    b + n + dmax - dictN d (P.STCH_MD_DELAY (dictN d P.STCH_OUT_REF_PORT))

/-- R84 step 3, R85, R137: every unit holds the staged values, and a Shadow reports that it has armed a mirrored set. -/
def armSet (c : Cinch) (s : State) : State :=
  let c := if c.session = 0 then { c with value := nowNs s + 1000000 } else c
  let new := overlay s.sys.applied (cinchDict s c)
  let e := nextEpoch s.sys.epoch
  let s := setStage c.set { stageSet s c.set with state := 3 } { s with sys.cinch := some c }
  let s := forEach ((List.range 16).filter (camsetChanges s.sys.applied new)) (fun p s => armCamset ((firstIdx (bitOf c.mask) 16).getD p) p e c.value new s) s
  if c.mirrored then sendSeq 0x12 (leBytes 4 e ++ leBytes 4 0) s else s

/-- R84 step 3: CINCH_ARMED: nothing is left to load, bias or ungate. A Cinch that waited for stage 6 has its checks first. -/
def execCinchArmed (s : State) : Host.Outcome State Fault Refusal :=
  let s := beginChecks s
  match s.sys.cinch with
  | some c =>
    if c.phase ≠ 1 ∨ (stageSet s c.set).state ≠ 2 ∨ c.loads ≠ [] ∨ quadsToBias s ≠ [] ∨ s.thrm.ungateQ ≠ [] then .next s
    else if boundaryPassed s c ∧ c.session ≠ 0 then .next (abandonCinch 0x0304 (refuse1 0x0304 0 c.btype) s)
    else .next (armSet c s)
  | none => .next s

/-- R84: CINCH_TIME_LIMIT: the time limit expires before the fire. -/
def execCinchTimeLimit (s : State) : Host.Outcome State Fault Refusal := .next (abandonCinch 0x0507 (refuseFree 0x0507) s)

/-! ### The fire (R84 step 4, R77 to R83) -/

/-- R83: a port's stream that has delivered lines since it last started. -/
def portSwitches (x : Port) : Bool := x.run && (x.delivered || !x.out.isEmpty)

/-- R83: the streams that pass a switch line: ports, and 16 for the stitched stream. -/
def switchStreams (s : State) : List Nat :=
  (List.range 16).filter (fun p => portSwitches (port s p)) ++ (if s.stch.run && decide (0 < s.stch.next) then [16] else [])

/-- R82: the streams on which a value acts: an input of the stitcher processes its port's lines and the stitched ones; a lane carries its port's (R104). -/
def streamsOf (d : Dict) (id : Nat) : List Nat :=
  let u := pidUnit id
  let i := pidInst id
  let whole := fun (p : Nat) => if p % 2 = 1 ∧ ganged d (p - 1) then p - 1 else p
  if u = 0x02 then [if i < 64 then i / 4 else i - 64]
  else if u = 0x03 then [i]
  else if u = 0x05 ∨ u = 0x06 then [whole i]
  else if u = 0x08 then [dictN d (P.PROF_SRC i)]
  else if u = 0x07 ∧ i < 16 then [whole i, 16]
  else if u = 0x07 ∨ u = 0x09 ∨ u = 0x0A then [16]
  else []

/-- R82: the streams whose switch line is a FRAME_START line: the mask of a FRAME Cinch, and those on which an F-class value acts. -/
def frameStreams (c : Cinch) (new set : Dict) : List Nat :=
  ((if c.btype = 1 then (List.range 16).filter (bitOf c.mask) else []) ++
    (stagedIds set).flatMap (fun id => if idClass id = .F then streamsOf new id else [])).dedup

/-- The values of a set whose identifiers satisfy a condition. -/
def partOf (f : Nat → Bool) (set : Dict) : Dict := { vals := set.vals.filter (fun p => f p.1), tabs := set.tabs.filter (fun p => f p.1) }

/-- R78: the stream at whose switch line the set stops the running instance of an S-class value. -/
def stopStream (old set : Dict) (wait : List Nat) (id : Nat) : Option Nat :=
  match runId id with
  | some r => if idClass id == .S && dictB old r && !dictB (overlay old set) r then (streamsOf old id).reverse.find? (wait.contains ·) else none
  | none => none

/-- R78: the S-class values that wait for the stop of their instances, by stream; those of RECD, which stops behind its stream (R263), under 17. -/
def laterPart (old set : Dict) (wait : List Nat) : Map Dict :=
  let key := fun (id : Nat) => if pidUnit id = 0x0A then 17 else 16
  let part := fun (i : Nat) => partOf (fun id => match stopStream old set wait id with
    | some 16 => key id == i
    | some j => j == i
    | none => false) set
  ((wait ++ [17]).map (fun i => (i, part i))).filter (fun p => !p.2.vals.isEmpty || !p.2.tabs.isEmpty)

/-- R78, R263: the values that wait for the stop of RECD: it may still have patches to complete. -/
def handRecd (s : State) : State :=
  match s.sys.cinch with
  | some c => match c.later.find? 17 with
    | some d => if s.recd.run then { s with sys.recdLater := some d, sys.cinch := some { c with later := c.later.erase 17 } } else s
    | none => s
  | none => s

/-- R19, R84: the new epoch and its values; I-class values govern the lines of every epoch from now on. -/
def applySet (set : Dict) (s : State) : State :=
  let now := partOf (fun id => idClass id == .I) set
  let past := (Map.insert s.sys.past s.sys.epoch s.sys.applied).map (fun p => (p.1, overlay p.2 now))
  { s with sys.past := past, sys.applied := overlay s.sys.applied set, sys.epoch := nextEpoch s.sys.epoch, sys.cinched := true, boot.mapped := true, boot.calm := true
           chk.copies := s.chk.copies.filter (fun c => (set.tabs.find? c.tab).isNone) }

/-- R83: a stopped port starts or stops with the fire, and takes the new epoch from its first line. -/
def firePort (p : Nat) (s : State) : State :=
  let x := port s p
  let s := match x.run, prmB s (P.PORT_RUN p) with
    | true, false => stopPort p s
    | false, true => startPort p s
    | true, true => setPort p { x with epoch := s.sys.epoch } s
    | false, false => s
  dropLanes p s

/-- R83: the stitcher, where it passes no switch line. -/
def fireStitcher (s : State) : State :=
  match s.stch.run, prmB s P.STCH_OUT_RUN with
  | true, false => stopStitcher s
  | false, true => startStitcher s
  | true, true => { s with stch.epoch := s.sys.epoch }
  | false, false => s

/-- A stream has ended: nothing more comes from it. -/
def streamEnded (s : State) (i : Nat) : Bool := if i < 16 then portDrained s i else !s.stch.run && s.segm.inq.isEmpty

/-- R83: the units of ended streams whose RUN is 0 stop. -/
def stopEnded (s : State) : State :=
  let s := forEach (List.range 16) (fun c s =>
    if (prof s c).run && !prmB s (P.PROF_RUN c) && streamEnded s (prmAtN s (prof s c).epoch (P.PROF_SRC c)) then stopProf c s else s) s
  if s.segm.run && !prmB s P.SEGM_RUN && streamEnded s 16 then stopSegm s else s

/-- RUN of axes, generators and compare units, which process no stream. -/
def fireMotion (s : State) : State :=
  let s := forEach (List.range 8) (fun a s =>
    match (axis s a).run, prmB s (P.MOTN_RUN a) with | true, false => stopAxis a s | false, true => startAxis a s | _, _ => s) s
  let s := forEach (List.range 16) (fun k s =>
    match (ltg s k).run, prmB s (P.MOTN_RUN (16 + k)) with | true, false => stopLtg k s | false, true => startLtg k s | _, _ => s) s
  forEach (List.range 8) (fun n s =>
    match (pc s n).run, prmB s (P.MOTN_RUN (32 + n)) with | true, false => stopPc n s | false, true => startPc n s | _, _ => s) s

/-- R316, R319, R322: the clock. A changed RESTEP requests a re-step whatever the state; RUN becoming 0 ends it. While it runs, the BMCA gives the ports
that the set has enabled or disabled their roles. -/
def fireTime (old : Dict) (s : State) : State :=
  let s := if dictVal old P.TIME_RESTEP != prm s P.TIME_RESTEP then { s with tk.restep := true } else s
  if prmB s P.TIME_RUN then runBmca s else if dictB old P.TIME_RUN then stopClock s else s

/-- R148: the axes whose BANDWIDTH the set holds have gains. -/
def fireGains (set : Dict) (s : State) : State :=
  forEach ((List.range 8).filter (fun a => (set.vals.find? (P.MOTN_AX_BANDWIDTH a)).isSome)) (fun a s => setAxis a { axis s a with gained := true } s) s

/-- R330: TWIN[0].RUN becomes 1, or 0: the claim line is undriven, the link is powered down, what waited for the twin ends, and the device acts as an Active
without one. -/
def fireTwin (old : Dict) (s : State) : State :=
  match dictB old P.TWIN_RUN, prmB s P.TWIN_RUN with
  | false, true => setTwin 1 false s
  | true, false =>
    let s := endTwinCommands 0x0804 0x0902 (endTwinCommands 0x0802 0x0902 (releaseHolds (releaseMirrors s)))
    let s := if s.twin.link = 2 then raiseOpen 366 s else s
    setTwin 0 false { s with
      twin.link := 0, twin.peer := none, twin.hbAt := none, twin.join := none, twin.joinDue := false, twin.rejoin := false, twin.retry := false, twin.timerLive := false
      twin.conflict := false, twin.mayTake := false, twin.yielding := none, twin.yieldDue := false, twin.replay := [], twin.waiting := [], twin.unhealthyPeer := false }
  | _, _ => s

/-- R448: two-wire channels. -/
def fireTwoWire (s : State) : State :=
  forEach (List.range 8) (fun t s =>
    match (twc s t).run, prmB s (P.TWB_RUN t) with | true, false => stopTw t s | false, true => startTw t s | _, _ => s) s

/-- R82: whether a product's stream passes a switch line of its own: of the port, or of the stitched stream; none for LOG and TELE. -/
def passesSwitch (d : Dict) (wait : List Nat) (product source : Nat) : Bool :=
  if product = 1 ∨ product = 2 ∨ product = 8 then wait.contains source
  else if product = 7 then wait.contains (dictN d (P.PROF_SRC source))
  else if product = 10 ∨ product = 11 then false
  else wait.contains 16

/-- R298: the flows of products without a stream, LOG and TELE, and of streams that pass no switch line, take their entries at the fire. -/
def fireFlows (old : Dict) (wait : List Nat) (s : State) : State :=
  forEach ((enabledFlows s.sys.applied ++ flowsOf s).dedup) (fun f s =>
    let x := flow s f
    let ent := flowEntry s.sys.applied f
    let pass := fun (d : Dict) (key : List Byte) (x : Flow) =>
      if passesSwitch d wait (leAt key 1 1) (leAt key 2 1) then x else switchFlow ent s.sys.epoch (leAt key 1 1) (leAt key 2 1) x
    setFlow f (pass s.sys.applied ent (match x.cur with | some key => pass old key x | none => x)) s) s

/-- R64: a change of SYS[0].MGT_UDP_PORT closes every MGMT session. -/
def fireSessions (old : Dict) (s : State) : State :=
  if dictVal old P.SYS_MGT_UDP_PORT = prm s P.SYS_MGT_UDP_PORT then s else forEach (mgmtSessions s) closeSession s

/-- R177: the running strips whose CALIB the set holds load it before their first line of the new epoch. -/
def fireCalib (set : Dict) (s : State) : State :=
  forEach ((List.range 16).filter (fun i => (set.tabs.find? (P.CALIB i)).isSome && (port s i).run)) (fun i s => setStrip i { strip s i with calDue := some s.sys.epoch } s) s

/-- R389: a change of owner withdraws a channel's request. -/
def fireChannels (old : Dict) (s : State) : State :=
  forEach ((List.range 64).filter (fun c => dictN old (P.QDMA_OWNER c) != prmN s (P.QDMA_OWNER c))) withdrawChan s

/-- R77, R83: what the fire does in the units that pass no switch line. `old` are the values before it, `wait` the streams that pass one. -/
def fireUnits (old set : Dict) (cores wait : List Nat) (s : State) : State :=
  let s := { s with evnt.groups := BitVec.ofNat 32 (prmN s P.EVNT_GROUP_INIT) }
  let s := forEach ((List.range 16).filter (fun p => !wait.contains p)) firePort (fireGains set (fireCalib set s))
  let s := if wait.contains 16 then s else fireStitcher s
  fireFlows old wait (fireChannels old (fireCores cores (fireTwoWire (fireTwin old (fireTime old (fireMotion (stopEnded s)))))))

/-- T* of an armed Cinch that may fire now (R81, R326), where it may. -/
def fireTime? (s : State) (c : Cinch) : Option Nat :=
  if c.btype = 0 then some (nowNs s)
  else if c.btype = 2 then (if c.value ≤ nowNs s then some c.value else none)
  else c.tStar

/-- R80: the value that the reply returns. -/
def replyValue (c : Cinch) (t : Nat) : Nat :=
  if c.btype = 0 then 0 else if c.btype = 2 ∨ c.btype = 3 then t else c.result

/-- R85, R349: the Active waits for the Shadow's report unless its boundary arrives, which is a lapse (R345). A mirrored Cinch that a new Active holds
waits for none. -/
def shadowArmed (c : Cinch) (s : State) : Bool := c.mirrored || !(attached s) || s.twin.armedPeer == some (nextEpoch s.sys.epoch)

/-- R84 step 4: the fire. -/
def fire (c : Cinch) (t : Nat) (s : State) : State :=
  let s := if shadowArmed c s then s else activeDiverge s
  let set := cinchDict s c
  let old := s.sys.applied
  let cores := coreRuns s
  let wait := switchStreams s
  let later := laterPart old set wait
  let s := applySet (partOf (fun id => (stopStream old set wait id).isNone) set) s
  let s := { s with sys.cinch := some { c with phase := 2, later := later, tStar := some t, result := replyValue c t, waiting := wait, fireS := s.tk.secs, fireNs := s.tk.ns, fireFlags := logClockFlags s
                                               frameOnly := frameStreams c s.sys.applied set } }
  let s := raise 630 s.sys.epoch s
  fireSessions old (fireUnits old set cores wait s)

/-- R84 step 4, R85: CINCH_FIRE. -/
def execCinchFire (s : State) : Host.Outcome State Fault Refusal :=
  match s.sys.cinch with
  | some c =>
    if c.phase ≠ 1 ∨ (stageSet s c.set).state ≠ 3 then .next s
    else match fireTime? s c with
      | some t => .next (if c.btype = 0 && !shadowArmed c s then s else fire c t s)
      | none => .next s
  | none => .next s

/-! ### The end (R84 step 6, R93, R94) -/

/-- R94: the applied set as 16-byte items in ascending identifier order. -/
def setItems (applied set : Dict) : List Byte :=
  (stagedIds set).flatMap (fun id =>
    let v := match tabRow id with | some r => crc64 (tabBytes applied id 0 r.size) | none => paramRaw (dictVal applied id)
    leBytes 4 id ++ leBytes 4 0 ++ leBytes 8 v)

/-- R93: the CINCH entry. -/
def cinchEntry (c : Cinch) (d : Option Deferred) (s : State) : LogEntry :=
  let set := cinchDict s c
  { kind := 2, principal := match d with | some d => d.principal | none => 0, transport := match d with | some d => d.via.code | none => 5
    timeS := c.fireS, timeNs := c.fireNs, flags := (match d with | some d => d.flags &&& ~~~3 | none => 0) ||| c.fireFlags, opcode := 0x0201
    tag := match d with | some d => d.tag | none => 0, epoch := s.sys.epoch, count := (stagedIds set).length, session := c.session, value := c.result
    digest := crc64 (setItems s.sys.applied set) }

/-- R73, R84 step 6: CINCH_FINISH: the last affected stream has passed its switch line: the entry is logged, the set is FREE, and the
final reply leaves. -/
def execCinchFinish (s : State) : Host.Outcome State Fault Refusal :=
  match s.sys.cinch with
  | some c =>
    if c.phase ≠ 2 ∨ c.waiting ≠ [] then .next s
    else
      let s := forEach (c.later.map Prod.fst) applyLater (handRecd s)
      let d := findDeferred s c.session c.seq
      let s := logCommit (cinchEntry c d s) (stopEnded s)
      let s := setStage c.set {} { s with sys.cinch := none }
      .next (afterCinch (match d with
        | some d => replyDeferred d 0 (leBytes 4 s.sys.epoch ++ leBytes 4 0 ++ leBytes 8 c.result) false s
        | none => s))
  | none => .next s

/-! ### The boot set (R506) -/

/-- The first violation's status and the number of violations. -/
def bootChecksFail (ds : List Detail) (s : State) : State :=
  logDeviceN 631 ((ds.head?.map Detail.status).getD 0) 0x100 0 ds.length s

/-- R506: BOOT_SET_CINCH: at stage 6 the boot set is loaded into staging set 0 and cinched. -/
def execBootSetCinch (s : State) : Host.Outcome State Fault Refusal :=
  if s.boot.stage ≠ 6 ∨ s.boot.calm ∨ s.sys.cinch.isSome ∨ (stageSet s 0).state ≠ 0 then .next s
  else
    let s := { s with boot.calm := true }
    if (storeItem s 0x100).copies = [] then .next s
    else match readSaved s .sup 0 0x100 with
      | ([], x) =>
        let s := stageSaved 0 x (setStage 0 { state := 1, owner := 0 } s)
        let c : Cinch := { set := 0, session := 0, seq := 0, btype := 2, axis := 0, mask := 0, value := 0, limitMs := 60000 }
        let ds := runChecks s (stageSet s 0).dict (some (2, 0, 0))
        let s := beginChecks (acceptCinch c s)
        .next (if ds = [] then s else bootChecksFail ds s)
      | _ => .next (logDevice 0x3FF 0x0803 0x100 0 s)

end Sys2Proof.Machine
end

