-- ==== Sys2Proof/Machine/Anchor.lean ====
section
/-! DEFINITION. Machine/Anchor.lean: the commands of a camera port that may latch the anchor line of the armed Cinch: the fire comes with that latch, so that the
line itself carries the new epoch (R19, R80 to R82). -/
namespace Sys2Proof.Machine

/-- R81, R82, R84: where `op` latches the anchor line of the armed Cinch, the fire has come before it stamps a line. -/
def firedBefore (op : State → State) (s : State) : State :=
  match s.sys.cinch, (op s).sys.cinch with
  | some c, some c' => match c.tStar, c'.tStar with
    | none, some t => if c'.phase = 1 then fire c' t s else s
    | _, _ => s
  | _, _ => s

/-- R82: `op` with the fire that it brings. -/
def withFire (op : State → State) (s : State) : State := op (firedBefore op s)

/-- R130, R131, R133: PORT_LINE_ASSEMBLED. -/
def execPortLineAssembled (port : Fin 16) (s : State) : Host.Outcome State Fault Refusal := .next (withFire (assemble port.val) s)

/-- R122: STREAM_DATA_PACKET: a packet of a connection. -/
def execStreamDataPacket (port : Fin 16) (payload : List Byte) (crcOk codeOk : Bool) (place : StreamPlace) (s : State) : Host.Outcome State Fault Refusal :=
  .next (withFire (dataPacket port.val place { tag := place.tag % 256, payload := payload, crcOk := crcOk, codeOk := codeOk }) s)

/-- R122, R130, R133: RECTANGULAR_IMAGE_HEADER. -/
def execRectangularImageHeader (port : Fin 16) (xsize ysize bits comps : Nat) (s : State) : Host.Outcome State Fault Refusal :=
  .next (withFire (headFrame port.val xsize ysize bits comps) s)

/-- R124, R126, R134: RAW_LINE_SEGMENT: lane `k` delivers the header of a segment, the whole of it, or its words as received. -/
def execRawLineSegment (port : Fin 16) (k : Fin 4) (seg : RawSegment) (s : State) : Host.Outcome State Fault Refusal :=
  .next (withFire (laneSegment port.val k.val seg) s)

/-- R129: LINE_DUE_TRIGGER: the port sees the next trigger of LTGi. DESIGN CHOICE (log entry 133): where it is the 65th pending, the trigger that becomes LOSS
leaves the debt of R130 as it is. -/
def execLineDueTrigger (port : Fin 16) (s : State) : Host.Outcome State Fault Refusal := .next (withFire (seeTrigger port.val) s)

/-- R130, R133, R135: LINE_TIMEOUT. -/
def execLineTimeout (port : Fin 16) (s : State) : Host.Outcome State Fault Refusal := .next (withFire (timeOutLine port.val) s)

end Sys2Proof.Machine
end

