-- ==== Sys2Proof/Machine/Join.lean ====
section
/-! DEFINITION. Machine/Join.lean: joining a running Active, and what a Shadow receives (chapter "Twin Operation"), with the commands of group
0x08xx that change the pair. -/
namespace Sys2Proof.Machine

/-! ### Stamps and windows (R340, R341) -/

/-- The GLOBAL_LINE of the next line that port `p` delivers. -/
def nextDelivered (s : State) (p : Nat) : Nat :=
  match (port s p).out with
  | o :: _ => o.line.stamp.globalLine
  | [] => (port s p).globalLine

/-- R341: STAMPS: a stamp waits for its line; one for a line already delivered is discarded and counted. -/
def takeStamps (m : MsgHdr) (port : Fin 16) (stamps : List Stamp) (s : State) : State :=
  acceptMsg m (fun s =>
    if !adopts s then s
    else forEach stamps (fun (t : Stamp) s =>
      if t.globalLine < nextDelivered s port.val then { s with twin.lateStamps := s.twin.lateStamps + 1 }
      else { s with twin.stamps := s.twin.stamps ++ [{ t with port := port.val }] }) s) s

/-- R341, R342: ADOPT_WAIT has passed: the line held at port, strip or SEGM (slot 16) goes on, and a Shadow is UNHEALTHY. -/
def adoptMiss (release : State → State) (s : State) : State :=
  let s := raiseOpen 369 (release { s with twin.adoptMiss := s.twin.adoptMiss + 1 })
  if s.twin.state = 5 then { s with twin.state := 6 } else s

/-- R341, R342: ADOPT_WAIT_EXPIRY: of the line held at port `slot` for its stamp, or else at line-latched consumer `slot` (16 SEGM) for a heartbeat; 17 to 32
name strips 0 to 15, whose wait may run out while their port holds a line too. -/
def execAdoptWaitExpiry (slot : Nat) (s : State) : Host.Outcome State Fault Refusal :=
  let g := nextDelivered s slot
  if slot < 16 ∧ (port s slot).out ≠ [] ∧ waitsStamp s slot g = true then
    .next (adoptMiss (fun s => { s with twin.release := s.twin.release.set 0 slot (g + 1) }) s)
  else
    let slot := if 16 < slot then slot - 17 else slot
    let held := if slot = 16 then (s.segm.inq.head?).map (fun x => x.1.stamp.globalLine) else ((strip s slot).inq.head?).map (fun o => o.line.stamp.globalLine)
    match held with
    | some g => .next (if waitsHeartbeat s slot g then adoptMiss (fun s => { s with twin.skipHb := s.twin.skipHb.set 0 slot (g + 1) }) s else s)
    | none => .next s

/-- R340: WINDOW_WRITE: a forwarded write of a compare unit's register is executed as the same principal. -/
def takeWindowWrite (m : MsgHdr) (principal : Principal) (addr : Nat) (value : Word32) (s : State) : State :=
  acceptMsg m (fun s =>
    let off := addr % 0x1000000
    let n := (off - 0x1000) / 0x100
    let r := off % 0x100
    let a : Acc := { principal := principal }
    if isShadow s && addr / 0x1000000 == 4 && decide (0x1000 ≤ off) && decide (n < 8) && (r == 8 || r == 0xC || r == 0x10 || r == 0x14) then
      windowWrite a (pcRight s a n) (r == 0x10 || r == 0x14) 4 off value.toNat (pcAct n r value) s
    else s) s

/-! ### The Active's side of a join (R352) -/

/-- R352: the Active sends items as JOIN_DATA. -/
def sendItems (items : List JoinItem) (s : State) : State := forEach (items.flatMap joinMsgs) (sendSeq 0x41) s

/-- R352, R392: captured state goes through DC63 as a snapshot, then to the joiner. -/
def sendSnapshot (items : List JoinItem) (s : State) : State :=
  sendItems items (supMove (supAddr 3) (supAddr 4) ((items.flatMap joinMsgs).map List.length).sum s)

/-- R339, R352 step 2: every applied parameter and table but the device-local ones, then the epoch. -/
def configItems (s : State) : List JoinItem :=
  (s.sys.applied.vals.filter (fun p => !localParam p.1)).map (fun p => .scalar p.1 p.2) ++
    (s.sys.applied.tabs.filter (fun t => !localParam t.1)).map (fun t => .table t.1 0 (tabBytes s.sys.applied t.1 0 (match tabRow t.1 with | some r => r.size | none => 0))) ++
    [.epoch s.sys.epoch]

/-- R352 step 4: the GLOBAL_LINE at which frame F of a port begins, as its FRAME_START is captured. -/
def joinFrame (s : State) (p : Nat) : Nat := (port s p).globalLine - (port s p).lineInFrame

/-- The lines of a stitched frame. -/
def stitchedLen (d : Dict) : Nat := if dictB d P.STCH_OUT_MODE then dictN d P.STCH_OUT_HEIGHT else dictN d P.STCH_OUT_FRAME_LENGTH

/-- R198, R352 step 4: n0: the first stitched FRAME_START at which every port line read lies in frame F of its port or a later one. -/
def joinLine (s : State) : Nat :=
  let d := s.sys.applied
  let len := stitchedLen d
  let need := fun (q : Nat) =>
    let b := ((stchIn s q).base).getD 0
    if areaMode d then ((port s q).frame - b) * len
    else (16 * (joinFrame s q - b + dictN d (P.STCH_MD_DELAY q)) + dictN d (P.STCH_MD_FRAC q) + 15) / 16 - dMax d
  roundUp len (((contributors d).map need).foldl max s.stch.globalLine)

/-- R352 step 4: whether a flow's product is captured with the ports or with the stitched side; LOG and TELE with neither. -/
def joinSide (s : State) (ent : List Byte) : Option Bool :=
  let product := leAt ent 1 1
  if product = 10 ∨ product = 11 then none
  else some (!(product == 1 || product == 2 || product == 8 || (product == 7 && decide (prmN s (P.PROF_SRC (leAt ent 2 1)) < 16))))

/-- R352 step 4: the SEQ and first item of the first unit of each flow that begins at or after the capture point of its product: the first line of F or
n0, or the next object. A unit that is being filled ends before it, at its FRAME_END (R300). -/
def flowItems (stitched : Bool) (s : State) : List JoinItem :=
  (flowsOf s).filterMap (fun f =>
    let x := flow s f
    match x.cur with
    | some ent =>
      let src := if leAt ent 1 1 = 7 then prmN s (P.PROF_SRC (leAt ent 2 1)) else leAt ent 2 1
      let first := if !stitched then joinFrame s src else if leAt ent 1 1 = 5 ∨ leAt ent 1 1 = 6 then s.segm.next else s.stch.globalLine
      if joinSide s ent = some stitched then some (.flowStart f (x.nextSeq + x.closed.length + b2n x.fill.isSome) first) else none
    | none => none)

/-- The running ports. -/
def runningPorts (s : State) : List Nat := (List.range 16).filter (fun p => (port s p).run)

/-- R352 steps 4 and 5: what the Active sends at FRAME_START of F: the boundaries, the flows of port products, the shading sets, and the state of the
port-source channels. -/
def portItems (s : State) : List JoinItem :=
  (runningPorts s).map (fun p => .portStart p (joinFrame s p)) ++ [.stitchedLine (joinLine s)] ++ flowItems false s ++
    (runningPorts s).map (fun p => .shading p (strip s p).m0 (strip s p).m1) ++
    ((List.range 16).filter (fun c => (prof s c).run && decide (prmN s (P.PROF_SRC c) < 16))).map (fun c => .portState c (prof s c))

/-- R352 step 6: what the Active sends at stitched line n0: the flows of stitched products and the state of the stitched side. -/
def stitchedItems (s : State) : List JoinItem :=
  flowItems true s ++
    [.stitchedState (((List.range 16).filter (fun c => (prof s c).run && decide (16 ≤ prmN s (P.PROF_SRC c)))).map (fun c => (c, prof s c))) s.segm.objs s.segm.next
      (((List.range 8).filter (fun n => (pc s n).run)).map (fun n => (n, (pc s n).list)))]

/-- R351, R352: the device that holds the claim answers a request with its configuration; while a Cinch is pending, once that has finished. -/
def serveJoin (s : State) : State :=
  if sameUnitId s then s
  else if s.sys.cinch.isSome then { s with twin.rejoin := true }
  else sendItems (configItems s) { s with twin.join := some { joiner := false, phase := 2 }, twin.rejoin := false, twin.state := if s.twin.state = 3 then 2 else s.twin.state }

/-- R352: JOIN_REQ: an invitation to the device without the claim, or a request to the one that holds it. A DETACHED device takes no part in the pair. -/
def takeJoinReq (m : MsgHdr) (s : State) : State :=
  acceptMsg m (fun s => if holdsClaim s then serveJoin s else if s.twin.state = 8 then s else startJoin s) s

/-- R352 steps 3 to 6: JOIN_CAPTURE: the Active names the boundaries and captures the state of the port-source channels, or of the stitched side. A join
fails where its own Timekeeper is not LOCKED at the first capture. -/
def execJoinCapture (stitched : Bool) (s : State) : Host.Outcome State Fault Refusal :=
  match s.twin.join with
  | some j =>
    if j.joiner then .next s
    else if stitched then .next (sendSnapshot (stitchedItems s) { s with twin.join := some { j with lineCap := true } })
    else if s.tk.state ≠ 2 then .next (failJoin s)
    else .next (sendSnapshot (portItems s) { s with twin.join := some { j with caps := List.range 16 } })
  | none => .next s

/-- R352 step 7: JOIN_DONE: the Active is PAIRED, or the join has failed. -/
def takeJoinDone (m : MsgHdr) (status : Nat) (_detail : Nat) (s : State) : State :=
  acceptMsg m (fun s =>
    match s.twin.join with
    | some j =>
      if j.joiner || !holdsClaim s then s
      else if status ≠ 0 then failJoin s
      else endTwinCommands 0x0802 0 (raiseOpen 370 { s with
        twin.join := none, twin.joinsOk := s.twin.joinsOk + 1, twin.state := 3, twin.unhealthyPeer := false })
    | none => s) s

/-! ### The joiner's side (R352) -/

/-- The configuration received, with the device's own device-local values (R339). -/
def joinDict (s : State) (j : Join) : Dict :=
  let own := s.sys.applied.vals.filter (fun p => localParam p.1)
  let mine := s.sys.applied.tabs.filter (fun t => localParam t.1)
  overlay { vals := j.vals.filter (fun p => !localParam p.1), tabs := j.tabs.filter (fun t => !localParam t.1) } { vals := own, tabs := mine }

/-- Every unit of the data path stands still. -/
def restDataPath (s : State) : State :=
  let s := stopStreams (abandonCinch 0x0901 (refuseFree 0x0901) s)
  let s := forEach (List.range 8) (fun a s => if (axis s a).run then stopAxis a s else s) s
  let s := forEach (List.range 16) (fun k s => if (ltg s k).run then stopLtg k s else s) s
  forEach (List.range 8) (fun n s => if (pc s n).run then stopPc n s else s) s

/-- R352 steps 2 and 3: the configuration is applied with the Active's epoch, and the units start. -/
def applyJoin (j : Join) (e : Nat) (s : State) : State :=
  let s := restDataPath s
  let old := s.sys.applied
  let cores := coreRuns s
  let s := { s with sys.past := Map.insert s.sys.past s.sys.epoch old, sys.applied := joinDict s j, sys.epoch := e, sys.cinched := true
                    boot.mapped := true, boot.calm := true, twin.join := some { j with phase := 3 } }
  fireUnits old { vals := j.vals } cores [] s

/-- R352, R353: the captured stitched side is in place: the joiner is in step, and the digests kept since its boundaries are compared. -/
def finishJoin (j : Join) (s : State) : State :=
  let s := { setTwin 5 false s with twin.join := none, twin.joinsOk := s.twin.joinsOk + 1, twin.joinBase := some (j.frames, j.line.getD 0) }
  let s := endTwinCommands 0x0802 0 (sendSeq 0x42 (joinDoneMsg 0 0) s)
  forEach s.twin.own (fun o s =>
    match s.twin.theirs.find? (sameUnit o) with
    | some e => compareDigest o e { s with twin.own := s.twin.own.filter (fun x => !sameUnit o x), twin.theirs := s.twin.theirs.filter (fun x => !sameUnit o x) }
    | none => s) s

/-- R352: a capture came after the joiner had received FRAME_END of F. -/
def captureLate (s : State) (j : Join) (p : Nat) : Bool :=
  match j.frames.find? p with
  | some f =>
    let len := if prmB s (P.PORT_MODE p) then prmN s (P.PORT_HEIGHT p) else prmN s (P.PORT_FRAME_LENGTH p)
    decide (f + len ≤ nextDelivered s p)
  | none => false

/-- R352 step 6: the capture of the stitched side came later than one stitched frame after n0: the reference port has delivered what the stitched frame
after the next reads. -/
def stitchedLate (s : State) (j : Join) : Bool :=
  let d := s.sys.applied
  let r := dictN d P.STCH_OUT_REF_PORT
  match j.line, (stchIn s r).base with
  | some n, some b =>
    if areaMode d then decide (b + n / stitchedLen d + 1 < (port s r).frame)
    else decide (b + (lineIndex d r (n + stitchedLen d)).1 < nextDelivered s r)
  | _, _ => false

/-- R352: one item of JOIN_DATA at the joiner. -/
def joinItem (i : JoinItem) (s : State) : State :=
  match s.twin.join with
  | none => s
  | some j =>
    if !j.joiner then s
    else match i with
    | .scalar id v => { s with twin.join := some { j with vals := Map.insert j.vals id v } }
    | .table id off data => { s with twin.join := some { j with tabs := Map.insert j.tabs id (layBytes off data ((j.tabs.find? id).getD [])) } }
    | .epoch e => if j.phase < 3 then applyJoin j e s else s
    | .portStart p line => { s with twin.join := some { j with frames := Map.insert j.frames p line } }
    | .stitchedLine n =>
      let frame := n / stitchedLen s.sys.applied
      { s with twin.join := some { j with line := some n }, stch.next := n, stch.globalLine := n, stch.frame := frame, stch.lineInFrame := 0 }
    | .flowStart f seq first => setFlow f { flow s f with joinFrom := some (seq, first), fill := none, closed := [] }
        { s with twin.joinFlows := Map.insert s.twin.joinFlows f seq }
    | .shading p m0 m1 => setStrip p { strip s p with preset := some ((j.frames.find? p).getD 0, m0, m1) } s
    | .portState c x =>
      if captureLate s j (prmN s (P.PROF_SRC c)) then failJoin s
      else setProf c x { s with twin.join := some { j with caps := c :: j.caps } }
    | .stitchedState profs objs next lists =>
      if stitchedLate s j then failJoin s else
      let s := forEach profs (fun p s => setProf p.1 p.2 s) { s with segm.objs := objs, segm.next := next }
      let s := forEach lists (fun l s => setPc l.1 { pc s l.1 with list := l.2 } s) s
      finishJoin j s

/-- R352: JOIN_DATA. -/
def takeJoinData (m : MsgHdr) (items : List JoinItem) (s : State) : State :=
  acceptMsg m (fun s => forEach items joinItem s) s

/-- R352 step 3: the joiner takes the Active's counts at the paired trigger of a port. -/
def alignPort (c : JoinCounts) (s : State) : State :=
  let p := c.port
  let x := port s p
  let s := setPort p { x with
    globalLine := c.globalLine, frame := c.frame, lineInFrame := c.lineInFrame, out := []
    frameLen := if prmB s (P.PORT_MODE p) then x.frameLen else prmN s (P.PORT_FRAME_LENGTH p) } s
  let s := setAxis c.axis { axis s c.axis with p := c.position } s
  let s := setLtg p { ltg s p with acc := c.ltgAcc } s
  match c.base with
  | some b => { s with stch.ins := s.stch.ins.set {} p { s.stch.ins.get {} p with base := some b } }
  | none => s

/-- R352 step 3: JOIN_ALIGNMENT: with the Timekeeper LOCKED, the joiner has paired a trigger of every running port within ALIGN_TOL. -/
def execJoinAlignment (counts : List JoinCounts) (s : State) : Host.Outcome State Fault Refusal :=
  match s.twin.join with
  | some j =>
    let near := counts.all (fun c => decide (c.timeDeltaNs.natAbs ≤ prmN s P.TWIN_ALIGN_TOL))
    let every := (List.range 16).all (fun p => !(port s p).run || counts.any (fun c => c.port == p))
    if j.joiner && j.phase == 3 && s.tk.state == 2 && near && every then .next (forEach counts alignPort { s with twin.join := some { j with phase := 4 } })
    else .next s
  | none => .next s

/-- R352: JOIN_ALIGNMENT_TIMEOUT: alignment has not completed within 100 ms. -/
def execJoinAlignmentTimeout (s : State) : Host.Outcome State Fault Refusal :=
  match s.twin.join with
  | some j => .next (if j.joiner && decide (j.phase < 4) then failJoin s else s)
  | none => .next s

/-- R352, R354: JOIN_RETRY: 1 s after a failed join the device tries again under AUTO_REJOIN; a DETACHED one takes no part in the pair. -/
def execJoinRetry (s : State) : Host.Outcome State Fault Refusal :=
  .next (if s.twin.retry && prmB s P.TWIN_AUTO_REJOIN && !holdsClaim s && s.twin.state != 8 then startJoin { s with twin.retry := false } else s)

/-! ### Commands (R350, R351, R354) -/

/-- R351: TWIN_ATTACH. -/
def doTwinAttach (h : Hdr) (s : State) : State :=
  xesil (.twinAttach h) { op := 0x0802, h := h, count := 1 } true (fun _ => []) (fun _ => [])
    (fun _ s =>
      if prmB s P.TWIN_RUN && s.twin.lineHigh && !s.twin.driving then .done [] false 0 (setTwin 1 false s)
      else if s.twin.link ≠ 2 ∨ sameUnitId s = true then .refuse (refuseFree 0x0902)
      else if holdsClaim s then (if s.sys.cinch.isSome then .refuse (refuseFree 0x0503) else .defer (if s.twin.peer.isNone then { s with twin.joinDue := true } else sendSeq 0x40 [] s))
      else .defer (startJoin s))
    (fun _ => []) s

/-- R354: a device leaves the pair, or its Active goes on alone and keeps the claim. DEDUCED (log entry 52): the list of R331 says otherwise. -/
def detach (s : State) : State :=
  let s := if sameUnitId s then s else sendSeq 0x32 [] s
  if holdsClaim s then { failJoin s with twin.state := if s.twin.state = 3 then 2 else s.twin.state }
  else { setTwin 8 false (endTwinCommands 0x0802 0x0905 s) with twin.join := none, twin.mayTake := false, twin.retry := false, twin.joinDue := false, twin.rejoin := false }

/-- R354: TWIN_DETACH. -/
def doTwinDetach (h : Hdr) (s : State) : State :=
  xesil (.twinDetach h) { op := 0x0803, h := h, count := 1 } true (fun _ => []) (fun _ => [])
    (fun _ s => .done [] false 0 (detach s)) (fun _ => []) s

/-- R350: TWIN_YIELD. -/
def doTwinYield (h : Hdr) (s : State) : State :=
  xesil (.twinYield h) { op := 0x0804, h := h, count := 1 } true (fun _ => []) (fun _ => [])
    (fun _ s =>
      if !holdsClaim s then .refuse (refuseFree 0x0901)
      else if s.twin.state ≠ 3 then .refuse (refuseFree 0x0902)
      else .defer (startYield s))
    (fun _ => []) s

end Sys2Proof.Machine
end

