-- ==== Sys2Proof/Machine/Commands.lean ====
section
/-! DEFINITION. Machine/Commands.lean: Xesil commands as packets (chapter "Xesil Command Packets"): reading a packet, the checks of R63 up to step 9,
held commands, and the commands themselves. -/
namespace Sys2Proof.Machine

/-! ### Reading the parameter field (R65) -/

/-- What the opcode and parameter field of a packet spell. -/
inductive Parsed where
  /-- R63 step 8: the opcode is not known. -/
  | unknown
  /-- R63 step 9: LENGTH does not suit the opcode. -/
  | badLength
  /-- A command. -/
  | command (i : Instr)

/-- `n` bytes from an offset are 0. -/
def zeroAt (ps : List Byte) (off n : Nat) : Bool := leAt ps off n == 0

/-- A command whose LENGTH is right where `good` holds, with its reserved fields as pairs of byte offset and length. -/
def spelled (ps : List Byte) (good : Bool) (reserved : List (Nat × Nat)) (h : Hdr) (mk : Hdr → Instr) : Parsed :=
  if !good then .badLength
  else match reserved.find? (fun f => !zeroAt ps f.1 f.2) with
    | some f => .command (mk { h with reserved := some f.1, raw := some ps })
    | none => .command (mk h)

/-- R65: the commands of groups 0x00xx to 0x03xx. -/
def parseLow (op : Nat) (h : Hdr) (ps : List Byte) : Parsed :=
  let n := ps.length
  let g := leAt ps
  match op with
  | 0x0001 => spelled ps (n == 8) [(2, 2)] h (fun h => .sessionOpen h (g 0 2) (g 4 4))
  | 0x0002 => spelled ps (n == 0) [] h (fun h => .sessionClose h)
  | 0x0003 => spelled ps (n == 0) [] h (fun h => .sessionResync h)
  | 0x0004 => spelled ps true [] h (fun h => .echo h ps)
  | 0x0005 => spelled ps (n == 0) [] h (fun h => .deviceInfo h)
  | 0x0006 => spelled ps (n == 1) [] h (fun h => .reset h (g 0 1))
  | 0x0007 => spelled ps (n == 8) [(2, 6)] h (fun h => .cancel h (g 0 2))
  | 0x0008 => spelled ps (n == 8) [(4, 4)] h (fun h => .detailRead h (g 0 4))
  | 0x0101 => spelled ps (n == 0) [] h (fun h => .stageOpen h)
  | 0x0102 => spelled ps (decide (8 ≤ n) && n == 8 + 16 * g 4 4) ((1, 3) :: (List.range (g 4 4)).map (fun k => (12 + 16 * k, 4))) h
      (fun h => .stageWrite h (g 0 1) ((List.range (g 4 4)).map (fun k => (g (8 + 16 * k) 4, g (16 + 16 * k) 8))))
  | 0x0103 => spelled ps (decide (8 ≤ n) && n == 8 + 4 * g 4 4) [(1, 3)] h (fun h => .stageRead h (g 0 1) ((List.range (g 4 4)).map (fun k => g (8 + 4 * k) 4)))
  | 0x0104 => spelled ps (n == 8) [(1, 7)] h (fun h => .stageDiscard h (g 0 1))
  | 0x0105 => spelled ps (decide (16 ≤ n)) [(1, 3), (12, 4)] h (fun h => .stageBlock h (g 0 1) (g 4 4) (g 8 4) (ps.drop 16))
  | 0x0106 => spelled ps (n == 24) [(1, 3)] h (fun h => .stageBlockDma h (g 0 1) (g 4 4) (g 8 4) (g 12 4) (g 16 8))
  | 0x0107 => spelled ps (n == 8) [(1, 3)] h (fun h => .stageLoadSaved h (g 0 1) (g 4 4))
  | 0x0108 => spelled ps (n == 4) [] h (fun h => .stageSave h (g 0 4))
  | 0x0201 => spelled ps (n == 24) [(3, 1), (6, 2), (20, 4)] h (fun h => .cinch h (g 0 1) (g 1 1) (g 2 1) (g 4 2) (g 8 8) (g 16 4))
  | 0x0202 => spelled ps (n == 8) [(1, 7)] h (fun h => .cinchCheck h (g 0 1))
  | 0x0301 => spelled ps (decide (4 ≤ n) && n == 4 + 4 * g 0 4) [] h (fun h => .paramRead h ((List.range (g 0 4)).map (fun k => g (4 + 4 * k) 4)))
  | 0x0302 => spelled ps (n == 8) [(2, 6)] h (fun h => .statusRead h (g 0 1) (g 1 1))
  | 0x0303 => spelled ps (n == 8) [(3, 5)] h (fun h => .countersRead h (g 0 1) (g 1 1) (g 2 1))
  | 0x0304 => spelled ps (n == 0) [] h (fun h => .telemetryRead h)
  | 0x0305 => spelled ps (n == 20) [(2, 6)] h (fun h => .digestRead h (g 0 2) (g 8 8) (g 16 4))
  | _ => .unknown

/-- R65: the commands of groups 0x04xx to 0x0Axx. -/
def parseHigh (op : Nat) (h : Hdr) (ps : List Byte) : Parsed :=
  let n := ps.length
  let g := leAt ps
  match op with
  | 0x0401 => spelled ps (n == 12) [] h (fun h => .logRead h (g 0 8) (g 8 4))
  | 0x0402 => spelled ps (decide (1 ≤ n ∧ n ≤ 48)) [] h (fun h => .logMark h ps)
  | 0x0403 => spelled ps (n == 0) [] h (fun h => .logPersist h)
  | 0x0501 => spelled ps (n == 8) [] h (fun h => .testRun h (g 0 2) (g 2 1) (g 3 1) (g 4 4))
  | 0x0502 => spelled ps (n == 8) [] h (fun h => .calibrate h (g 0 2) (g 2 1) (g 3 1) (g 4 4))
  | 0x0503 => spelled ps (n == 8) [] h (fun h => .prbsControl h (g 0 1) (g 1 1) (g 2 1) (g 3 1) (g 4 4))
  | 0x0504 => spelled ps (n == 8) [(1, 7)] h (fun h => .eyeScan h (g 0 1))
  | 0x0601 => spelled ps (n == 12) [(1, 3)] h (fun h => .camRead h (g 0 1) (g 4 4) (g 8 4))
  | 0x0602 => spelled ps (decide (8 ≤ n ∧ n ≤ 1032)) [(1, 3)] h (fun h => .camWrite h (g 0 1) (g 4 4) (ps.drop 8))
  | 0x0603 => spelled ps (n == 8) [(1, 7)] h (fun h => .camDiscover h (g 0 1))
  | 0x0701 => spelled ps (n == 32) [(15, 1), (28, 4)] h (fun h => .jobCompress h (g 0 8) (g 8 4) (g 12 1) (g 13 1) (g 14 1) (g 16 8) (g 24 4))
  | 0x0702 => spelled ps (n == 32) [(12, 4), (28, 4)] h (fun h => .jobDecompress h (g 0 8) (g 8 4) (g 16 8) (g 24 4))
  | 0x0703 => spelled ps (n == 32) [(1, 7), (20, 4)] h (fun h => .jobCrc h (g 0 1) (g 8 8) (g 16 4) (g 24 8))
  | 0x0801 => spelled ps (n == 0) [] h (fun h => .twinStatus h)
  | 0x0802 => spelled ps (n == 0) [] h (fun h => .twinAttach h)
  | 0x0803 => spelled ps (n == 0) [] h (fun h => .twinDetach h)
  | 0x0804 => spelled ps (n == 0) [] h (fun h => .twinYield h)
  | 0x0901 => spelled ps (n == 8) [] h (fun h => .storeList h (g 0 4) (g 4 4))
  | 0x0902 => spelled ps (n == 12) [] h (fun h => .storeRead h (g 0 4) (g 4 4) (g 8 4))
  | 0x0903 => spelled ps (decide (8 ≤ n)) [] h (fun h => .storeWrite h (g 0 4) (g 4 4) (ps.drop 8))
  | 0x0904 => spelled ps (n == 8) [(4, 4)] h (fun h => .storeErase h (g 0 4))
  | 0x0905 => spelled ps (decide (8 ≤ n)) [(4, 4)] h (fun h => .fwStage h (g 0 4) (ps.drop 8))
  | 0x0906 => spelled ps (n == 8) [(4, 4)] h (fun h => .fwCommit h (g 0 4))
  | 0x0907 => spelled ps (n == 40) [(2, 6)] h (fun h => .keyProvision h (g 0 1) (g 1 1) (ps.drop 8))
  | 0x0908 => spelled ps (n == 8) [(1, 7)] h (fun h => .keyRevoke h (g 0 1))
  | 0x0A01 => spelled ps (n == 0) [] h (fun h => .powerStatus h)
  | 0x0A02 => spelled ps (n == 8) [(1, 7)] h (fun h => .powerCapLimit h (g 0 1))
  | 0x0A03 => spelled ps (n == 0) [] h (fun h => .thermalRestart h)
  | 0x0A04 => spelled ps (n == 0) [] h (fun h => .orderlyStop h)
  | _ => .unknown

/-- R65: an opcode with its parameter field. -/
def parseOp (op : Nat) (h : Hdr) (ps : List Byte) : Parsed := if op < 0x0400 then parseLow op h ps else parseHigh op h ps

/-! ### Running a command -/

/-- A command as its packet would run it, without what its transport does around it. -/
def runInstr (i : Instr) (s : State) : State :=
  match i with
  | .sessionOpen h pktSize idleMs => doSessionOpen h pktSize idleMs s
  | .sessionClose h => doSessionClose h s
  | .sessionResync h => doSessionResync h s
  | .echo h data => doEcho h data s
  | .deviceInfo h => doDeviceInfo h s
  | .reset h kind => doReset h kind s
  | .cancel h tag => doCancel h tag s
  | .detailRead h first => doDetailRead h first s
  | .stageOpen h => doStageOpen h s
  | .stageWrite h set entries => doStageWrite h set entries s
  | .stageRead h set ids => doStageRead h set ids s
  | .stageDiscard h set => doStageDiscard h set s
  | .stageBlock h set id off data => doStageBlock h set id off data s
  | .stageBlockDma h set id off len addr => doStageBlockDma h set id off len addr s
  | .stageLoadSaved h set item => doStageLoadSaved h set item s
  | .stageSave h item => doStageSave h item s
  | .cinch h set btype axis mask value limitMs => doCinch h set btype axis mask value limitMs s
  | .cinchCheck h set => doCinchCheck h set s
  | .paramRead h ids => doParamRead h ids s
  | .statusRead h unit inst => doStatusRead h unit inst s
  | .countersRead h unit inst clear => doCountersRead h unit inst clear s
  | .telemetryRead h => doTelemetryRead h s
  | .digestRead h flow first count => doDigestRead h flow first count s
  | .logRead h first count => doLogRead h first count s
  | .logMark h text => doLogMark h text s
  | .logPersist h => doLogPersist h s
  | .testRun h test unit inst arg => doTestRun h test unit inst arg s
  | .calibrate h test unit inst arg => doCalibrate h test unit inst arg s
  | .prbsControl h lane pattern mode injection rate => doPrbsControl h lane pattern mode injection rate s
  | .eyeScan h lane => doEyeScan h lane s
  | .camRead h port addr len => doCamRead h port addr len s
  | .camWrite h port addr data => doCamWrite h port addr data s
  | .camDiscover h port => doCamDiscover h port s
  | .jobCompress h src len product pred source dst cap => doJobCompress h src len product pred source dst cap s
  | .jobDecompress h src len dst cap => doJobDecompress h src len dst cap s
  | .jobCrc h preset addr len init => doJobCrc h preset addr len init s
  | .twinStatus h => doTwinStatus h s
  | .twinAttach h => doTwinAttach h s
  | .twinDetach h => doTwinDetach h s
  | .twinYield h => doTwinYield h s
  | .storeList h first count => doStoreList h first count s
  | .storeRead h item off len => doStoreRead h item off len s
  | .storeWrite h item off data => doStoreWrite h item off data s
  | .storeErase h item => doStoreErase h item s
  | .fwStage h off data => doFwStage h off data s
  | .fwCommit h len => doFwCommit h len s
  | .keyProvision h slot role key => doKeyProvision h slot role key s
  | .keyRevoke h slot => doKeyRevoke h slot s
  | .powerStatus h => doPowerStatus h s
  | .powerCapLimit h lowest => doPowerCapLimit h lowest s
  | .thermalRestart h => doThermalRestart h s
  | .orderlyStop h => doOrderlyStop h s
  | .packetRejected (.packet via bytes) => runBad via bytes s
  | _ => s
where
  /-- R63: a packet that fails step 8 or 9 runs into its refusal once its session and SEQ have been checked. -/
  runBad (via : Via) (bytes : List Byte) (s : State) : State :=
    let h := hdrOf via bytes
    let ps := paramsOf bytes
    let op := leAt bytes 4 2
    let st := match parseOp op h ps with | .unknown => 0x0106 | _ => 0x0105
    xesil (.packetRejected (.packet via bytes)) { op := op, h := h, params := ps, bad := some st } false (fun _ => []) (fun _ => []) (fun _ _ => .refuse []) (fun _ => []) s
  /-- R46: the header of a packet. -/
  hdrOf (via : Via) (bytes : List Byte) : Hdr :=
    let f := leAt bytes 18 2
    { via := via, session := leAt bytes 8 4, seq := leAt bytes 12 4, tag := leAt bytes 6 2, force := bitOf f 0, epochCheck := bitOf f 1, quiet := bitOf f 2
      mirrored := bitOf f 3, epoch := leAt bytes 24 4 }
  /-- R46: the parameter field of a packet. -/
  paramsOf (bytes : List Byte) : List Byte := (bytes.drop 32).take (leAt bytes 20 4)

/-! ### Packets (R49, R52, R53, R63) -/

/-- R62, R63: the reply to a packet refused at steps 3 to 5 or in its framing: it is counted, and bytes 4 to 15 are echoed. -/
def earlyReply (via : Via) (bytes : List Byte) (status : Nat) (s : State) : State :=
  let h := runInstr.hdrOf via bytes
  let ((ps, more), s) := keepDetail h (refuseFree status) { s with sys.discarded := s.sys.discarded + 1 }
  emit { via := via, opcode := leAt bytes 4 2, tag := h.tag, session := h.session, seq := h.seq, status := status, more := more
         epoch := s.sys.epoch, principal := via.principal.code, params := ps } s

/-- R63 step 6: the byte offset in the packet of the first field where a reserved header bit, the padding or the trailer is not 0, or MIRRORED is
set on another transport than the Shaesh link. A mirrored packet carries its EPOCH without EPOCH_CHECK (R53). -/
def reservedFault (via : Via) (bytes : List Byte) : Option Nat :=
  let f := leAt bytes 18 2
  let n := leAt bytes 20 4
  let mirrored := bitOf f 3
  let faults : List (Nat × Bool) := [(16, !zeroAt bytes 16 2), (18, decide (16 ≤ f) || (mirrored && via != .shaesh)),
    (24, !bitOf f 1 && !mirrored && !zeroAt bytes 24 4), (28, !zeroAt bytes 28 1), (29, !zeroAt bytes 29 1), (30, !zeroAt bytes 30 2),
    (32 + n, !zeroAt bytes (32 + n) (roundUp 8 n - n)), (36 + roundUp 8 n, !zeroAt bytes (36 + roundUp 8 n) 4)]
  (faults.find? Prod.snd).map Prod.fst

/-- R63: a packet's bytes are checked in the order of the table, and its command runs. -/
def runPacket (via : Via) (bytes : List Byte) (s : State) : State :=
  let h := runInstr.hdrOf via bytes
  let n := leAt bytes 20 4
  let op := leAt bytes 4 2
  match udpBad h op s with
  | some act => act s
  | none =>
    if leAt bytes 0 2 ≠ 0x5358 ∨ leAt bytes 3 1 ≠ 0 then { s with sys.discarded := s.sys.discarded + 1 }
    else if 4056 < n ∨ bytes.length ≠ 40 + roundUp 8 n then earlyReply via bytes 0x0104 s
    else if leAt bytes (32 + roundUp 8 n) 4 ≠ crc32c (bytes.take (32 + roundUp 8 n)) then earlyReply via bytes 0x0103 s
    else if leAt bytes 2 1 ≠ 1 then earlyReply via bytes 0x0108 s
    else match reservedFault via bytes, parseOp op h (runInstr.paramsOf bytes) with
      | some off, _ => refuseEarly { op := op, h := h, params := runInstr.paramsOf bytes } (refuse1 0x0102 0 off) s
      | none, .command i => runInstr i s
      | none, _ => runInstr (.packetRejected (.packet via bytes)) s

/-- The bytes of the words that stand at the front of a mailbox queue, up to the first end mark. -/
def mailBytes (p : Fin 4) (s : State) : List Byte :=
  let ws := (queue s (mailQueue p)).words
  let body := ws.takeWhile (fun w => !w.endm)
  (body ++ (ws.drop body.length).take 1).flatMap (fun w => leBytes 8 w.val)

/-- R49: the packet at the front of a mailbox queue bears an error mark. -/
def mailMarked (p : Fin 4) (s : State) : Bool :=
  let ws := (queue s (mailQueue p)).words
  (ws.take ((ws.takeWhile (fun w => !w.endm)).length + 1)).any QWord.err

/-- R49: a whole packet stands at the front of a mailbox queue. -/
def mailReady (p : Fin 4) (s : State) : Bool := (queue s (mailQueue p)).words.any QWord.endm

/-- R49, R63: the supervisor takes the packet at the front of a mailbox queue and runs it; one with an error mark is discarded and answered. -/
def takeMail (p : Fin 4) (s : State) : State :=
  let t := dropPacket (mailQueue p) s
  if mailMarked p s then earlyReply (.mailbox p) (mailBytes p s) 0x0109 t else runPacket (.mailbox p) (mailBytes p s) t

/-- R52, R54, R56: the command on HT still waits, is held, or has a reply that waits for the Shadow. -/
def htWaits (s : State) : Bool :=
  s.sys.inbox.any (fun e => e.1 == .ht) || (match session s 5 with | some x => !x.held.isEmpty | none => false) ||
    s.twin.mirrors.any (fun m => !m.acked && m.replies.any (fun r => r.via == .ht))

/-- R52: a command on HT that leaves no reply: the state is 0 again, or 2 where an earlier reply is unread. -/
def htSettle (via : Via) (s : State) : State :=
  if via = .ht && s.ht.state == 1 && !htWaits s then { s with ht.state := if s.ht.reply = [] then 0 else 2 } else s

/-- R63: the supervisor takes what a transport has delivered and runs it: a packet's bytes are checked from step 1 on, a command has passed the checks
before step 7. DESIGN CHOICE (log entry 125): the packet of a command that comes from a mailbox is its own, and leaves the words of the queue as they are. -/
def takePacket (via : Via) (i : Instr) (s : State) : State :=
  match i with
  | .packetRejected (.packet _ bytes) => htSettle via (runPacket via bytes s)
  | i => runInstr i s

/-! ### The order of commands (R56, R57) -/

/-- R56: a held command whose SEQ is now the expected one. -/
def readyHeld (s : State) : Option (Nat × Session × Held) :=
  s.sys.sessions.findSome? (fun p => (p.2.held.find? (fun e => e.cmd.h.seq == p.2.nextSeq)).map (fun e => (p.1, p.2, e)))

/-- R57: the place of a transport in a round: the Shaesh link first. DESIGN CHOICE (log entry 77): each mailbox pair is a transport of its own here. -/
def turnOf : Via → Nat
  | .shaesh => 0
  | .mailbox p => 1 + p.val
  | .udp _ _ _ => 5
  | .ht => 6

/-- R49, R57: what waits at a place of the round: the packet at the front of a mailbox queue (none), or the first command that has come there. -/
def waitingAt (s : State) (k : Nat) : Option (Via × Option Instr) :=
  match (List.finRange 4).find? (fun p => turnOf (.mailbox p) == k && mailReady p s) with
  | some p => some (.mailbox p, none)
  | none => (s.sys.inbox.find? (fun e => turnOf e.1 == k)).map (fun e => (e.1, some e.2))

/-- R57: the command that is served next: that of the first place, from the one that follows the transport served last, where one waits. -/
def nextWaiting (s : State) : Option (Via × Option Instr) := (List.range 7).findSome? (fun k => waitingAt s ((s.sys.turn + 1 + k) % 7))

/-- R56, R57: the supervisor runs one command: a held one whose gap has filled, or the next that waits. It waits itself while the reply to a mirrored
command has not been sent. -/
def serveOne (s : State) : Option State :=
  if replyWaits s then none
  else match readyHeld s with
    | some (k, x, e) =>
      let s := setSession k { x with held := x.held.filter (· ≠ e) } s
      let s := runInstr e.instr { s with sys.since := some (e.timeS, e.timeNs) }
      some (htSettle e.cmd.h.via { s with sys.since := none })
    | none => match nextWaiting s with
      | some (via, some i) =>
        some (takePacket via i { s with sys.inbox := s.sys.inbox.erase (via, i), sys.turn := turnOf via })
      | some (.mailbox p, none) => some (takeMail p { s with sys.turn := turnOf (.mailbox p) })
      | _ => none

/-- R57: commands run one at a time, until none is left or the supervisor waits. -/
def serve : Nat → State → State
  | 0, s => s
  | n + 1, s => match serveOne s with
    | some t => serve n t
    | none => s

/-- The commands held in all sessions. -/
def heldCount (s : State) : Nat := (s.sys.sessions.map (fun p => p.2.held.length)).sum

/-- R49, R57: the packets and commands that wait. -/
def waitingCount (s : State) : Nat :=
  s.sys.inbox.length + ((List.finRange 4).map (fun p => ((queue s (mailQueue p)).words.filter QWord.endm).length)).sum

/-- R56, R57: the supervisor runs what it can. Each that waits runs, or is held until another runs. -/
def serveAll (s : State) : State := if accepting s then serve (heldCount s + waitingCount s + (waitingCount s - 1)) s else s

/-- R49: a push that ends a packet in a mailbox command queue has the supervisor serve it. -/
def serveMail (q : Nat) (s : State) : State := if (List.finRange 4).any (fun p => mailQueue p == q && mailReady p s) then serveAll s else s

/-- R49, R381, R393: a write of Q_PUSH_HI. -/
def execQPushHi (a : Acc) (q : Fin 1024) (value : Word32) (s : State) : Host.Outcome State Fault Refusal :=
  .next (serveMail q.val (takeQPushHi a q.val value s))

/-- R49, R57: a command arrives on its transport and waits for the supervisor, which serves it at once unless it waits for an acknowledgement. -/
def accept (via : Via) (i : Instr) (s : State) : State :=
  let s := match via with | .udp _ _ _ => countRx 2 s | _ => s
  if !accepting s then s else serveAll { s with sys.inbox := s.sys.inbox ++ [(via, i)] }

/-- R50, R51: a datagram comes to MGT. One to another port than MGT_UDP_PORT is not for the supervisor; one whose ALG is not 1 or whose tag does not
verify fails authentication. DESIGN CHOICE (log entry 126): so does one whose reserved bytes in the security header are not 0. -/
def datagram (peer : Peer) (dst : Nat) (payload : List Byte) (s : State) : State :=
  if dst ≠ prmN s P.SYS_MGT_UDP_PORT then unclaimed 2 s
  else
    let slot := leAt payload 0 1
    let n := payload.length - 32
    let good := decide (40 ≤ payload.length) && leAt payload 1 1 == 1 && leAt payload 2 2 == 0 && decide (slot < 8) &&
      (hmac (s.sys.keys.get {} slot).key (payload.take n) == payload.drop n)
    let via := Via.udp peer slot (leAt payload 4 4)
    if good then accept via (.packetRejected (.packet via ((payload.take n).drop 8))) s
    else
      let s := countRx 2 s
      if (s.sys.auth.get {} peer.ip).blocked then s else authFailure peer.ip s

/-- R49, R50, R63: PACKET_REJECTED: a packet that fails a check is discarded or answered. -/
def execPacketRejected (p : BadPacket) (s : State) : Host.Outcome State Fault Refusal :=
  if !accepting s then .next s
  else match p with
  | .fragment => .next { countRx 2 s with netw.fragments := s.netw.fragments + 1 }
  | .errorMark pair => .next (if mailMarked pair s then serveAll s else s)
  | .datagram peer dst payload => .next (datagram peer dst payload s)
  | .packet via bytes => .next (accept via (.packetRejected (.packet via bytes)) s)

/-- R49: MAILBOX_END_MARK_MISSING: 512 words hold no end mark: they and all words up to the next end mark are discarded. -/
def execMailboxEndMarkMissing (pair : Fin 4) (s : State) : Host.Outcome State Fault Refusal :=
  let q := mailQueue pair
  let x := queue s q
  if !accepting s ∨ x.words.length < 512 ∨ (x.words.take 512).any QWord.endm = true then .next s
  else
    let reply := earlyReply (.mailbox pair) (mailBytes pair s) 0x0104
    if x.words.any QWord.endm then .next (reply (dropPacket q s))
    else .next (reply (setQueue q { x with words := [] } { s with sys.mailSkip := (q :: s.sys.mailSkip).dedup }))

/-- The packet in HT's command buffer, as long as its LENGTH tells. -/
def htPacket (s : State) : List Byte :=
  let byte := fun (k : Nat) => s.ht.cmd.get 0 k
  let n := ofLe ((List.range 4).map (fun k => byte (20 + k)))
  (List.range (if 4056 < n then 40 else 40 + roundUp 8 n)).map byte

/-- R52: HT_DOORBELL: the doorbell acts at the STOP. While a command is busy or its reply is unread it is ignored and sets overrun. -/
def execHtDoorbell (s : State) : Host.Outcome State Fault Refusal :=
  match s.ht.bell with
  | none => .next s
  | some _ =>
    let s := { s with ht.bell := none }
    if !accepting s then .next s
    else if s.ht.state = 1 ∨ s.ht.state = 2 then .next { s with ht.state := 3, ht.overruns := s.ht.overruns + 1 }
    else
      let s := raise 597 0 { s with ht.state := 1, ht.doorbells := s.ht.doorbells + 1 }
      .next (accept .ht (.packetRejected (.packet .ht (htPacket s))) s)

/-- R53: COMMAND: a Shadow acknowledges a mirrored packet and executes it as TWIN. -/
def execCommand (m : MsgHdr) (packet : List Byte) (s : State) : Host.Outcome State Fault Refusal :=
  .next (serveAll (acceptMsg m (fun s =>
    let s := sendAck s
    if s.twin.state == 5 || s.twin.state == 6 then accept .shaesh (.packetRejected (.packet .shaesh packet)) s else s) s))

/-! ### Completion (R59) -/

/-- R68, R121: the codes with which discovery can end: no link, or a camera that refuses or does not answer. -/
def discoverCodes : List Nat := [0x0703, 0x0704, 0x0705]

/-- R59: DEFERRED_COMPLETION: a deferred command that no event of its own ends completes: it stages what it read, commits an image, or returns what
was measured or found. -/
def execDeferredCompletion (session seq : Nat) (res : DeferredResult) (s : State) : Host.Outcome State Fault Refusal :=
  match findDeferred s session seq with
  | none => .next s
  | some d =>
    match d.cmd with
    | .stageBlockDma _ set id off len addr => .next (endStageDma d set id off len addr s)
    | .stageLoadSaved _ set item => .next (endLoadSaved d set item s)
    | .fwCommit _ len => .next (endFwCommit d len res s)
    | .eyeScan _ n => .next (endDeferred d 0 (eyeReply s n res.data) false 0 s)
    | .camDiscover _ p => .next (if res.status = 0 then endDeferred d 0 res.data false 0 s
      else failDeferred d (refuse1 (discoverCodes.getD ((res.status - 0x0703) % 3) 0x0705) 0 p) s)
    | _ => .next s

/-! ### The commands of R65 -/

/-- R55: SESSION_OPEN. -/
def execSessionOpen (h : Hdr) (pktSize idleMs : Nat) (s : State) : Host.Outcome State Fault Refusal :=
  .next (accept h.via (.sessionOpen h pktSize idleMs) s)

/-- R55: SESSION_CLOSE. -/
def execSessionClose (h : Hdr) (s : State) : Host.Outcome State Fault Refusal :=
  .next (accept h.via (.sessionClose h) s)

/-- R56: SESSION_RESYNC. -/
def execSessionResync (h : Hdr) (s : State) : Host.Outcome State Fault Refusal :=
  .next (accept h.via (.sessionResync h) s)

/-- R65: ECHO. -/
def execEcho (h : Hdr) (data : List Byte) (s : State) : Host.Outcome State Fault Refusal :=
  .next (accept h.via (.echo h data) s)

/-- R65: DEVICE_INFO. -/
def execDeviceInfo (h : Hdr) (s : State) : Host.Outcome State Fault Refusal :=
  .next (accept h.via (.deviceInfo h) s)

/-- R507: RESET. -/
def execReset (h : Hdr) (kind : Nat) (s : State) : Host.Outcome State Fault Refusal :=
  .next (accept h.via (.reset h kind) s)

/-- R61: CANCEL. -/
def execCancel (h : Hdr) (tag : Nat) (s : State) : Host.Outcome State Fault Refusal :=
  .next (accept h.via (.cancel h tag) s)

/-- R67: DETAIL_READ. -/
def execDetailRead (h : Hdr) (first : Nat) (s : State) : Host.Outcome State Fault Refusal :=
  .next (accept h.via (.detailRead h first) s)

/-- R73: STAGE_OPEN. -/
def execStageOpen (h : Hdr) (s : State) : Host.Outcome State Fault Refusal :=
  .next (accept h.via (.stageOpen h) s)

/-- R74: STAGE_WRITE. -/
def execStageWrite (h : Hdr) (set : Nat) (entries : List (Nat × Nat)) (s : State) : Host.Outcome State Fault Refusal :=
  .next (accept h.via (.stageWrite h set entries) s)

/-- R74: STAGE_READ. -/
def execStageRead (h : Hdr) (set : Nat) (ids : List Nat) (s : State) : Host.Outcome State Fault Refusal :=
  .next (accept h.via (.stageRead h set ids) s)

/-- R73: STAGE_DISCARD. -/
def execStageDiscard (h : Hdr) (set : Nat) (s : State) : Host.Outcome State Fault Refusal :=
  .next (accept h.via (.stageDiscard h set) s)

/-- R71: STAGE_BLOCK. -/
def execStageBlock (h : Hdr) (set id off : Nat) (data : List Byte) (s : State) : Host.Outcome State Fault Refusal :=
  .next (accept h.via (.stageBlock h set id off data) s)

/-- R71: STAGE_BLOCK_DMA. -/
def execStageBlockDma (h : Hdr) (set id off len addr : Nat) (s : State) : Host.Outcome State Fault Refusal :=
  .next (accept h.via (.stageBlockDma h set id off len addr) s)

/-- R76: STAGE_LOAD_SAVED. -/
def execStageLoadSaved (h : Hdr) (set item : Nat) (s : State) : Host.Outcome State Fault Refusal :=
  .next (accept h.via (.stageLoadSaved h set item) s)

/-- R76: STAGE_SAVE. -/
def execStageSave (h : Hdr) (item : Nat) (s : State) : Host.Outcome State Fault Refusal :=
  .next (accept h.via (.stageSave h item) s)

/-- R84: CINCH. -/
def execCinch (h : Hdr) (set btype axis mask value limitMs : Nat) (s : State) : Host.Outcome State Fault Refusal :=
  .next (accept h.via (.cinch h set btype axis mask value limitMs) s)

/-- R86: CINCH_CHECK. -/
def execCinchCheck (h : Hdr) (set : Nat) (s : State) : Host.Outcome State Fault Refusal :=
  .next (accept h.via (.cinchCheck h set) s)

/-- R71: PARAM_READ. -/
def execParamRead (h : Hdr) (ids : List Nat) (s : State) : Host.Outcome State Fault Refusal :=
  .next (accept h.via (.paramRead h ids) s)

/-- R65: STATUS_READ. -/
def execStatusRead (h : Hdr) (unit inst : Nat) (s : State) : Host.Outcome State Fault Refusal :=
  .next (accept h.via (.statusRead h unit inst) s)

/-- R65: COUNTERS_READ. -/
def execCountersRead (h : Hdr) (unit inst clear : Nat) (s : State) : Host.Outcome State Fault Refusal :=
  .next (accept h.via (.countersRead h unit inst clear) s)

/-- R485: TELEMETRY_READ. -/
def execTelemetryRead (h : Hdr) (s : State) : Host.Outcome State Fault Refusal :=
  .next (accept h.via (.telemetryRead h) s)

/-- R302: DIGEST_READ. -/
def execDigestRead (h : Hdr) (flow first count : Nat) (s : State) : Host.Outcome State Fault Refusal :=
  .next (accept h.via (.digestRead h flow first count) s)

/-- R96: LOG_READ. -/
def execLogRead (h : Hdr) (first count : Nat) (s : State) : Host.Outcome State Fault Refusal :=
  .next (accept h.via (.logRead h first count) s)

/-- R92: LOG_MARK. -/
def execLogMark (h : Hdr) (text : List Byte) (s : State) : Host.Outcome State Fault Refusal :=
  .next (accept h.via (.logMark h text) s)

/-- R97: LOG_PERSIST. -/
def execLogPersist (h : Hdr) (s : State) : Host.Outcome State Fault Refusal :=
  .next (accept h.via (.logPersist h) s)

/-- R487: TEST_RUN. -/
def execTestRun (h : Hdr) (test unit inst arg : Nat) (s : State) : Host.Outcome State Fault Refusal :=
  .next (accept h.via (.testRun h test unit inst arg) s)

/-- R487: CALIBRATE. -/
def execCalibrate (h : Hdr) (test unit inst arg : Nat) (s : State) : Host.Outcome State Fault Refusal :=
  .next (accept h.via (.calibrate h test unit inst arg) s)

/-- R110: PRBS_CONTROL. -/
def execPrbsControl (h : Hdr) (lane pattern mode injection rate : Nat) (s : State) : Host.Outcome State Fault Refusal :=
  .next (accept h.via (.prbsControl h lane pattern mode injection rate) s)

/-- R112: EYE_SCAN. -/
def execEyeScan (h : Hdr) (lane : Nat) (s : State) : Host.Outcome State Fault Refusal :=
  .next (accept h.via (.eyeScan h lane) s)

/-- R136: CAM_READ. -/
def execCamRead (h : Hdr) (port addr len : Nat) (s : State) : Host.Outcome State Fault Refusal :=
  .next (accept h.via (.camRead h port addr len) s)

/-- R136: CAM_WRITE. -/
def execCamWrite (h : Hdr) (port addr : Nat) (data : List Byte) (s : State) : Host.Outcome State Fault Refusal :=
  .next (accept h.via (.camWrite h port addr data) s)

/-- R121: CAM_DISCOVER. -/
def execCamDiscover (h : Hdr) (port : Nat) (s : State) : Host.Outcome State Fault Refusal :=
  .next (accept h.via (.camDiscover h port) s)

/-- R290: JOB_COMPRESS. -/
def execJobCompress (h : Hdr) (src len product pred source dst cap : Nat) (s : State) : Host.Outcome State Fault Refusal :=
  .next (accept h.via (.jobCompress h src len product pred source dst cap) s)

/-- R291: JOB_DECOMPRESS. -/
def execJobDecompress (h : Hdr) (src len dst cap : Nat) (s : State) : Host.Outcome State Fault Refusal :=
  .next (accept h.via (.jobDecompress h src len dst cap) s)

/-- R410: JOB_CRC. -/
def execJobCrc (h : Hdr) (preset addr len init : Nat) (s : State) : Host.Outcome State Fault Refusal :=
  .next (accept h.via (.jobCrc h preset addr len init) s)

/-- R355: TWIN_STATUS. -/
def execTwinStatus (h : Hdr) (s : State) : Host.Outcome State Fault Refusal :=
  .next (accept h.via (.twinStatus h) s)

/-- R351: TWIN_ATTACH. -/
def execTwinAttach (h : Hdr) (s : State) : Host.Outcome State Fault Refusal :=
  .next (accept h.via (.twinAttach h) s)

/-- R354: TWIN_DETACH. -/
def execTwinDetach (h : Hdr) (s : State) : Host.Outcome State Fault Refusal :=
  .next (accept h.via (.twinDetach h) s)

/-- R350: TWIN_YIELD. -/
def execTwinYield (h : Hdr) (s : State) : Host.Outcome State Fault Refusal :=
  .next (accept h.via (.twinYield h) s)

/-- R490: STORE_LIST. -/
def execStoreList (h : Hdr) (first count : Nat) (s : State) : Host.Outcome State Fault Refusal :=
  .next (accept h.via (.storeList h first count) s)

/-- R490: STORE_READ. -/
def execStoreRead (h : Hdr) (item off len : Nat) (s : State) : Host.Outcome State Fault Refusal :=
  .next (accept h.via (.storeRead h item off len) s)

/-- R490: STORE_WRITE. -/
def execStoreWrite (h : Hdr) (item off : Nat) (data : List Byte) (s : State) : Host.Outcome State Fault Refusal :=
  .next (accept h.via (.storeWrite h item off data) s)

/-- R65: STORE_ERASE. -/
def execStoreErase (h : Hdr) (item : Nat) (s : State) : Host.Outcome State Fault Refusal :=
  .next (accept h.via (.storeErase h item) s)

/-- R441: FW_STAGE. -/
def execFwStage (h : Hdr) (off : Nat) (data : List Byte) (s : State) : Host.Outcome State Fault Refusal :=
  .next (accept h.via (.fwStage h off data) s)

/-- R441: FW_COMMIT. -/
def execFwCommit (h : Hdr) (len : Nat) (s : State) : Host.Outcome State Fault Refusal :=
  .next (accept h.via (.fwCommit h len) s)

/-- R51: KEY_PROVISION. -/
def execKeyProvision (h : Hdr) (slot role : Nat) (key : List Byte) (s : State) : Host.Outcome State Fault Refusal :=
  .next (accept h.via (.keyProvision h slot role key) s)

/-- R51: KEY_REVOKE. -/
def execKeyRevoke (h : Hdr) (slot : Nat) (s : State) : Host.Outcome State Fault Refusal :=
  .next (accept h.via (.keyRevoke h slot) s)

/-- R481: POWER_STATUS. -/
def execPowerStatus (h : Hdr) (s : State) : Host.Outcome State Fault Refusal :=
  .next (accept h.via (.powerStatus h) s)

/-- R466: POWER_CAP_LIMIT. -/
def execPowerCapLimit (h : Hdr) (lowest : Nat) (s : State) : Host.Outcome State Fault Refusal :=
  .next (accept h.via (.powerCapLimit h lowest) s)

/-- R476: THERMAL_RESTART. -/
def execThermalRestart (h : Hdr) (s : State) : Host.Outcome State Fault Refusal :=
  .next (accept h.via (.thermalRestart h) s)

/-- R473: ORDERLY_STOP. -/
def execOrderlyStop (h : Hdr) (s : State) : Host.Outcome State Fault Refusal :=
  .next (accept h.via (.orderlyStop h) s)

end Sys2Proof.Machine
end

