-- ==== Sys2Proof/Machine/Shaesh.lean ====
section
/-! DEFINITION. Machine/Shaesh.lean: the messages of the Shaesh link, and what ends a wait for it. Each may acknowledge mirrored packets (R338), so that
the commands that waited for the replies (R57) run after it. -/
namespace Sys2Proof.Machine

/-- R332, R338: a HEARTBEAT is accepted. Equal UNIT_IDs are logged once. An Active whose peer is no longer in SHADOW is
ACTIVE, not PAIRED (R330). -/
def execHeartbeatReceived (hb : Heartbeat) (ack : Nat) (s : State) : Host.Outcome State Fault Refusal := .next (serveAll (takeHeartbeatReceived hb ack s))

/-- R338: an ACK message. -/
def execAck (ack : Nat) (s : State) : Host.Outcome State Fault Refusal := .next (serveAll (takeAck ack s))

/-- R338: a NAK makes the sender replay from the named message. -/
def execNak (expected : Nat) (ack : Nat) (s : State) : Host.Outcome State Fault Refusal := .next (serveAll (takeNak expected ack s))

/-- R54, R345: the Shadow's reply to a mirrored command; 0x0904 is a divergence. -/
def execReply (m : MsgHdr) (reply : Reply) (s : State) : Host.Outcome State Fault Refusal := .next (serveAll (takeReply m reply s))

/-- R54, R345: a mirrored packet has waited 1 ms for its acknowledgement: the Active replies and the Shadow is unhealthy. -/
def execMirrorAckTimeout (s : State) : Host.Outcome State Fault Refusal := .next (serveAll (takeMirrorAckTimeout s))

/-- R85: the Shadow has armed the mirrored set. -/
def execArmed (m : MsgHdr) (epoch : Nat) (s : State) : Host.Outcome State Fault Refusal := .next (serveAll (takeArmed m epoch s))

/-- R344: the Active's digests: an UNHEALTHY Shadow compares none (R345). -/
def execDigests (m : MsgHdr) (entries : List DigestEntry) (s : State) : Host.Outcome State Fault Refusal := .next (serveAll (takeDigests m entries s))

/-- R343: dispositions reach the Shadow, which acknowledges them within 1 µs. -/
def execDisposed (m : MsgHdr) (entries : List DisposedEntry) (s : State) : Host.Outcome State Fault Refusal := .next (serveAll (takeDisposed m entries s))

/-- R98: the Active's log entries enter the mirror ring of 262,144 entries. -/
def execLog (m : MsgHdr) (entries : List LogEntry) (s : State) : Host.Outcome State Fault Refusal := .next (serveAll (takeLog m entries s))

/-- R345: the Active receives a DIVERGENCE. -/
def execDivergence (m : MsgHdr) (e : DigestEntry) (own : Nat) (s : State) : Host.Outcome State Fault Refusal := .next (serveAll (takeDivergence m e own s))

/-- R350: the Shadow receives YIELD; it may take over as soon as the line is high. -/
def execYield (m : MsgHdr) (s : State) : Host.Outcome State Fault Refusal := .next (serveAll (takeYield m s))

/-- R354: the sender detaches: the receiver without the claim enters DETACHED, one with it ACTIVE. -/
def execDetach (m : MsgHdr) (s : State) : Host.Outcome State Fault Refusal := .next (serveAll (takeDetach m s))

/-- R342: an event of the Active acts at its named line on the Shadow. -/
def execEvent (m : MsgHdr) (consumer : Nat) (kind : Nat) (line : Nat) (s : State) : Host.Outcome State Fault Refusal := .next (serveAll (takeEvent m consumer kind line s))

/-- R336: a lane loses lock, or three marker periods pass without a marker. -/
def execShaeshLinkDown (s : State) : Host.Outcome State Fault Refusal := .next (serveAll (takeShaeshLinkDown s))

/-- R338: 50 µs without acknowledgement. -/
def execReplayTimeout (s : State) : Host.Outcome State Fault Refusal := .next (serveAll (takeReplayTimeout s))

/-- R346: 32 µs without a heartbeat. -/
def execTwinHbLost (s : State) : Host.Outcome State Fault Refusal := .next (serveAll (takeTwinHbLost s))

/-- R341: STAMPS: a stamp waits for its line; one for a line already delivered is discarded and counted. -/
def execStamps (m : MsgHdr) (port : Fin 16) (stamps : List Stamp) (s : State) : Host.Outcome State Fault Refusal := .next (serveAll (takeStamps m port stamps s))

/-- R340: WINDOW_WRITE: a forwarded write of a compare unit's register is executed as the same principal. -/
def execWindowWrite (m : MsgHdr) (principal : Principal) (addr : Nat) (value : Word32) (s : State) : Host.Outcome State Fault Refusal := .next (serveAll (takeWindowWrite m principal addr value s))

/-- R352: JOIN_REQ: an invitation to the device without the claim, or a request to the one that holds it. A DETACHED device takes no part in the pair. -/
def execJoinReq (m : MsgHdr) (s : State) : Host.Outcome State Fault Refusal := .next (serveAll (takeJoinReq m s))

/-- R352 step 7: JOIN_DONE: the Active is PAIRED, or the join has failed. -/
def execJoinDone (m : MsgHdr) (status : Nat) (_detail : Nat) (s : State) : Host.Outcome State Fault Refusal := .next (serveAll (takeJoinDone m status _detail s))

/-- R352: JOIN_DATA. -/
def execJoinData (m : MsgHdr) (items : List JoinItem) (s : State) : Host.Outcome State Fault Refusal := .next (serveAll (takeJoinData m items s))

end Sys2Proof.Machine
end

