-- ==== Sys2Proof/Machine/Dispatch.lean ====
section
/-! DEFINITION. Machine/Dispatch.lean: one arm per command. -/
namespace Sys2Proof.Machine
open Sys2Proof

/-- R57: the effect of one command on everything but the queue. -/
def exec (i : Instr) (s : State) : Host.Outcome State Fault Refusal :=
  match i with
  | .sessionOpen h pktSize idleMs => Sys2Proof.Machine.execSessionOpen h pktSize idleMs s
  | .sessionClose h => Sys2Proof.Machine.execSessionClose h s
  | .sessionResync h => Sys2Proof.Machine.execSessionResync h s
  | .echo h data => Sys2Proof.Machine.execEcho h data s
  | .deviceInfo h => Sys2Proof.Machine.execDeviceInfo h s
  | .reset h kind => Sys2Proof.Machine.execReset h kind s
  | .cancel h tag => Sys2Proof.Machine.execCancel h tag s
  | .detailRead h first => Sys2Proof.Machine.execDetailRead h first s
  | .stageOpen h => Sys2Proof.Machine.execStageOpen h s
  | .stageWrite h set entries => Sys2Proof.Machine.execStageWrite h set entries s
  | .stageRead h set ids => Sys2Proof.Machine.execStageRead h set ids s
  | .stageDiscard h set => Sys2Proof.Machine.execStageDiscard h set s
  | .stageBlock h set id off data => Sys2Proof.Machine.execStageBlock h set id off data s
  | .stageBlockDma h set id off len addr => Sys2Proof.Machine.execStageBlockDma h set id off len addr s
  | .stageLoadSaved h set item => Sys2Proof.Machine.execStageLoadSaved h set item s
  | .stageSave h item => Sys2Proof.Machine.execStageSave h item s
  | .cinch h set btype axis mask value limitMs => Sys2Proof.Machine.execCinch h set btype axis mask value limitMs s
  | .cinchCheck h set => Sys2Proof.Machine.execCinchCheck h set s
  | .paramRead h ids => Sys2Proof.Machine.execParamRead h ids s
  | .statusRead h unit inst => Sys2Proof.Machine.execStatusRead h unit inst s
  | .countersRead h unit inst clear => Sys2Proof.Machine.execCountersRead h unit inst clear s
  | .telemetryRead h => Sys2Proof.Machine.execTelemetryRead h s
  | .digestRead h flow first count => Sys2Proof.Machine.execDigestRead h flow first count s
  | .logRead h first count => Sys2Proof.Machine.execLogRead h first count s
  | .logMark h text => Sys2Proof.Machine.execLogMark h text s
  | .logPersist h => Sys2Proof.Machine.execLogPersist h s
  | .testRun h test unit inst arg => Sys2Proof.Machine.execTestRun h test unit inst arg s
  | .calibrate h test unit inst arg => Sys2Proof.Machine.execCalibrate h test unit inst arg s
  | .prbsControl h lane pattern mode injection rate => Sys2Proof.Machine.execPrbsControl h lane pattern mode injection rate s
  | .eyeScan h lane => Sys2Proof.Machine.execEyeScan h lane s
  | .camRead h port addr len => Sys2Proof.Machine.execCamRead h port addr len s
  | .camWrite h port addr data => Sys2Proof.Machine.execCamWrite h port addr data s
  | .camDiscover h port => Sys2Proof.Machine.execCamDiscover h port s
  | .jobCompress h src len product pred source dst cap => Sys2Proof.Machine.execJobCompress h src len product pred source dst cap s
  | .jobDecompress h src len dst cap => Sys2Proof.Machine.execJobDecompress h src len dst cap s
  | .jobCrc h preset addr len init => Sys2Proof.Machine.execJobCrc h preset addr len init s
  | .twinStatus h => Sys2Proof.Machine.execTwinStatus h s
  | .twinAttach h => Sys2Proof.Machine.execTwinAttach h s
  | .twinDetach h => Sys2Proof.Machine.execTwinDetach h s
  | .twinYield h => Sys2Proof.Machine.execTwinYield h s
  | .storeList h first count => Sys2Proof.Machine.execStoreList h first count s
  | .storeRead h item off len => Sys2Proof.Machine.execStoreRead h item off len s
  | .storeWrite h item off data => Sys2Proof.Machine.execStoreWrite h item off data s
  | .storeErase h item => Sys2Proof.Machine.execStoreErase h item s
  | .fwStage h off data => Sys2Proof.Machine.execFwStage h off data s
  | .fwCommit h len => Sys2Proof.Machine.execFwCommit h len s
  | .keyProvision h slot role key => Sys2Proof.Machine.execKeyProvision h slot role key s
  | .keyRevoke h slot => Sys2Proof.Machine.execKeyRevoke h slot s
  | .powerStatus h => Sys2Proof.Machine.execPowerStatus h s
  | .powerCapLimit h lowest => Sys2Proof.Machine.execPowerCapLimit h lowest s
  | .thermalRestart h => Sys2Proof.Machine.execThermalRestart h s
  | .orderlyStop h => Sys2Proof.Machine.execOrderlyStop h s
  | .packetRejected p => Sys2Proof.Machine.execPacketRejected p s
  | .mailboxEndMarkMissing pair => Sys2Proof.Machine.execMailboxEndMarkMissing pair s
  | .udpAuthFailure addr => Sys2Proof.Machine.execUdpAuthFailure addr s
  | .seqHoldTimeout session => Sys2Proof.Machine.execSeqHoldTimeout session s
  | .sessionIdleTimeout session => Sys2Proof.Machine.execSessionIdleTimeout session s
  | .authBlockExpiry addr => Sys2Proof.Machine.execAuthBlockExpiry addr s
  | .deferredTimeLimit session seq => Sys2Proof.Machine.execDeferredTimeLimit session seq s
  | .deferredCompletion session seq res => Sys2Proof.Machine.execDeferredCompletion session seq res s
  | .logRegisterWindowClose principal addr => Sys2Proof.Machine.execLogRegisterWindowClose principal addr s
  | .loggedRegisterWrite principal addr value => Sys2Proof.Machine.execLoggedRegisterWrite principal addr value s
  | .laneSignalDetect lane => Sys2Proof.Machine.execLaneSignalDetect lane s
  | .laneSignalLoss lane => Sys2Proof.Machine.execLaneSignalLoss lane s
  | .laneBiasSettled lane => Sys2Proof.Machine.execLaneBiasSettled lane s
  | .fullAdaptationDone lane eyeOpen ctle dfe => Sys2Proof.Machine.execFullAdaptationDone lane eyeOpen ctle dfe s
  | .laneLossOfLock lane => Sys2Proof.Machine.execLaneLossOfLock lane s
  | .laneIdleMax lane => Sys2Proof.Machine.execLaneIdleMax lane s
  | .relockDone lane confirmed => Sys2Proof.Machine.execRelockDone lane confirmed s
  | .adaptationStep lane dCtle tap dTap => Sys2Proof.Machine.execAdaptationStep lane dCtle tap dTap s
  | .wordAlignmentGained lane => Sys2Proof.Machine.execWordAlignmentGained lane s
  | .alignLost lane => Sys2Proof.Machine.execAlignLost lane s
  | .bitslip a lane => Sys2Proof.Machine.execBitslip a lane s
  | .snap a w errs bits => Sys2Proof.Machine.execSnap a w errs bits s
  | .cntClear a w => Sys2Proof.Machine.execCntClear a w s
  | .comparatorWindowEnd lane hits invHits => Sys2Proof.Machine.execComparatorWindowEnd lane hits invHits s
  | .prbsSyncLoss lane errs bits => Sys2Proof.Machine.execPrbsSyncLoss lane errs bits s
  | .prbsSyncGained lane => Sys2Proof.Machine.execPrbsSyncGained lane s
  | .portLinkEstablishment port accepted => Sys2Proof.Machine.execPortLinkEstablishment port accepted s
  | .linkDown port => Sys2Proof.Machine.execLinkDown port s
  | .linkRetry port => Sys2Proof.Machine.execLinkRetry port s
  | .streamDataPacket port payload crcOk codeOk place => Sys2Proof.Machine.execStreamDataPacket port payload crcOk codeOk place s
  | .rectangularImageHeader port xsize ysize bits comps => Sys2Proof.Machine.execRectangularImageHeader port xsize ysize bits comps s
  | .lineMarker port => Sys2Proof.Machine.execLineMarker port s
  | .controlAcknowledgement port tag waitMs refused data => Sys2Proof.Machine.execControlAcknowledgement port tag waitMs refused data s
  | .triggerPacketReceived port => Sys2Proof.Machine.execTriggerPacketReceived port s
  | .triggerAcknowledgement port => Sys2Proof.Machine.execTriggerAcknowledgement port s
  | .heartbeat port => Sys2Proof.Machine.execHeartbeat port s
  | .eventPacket port payload => Sys2Proof.Machine.execEventPacket port payload s
  | .testPacket port => Sys2Proof.Machine.execTestPacket port s
  | .unknownPacket port => Sys2Proof.Machine.execUnknownPacket port s
  | .rawLineSegment port k seg => Sys2Proof.Machine.execRawLineSegment port k seg s
  | .controlReply port tag status m => Sys2Proof.Machine.execControlReply port tag status m s
  | .rawEventSegment port m => Sys2Proof.Machine.execRawEventSegment port m s
  | .lineDueTrigger port => Sys2Proof.Machine.execLineDueTrigger port s
  | .freeRunDue port => Sys2Proof.Machine.execFreeRunDue port s
  | .lineTimeout port => Sys2Proof.Machine.execLineTimeout port s
  | .portLineAssembled port => Sys2Proof.Machine.execPortLineAssembled port s
  | .portLineDelivered line => Sys2Proof.Machine.execPortLineDelivered line s
  | .longFrameHoldEnd port => Sys2Proof.Machine.execLongFrameHoldEnd port s
  | .heartbeatLost port => Sys2Proof.Machine.execHeartbeatLost port s
  | .camsetSend port => Sys2Proof.Machine.execCamsetSend port s
  | .camsetFail port timeout => Sys2Proof.Machine.execCamsetFail port timeout s
  | .camAccessTimeout port tag => Sys2Proof.Machine.execCamAccessTimeout port tag s
  | .quadratureEdge axis ab => Sys2Proof.Machine.execQuadratureEdge axis ab s
  | .illegalTransition axis => Sys2Proof.Machine.execIllegalTransition axis s
  | .encIndex axis => Sys2Proof.Machine.execEncIndex axis s
  | .ssiRead axis word => Sys2Proof.Machine.execSsiRead axis word s
  | .observerUpdate axis => Sys2Proof.Machine.execObserverUpdate axis s
  | .encStill axis => Sys2Proof.Machine.execEncStill axis s
  | .validSettled axis => Sys2Proof.Machine.execValidSettled axis s
  | .ltgTimerStep ltg => Sys2Proof.Machine.execLtgTimerStep ltg s
  | .ltgHeldIssue ltg => Sys2Proof.Machine.execLtgHeldIssue ltg s
  | .pcPulseEnd pc => Sys2Proof.Machine.execPcPulseEnd pc s
  | .pcInsCmd a pc value => Sys2Proof.Machine.execPcInsCmd a pc value s
  | .clear a pc => Sys2Proof.Machine.execClear a pc s
  | .delete a pc tag => Sys2Proof.Machine.execDelete a pc tag s
  | .pcFiredRead a pc => Sys2Proof.Machine.execPcFiredRead a pc s
  | .pcMissedRead a pc => Sys2Proof.Machine.execPcMissedRead a pc s
  | .axPosCapture a axis => Sys2Proof.Machine.execAxPosCapture a axis s
  | .stripLine strip soft hard upset => Sys2Proof.Machine.execStripLine strip soft hard upset s
  | .shadeUpdate strip => Sys2Proof.Machine.execShadeUpdate strip s
  | .calibLoad strip => Sys2Proof.Machine.execCalibLoad strip s
  | .colourLine strip upset => Sys2Proof.Machine.execColourLine strip upset s
  | .stchDelayWrite port => Sys2Proof.Machine.execStchDelayWrite port s
  | .stitchedLine readErr upset => Sys2Proof.Machine.execStitchedLine readErr upset s
  | .areaComposition readErr upset => Sys2Proof.Machine.execAreaComposition readErr upset s
  | .composeLate port => Sys2Proof.Machine.execComposeLate port s
  | .segmLine ecc upset => Sys2Proof.Machine.execSegmLine ecc upset s
  | .unitFormed f => Sys2Proof.Machine.execUnitFormed f s
  | .logUnitTimeout f => Sys2Proof.Machine.execLogUnitTimeout f s
  | .engineStop e inDone outDone => Sys2Proof.Machine.execEngineStop e inDone outDone s
  | .engineResume e => Sys2Proof.Machine.execEngineResume e s
  | .codingDone e => Sys2Proof.Machine.execCodingDone e s
  | .engineOutOfService e => Sys2Proof.Machine.execEngineOutOfService e s
  | .jobTimeout session seq => Sys2Proof.Machine.execJobTimeout session seq s
  | .segmentSend port => Sys2Proof.Machine.execSegmentSend port s
  | .netLink port up => Sys2Proof.Machine.execNetLink port up s
  | .pauseFrameReceived port pfc stop go => Sys2Proof.Machine.execPauseFrameReceived port pfc stop go s
  | .pauseExpiry port prio => Sys2Proof.Machine.execPauseExpiry port prio s
  | .arpRequest port v6 ask => Sys2Proof.Machine.execArpRequest port v6 ask s
  | .icmpEchoRequest port v6 ask => Sys2Proof.Machine.execIcmpEchoRequest port v6 ask s
  | .frameDiscarded port f => Sys2Proof.Machine.execFrameDiscarded port f s
  | .announce port m d => Sys2Proof.Machine.execAnnounce port m d s
  | .sync port m twoStep origin => Sys2Proof.Machine.execSync port m twoStep origin s
  | .followUp port m origin => Sys2Proof.Machine.execFollowUp port m origin s
  | .delayReq port m => Sys2Proof.Machine.execDelayReq port m s
  | .delayResp port m receipt => Sys2Proof.Machine.execDelayResp port m receipt s
  | .pdelayReq port m => Sys2Proof.Machine.execPdelayReq port m s
  | .pdelayResp port m followUp twoStep time => Sys2Proof.Machine.execPdelayResp port m followUp twoStep time s
  | .announceReceiptTimeout port => Sys2Proof.Machine.execAnnounceReceiptTimeout port s
  | .ptpMessageInterval port typ => Sys2Proof.Machine.execPtpMessageInterval port typ s
  | .twinClaiming lineHigh => Sys2Proof.Machine.execTwinClaiming lineHigh s
  | .heartbeatReceived hb ack => Sys2Proof.Machine.execHeartbeatReceived hb ack s
  | .ack ack => Sys2Proof.Machine.execAck ack s
  | .nak expected ack => Sys2Proof.Machine.execNak expected ack s
  | .command m packet => Sys2Proof.Machine.execCommand m packet s
  | .reply m reply => Sys2Proof.Machine.execReply m reply s
  | .armed m epoch => Sys2Proof.Machine.execArmed m epoch s
  | .windowWrite m principal addr value => Sys2Proof.Machine.execWindowWrite m principal addr value s
  | .stamps m port stamps => Sys2Proof.Machine.execStamps m port stamps s
  | .adoptWaitExpiry slot => Sys2Proof.Machine.execAdoptWaitExpiry slot s
  | .event m consumer kind line => Sys2Proof.Machine.execEvent m consumer kind line s
  | .digests m entries => Sys2Proof.Machine.execDigests m entries s
  | .disposed m entries => Sys2Proof.Machine.execDisposed m entries s
  | .log m entries => Sys2Proof.Machine.execLog m entries s
  | .divergence m e own => Sys2Proof.Machine.execDivergence m e own s
  | .yield m => Sys2Proof.Machine.execYield m s
  | .detach m => Sys2Proof.Machine.execDetach m s
  | .joinReq m => Sys2Proof.Machine.execJoinReq m s
  | .joinData m items => Sys2Proof.Machine.execJoinData m items s
  | .joinDone m status detail => Sys2Proof.Machine.execJoinDone m status detail s
  | .memoryTransaction ch waiting => Sys2Proof.Machine.execMemoryTransaction ch waiting s
  | .refreshInterval ch bk burst idle => Sys2Proof.Machine.execRefreshInterval ch bk burst idle s
  | .mr4Read pkg rate hot => Sys2Proof.Machine.execMr4Read pkg rate hot s
  | .rhWindowEnd ch => Sys2Proof.Machine.execRhWindowEnd ch s
  | .memPanic r ch lag => Sys2Proof.Machine.execMemPanic r ch lag s
  | .panicExit r lags => Sys2Proof.Machine.execPanicExit r lags s
  | .retrainStart ch => Sys2Proof.Machine.execRetrainStart ch s
  | .retrainDone ch eye => Sys2Proof.Machine.execRetrainDone ch eye s
  | .mcErrHiRead a ch => Sys2Proof.Machine.execMcErrHiRead a ch s
  | .rtpStatusRead a r => Sys2Proof.Machine.execRtpStatusRead a r s
  | .qPushHi a q value => Sys2Proof.Machine.execQPushHi a q value s
  | .qPopLo a q => Sys2Proof.Machine.execQPopLo a q s
  | .flush a q unitMid beatsLeft => Sys2Proof.Machine.execFlush a q unitMid beatsLeft s
  | .unitQueuePush q words => Sys2Proof.Machine.execUnitQueuePush q words s
  | .queueTimeout q => Sys2Proof.Machine.execQueueTimeout q s
  | .start a chan ctrl => Sys2Proof.Machine.execStart a chan ctrl s
  | .stop a w => Sys2Proof.Machine.execStop a w s
  | .dmaBurstComplete chan => Sys2Proof.Machine.execDmaBurstComplete chan s
  | .preset a unit value => Sys2Proof.Machine.execPreset a unit value s
  | .init a unit => Sys2Proof.Machine.execInit a unit s
  | .ckStateCapture a unit => Sys2Proof.Machine.execCkStateCapture a unit s
  | .ckStateRestore a unit hi value => Sys2Proof.Machine.execCkStateRestore a unit hi value s
  | .crcFeed unit => Sys2Proof.Machine.execCrcFeed unit s
  | .chkEccHiRead a => Sys2Proof.Machine.execChkEccHiRead a s
  | .chkEccUe memory index place => Sys2Proof.Machine.execChkEccUe memory index place s
  | .chkEccCe memory index => Sys2Proof.Machine.execChkEccCe memory index s
  | .eventRouted n => Sys2Proof.Machine.execEventRouted n s
  | .gpxEdge pin high => Sys2Proof.Machine.execGpxEdge pin high s
  | .gpxPulseEnd pin => Sys2Proof.Machine.execGpxPulseEnd pin s
  | .rnFire a rein value => Sys2Proof.Machine.execRnFire a rein value s
  | .rgEnable a mask => Sys2Proof.Machine.execRgEnable a mask s
  | .rgDisable a mask => Sys2Proof.Machine.execRgDisable a mask s
  | .swFire a value => Sys2Proof.Machine.execSwFire a value s
  | .ccInputClear input => Sys2Proof.Machine.execCcInputClear input s
  | .acWorldSet a core machine value => Sys2Proof.Machine.execAcWorldSet a core machine value s
  | .acIpWrite a core value => Sys2Proof.Machine.execAcIpWrite a core value s
  | .timerInterrupt core => Sys2Proof.Machine.execTimerInterrupt core s
  | .msip a core value => Sys2Proof.Machine.execMsip a core value s
  | .mtimeCapture a => Sys2Proof.Machine.execMtimeCapture a s
  | .refuseInfoRead a => Sys2Proof.Machine.execRefuseInfoRead a s
  | .windowAccess a write aligned addr value => Sys2Proof.Machine.execWindowAccess a write aligned addr value s
  | .dramAccessRefused a addr len write => Sys2Proof.Machine.execDramAccessRefused a addr len write s
  | .coreBoot hdr => Sys2Proof.Machine.execCoreBoot hdr s
  | .coreLoaderDone body digest signature => Sys2Proof.Machine.execCoreLoaderDone body digest signature s
  | .debugUnlock request good => Sys2Proof.Machine.execDebugUnlock request good s
  | .go a ch cmd => Sys2Proof.Machine.execGo a ch cmd s
  | .twbClear a ch cmd => Sys2Proof.Machine.execTwbClear a ch cmd s
  | .twbReset a ch cmd => Sys2Proof.Machine.execTwbReset a ch cmd s
  | .twDone ch result acked data => Sys2Proof.Machine.execTwDone ch result acked data s
  | .twArbLost ch byte => Sys2Proof.Machine.execTwArbLost ch byte s
  | .twTimeout ch sda scl atStart => Sys2Proof.Machine.execTwTimeout ch sda scl atStart s
  | .cureDone ch freed => Sys2Proof.Machine.execCureDone ch freed s
  | .twAlert ch low answer => Sys2Proof.Machine.execTwAlert ch low answer s
  | .twAlertRead a ch => Sys2Proof.Machine.execTwAlertRead a ch s
  | .busFree ch => Sys2Proof.Machine.execBusFree ch s
  | .htAddress addr reading again => Sys2Proof.Machine.execHtAddress addr reading again s
  | .htWriteByte value => Sys2Proof.Machine.execHtWriteByte value s
  | .htAlertResponse wins => Sys2Proof.Machine.execHtAlertResponse wins s
  | .sensorReading codes => Sys2Proof.Machine.execSensorReading codes s
  | .dramScrub which flips => Sys2Proof.Machine.execDramScrub which flips s
  | .sramScrub corrected found => Sys2Proof.Machine.execSramScrub corrected found s
  | .eyeTracking horizontal vertical => Sys2Proof.Machine.execEyeTracking horizontal vertical s
  | .retrainPeriod ch => Sys2Proof.Machine.execRetrainPeriod ch s
  | .gapWindowTest unit inst => Sys2Proof.Machine.execGapWindowTest unit inst s
  | .testDone unit inst outcome usecs detail measured => Sys2Proof.Machine.execTestDone unit inst outcome usecs detail measured s
  | .storeBlockDone good => Sys2Proof.Machine.execStoreBlockDone good s
  | .pendingCompletion item => Sys2Proof.Machine.execPendingCompletion item s
  | .porstNRelease banks => Sys2Proof.Machine.execPorstNRelease banks s
  | .synthesiserLock clk m => Sys2Proof.Machine.execSynthesiserLock clk m s
  | .bootRom descA descB => Sys2Proof.Machine.execBootRom descA descB s
  | .imageLoaded hdr good => Sys2Proof.Machine.execImageLoaded hdr good s
  | .trigPulseEnd port => Sys2Proof.Machine.execTrigPulseEnd port s
  | .ptpMessageDiscarded port => Sys2Proof.Machine.execPtpMessageDiscarded port s
  | .claimConflictWindow elapsed => Sys2Proof.Machine.execClaimConflictWindow elapsed s
  | .shaeshMessageRejected frame => Sys2Proof.Machine.execShaeshMessageRejected frame s
  | .digestUnmatchedTimeout e => Sys2Proof.Machine.execDigestUnmatchedTimeout e s
  | .joinAlignment counts => Sys2Proof.Machine.execJoinAlignment counts s
  | .joinCapture stitched => Sys2Proof.Machine.execJoinCapture stitched s
  | .elasticOverflow f => Sys2Proof.Machine.execElasticOverflow f s
  | .retrainReadAheadFull ch => Sys2Proof.Machine.execRetrainReadAheadFull ch s
  | .retrainAbandoned ch => Sys2Proof.Machine.execRetrainAbandoned ch s
  | .l2EccError cluster index line uncorr dirty => Sys2Proof.Machine.execL2EccError cluster index line uncorr dirty s
  | .restartDramHeld good => Sys2Proof.Machine.execRestartDramHeld good s
  | .htDoorbell => Sys2Proof.Machine.execHtDoorbell s
  | .htReplyConsumed => Sys2Proof.Machine.execHtReplyConsumed s
  | .cinchArmed => Sys2Proof.Machine.execCinchArmed s
  | .cinchFire => Sys2Proof.Machine.execCinchFire s
  | .cinchFinish => Sys2Proof.Machine.execCinchFinish s
  | .cinchTimeLimit => Sys2Proof.Machine.execCinchTimeLimit s
  | .logPersistPeriod => Sys2Proof.Machine.execLogPersistPeriod s
  | .logPersistRetry => Sys2Proof.Machine.execLogPersistRetry s
  | .recordFormed => Sys2Proof.Machine.execRecordFormed s
  | .patchCut => Sys2Proof.Machine.execPatchCut s
  | .engineTakesUnit => Sys2Proof.Machine.execEngineTakesUnit s
  | .timekeeperTick => Sys2Proof.Machine.execTimekeeperTick s
  | .claimSettleExpiry => Sys2Proof.Machine.execClaimSettleExpiry s
  | .claimTimerExpiry => Sys2Proof.Machine.execClaimTimerExpiry s
  | .claimRefresh => Sys2Proof.Machine.execClaimRefresh s
  | .shaeshLinkUp => Sys2Proof.Machine.execShaeshLinkUp s
  | .shaeshLinkDown => Sys2Proof.Machine.execShaeshLinkDown s
  | .heartbeatSend => Sys2Proof.Machine.execHeartbeatSend s
  | .replayTimeout => Sys2Proof.Machine.execReplayTimeout s
  | .mirrorAckTimeout => Sys2Proof.Machine.execMirrorAckTimeout s
  | .joinRetry => Sys2Proof.Machine.execJoinRetry s
  | .twinHbLost => Sys2Proof.Machine.execTwinHbLost s
  | .takeover => Sys2Proof.Machine.execTakeover s
  | .zqLatch => Sys2Proof.Machine.execZqLatch s
  | .dmaBurstDecision => Sys2Proof.Machine.execDmaBurstDecision s
  | .htReadByte => Sys2Proof.Machine.execHtReadByte s
  | .htHostHold => Sys2Proof.Machine.execHtHostHold s
  | .riseWindow => Sys2Proof.Machine.execRiseWindow s
  | .siteCrossCheck => Sys2Proof.Machine.execSiteCrossCheck s
  | .thetaStepPeriod => Sys2Proof.Machine.execThetaStepPeriod s
  | .thetaRecover => Sys2Proof.Machine.execThetaRecover s
  | .powerEstimate => Sys2Proof.Machine.execPowerEstimate s
  | .orderlyStopStep => Sys2Proof.Machine.execOrderlyStopStep s
  | .quadBias => Sys2Proof.Machine.execQuadBias s
  | .stripUngate => Sys2Proof.Machine.execStripUngate s
  | .wearLevelling => Sys2Proof.Machine.execWearLevelling s
  | .teleSnap => Sys2Proof.Machine.execTeleSnap s
  | .porstNAssert => Sys2Proof.Machine.execPorstNAssert s
  | .powerDomainUp => Sys2Proof.Machine.execPowerDomainUp s
  | .bootFailed => Sys2Proof.Machine.execBootFailed s
  | .storeMounted => Sys2Proof.Machine.execStoreMounted s
  | .dramInitialised => Sys2Proof.Machine.execDramInitialised s
  | .bootSetCinch => Sys2Proof.Machine.execBootSetCinch s
  | .joinAlignmentTimeout => Sys2Proof.Machine.execJoinAlignmentTimeout s

end Sys2Proof.Machine
end

