-- ==== Sys2Proof/Safety.lean ====
section
/-! DEFINITION. Safety.lean: the terms in which statements are made: what every state keeps, and what a log entry may change. -/
namespace Sys2Proof.Machine

/-- The canonical form of memory (Machine/Memory.lean). -/
def State.memOk (s : State) : Prop := s.mem.wf = true

/-- `s`, with what a log entry may change taken from `t`: the log, the flows that carry the LOG product (R92), and the messages
that mirror it (R98). -/
def State.logged (s t : State) : State :=
  { s with sys.log := t.sys.log, netw.flows := t.netw.flows, twin.sent := t.twin.sent, twin.replay := t.twin.replay, twin.txNext := t.twin.txNext
           twin.waiting := t.twin.waiting }

/-- R48, R55: the session in which a command runs. -/
def State.sess (s : State) (h : Hdr) : Session := (sessionFits h s).getD { via := h.via }

/-- R57: a command has arrived on its transport, whose turn it is. -/
def State.arrived (s : State) (via : Via) : State :=
  let s := match via with | .udp _ _ _ => countRx 2 s | _ => s
  { s with sys.inbox := [], sys.turn := turnOf via }

/-- R55, R56, R64, R67: the state once a command with the expected SEQ has been taken: its
SEQ and one command of the rate allowance are used, and the detail block is dropped but for DETAIL_READ. -/
def State.taken (s : State) (op : Nat) (h : Hdr) : State :=
  let t := s.arrived h.via
  let x := refillTokens (s.sess h) t
  setSession h.session { x with nextSeq := if op = 0x0003 then x.nextSeq else nextSeq h.seq, tokens := x.tokens - 1000000000, detail := if op = 0x0008 then x.detail else none } t

/-- R63: a packet passes every check that does not depend on its parameters: the device accepts commands, the datagram is
authentic, the session fits the transport and expects this SEQ, the allowance suffices, the opcode is open to the sender,
reserved fields are 0, the thermal state lets it run, the epoch named is the current one; and no other command or mailbox packet is
held or waits, nor does the supervisor wait for the peer. -/
structure State.Ready (s : State) (op : Nat) (h : Hdr) : Prop where
  accepts  : accepting s = true
  heard    : (udpBad h op s).isNone = true
  session  : (sessionFits h s).isSome = true
  opened   : op = 0x0001 → h.session ≠ 0
  seq      : op = 0x0003 ∨ (s.sess h).nextSeq = h.seq
  rate     : h.session < 0x10000 ∨ 1000000000 ≤ (refillTokens (s.sess h) s).tokens
  permits  : permit { op := op, h := h } (s.sess h).role s = none
  reserved : h.reserved = none
  runs     : stopRefuses op s = false
  epoch    : h.epochCheck = true → h.epoch = s.sys.epoch
  held     : heldCount s = 0
  alone    : s.sys.inbox = []
  idle     : replyWaits s = false
  mail     : ∀ p, mailReady p s = false

/-- R59: a session and the device can take one more deferred command. -/
def State.mayDefer (s : State) (h : Hdr) : Prop := deferredOf s h.session < 16 ∧ s.sys.deferred.length < 64

/-- R53, R59, R62: `t`, after a command's effect, with its mirrored packet and its final reply with status 0. -/
def State.answer (t : State) (c : Cmd) (params : List Byte) (more : Bool) (value : Nat) : State :=
  finish c 0 params more value (mirrorCmd c 0 t.sys.epoch [] t)

/-- R53, R59: `t`, after a command's acceptance, with its mirrored packet, the deferred command and its interim reply. -/
def State.defers (t : State) (i : Instr) (c : Cmd) (role : Nat) : State :=
  deferCmd i c role (mirrorCmd c 1 t.sys.epoch [] t)

/-- R434, R438: a principal other than DBG accesses a window, or DBG while it is unlocked. -/
def State.accessible (s : State) (a : Acc) : Prop := a.principal ≠ .dbg ∨ s.core.unlocked = true

/-- R338: a sequenced message comes in its order over a link that is UP. -/
def State.inOrder (s : State) (m : MsgHdr) : Prop := s.twin.link = 2 ∧ m.mseq = (processAck m.ack s).twin.rxExpect

/-- R338: the state once a message has come in its order: its ACK counts, and it is the last one taken, the next number being expected. -/
def State.received (s : State) (m : MsgHdr) : State := { processAck m.ack s with twin.rxExpect := nextMseq (processAck m.ack s).twin.rxExpect, twin.rxLast := m.mseq }

/-- R54, R57, R338, R350: nothing waits for the peer's acknowledgement, and no command or mailbox packet waits or is held. -/
def State.unwaited (s : State) : Prop :=
  s.twin.replay = [] ∧ s.twin.waiting = [] ∧ s.twin.mirrors = [] ∧ s.twin.yielding = none ∧ s.sys.inbox = [] ∧ heldCount s = 0 ∧ ∀ p, mailReady p s = false

end Sys2Proof.Machine
end

