-- ==== Sys2Proof/WellFormed.lean ====
section
/-! DEFINITION. WellFormed.lean: which operands a command can carry: every number fits the field that the spec gives it (the
fields of R9, R46, R65 and R338, registers of 32 bits, bodies bounded by a packet's parameter field of 4,056 bytes). -/
namespace Sys2Proof

/-- A number fits a field of `n` bits. -/
def fits (n x : Nat) : Bool := decide (x < 2 ^ n)

/-- R50: the addresses of a frame's sender fit their fields. -/
def Peer.wf (p : Peer) : Bool := fits 48 p.mac && fits 128 p.ip && fits 16 p.port

/-- R296: the address asked for and the sender of a request fit their fields. -/
def AddressAsk.wf (x : AddressAsk) : Bool := fits 128 x.addr && x.peer.wf

/-- R296: the fields of an echo request fit, and its data a frame. -/
def EchoAsk.wf (x : EchoAsk) : Bool := fits 128 x.addr && fits 32 x.ident && decide (x.data.length ≤ 9216) && x.peer.wf

/-- R124: a word as received has at most 64 bits, four characters or a sync header of two bits. -/
def RawWord.wf (x : RawWord) : Bool := fits 64 x.bits && fits 4 x.ctl && decide (x.errs ≤ 4)

/-- R124: LINE_COUNT, WORD_COUNT, the words and the CRC word fit their fields. -/
def RawSegment.wf (x : RawSegment) : Bool := fits 24 x.count && fits 32 x.wordCount && x.words.all (fits 32) && x.crc.all (fits 32) && x.wire.all RawWord.wf

/-- R125, R126: LINE_COUNT and the CRC word of a message fit their fields. -/
def RawMessage.wf (x : RawMessage) : Bool := fits 24 x.count && x.crc.all (fits 32)

/-- R404: the samples that the consumers of step 5 read have 16 bits. -/
def LineUpset.readsWf {α : Type} (x : LineUpset α) : Bool := x.prof.all (fun e => fits 16 e.2) && x.former.all (fun e => fits 16 e.2)

/-- R404: the bytes that the unit former reads are bytes. -/
def PortRead.wf (x : PortRead) : Bool := x.former.all (fun e => fits 8 e.2)

/-- R365: a real-time port has sixteen slices. -/
def SliceFill.wf (x : SliceFill) : Bool := decide (x.bytes.length = 16)

/-- R122: a packet tag is a byte. -/
def StreamPlace.wf (x : StreamPlace) : Bool := fits 8 x.tag

/-- R48, R50: the sender of a datagram, its key slot and its NONCE fit their fields. -/
def Via.wf : Via → Bool
  | .udp p slot nonce => p.wf && fits 8 slot && fits 32 nonce
  | _ => true

/-- R46: the header fields fit; EPOCH is 0 where neither EPOCH_CHECK nor MIRRORED is set, and MIRRORED comes over the Shaesh link only (R53). A packet
with a reserved field that is not 0 comes with its parameter field as received (R94). -/
def Hdr.wf (h : Hdr) : Bool :=
  h.via.wf && fits 32 h.session && fits 32 h.seq && fits 16 h.tag && fits 32 h.epoch &&
    (h.epochCheck || h.mirrored || h.epoch == 0) && (!h.mirrored || h.via == .shaesh) &&
    (match h.raw with | some b => decide (b.length ≤ 4056) | none => h.reserved.isNone)

/-- A rejected packet is no longer than a packet can be (R46). -/
def BadPacket.wf : BadPacket → Bool
  | .packet via bytes => via.wf && decide (bytes.length ≤ 4096)
  | .datagram p dst payload => p.wf && fits 16 dst && decide (payload.length ≤ 4136)
  | _ => true

/-- R338: MSEQ counts from 1 and skips 0. -/
def MsgHdr.wf (m : MsgHdr) : Bool := fits 32 m.mseq && fits 32 m.ack && m.mseq != 0

/-- R9: the fields of a stamp. -/
def Stamp.wf (t : Stamp) : Bool :=
  fits 8 t.port && fits 24 t.lineInFrame && fits 32 t.frame && fits 32 t.epoch && fits 48 t.globalLine && fits 48 t.timeS &&
    decide (t.timeNs < 1000000000) && decide (-(2 : Int) ^ 47 ≤ t.position) && decide (t.position < (2 : Int) ^ 47) && fits 32 t.lineCheck

/-- R338: an entry of DIGESTS. -/
def DigestEntry.wf (e : DigestEntry) : Bool :=
  fits 8 e.product && fits 8 e.source && fits 16 e.flow && fits 32 e.epoch && fits 64 e.firstId && fits 64 e.seq && fits 64 e.digest

/-- R338: an entry of DISPOSED. -/
def DisposedEntry.wf (e : DisposedEntry) : Bool := fits 16 e.flow && fits 8 e.disposition && fits 64 e.seq

/-- R338: a HEARTBEAT: its state is one of R330, and it names at most 32 slots of R343. -/
def Heartbeat.wf (b : Heartbeat) : Bool := decide (b.state ≤ 7) && fits 32 b.epoch && decide (b.slots.length ≤ 32)

/-- The fields of a PTP header that R323 and R324 read. -/
def PtpHdr.wf (m : PtpHdr) : Bool := fits 4 m.version && fits 4 m.minorVersion && fits 8 m.domain && fits 16 m.sourcePort && fits 16 m.seqId &&
  decide (-128 ≤ m.logInterval) && decide (m.logInterval < 128)

/-- The fields of an Announce message. -/
def AnnounceData.wf (d : AnnounceData) : Bool :=
  fits 8 d.priority1 && fits 8 d.clockClass && fits 8 d.accuracy && fits 16 d.variance && fits 8 d.priority2 && fits 64 d.identity && fits 16 d.stepsRemoved

/-- R358, R359: a transaction moves bytes of the 62 GiB of data. -/
def MemTxn.wf (t : MemTxn) : Bool := decide (1 ≤ t.size) && decide (t.addr + t.size ≤ 0xF80000000)

/-- A PTP time in nanoseconds: 48 bits of seconds. -/
def ptpTime (t : Nat) : Bool := decide (t < 2 ^ 48 * 1000000000)

/-- A command carries operands that its fields can hold. -/
def Instr.wf : Instr → Bool
  | .sessionOpen h pktSize idleMs => h.wf && fits 16 pktSize && fits 32 idleMs
  | .sessionClose h => h.wf
  | .sessionResync h => h.wf
  | .echo h data => h.wf && decide (data.length ≤ 4056)
  | .deviceInfo h => h.wf
  | .reset h kind => h.wf && fits 8 kind
  | .cancel h tag => h.wf && fits 16 tag
  | .detailRead h first => h.wf && fits 32 first
  | .stageOpen h => h.wf
  | .stageWrite h set entries => h.wf && fits 8 set && decide (entries.length ≤ 253) && entries.all (fun p => fits 32 p.1 && fits 64 p.2)
  | .stageRead h set ids => h.wf && fits 8 set && decide (ids.length ≤ 1012) && ids.all (fits 32)
  | .stageDiscard h set => h.wf && fits 8 set
  | .stageBlock h set id off data => h.wf && fits 8 set && fits 32 id && fits 32 off && decide (data.length ≤ 4040)
  | .stageBlockDma h set id off len addr => h.wf && fits 8 set && fits 32 id && fits 32 off && fits 32 len && fits 64 addr
  | .stageLoadSaved h set item => h.wf && fits 8 set && fits 32 item
  | .stageSave h item => h.wf && fits 32 item
  | .cinch h set btype axis mask value limitMs => h.wf && fits 8 set && fits 8 btype && fits 8 axis && fits 16 mask && fits 64 value && fits 32 limitMs
  | .cinchCheck h set => h.wf && fits 8 set
  | .paramRead h ids => h.wf && decide (ids.length ≤ 1013) && ids.all (fits 32)
  | .statusRead h unit inst => h.wf && fits 8 unit && fits 8 inst
  | .countersRead h unit inst clearV => h.wf && fits 8 unit && fits 8 inst && fits 8 clearV
  | .telemetryRead h => h.wf
  | .digestRead h flow first count => h.wf && fits 16 flow && fits 64 first && fits 32 count
  | .logRead h first count => h.wf && fits 64 first && fits 32 count
  | .logMark h text => h.wf && decide (1 ≤ text.length) && decide (text.length ≤ 48)
  | .logPersist h => h.wf
  | .testRun h test unit inst arg => h.wf && fits 16 test && fits 8 unit && fits 8 inst && fits 32 arg
  | .calibrate h test unit inst arg => h.wf && fits 16 test && fits 8 unit && fits 8 inst && fits 32 arg
  | .prbsControl h lane pattern mode injection rate => h.wf && fits 8 lane && fits 8 pattern && fits 8 mode && fits 8 injection && fits 32 rate
  | .eyeScan h lane => h.wf && fits 8 lane
  | .camRead h port addr len => h.wf && fits 8 port && fits 32 addr && fits 32 len
  | .camWrite h port addr data => h.wf && fits 8 port && fits 32 addr && decide (data.length ≤ 4048)
  | .camDiscover h port => h.wf && fits 8 port
  | .jobCompress h src len product pred source dst cap => h.wf && fits 64 src && fits 32 len && fits 8 product && fits 8 pred && fits 8 source && fits 64 dst && fits 32 cap
  | .jobDecompress h src len dst cap => h.wf && fits 64 src && fits 32 len && fits 64 dst && fits 32 cap
  | .jobCrc h presetV addr len initV => h.wf && fits 8 presetV && fits 64 addr && fits 32 len && fits 64 initV
  | .twinStatus h => h.wf
  | .twinAttach h => h.wf
  | .twinDetach h => h.wf
  | .twinYield h => h.wf
  | .storeList h first count => h.wf && fits 32 first && fits 32 count
  | .storeRead h item off len => h.wf && fits 32 item && fits 32 off && fits 32 len
  | .storeWrite h item off data => h.wf && fits 32 item && fits 32 off && decide (data.length ≤ 4048)
  | .storeErase h item => h.wf && fits 32 item
  | .fwStage h off data => h.wf && fits 32 off && decide (data.length ≤ 4048)
  | .fwCommit h len => h.wf && fits 32 len
  | .keyProvision h slot role key => h.wf && fits 8 slot && fits 8 role && decide (key.length = 32)
  | .keyRevoke h slot => h.wf && fits 8 slot
  | .powerStatus h => h.wf
  | .powerCapLimit h lowest => h.wf && fits 8 lowest
  | .thermalRestart h => h.wf
  | .orderlyStop h => h.wf
  | .packetRejected p => p.wf
  | .mailboxEndMarkMissing _ => true
  | .udpAuthFailure addr => fits 128 addr
  | .seqHoldTimeout session => fits 32 session
  | .sessionIdleTimeout session => fits 32 session
  | .authBlockExpiry addr => fits 128 addr
  | .deferredTimeLimit session seq => fits 32 session && fits 32 seq
  | .deferredCompletion session seq res => fits 32 session && fits 32 seq && fits 16 res.status
  | .htDoorbell => true
  | .htReplyConsumed => true
  | .cinchArmed => true
  | .cinchFire => true
  | .cinchFinish => true
  | .cinchTimeLimit => true
  | .logRegisterWindowClose _ addr => fits 32 addr
  | .loggedRegisterWrite _ addr _ => fits 32 addr
  | .logPersistPeriod => true
  | .logPersistRetry => true
  | .laneSignalDetect _ => true
  | .laneSignalLoss _ => true
  | .laneBiasSettled _ => true
  | .fullAdaptationDone _ _ ctle dfe => fits 8 ctle && decide (dfe.length = 5)
  | .laneLossOfLock _ => true
  | .laneIdleMax _ => true
  | .relockDone _ _ => true
  | .adaptationStep _ _ _ _ => true
  | .wordAlignmentGained _ => true
  | .alignLost _ => true
  | .bitslip _ _ => true
  | .snap _ _ _ _ => true
  | .cntClear _ w => fits 64 w.bits
  | .comparatorWindowEnd _ _ _ => true
  | .prbsSyncLoss _ _ _ => true
  | .prbsSyncGained _ => true
  | .portLinkEstablishment _ _ => true
  | .linkDown _ => true
  | .linkRetry _ => true
  | .streamDataPacket _ _ _ _ place => place.wf
  | .rectangularImageHeader _ xsize ysize bits comps => fits 24 xsize && fits 24 ysize && fits 8 bits && fits 8 comps
  | .lineMarker _ => true
  | .controlAcknowledgement _ tag _ _ _ => fits 8 tag
  | .triggerPacketReceived _ => true
  | .triggerAcknowledgement _ => true
  | .heartbeat _ => true
  | .eventPacket _ _ => true
  | .testPacket _ => true
  | .unknownPacket _ => true
  | .rawLineSegment _ _ seg => seg.wf
  | .controlReply _ tag status m => fits 8 tag && fits 8 status && m.wf
  | .rawEventSegment _ m => m.wf
  | .lineDueTrigger _ => true
  | .freeRunDue _ => true
  | .lineTimeout _ => true
  | .portLineAssembled _ => true
  | .portLineDelivered line => line.wf
  | .longFrameHoldEnd _ => true
  | .heartbeatLost _ => true
  | .camsetSend _ => true
  | .camsetFail _ _ => true
  | .camAccessTimeout _ tag => fits 8 tag
  | .quadratureEdge _ _ => true
  | .illegalTransition _ => true
  | .encIndex _ => true
  | .ssiRead _ word => (match word with | some x => fits 64 x | none => true)
  | .observerUpdate _ => true
  | .encStill _ => true
  | .validSettled _ => true
  | .ltgTimerStep _ => true
  | .ltgHeldIssue _ => true
  | .pcPulseEnd _ => true
  | .pcInsCmd _ _ _ => true
  | .clear _ _ => true
  | .delete _ _ _ => true
  | .pcFiredRead _ _ => true
  | .pcMissedRead _ _ => true
  | .axPosCapture _ _ => true
  | .stripLine _ _ _ upset => upset.entry.all (fun e => fits 8 e.2) && upset.readsWf
  | .shadeUpdate _ => true
  | .calibLoad _ => true
  | .colourLine _ upset => upset.entry.all (fun e => fits 16 e.2) && upset.readsWf
  | .stchDelayWrite _ => true
  | .stitchedLine readErr upset => readErr.all (fun e => fits 4 e.1) && upset.entry.all (fun e => fits 4 e.1 && fits 16 e.2.2.2) && upset.readsWf
  | .areaComposition readErr upset => readErr.all (fits 4) && upset.entry.all (fun e => fits 4 e.1 && fits 16 e.2.2) && upset.readsWf
  | .composeLate _ => true
  | .segmLine _ _ => true
  | .recordFormed => true
  | .patchCut => true
  | .unitFormed _ => true
  | .logUnitTimeout _ => true
  | .engineTakesUnit => true
  | .engineStop _ _ _ => true
  | .engineResume _ => true
  | .codingDone _ => true
  | .engineOutOfService _ => true
  | .jobTimeout session seq => fits 32 session && fits 32 seq
  | .segmentSend _ => true
  | .netLink _ _ => true
  | .pauseFrameReceived _ _ _ _ => true
  | .pauseExpiry _ _ => true
  | .arpRequest _ _ ask => ask.wf
  | .icmpEchoRequest _ _ ask => ask.wf
  | .frameDiscarded _ _ => true
  | .timekeeperTick => true
  | .announce _ m d => m.wf && d.wf
  | .sync _ m _ origin => m.wf && ptpTime origin
  | .followUp _ m origin => m.wf && ptpTime origin
  | .delayReq _ m => m.wf
  | .delayResp _ m receipt => m.wf && ptpTime receipt
  | .pdelayReq _ m => m.wf
  | .pdelayResp _ m _ _ time => m.wf && ptpTime time
  | .ptpMessageDiscarded _ => true
  | .announceReceiptTimeout _ => true
  | .ptpMessageInterval _ typ => fits 4 typ
  | .twinClaiming _ => true
  | .claimSettleExpiry => true
  | .claimConflictWindow _ => true
  | .claimTimerExpiry => true
  | .claimRefresh => true
  | .shaeshLinkUp => true
  | .shaeshLinkDown => true
  | .heartbeatSend => true
  | .heartbeatReceived hb ackV => hb.wf && fits 32 ackV
  | .ack ackV => fits 32 ackV
  | .nak expected ackV => fits 32 expected && fits 32 ackV
  | .shaeshMessageRejected frame => decide (frame.length ≤ 8216)
  | .replayTimeout => true
  | .command m packet => m.wf && decide (packet.length ≤ 4096)
  | .reply m _ => m.wf
  | .mirrorAckTimeout => true
  | .armed m epoch => m.wf && fits 32 epoch
  | .windowWrite m _ addr _ => m.wf && fits 32 addr
  | .stamps m _ stampsV => m.wf && stampsV.all Stamp.wf
  | .adoptWaitExpiry slot => decide (slot ≤ 32)
  | .event m consumer kind line => m.wf && fits 16 consumer && fits 16 kind && fits 64 line
  | .digests m entries => m.wf && entries.all DigestEntry.wf
  | .digestUnmatchedTimeout e => e.wf
  | .disposed m entries => m.wf && entries.all DisposedEntry.wf
  | .log m _ => m.wf
  | .divergence m e own => m.wf && e.wf && fits 64 own
  | .yield m => m.wf
  | .detach m => m.wf
  | .joinReq m => m.wf
  | .joinData m _ => m.wf
  | .joinDone m status detail => m.wf && fits 16 status && fits 64 detail
  | .joinAlignment counts => counts.all (fun c => decide (c.port < 16))
  | .joinCapture _ => true
  | .joinRetry => true
  | .twinHbLost => true
  | .takeover => true
  | .memoryTransaction _ waiting => waiting.all MemTxn.wf
  | .refreshInterval _ _ _ _ => true
  | .mr4Read _ rate _ => fits 8 rate
  | .zqLatch => true
  | .rhWindowEnd _ => true
  | .memPanic _ _ _ => true
  | .panicExit _ lags => decide (lags.length = 16)
  | .elasticOverflow f => f.wf
  | .retrainStart _ => true
  | .retrainReadAheadFull _ => true
  | .retrainAbandoned _ => true
  | .retrainDone _ _ => true
  | .mcErrHiRead _ _ => true
  | .rtpStatusRead _ _ => true
  | .qPushHi _ _ _ => true
  | .qPopLo _ _ => true
  | .flush _ _ _ _ => true
  | .unitQueuePush _ words => words.all (fits 64)
  | .queueTimeout _ => true
  | .start _ _ _ => true
  | .stop _ _ => true
  | .dmaBurstDecision => true
  | .dmaBurstComplete _ => true
  | .preset _ _ _ => true
  | .init _ _ => true
  | .ckStateCapture _ _ => true
  | .ckStateRestore _ _ _ _ => true
  | .crcFeed _ => true
  | .chkEccHiRead _ => true
  | .chkEccUe _ _ _ => true
  | .chkEccCe _ _ => true
  | .eventRouted _ => true
  | .gpxEdge _ _ => true
  | .gpxPulseEnd _ => true
  | .rnFire _ _ _ => true
  | .rgEnable _ _ => true
  | .rgDisable _ _ => true
  | .swFire _ _ => true
  | .ccInputClear _ => true
  | .acWorldSet _ _ _ _ => true
  | .acIpWrite _ _ _ => true
  | .timerInterrupt _ => true
  | .msip _ _ _ => true
  | .mtimeCapture _ => true
  | .refuseInfoRead _ => true
  | .windowAccess _ _ _ addr _ => fits 37 addr
  | .dramAccessRefused _ addr _ _ => fits 40 addr
  | .l2EccError _ _ _ _ _ => true
  | .coreBoot _ => true
  | .coreLoaderDone _ _ _ => true
  | .debugUnlock _ _ => true
  | .go _ _ _ => true
  | .twbClear _ _ _ => true
  | .twbReset _ _ _ => true
  | .twDone _ _ acked data => fits 8 acked && decide (data.length ≤ 255)
  | .twArbLost _ _ => true
  | .twTimeout _ _ _ _ => true
  | .cureDone _ _ => true
  | .twAlert _ _ _ => true
  | .twAlertRead _ _ => true
  | .busFree _ => true
  | .htAddress _ _ _ => true
  | .htWriteByte _ => true
  | .htReadByte => true
  | .htHostHold => true
  | .htAlertResponse _ => true
  | .sensorReading codes => decide (codes.length = 24)
  | .riseWindow => true
  | .siteCrossCheck => true
  | .thetaStepPeriod => true
  | .thetaRecover => true
  | .powerEstimate => true
  | .orderlyStopStep => true
  | .quadBias => true
  | .stripUngate => true
  | .dramScrub which _ => which.all (fun a => decide (a < 0xF80000000))
  | .sramScrub _ _ => true
  | .eyeTracking horizontal vertical => fits 8 horizontal && fits 8 vertical
  | .retrainPeriod _ => true
  | .wearLevelling => true
  | .teleSnap => true
  | .gapWindowTest unit inst => fits 8 unit && fits 8 inst
  | .testDone unit inst _ usecs detail measured => fits 8 unit && fits 8 inst && fits 32 usecs && fits 32 detail && fits 32 measured
  | .storeBlockDone _ => true
  | .pendingCompletion item => fits 32 item
  | .porstNAssert => true
  | .porstNRelease _ => true
  | .synthesiserLock _ m => fits 16 m
  | .powerDomainUp => true
  | .bootRom _ _ => true
  | .imageLoaded _ _ => true
  | .bootFailed => true
  | .storeMounted => true
  | .dramInitialised => true
  | .bootSetCinch => true
  | .restartDramHeld _ => true
  | .trigPulseEnd _ => true
  | .joinAlignmentTimeout => true

end Sys2Proof
end

