-- ==== Sys2Proof/Certificates/Slice0/Obligations.lean ====
section
/-! DEFINITION. Certificates/Slice0/Obligations.lean: what the provers are asked to prove of the model. -/
open Sys2Proof Sys2Proof.Machine

/-- For every command c and state s, a step of s with c at the front of its queue is exec of c on s with the rest of the queue; on an empty queue the step answers the same state (the model's choice, log entry 1). -/
def Obligations.StepRunsFront : Prop :=
  (∀ (c : Instr) (cs : List Instr) (s : State), step { s with pending := c :: cs } = exec c { s with pending := cs }) ∧
  (∀ s : State, s.pending = [] → step s = .next s)

/-- After reset PORST_N is low and the boot stage is 0, EPOCH is 0, no set is staged and no Cinch pends, no command is deferred and no line, unit or packet is held; every applied parameter has its reset value; the queue of commands is empty; and memory is in its canonical form with every byte read as 0x00 (the last is the model's choice, log entry 2). -/
def Obligations.ResetState : Prop :=
  State.reset.boot.stage = 0 ∧ State.reset.boot.porst = true ∧ State.reset.sys.epoch = 0 ∧ (∀ n, (stageSet State.reset n).state = 0) ∧
  State.reset.sys.cinch = none ∧ State.reset.sys.deferred = [] ∧ State.reset.sys.outbox = [] ∧ State.reset.pending = [] ∧
  (∀ id, prm State.reset id = paramDefault id) ∧ (∀ p, (port State.reset p).state = 0) ∧ State.reset.evnt.inflight = [] ∧
  State.reset.memOk ∧ ∀ a, State.reset.mem.byte a = 0

/-- For every command and every state exec answers a next state: every fault of the spec is a reply, a flag, a counter, an event or a log entry. -/
def Obligations.EveryCommandAnswersNext : Prop :=
  ∀ (c : Instr) (s : State), ∃ t, exec c s = .next t

/-- Whatever command runs in whatever state, the queue of waiting commands is in the next state what it was. The queue is the model's own field. -/
def Obligations.ExecKeepsQueue : Prop :=
  ∀ (c : Instr) (s t : State), exec c s = .next t → t.pending = s.pending

/-- For every state whose memory is a list of address and byte pairs with strictly rising addresses and no byte 0, if a step answers a next state, its memory has that form too. It holds of every command: stores of DMA bursts, jobs, joins, captures and the clearing of DRAM at start-up and at a trip. -/
def Obligations.MemoryStaysCanonical : Prop :=
  ∀ (s t : State), s.memOk → step s = .next t → t.memOk

/-- A command packet and a reply packet consist of their bytes up to the last padding byte, a multiple of eight of them, then the CRC-32C of those bytes as a little-endian u32, then four zero bytes. -/
def Obligations.PacketTrailer : Prop :=
  (∀ (op : Nat) (h : Hdr) (ps : List Byte), ∃ b, b.length = 32 + roundUp 8 ps.length ∧ b.length % 8 = 0 ∧
    packetOf op h ps = b ++ leBytes 4 (crc32c b) ++ List.replicate 4 0 ∧ (b.drop 32).take ps.length = ps) ∧
  (∀ r : Reply, ∃ b, b.length = 32 + roundUp 8 r.params.length ∧ b.length % 8 = 0 ∧
    replyBytes r = b ++ leBytes 4 (crc32c b) ++ List.replicate 4 0 ∧ (b.drop 32).take r.params.length = r.params)

/-- SUP, TWIN and APP-S are secure and APP-N is not; MGMT is secure with the administrative role 2 and not with the operator role 1; HOSTTW is secure exactly while HT_SECURE is 1 and DBG exactly while unlocked; mirrored commands of TWIN skip the permission check; DBG has no access while locked, no item is open to it then, and no transport gives a packet the principal DBG. -/
def Obligations.SecurityOfPrincipals : Prop :=
  (∀ (s : State) (role : Nat), secureP s .sup role = true ∧ secureP s .twin role = true ∧ secureP s .appS role = true ∧ secureP s .appN role = false ∧
    secureP s .mgmt 2 = true ∧ secureP s .mgmt 1 = false ∧ (secureP s .hosttw role = true ↔ prm s P.SYS_HT_SECURE = 1) ∧
    (secureP s .dbg role = true ↔ s.core.unlocked = true)) ∧
  (∀ (op : Nat) (h : Hdr) (role : Nat) (s : State), h.via = .shaesh → h.mirrored = true → permit { op := op, h := h } role s = none) ∧
  (∀ (s : State) (role owner unit : Nat), itemErr s .twin role owner unit false = none) ∧
  (∀ (s : State) (role owner unit : Nat), s.core.unlocked = false → openTo s .dbg role owner unit = false) ∧
  (∀ (s : State) (a : Acc), a.principal = .dbg → s.core.unlocked = false → ¬ s.accessible a) ∧
  (∀ v : Via, v.principal ≠ .dbg)

/-- With v the linearized sample times 2^16 plus the offset times 2^14, the stage gives 0 where v is negative, and otherwise v times GAIN rounded at bit 32 and saturated at 65,535. -/
def Obligations.CalibrateStage : Prop :=
  ∀ (gain l : Nat) (offset : Int),
    ((l : Int) * 2 ^ 16 + offset * 2 ^ 14 < 0 → calibrate gain offset l = 0) ∧
    (0 ≤ (l : Int) * 2 ^ 16 + offset * 2 ^ 14 →
      ((calibrate gain offset l : Nat) : Int) = min 65535 ((((l : Int) * 2 ^ 16 + offset * 2 ^ 14) * gain + 2 ^ 31) / 2 ^ 32))

/-- With the right of R434 a write of RN_FIRE puts one event on the named Rein's source, argument bits 63:32 from the value, 31:0 from RN_ARG; RG_ENABLE sets and RG_DISABLE clears the groups written as 1; SW_FIRE puts SW0 to SW7 in flight for its bits. Everything else keeps its value but for the register log (R95) and what carries it. -/
def Obligations.ReinWindow : Prop :=
  (∀ (a : Acc) (n : Fin 256) (v : Word32) (s : State), s.accessible a →
    writeRight a.principal (prmN s (P.EVNT_OWNER n.val)) (prmB s (P.EVNT_SECURE n.val)) = true →
    ∃ t, exec (.rnFire a n v) s = .next t ∧
      t = { s.logged t with evnt.inflight := s.evnt.inflight ++ [⟨prmN s (P.EVNT_SRC n.val), (rein s n.val).arg + v.toNat * 2 ^ 32, some n.val⟩] }) ∧
  (∀ (a : Acc) (m : Word32) (s : State), s.accessible a → systemRight a.principal = true →
    ∃ t, exec (.rgEnable a m) s = .next t ∧ t = { s.logged t with evnt.groups := s.evnt.groups ||| m }) ∧
  (∀ (a : Acc) (m : Word32) (s : State), s.accessible a → systemRight a.principal = true →
    ∃ t, exec (.rgDisable a m) s = .next t ∧ t = { s.logged t with evnt.groups := s.evnt.groups &&& ~~~m }) ∧
  (∀ (a : Acc) (v : Word32) (s : State), s.accessible a → systemRight a.principal = true →
    ∃ t, exec (.swFire a v) s = .next t ∧
      t = { s.logged t with evnt.inflight := s.evnt.inflight ++ ((List.range 8).filter (fun k => hasFlag v k)).map (fun k => ⟨632 + k, 0, none⟩) })

/-- An event that RN_FIRE put on a Rein whose group is enabled and which no consumer selects leaves the queue, and RN_COUNT (saturating) and the passed counter rise; with the group disabled only the gated counter rises. A GPX edge changes the level and, where GPX_EDGE selects it, raises the pin's source with the Timekeeper nanoseconds. GPX_PULSE_END ends the pin's pulse; CC_INPUT_CLEAR clears the pending state of the CC input. All else keeps its value. -/
def Obligations.EventInputs : Prop :=
  (∀ (e : InFlight) (es : List InFlight) (r : Nat) (s : State), s.evnt.inflight = e :: es → e.rein = some r → reinOn s.evnt.groups s r = true →
    (∀ c, c < 384 → (selectors s c).1 ≠ r ∧ (selectors s c).2 ≠ r) →
    exec (.eventRouted 1) s = .next { setRein r { rein s r with count := satInc 32 (rein s r).count, passed := (rein s r).passed + 1 } s with evnt.inflight := es }) ∧
  (∀ (e : InFlight) (es : List InFlight) (r : Nat) (s : State), s.evnt.inflight = e :: es → e.rein = some r → reinOn s.evnt.groups s r = false →
    exec (.eventRouted 1) s = .next { setRein r { rein s r with gated := (rein s r).gated + 1 } s with evnt.inflight := es }) ∧
  (∀ (pin : Fin 32) (s : State), hasFlag s.evnt.gpxLevel pin.val = false →
    ∃ t, exec (.gpxEdge pin true) s = .next t ∧ t = { s with evnt.gpxLevel := setFlag s.evnt.gpxLevel pin.val, evnt.inflight :=
      s.evnt.inflight ++ (if bitOf (prmN s P.EVNT_GPX_EDGE) (2 * pin.val) then [⟨598 + pin.val, s.tk.ns, none⟩] else []) }) ∧
  (∀ (pin : Fin 32) (s : State), exec (.gpxPulseEnd pin) s = .next { s with evnt.gpxPulse := w1c s.evnt.gpxPulse (BitVec.ofNat 32 (2 ^ pin.val)) }) ∧
  (∀ (i : Fin 40) (s : State), exec (.ccInputClear i) s = .next (setConsumer (339 + i.val) { consumer s (339 + i.val) with pending := false } s))

/-- With CLK_TIME locked and the time below its range's end, a tick adds INC = 2^49 + 2 RATE (units of 2^-48 ns) to the time and to the timer, counts the cycle, and leaves the rest of the Timekeeper as it was. While CLK_TIME is not locked it changes nothing. -/
def Obligations.TimekeeperTick : Prop :=
  (∀ s : State, bitOf s.boot.clocks 1 = true → time48 s + (tkInc s).toNat < 2 ^ 48 * 1000000000 * 2 ^ 48 →
    ∃ t, exec .timekeeperTick s = .next t ∧ time48 t = time48 s + (tkInc s).toNat ∧
      t.tk = { s.tk with secs := t.tk.secs, ns := t.tk.ns, acc := t.tk.acc, timer := s.tk.timer + (tkInc s).toNat, cycles := s.tk.cycles + 1 } ∧
      t.tk.ns < 1000000000 ∧ t.tk.acc < 2 ^ 48) ∧
  (∀ s : State, bitOf s.boot.clocks 1 = false → exec .timekeeperTick s = .next s)

/-- On a running port a matching message is counted in the port and among its frames received. An Announce enters an empty data set of the port; a two-step Sync of the parent is kept with its receive time and correction; the Follow_Up that belongs to it forms the offset of its Sync and frees it; a Delay_Req on a MASTER port has its answer, with the receive time and the asking port, wait ahead of the queues (R297); a Delay_Resp that answers the outstanding request ends it and, with no delay measured yet, gives the filter's first path delay; a Pdelay_Resp in two steps is kept for its follow-up; a Pdelay_Req of the peer-to-peer profile has its answer wait there too. A message that the port does not use is counted and discarded. -/
def Obligations.PtpReceived : Prop :=
  (∀ (p : Fin 3) (m : PtpHdr) (d : AnnounceData) (s : State), ptpOn s p.val = true → ptpMatches s p.val m = true → (ptpPort s p.val).ds = none →
    ∃ t, exec (.announce p m d) s = .next t ∧ (ptpPort t p.val).received = (ptpPort s p.val).received + 1 ∧
      (ptpPort t p.val).ds = some ⟨d, m.sourceId, m.sourcePort⟩) ∧
  (∀ (p : Fin 3) (m : PtpHdr) (o : Nat) (s : State), ptpOn s p.val = true → ptpMatches s p.val m = true → fromParent s p.val m = true →
    ∃ t, exec (.sync p m true o) s = .next t ∧ t = { s with tk.ports := t.tk.ports, netw.ports := t.netw.ports } ∧ ptpPort t p.val =
      { ptpPort s p.val with received := (ptpPort s p.val).received + 1, sync := some (m.seqId, rxStamp s p.val, corrNs m) }) ∧
  (∀ (p : Fin 3) (m : PtpHdr) (o : Nat) (t2 c : Rat) (s : State), ptpOn s p.val = true → ptpMatches s p.val m = true → fromParent s p.val m = true →
    (ptpPort s p.val).sync = some (m.seqId, t2, c) →
    ∃ t, exec (.followUp p m o) s = .next t ∧ (ptpPort t p.val).sync = none ∧
      (ptpPort t p.val).lastSync = some (t2 - o - (c + corrNs m) - asymNs s p.val)) ∧
  (∀ (p : Fin 3) (m : PtpHdr) (s : State), ptpOn s p.val = true → ptpMatches s p.val m = true → (ptpPort s p.val).role = 3 →
    ∃ t, exec (.delayReq p m) s = .next t ∧ (netPort t p.val).urgent = (netPort s p.val).urgent ++
      [.ptp { typ := 9, seqId := m.seqId, corr := m.correction, time := rxStamp s p.val, reqId := m.sourceId, reqPort := m.sourcePort }] ∧
      t = { s with tk.ports := t.tk.ports, netw.ports := t.netw.ports }) ∧
  (∀ (p : Fin 3) (m : PtpHdr) (r : Nat) (t3 diff : Rat) (s : State), ptpOn s p.val = true → ptpMatches s p.val m = true → fromParent s p.val m = true →
    prm s P.TIME_PROFILE = 0 → (ptpPort s p.val).req = some (m.seqId, t3) → (ptpPort s p.val).lastSync = some diff → (ptpPort s p.val).paths = [] →
    ∃ t, exec (.delayResp p m r) s = .next t ∧ (ptpPort t p.val).req = none ∧
      (ptpPort t p.val).paths = [(diff + ((r : Rat) - t3 - corrNs m + asymNs s p.val)) / 2]) ∧
  (∀ (p : Fin 3) (m : PtpHdr) (s : State), ptpOn s p.val = true → ptpMatches s p.val m = true → prm s P.TIME_PROFILE = 1 →
    ∃ t, exec (.pdelayReq p m) s = .next t ∧ (netPort t p.val).urgent = (netPort s p.val).urgent ++
      [.ptp { typ := 3, seqId := m.seqId, corr := m.correction, time := rxStamp s p.val, reqId := m.sourceId, reqPort := m.sourcePort }] ∧
      t = { s with tk.ports := t.tk.ports, netw.ports := t.netw.ports }) ∧
  (∀ (p : Fin 3) (m : PtpHdr) (time : Nat) (t1 : Rat) (s : State), ptpOn s p.val = true → ptpMatches s p.val m = true → prm s P.TIME_PROFILE = 1 →
    (ptpPort s p.val).req = some (m.seqId, t1) →
    ∃ t, exec (.pdelayResp p m false true time) s = .next t ∧ (ptpPort t p.val).req = none ∧
      (ptpPort t p.val).pdResp = some (m.seqId, t1, (time : Rat) - corrNs m, rxStamp s p.val)) ∧
  (∀ (p : Fin 3) (s : State), ptpOn s p.val = true →
    exec (.ptpMessageDiscarded p) s = .next (setPtpPort p.val
      { ptpPort s p.val with received := (ptpPort s p.val).received + 1, discarded := (ptpPort s p.val).discarded + 1 } (countRx p.val s)))

/-- When no Announce has come in time on a running port, its data set is forgotten, the port counts as having heard none, and the timeout is counted. The Announce of a running MASTER port, with its next sequence number, comes to wait ahead of the port's queues, and nothing else changes. -/
def Obligations.PtpTimers : Prop :=
  (∀ (p : Fin 3) (s : State), ptpOn s p.val = true →
    ∃ t, exec (.announceReceiptTimeout p) s = .next t ∧ (ptpPort t p.val).ds = none ∧ (ptpPort t p.val).quiet = true ∧
      (ptpPort t p.val).annTimeouts = (ptpPort s p.val).annTimeouts + 1) ∧
  (∀ (p : Fin 3) (s : State), ptpOn s p.val = true → (ptpPort s p.val).role = 3 →
    ∃ t, exec (.ptpMessageInterval p 0xB) s = .next t ∧
      t = pushUrgent p.val (.ptp { typ := 0xB, seqId := (ptpPort s p.val).seqAnn })
        (setPtpPort p.val { ptpPort s p.val with seqAnn := ((ptpPort s p.val).seqAnn + 1) % 65536 } s))

/-- A lane that is OFF with RUN 1 and a biased quad enters NOSIGNAL with LOS when its bias has settled; a signal takes it from NOSIGNAL to ACQUIRE with default equaliser values; full adaptation with an open eye ends in LOCKED with the values found, without one begins again and counts a retry; loss of signal takes LOCKED to IDLE while IDLE_EN is 1, with the time and site reading kept, and else to NOSIGNAL; loss of lock takes it to NOSIGNAL with LOL and, in QMODE 0, the flag of LN_FLAGS; an idle beyond IDLE_MAX ends in NOSIGNAL; a confirmed relock ends in LOCKED with the alignment kept through IDLE. Where a clause gives the whole next state, all else keeps its value. -/
def Obligations.LaneStates : Prop :=
  (∀ (n : Fin 64) (s : State), (lane s n.val).state = 0 → prmB s (P.LANE_RUN n.val) = true → quadOn s (n.val / 16) = true →
    exec (.laneBiasSettled n) s = .next (setLane n.val
      { lane s n.val with state := 5, aligned := false, heldAligned := false, cdrLock := false, los := true } s)) ∧
  (∀ (n : Fin 64) (s : State), (lane s n.val).state = 5 →
    exec (.laneSignalDetect n) s = .next (setLane n.val { lane s n.val with
      state := 1, ctle := 128, dfe := [0, 0, 0, 0, 0], aligned := false, heldAligned := false, slip := 0, los := false, lol := false, cdrLock := false } s)) ∧
  (∀ (n : Fin 64) (ctle : Nat) (dfe : List Int) (s : State), (lane s n.val).state = 1 → ctle < 256 → dfe.length = 5 →
    exec (.fullAdaptationDone n true ctle dfe) s = .next (setLane n.val { lane s n.val with state := 2, cdrLock := true, ctle := ctle, dfe := dfe } s) ∧
    ∃ t, exec (.fullAdaptationDone n false ctle dfe) s = .next t ∧ (lane t n.val).state = 1 ∧ (lane t n.val).retries = (lane s n.val).retries + 1) ∧
  (∀ (n : Fin 64) (s : State), (lane s n.val).state = 2 →
    ∃ t, exec (.laneSignalLoss n) s = .next t ∧ (lane t n.val).los = true ∧ (lane t n.val).aligned = false ∧
      (if prmB s (P.LANE_IDLE_EN n.val) then (lane t n.val).state = 3 ∧ (lane t n.val).heldAligned = (lane s n.val).aligned ∧
          (lane t n.val).idleNs = monoNs s ∧ (lane t n.val).idleTemp = siteReading s (n.val / 16)
        else (lane t n.val).state = 5)) ∧
  (∀ (n : Fin 64) (s : State), (lane s n.val).state = 2 →
    ∃ t, exec (.laneLossOfLock n) s = .next t ∧ (lane t n.val).state = 5 ∧ (lane t n.val).lol = true ∧ (lane t n.val).aligned = false ∧
      (lane t n.val).flags = (if prmB s (P.LANE_QMODE n.val) then (lane s n.val).flags else setFlag (lane s n.val).flags 1)) ∧
  (∀ (n : Fin 64) (s : State), (lane s n.val).state = 3 →
    ∃ t, exec (.laneIdleMax n) s = .next t ∧ (lane t n.val).state = 5 ∧ (lane t n.val).los = true) ∧
  (∀ (n : Fin 64) (s : State), (lane s n.val).state = 4 →
    exec (.relockDone n true) s = .next (setLane n.val { lane s n.val with state := 2, cdrLock := true, aligned := (lane s n.val).heldAligned } s))

/-- A step of adaptation moves a LOCKED lane's CTLE and one tap by at most one, saturated; alignment is gained in LOCKED in the word modes 0 and 1 and lost again with the flag ALIGN_LOST in QMODE 0 or 1; BITSLIP in word mode 2 moves SLIP on, modulo 32, and else only sets SLIP_REFUSED; SNAP copies the live counters brought up to date while the checker is in sync, with the errors injected since, before a CNT_CLEAR of the same write clears them; CNT_CLEAR clears them and CNT_SAT; the end of a comparator window shows hits and matches, the two kinds of match exchanged where INVERT is 1; the PRBS checker gains sync in modes 1 and 2 and loses it with SYNC_LOST. Where a clause gives the whole next state, all else keeps its value. -/
def Obligations.LaneWords : Prop :=
  (∀ (n : Fin 64) (dc : Int) (tap : Fin 5) (dt : Int) (s : State), (lane s n.val).state = 2 → prmB s (P.LANE_ADAPT n.val) = false →
    exec (.adaptationStep n dc tap dt) s = .next (setLane n.val { lane s n.val with
      ctle := satU ((lane s n.val).ctle + stepOf dc) 8
      dfe := (lane s n.val).dfe.set tap.val (satS (((lane s n.val).dfe[tap.val]?).getD 0 + stepOf dt) 8) } s)) ∧
  (∀ (n : Fin 64) (s : State), (lane s n.val).state = 2 → prm s (P.LANE_WORD_MODE n.val) ≠ 2 →
    exec (.wordAlignmentGained n) s = .next (setLane n.val { lane s n.val with aligned := true } s)) ∧
  (∀ (n : Fin 64) (s : State), (lane s n.val).state = 2 → (lane s n.val).aligned = true →
    ∃ t, exec (.alignLost n) s = .next t ∧ t = { s with lanes := t.lanes, evnt.inflight := s.evnt.inflight ++ [⟨8 * (n.val / 16) + 4, n.val, none⟩] } ∧
      lane t n.val = { lane s n.val with aligned := false, flags := setFlag (lane s n.val).flags 4 }) ∧
  (∀ (a : Acc) (n : Fin 64) (s : State), s.accessible a → laneRight s a n.val = true → prm s (P.LANE_WORD_MODE n.val) = 2 → lanePortStopped s n.val = true →
    exec (.bitslip a n) s = .next (setLane n.val { lane s n.val with slip := ((lane s n.val).slip + 1) % 32, valid := false, aligned := false } s)) ∧
  (∀ (a : Acc) (n : Fin 64) (s : State), s.accessible a → laneRight s a n.val = true → prm s (P.LANE_WORD_MODE n.val) ≠ 2 →
    ∃ t, exec (.bitslip a n) s = .next t ∧ lane t n.val = { lane s n.val with flags := setFlag (lane s n.val).flags 5 }) ∧
  (∀ (a : Acc) (n : Fin 64) (v : Word32) (e b : Nat) (s : State), s.accessible a → laneRight s a n.val = true → (lane s n.val).prbsSync = true →
    (lane s n.val).errs + (e + injected (lane s n.val) b) < 2 ^ 48 → (lane s n.val).bits + b < 2 ^ 48 →
    ∃ t, exec (.snap a ⟨n, v⟩ e b) s = .next t ∧ (lane t n.val).snapErrs = (lane s n.val).errs + (e + injected (lane s n.val) b) ∧
      (lane t n.val).snapBits = (lane s n.val).bits + b ∧ (lane t n.val).errs = (if hasFlag v 2 then 0 else (lane t n.val).snapErrs) ∧
      (lane t n.val).bits = (if hasFlag v 2 then 0 else (lane t n.val).snapBits) ∧
      t = { s with lanes := t.lanes, evnt.inflight := t.evnt.inflight }) ∧
  (∀ (a : Acc) (n : Fin 64) (b : Nat) (s : State), s.accessible a → laneRight s a n.val = true →
    ∃ t, exec (.cntClear a ⟨n, 0, b⟩) s = .next t ∧ t = { s with lanes := t.lanes, evnt.inflight := t.evnt.inflight } ∧
      lane t n.val = { lane s n.val with
        errs := 0, bits := 0, prbsLeft := false, flags := w1c (lane s n.val).flags 0x80
        inject := (lane t n.val).inject, prbsPos := (lane t n.val).prbsPos, gen := (lane t n.val).gen }) ∧
  (∀ (n : Fin 64) (x y h i : Nat) (s : State), (lane s n.val).state = 2 → prm s (P.LANE_WORD_MODE n.val) = 2 →
    (x, y) = (if prmB s (P.LANE_INVERT n.val) then (i, h) else (h, i)) →
    exec (.comparatorWindowEnd n x y) s = .next (setLane n.val { lane s n.val with
      valid := true, seen := decide (h = prmN s (P.LANE_CMP_WINDOW n.val)), invSeen := decide (i = prmN s (P.LANE_CMP_WINDOW n.val)), hits := h % 65536
      aligned := (lane s n.val).aligned || decide (h = prmN s (P.LANE_CMP_WINDOW n.val)) } s)) ∧
  (∀ (n : Fin 64) (e b : Nat) (s : State), (lane s n.val).prbsSync = true → (lane s n.val).errs + (e + injected (lane s n.val) b) < 2 ^ 48 → (lane s n.val).bits + b < 2 ^ 48 →
    ∃ t, exec (.prbsSyncLoss n e b) s = .next t ∧ lane t n.val = { lane s n.val with
      prbsSync := false, errs := (lane s n.val).errs + (e + injected (lane s n.val) b), bits := (lane s n.val).bits + b
      inject := (lane s n.val).inject - b, prbsPos := (lane s n.val).prbsPos + b, prbsLeft := false, flags := setFlag (lane s n.val).flags 6
      gen := if (lane s n.val).prbsMode = 2 then prbsGo (lane s n.val).prbsPattern (lane s n.val).gen b else (lane s n.val).gen }) ∧
  (∀ (n : Fin 64) (s : State), (lane s n.val).prbsMode = 1 ∨ (lane s n.val).prbsMode = 2 →
    exec (.prbsSyncGained n) s = .next (setLane n.val { lane s n.val with prbsSync := true } s))

/-- Link establishment ends in RUNNING when the camera accepts and every lane is ready; LINK_DOWN takes the port to DOWN with its event and drops the line in progress, its packets and its segments, and counts their errors all the same; a retry takes a running port from DOWN to LINKING, a CoaXPress port with its establishment on a driven uplink; a heartbeat returns it from DEGRADED, and its absence for HB_TIMEOUT takes it there with HEARTBEAT_LOST. A received trigger packet raises CAM_TRIGGER, a test packet is counted, an unknown packet is a header error of the line in progress, a trigger acknowledgement is matched with a trigger sent or counted as dropped, and the trigger pulse ends. -/
def Obligations.PortStates : Prop :=
  (∀ (p : Fin 16) (s : State), (port s p.val).state = 1 → (prm s (P.PORT_PROTOCOL p.val) ≠ 0 ∨ holdsClaim s = true) → lanesReady s p.val = true →
    exec (.portLinkEstablishment p true) s = .next (setPort p.val { port s p.val with state := 2, everRun := true } s)) ∧
  (∀ (p : Fin 16) (s : State), (port s p.val).state ≠ 0 → (port s p.val).state ≠ 4 →
    ∃ t, exec (.linkDown p) s = .next t ∧ t = { s with ports := t.ports, evnt.inflight := s.evnt.inflight ++
        (if (match (port s p.val).cur with | some g => g.errs | none => 0) + ((port s p.val).segs.map RawSeg.errs).sum = 0 then []
          else [⟨32 + 10 * p.val + 4, 0, none⟩]) ++ [⟨32 + 10 * p.val, 0, none⟩] } ∧
      port t p.val = { port s p.val with
        state := 4, cur := none, conns := [], turn := 0, tagNext := none, segs := [], due := unbegin (port s p.val).due
        report.errs := (port s p.val).report.errs +
          ((match (port s p.val).cur with | some g => g.errs | none => 0) + ((port s p.val).segs.map RawSeg.errs).sum) }) ∧
  (∀ (p : Fin 16) (s : State), (port s p.val).state = 4 → (port s p.val).run = true →
    ∃ t, exec (.linkRetry p) s = .next t ∧ t = { s with ports := t.ports } ∧ port t p.val = { port s p.val with state := 1, uplink :=
      (port s p.val).uplink ++ (if uplinkOn s p.val && prm s (P.PORT_PROTOCOL p.val) == 0 then [uplSent s p.val .establishment] else []) }) ∧
  (∀ (p : Fin 16) (s : State), (port s p.val).state = 3 → laneGives s (4 * p.val) = true → exec (.heartbeat p) s = .next (setPort p.val { port s p.val with state := 2 } s)) ∧
  (∀ (p : Fin 16) (s : State), (port s p.val).state = 2 → prm s (P.PORT_PROTOCOL p.val) = 0 → prm s (P.PORT_HB_TIMEOUT p.val) ≠ 0 →
    ∃ t, exec (.heartbeatLost p) s = .next t ∧ t = { s with ports := t.ports, evnt.inflight := s.evnt.inflight ++ [⟨32 + 10 * p.val + 1, 0, none⟩] } ∧
      port t p.val = { port s p.val with state := 3, counts.hbLost := (port s p.val).counts.hbLost + 1 }) ∧
  (∀ (p : Fin 16) (s : State), hears s p.val = true → exec (.triggerPacketReceived p) s = .next (raise (32 + 10 * p.val + 8) 0 s)) ∧
  (∀ (p : Fin 16) (s : State), hears s p.val = true →
    exec (.triggerAcknowledgement p) s = .next (setPort p.val
      (if (port s p.val).trigAcks < (port s p.val).trigSent then { port s p.val with trigAcks := (port s p.val).trigAcks + 1 }
       else { port s p.val with counts.dropped := (port s p.val).counts.dropped + 1 }) s)) ∧
  (∀ (p : Fin 16) (s : State), hears s p.val = true → exec (.testPacket p) s = .next (setPort p.val { port s p.val with tests := (port s p.val).tests + 1 } s)) ∧
  (∀ (p : Fin 16) (g : GotLine) (s : State), hears s p.val = true → (port s p.val).cur = some g →
    exec (.unknownPacket p) s = .next (setPort p.val
      { port s p.val with counts.header := (port s p.val).counts.header + 1, cur := some { g with errs := g.errs + 1 } } s)) ∧
  (∀ (p : Fin 16) (s : State), exec (.trigPulseEnd p) s = .next (setPort p.val { port s p.val with trigPulse := false } s))

/-- A stream data packet on the connection that is next, with the tag that is next, adds its bytes to the line in progress and its check errors to the line and to the counters; an image header of a line-scan port that agrees with the applied geometry only ends the debt of R130; a line marker ends the line, which waits to be paired; the first of several lanes' segments waits for the others, and on one lane its header starts a line and a whole segment is one; a camera event raises CAM_EVENT and is acknowledged on a driven uplink, and with no queue named it is counted as dropped, the errors of a raw event's segment being counted as well. Of the segment that starts a line no Cinch is pending. -/
def Obligations.PortPackets : Prop :=
  (∀ (p : Fin 16) (c : Fin 4) (k : StreamPacket) (g : GotLine) (s : State), receives (port s p.val) = true → prm s (P.PORT_PROTOCOL p.val) = 0 →
    c.val < prmN s (P.PORT_CONNECTIONS p.val) → laneGives s (4 * p.val + c.val) = true → (port s p.val).conns = [] → (port s p.val).turn = c.val →
    ((port s p.val).tagNext = none ∨ (port s p.val).tagNext = some (k.tag % 256)) → (port s p.val).cur = some g →
    ∃ t, exec (.streamDataPacket p k.payload k.crcOk k.codeOk ⟨c, k.tag⟩) s = .next t ∧ t = { s with ports := t.ports } ∧ port t p.val = { port s p.val with
      turn := (c.val + 1) % prmN s (P.PORT_CONNECTIONS p.val), tagNext := some ((k.tag % 256 + 1) % 256)
      cur := some { g with bytes := g.bytes ++ k.payload, errs := g.errs + (b2n (!k.crcOk) + b2n (!k.codeOk)) }
      counts.crc := (port s p.val).counts.crc + b2n (!k.crcOk), counts.code := (port s p.val).counts.code + b2n (!k.codeOk) }) ∧
  (∀ (p : Fin 16) (x y bits c : Nat) (s : State), hears s p.val = true → prm s (P.PORT_PROTOCOL p.val) = 0 → prm s (P.PORT_MODE p.val) = 0 →
    (port s p.val).ready = [] → x = prmAtN s (port s p.val).epoch (P.PORT_WIDTH p.val) → bits = prmAtN s (port s p.val).epoch (P.PORT_BITS p.val) →
    c = prmAtN s (port s p.val).epoch (P.PORT_COMPONENTS p.val) →
    exec (.rectangularImageHeader p x y bits c) s = .next (setPort p.val { port s p.val with debt := 0 } s)) ∧
  (∀ (p : Fin 16) (g : GotLine) (s : State), hears s p.val = true → (port s p.val).cur = some g →
    exec (.lineMarker p) s = .next (setPort p.val { port s p.val with cur := none, ready := (port s p.val).ready ++ [g] } s)) ∧
  (∀ (p : Fin 16) (k : Fin 4) (g : RawSegment) (s : State), receives (port s p.val) = true → prm s (P.PORT_PROTOCOL p.val) = 1 →
    k.val < prmN s (P.PORT_CONNECTIONS p.val) → 2 ≤ prmN s (P.PORT_CONNECTIONS p.val) → laneGives s (4 * p.val + k.val) = true →
    (port s p.val).segs = [] → (g.header = true ∨ segCrcBad s p.val g = false) → g.wire = [] → g.codeErrs = 0 → g.idleErrs = 0 → g.skew = false →
    ∃ t, exec (.rawLineSegment p k g) s = .next t ∧ t = { s with ports := t.ports } ∧ port t p.val = { port s p.val with
      segs := [⟨k.val, g.count % 2 ^ 24, g.words, g.wordCount, 0, g.fs, g.fe, !g.header⟩] }) ∧
  (∀ (p : Fin 16) (g : RawSegment) (s : State), s.sys.cinch = none → g.wire = [] → receives (port s p.val) = true → prm s (P.PORT_PROTOCOL p.val) = 1 →
    prmN s (P.PORT_CONNECTIONS p.val) = 1 → laneGives s (4 * p.val) = true → (port s p.val).segs = [] → (port s p.val).cur = none →
    ∃ t r, exec (.rawLineSegment p 0 g) s = .next t ∧ r.count = g.count % 2 ^ 24 ∧ r.start = startLatch p.val s ∧
      (if g.header then (port t p.val).cur = some r ∧ (port t p.val).ready = (port s p.val).ready
       else (port t p.val).ready = (port s p.val).ready ++ [r] ∧ (port t p.val).segs = [] ∧ (port t p.val).cur = none)) ∧
  (∀ (p : Fin 16) (b : List Byte) (s : State), hears s p.val = true → prmN s (P.PORT_EVENT_QUEUE p.val) = 0xFFFF →
    ∃ t, exec (.eventPacket p b) s = .next t ∧ t = { s with ports := t.ports, evnt.inflight := s.evnt.inflight ++ [⟨32 + 10 * p.val + 7, 0, none⟩] } ∧
      port t p.val = { port s p.val with
        eventsAcked := (port s p.val).eventsAcked + b2n (uplinkOn s p.val), counts.dropped := (port s p.val).counts.dropped + 1
        uplink := (port s p.val).uplink ++ (if uplinkOn s p.val then [uplSent s p.val .eventAck] else []) }) ∧
  (∀ (p : Fin 16) (m : RawMessage) (bad : Bool) (s : State), hears s p.val = true → prmN s (P.PORT_EVENT_QUEUE p.val) = 0xFFFF →
    bad = wordsCrcBad (prmB s (P.PORT_RAW_CRC p.val)) (segH1 3 false false m.crc.isSome false m.count) (rawWords m.data).length (rawWords m.data) m.crc →
    ∃ t, exec (.rawEventSegment p m) s = .next t ∧ t = { s with ports := t.ports, evnt.inflight := s.evnt.inflight ++
        (if b2n bad + (m.codeErrs + m.idleErrs) = 0 then [] else [⟨32 + 10 * p.val + 4, 0, none⟩]) ++ [⟨32 + 10 * p.val + 7, 0, none⟩] } ∧
      port t p.val = { port s p.val with
        eventsAcked := (port s p.val).eventsAcked + b2n (uplinkOn s p.val), counts.dropped := (port s p.val).counts.dropped + 1
        counts.crc := (port s p.val).counts.crc + b2n bad, counts.code := (port s p.val).counts.code + (m.codeErrs + m.idleErrs)
        report.errs := (port s p.val).report.errs + (b2n bad + (m.codeErrs + m.idleErrs))
        uplink := (port s p.val).uplink ++ (if uplinkOn s p.val then [uplSent s p.val .eventAck] else []) })

/-- While no Cinch is pending: on a line-scan port with nothing pending a trigger makes one line due, with the next LINE_COUNT, and is sent to the camera as TRIG_PATH says, over a driven uplink or, where the device holds the claim, the pin; on a free-running port the due time of a line makes it due; a due line whose time-out passes leaves as exactly one LOSS line with the next GLOBAL_LINE; a line received for the oldest trigger leaves stamped with that trigger's TIME; a delivered line reaches its strip and is counted; a held last line of a frame leaves with its frame report. -/
def Obligations.PortLines : Prop :=
  (∀ (p : Fin 16) (l : Latch) (rest : List (Latch × Bool)) (s : State), s.sys.cinch = none → (port s p.val).incoming = (l, false) :: rest →
    linesDue (port s p.val) = true → prm s (P.PORT_TIMING p.val) = 0 → prm s (P.PORT_MODE p.val) = 0 → (port s p.val).due = [] →
    prmAt s (port s p.val).epoch (P.PORT_RUN p.val) = 1 →
    ∃ t, exec (.lineDueTrigger p) s = .next t ∧ t = { s with ports := t.ports } ∧ port t p.val = { port s p.val with
      incoming := rest, due := [{ num := (port s p.val).trigNum, latch := l, count := some ((port s p.val).sendNum % 2 ^ 24) }]
      trigNum := (port s p.val).trigNum + 1, sendNum := (port s p.val).sendNum + 1
      lostCounts := (port s p.val).lostCounts.filter (fun k => k != (port s p.val).sendNum % 2 ^ 24)
      trigSent := (port s p.val).trigSent + b2n (uplinkOn s p.val && prm s (P.PORT_TRIG_PATH p.val) == 0)
      uplink := (port s p.val).uplink ++ (if uplinkOn s p.val && prm s (P.PORT_TRIG_PATH p.val) == 0 then [uplSent s p.val (.trigger (nowNs s - latchNs l))]
        else if uplinkOn s p.val && prm s (P.PORT_TRIG_PATH p.val) == 2 then [uplSent s p.val .rawTrigger] else [])
      trigPulse := (port s p.val).trigPulse || (holdsClaim s && prm s (P.PORT_TRIG_PATH p.val) == 1) }) ∧
  (∀ (p : Fin 16) (s : State), linesDue (port s p.val) = true → prm s (P.PORT_TIMING p.val) = 1 → prm s (P.PORT_MODE p.val) = 0 →
    exec (.freeRunDue p) s = .next (setPort p.val { port s p.val with
      due := (port s p.val).due ++ [{ num := (port s p.val).trigNum, latch := startLatch p.val s }], trigNum := (port s p.val).trigNum + 1 } s)) ∧
  (∀ (p : Fin 16) (u : Due) (s : State), s.sys.cinch = none → isShadow s = false → linesDue (port s p.val) = true → prm s (P.PORT_MODE p.val) = 0 →
    prmAt s (port s p.val).epoch (P.PORT_RUN p.val) = 1 → (port s p.val).due = [u] → u.begun = false → u.repl = 0 →
    ∃ t o, exec (.lineTimeout p) s = .next t ∧ (port t p.val).due = [] ∧ (port t p.val).out = (port s p.val).out ++ [o] ∧
      hasFlag o.line.stamp.flags 0 = true ∧ o.line.stamp.globalLine = (port s p.val).globalLine ∧ o.line.stamp.timeNs = u.latch.timeNs ∧
      (port t p.val).globalLine = ((port s p.val).globalLine + 1) % 2 ^ 48 ∧ (port t p.val).counts.lossTimeout = (port s p.val).counts.lossTimeout + 1) ∧
  (∀ (p : Fin 16) (g : GotLine) (gs : List GotLine) (u : Due) (s : State), s.sys.cinch = none → isShadow s = false → (port s p.val).run = true →
    prm s (P.PORT_MODE p.val) = 0 → prmAt s (port s p.val).epoch (P.PORT_RUN p.val) = 1 → (port s p.val).ready = g :: gs → g.fate = 0 →
    (port s p.val).due = [u] → u.num = g.num → u.repl = 0 →
    ∃ t o, exec (.portLineAssembled p) s = .next t ∧ (port t p.val).ready = gs ∧ (port t p.val).due = [] ∧ (port t p.val).out = (port s p.val).out ++ [o] ∧
      o.line.stamp.globalLine = (port s p.val).globalLine ∧ o.line.stamp.timeS = u.latch.timeS ∧ o.line.stamp.timeNs = u.latch.timeNs ∧
      (port t p.val).globalLine = ((port s p.val).globalLine + 1) % 2 ^ 48 ∧ (port t p.val).counts.received = (port s p.val).counts.received + 1) ∧
  (∀ (p : Fin 16) (o : OutLine) (rest : List OutLine) (s : State), (port s p.val).out = o :: rest → adopts s = false → dataPathHeld s = false →
    ∀ ups, ∃ t, exec (.portLineDelivered ⟨p, ups⟩) s = .next t ∧ (port t p.val).out = rest ∧ (port t p.val).counts.delivered = (port s p.val).counts.delivered + 1 ∧
      (strip t p.val).inq = (strip s p.val).inq ++ [⟨o.line, o.report, o.first⟩]) ∧
  (∀ (p : Fin 16) (o : OutLine) (s : State), (port s p.val).hold = some o → (port s p.val).due = [] →
    ∃ t r, exec (.longFrameHoldEnd p) s = .next t ∧ (port t p.val).hold = none ∧ (port t p.val).out = (port s p.val).out ++ [⟨o.line, some r, o.first⟩])

/-- An acknowledgement or a reply with status 0 of a camera-side setting counts it as acknowledged in its set, the newest or the one before; a wait acknowledgement only extends the access; an access of the newest set that times out makes the settings fail; once the last line of the frame before the boundary has come CAMSET_SEND sends every entry; CAMSET_FAIL marks the settings failed, raises the event and logs it. -/
def Obligations.CameraControl : Prop :=
  (∀ (p : Fin 16) (tag : Nat) (b : List Byte) (a : CamAcc) (s : State), hears s p.val = true → sentAccess s p.val tag = some a → a.kind = 2 →
    ∃ t, exec (.controlAcknowledgement p tag none false b) s = .next t ∧ (port t p.val).cam = (camAck a.session (port s p.val)).cam ∧
      (a.session = (port s p.val).cam.epoch → (port t p.val).cam.acked = (port s p.val).cam.acked + 1)) ∧
  (∀ (p : Fin 16) (tag w : Nat) (b : List Byte) (a : CamAcc) (r : Bool) (s : State), hears s p.val = true → sentAccess s p.val tag = some a →
    exec (.controlAcknowledgement p tag (some w) r b) s = .next (setPort p.val { port s p.val with
      access := (port s p.val).access.map (fun c => if c.sent ∧ c.tag = tag then { c with extra := c.extra + w } else c) } s)) ∧
  (∀ (p : Fin 16) (tag : Nat) (m : RawMessage) (a : CamAcc) (s : State), hears s p.val = true → sentAccess s p.val tag = some a → a.kind = 2 →
    ∃ t, exec (.controlReply p tag 0 m) s = .next t ∧ (port t p.val).cam = (camAck a.session (port s p.val)).cam ∧
      (a.session = (port s p.val).cam.epoch → (port t p.val).cam.acked = (port s p.val).cam.acked + 1)) ∧
  (∀ (p : Fin 16) (tag : Nat) (a : CamAcc) (s : State), (port s p.val).access.find? (fun a => a.tag == tag) = some a → a.kind = 2 → a.session = (port s p.val).cam.epoch →
    (port s p.val).cam.failed = false → (port s p.val).cam.entries ≠ [] → camAcked (port s p.val) = false →
    ∃ t, exec (.camAccessTimeout p tag) s = .next t ∧ (port t p.val).cam = { (port s p.val).cam with failed := true }) ∧
  (∀ (p : Fin 16) (s : State), (port s p.val).state = 2 → (port s p.val).cam.sent = 0 → (port s p.val).cam.failed = false → camDue (port s p.val) = true → holdsClaim s = true →
    ∃ t, exec (.camsetSend p) s = .next t ∧ t = { s with ports := t.ports } ∧
      (port t p.val).cam = { (port s p.val).cam with sent := (port s p.val).cam.entries.length }) ∧
  (∀ (p : Fin 16) (b : Bool) (s : State), (port s p.val).cam.failed = false → (port s p.val).cam.entries ≠ [] → camAcked (port s p.val) = false →
    ∃ t, exec (.camsetFail p b) s = .next t ∧ (port t p.val).cam = { (port s p.val).cam with failed := true } ∧
      t = { s.logged t with ports := t.ports, evnt.inflight := s.evnt.inflight ++ [⟨32 + 10 * p.val + 6, 0, none⟩] })

/-- Where the packet passes the checks of R63 each command takes effect and is answered with status 0. SESSION_OPEN over an enabled slot opens a session with an identifier from 0x0001_0000 up that is not in use, with the slot's role, the packet size asked for (1,432 for 0) and the idle time asked for (SESSION_IDLE for 0), and returns it. SESSION_CLOSE closes an MGMT session and leaves a fixed one as it was. SESSION_RESYNC sets the next SEQ to 1 and returns 1. ECHO returns as much of the data as fits. DEVICE_INFO returns order code, twin state, firmware version and identifier. CANCEL of a deferred command that has not committed ends it with 0x0506. DETAIL_READ returns the kept block from the entry named. -/
def Obligations.SessionCommands : Prop :=
  (∀ (h : Hdr) (peer : Peer) (size idle slot nonce : Nat) (s : State), accepting s = true → h.via = .udp peer slot nonce → h.session = 0 → h.reserved = none →
    (s.sys.auth.get {} peer.ip).blocked = false → (s.sys.keys.get {} slot).role ≠ 0 → s.thrm.state < 2 → (h.epochCheck = true → h.epoch = s.sys.epoch) →
    (size = 0 ∨ (128 ≤ size ∧ size ≤ 4096 ∧ size % 8 = 0)) → (mgmtSessions s).length < 16 → heldCount s = 0 → s.sys.inbox = [] → replyWaits s = false → (∀ p, mailReady p s = false) →
    ∃ (n : Nat) (t : State), 0x10000 ≤ n ∧ n < 2 ^ 32 ∧ s.sys.sessions.find? n = none ∧
      t = setSession n {
          via := h.via, role := (s.sys.keys.get {} slot).role, pktSize := if size = 0 then 1432 else size, tokens := 128 * 1000000000, tokenNs := monoNs s
          idleMs := if idle = 0 then prmN s P.SYS_SESSION_IDLE else idle } { s.arrived h.via with freeCtr := s.freeCtr + 1 } ∧
      exec (.sessionOpen h size idle) s = .next (t.answer { op := 1, h := h, params := leBytes 2 size ++ leBytes 2 0 ++ leBytes 4 idle }
        (leBytes 4 n ++ leBytes 1 (s.sys.keys.get {} slot).role ++ leBytes 3 0) false 0)) ∧
  (∀ (h : Hdr) (s : State), s.Ready 2 h → exec (.sessionClose h) s =
    .next ((if 0x10000 ≤ h.session then closeSession h.session (s.taken 2 h) else s.taken 2 h).answer { op := 2, h := h } [] false 0)) ∧
  (∀ (h : Hdr) (s : State), s.Ready 3 h → ∃ x, session (s.taken 3 h) h.session = some x ∧ exec (.sessionResync h) s =
    .next ((setSession h.session { x with nextSeq := 1, replies := [] } (s.taken 3 h)).answer { op := 3, h := h } [1, 0, 0, 0] false 0)) ∧
  (∀ (h : Hdr) (data : List Byte) (s : State), s.Ready 4 h → exec (.echo h data) s =
    .next ((s.taken 4 h).answer { op := 4, h := h, params := data } (data.take ((s.sess h).pktSize - 40)) (decide ((s.sess h).pktSize - 40 < data.length)) 0)) ∧
  (∀ (h : Hdr) (s : State), s.Ready 5 h → exec (.deviceInfo h) s = .next ((s.taken 5 h).answer { op := 5, h := h }
    (orderCode ++ leBytes 1 Config.revision ++ leBytes 1 s.twin.state ++ leBytes 2 0 ++ leBytes 4 s.boot.version ++ leBytes 16 Config.uniqueId) false 0)) ∧
  (∀ (h : Hdr) (tag : Nat) (d : Deferred) (s : State), s.Ready 7 h →
    s.sys.deferred.find? (fun d => d.session == h.session && d.tag == tag) = some d → cancellable s d = true →
    exec (.cancel h tag) s = .next ((dropDeferred 0x0506 d ({ s with freeCtr := s.freeCtr + 1 }.taken 7 h)).answer
      { op := 7, h := h, params := leBytes 2 tag ++ leBytes 6 0 } [] false 0)) ∧
  (∀ (h : Hdr) (first : Nat) (s : State), s.Ready 8 h → exec (.detailRead h first) s = .next ((s.taken 8 h).answer
    { op := 8, h := h, params := leBytes 4 first ++ leBytes 4 0 }
    (detailParams ((s.sess h).pktSize - 40 + 40) first ((s.sess h).detail.getD [])).1
    (detailParams ((s.sess h).pktSize - 40 + 40) first ((s.sess h).detail.getD [])).2 0))

/-- Where the packet passes the checks of R63, STAGE_OPEN gives the lowest FREE set to the session, OPEN and empty, and returns its number. On an OPEN set of the session STAGE_WRITE of one defined, permitted scalar with a value in its range stages that value alone and returns 1, STAGE_READ returns the staged values over the applied ones, STAGE_DISCARD makes the set FREE, and STAGE_BLOCK stages the bytes of a defined, permitted table range that leaves the staging area within 256 MiB. Each of the state-changing ones is mirrored to a Shadow and entered in the log by the answer. -/
def Obligations.StagingCommands : Prop :=
  (∀ (h : Hdr) (n : Nat) (s : State), s.Ready 0x0101 h → n < 4 → (stageSet s n).state = 0 → (∀ k, k < n → (stageSet s k).state ≠ 0) →
    exec (.stageOpen h) s = .next ((setStage n { state := 1, owner := h.session } (s.taken 0x0101 h)).answer { op := 0x0101, h := h } (leBytes 1 n) false n)) ∧
  (∀ (h : Hdr) (n id raw : Nat) (r : ParamRow) (v : Int) (s : State), s.Ready 0x0102 h → n < 4 → (stageSet s n).state = 1 → (stageSet s n).owner = h.session →
    pidInst id ≠ 0xFF → paramRow id = some r → decodeValue id r raw = some v → stageErr (s.taken 0x0102 h) h.via.principal (s.sess h).role id = none → h.via ≠ .shaesh →
    ∃ t, t = setStage n { stageSet s n with dict := { (stageSet s n).dict with vals := Map.insert (stageSet s n).dict.vals id v } } (s.taken 0x0102 h) ∧
      exec (.stageWrite h n [(id, raw)]) s = .next (t.answer { op := 0x0102, h := h, params := writeParams n [(id, raw)], subject := id, count := 1, value := raw }
        [1, 0, 0, 0] false raw)) ∧
  (∀ (h : Hdr) (n id : Nat) (s : State), s.Ready 0x0103 h → n < 4 → (stageSet s n).state ≠ 0 → (stageSet s n).owner = h.session →
    idErr (s.taken 0x0103 h) h.via.principal (s.sess h).role true id = none → 16 ≤ (s.sess h).pktSize - 40 →
    exec (.stageRead h n [id]) s = .next ((s.taken 0x0103 h).answer { op := 0x0103, h := h, params := leBytes 1 n ++ leBytes 3 0 ++ leBytes 4 1 ++ leBytes 4 id }
      (paramEntry (overlay s.sys.applied (stageSet s n).dict) id) false 0)) ∧
  (∀ (h : Hdr) (n : Nat) (s : State), s.Ready 0x0104 h → n < 4 → (stageSet s n).state = 1 → (stageSet s n).owner = h.session →
    exec (.stageDiscard h n) s = .next ((setStage n {} (s.taken 0x0104 h)).answer
      { op := 0x0104, h := h, params := leBytes 1 n ++ leBytes 7 0, count := 1 } [] false 0)) ∧
  (∀ (h : Hdr) (n id off : Nat) (data : List Byte) (r : TabRow) (s : State), s.Ready 0x0105 h → n < 4 → (stageSet s n).state = 1 → (stageSet s n).owner = h.session →
    data.length ≤ 4040 → tabRow id = some r → off + data.length ≤ r.size → stageErr (s.taken 0x0105 h) h.via.principal (s.sess h).role id = none →
    areaFull n id off data s = false →
    ∃ t, t = setStage n { stageSet s n with dict := { (stageSet s n).dict with
          tabs := Map.insert (stageSet s n).dict.tabs id (layBytes off data (((stageSet s n).dict.tabs.find? id).getD [])) } } (s.taken 0x0105 h) ∧
      exec (.stageBlock h n id off data) s = .next (t.answer { op := 0x0105, h := h, params := blockParams n id off data, subject := id, count := 1 } [] false 0))

/-- On an OPEN set of the session, a STAGE_BLOCK_DMA of a defined, permitted table range from an aligned DRAM range inside the sender's regions, and a STAGE_LOAD_SAVED of an item that the sender may read, are deferred with an interim reply and stage nothing yet. STAGE_SAVE to an item that the sender owns, or to the boot set, is deferred, and the saved form of the applied configuration joins the store's queue. -/
def Obligations.DeferredStaging : Prop :=
  (∀ (h : Hdr) (n id off len addr : Nat) (r : TabRow) (s : State), s.Ready 0x0106 h → s.mayDefer h → n < 4 → (stageSet s n).state = 1 → (stageSet s n).owner = h.session →
    tabRow id = some r → off + len ≤ r.size → stageErr (s.taken 0x0106 h) h.via.principal (s.sess h).role id = none → addr % 64 = 0 → len % 64 = 0 →
    inRegions (s.taken 0x0106 h) h.via.principal.code addr len = true → areaFull n id off (Memory.read s.mem addr len) s = false →
    exec (.stageBlockDma h n id off len addr) s = .next ((s.taken 0x0106 h).defers (.stageBlockDma h n id off len addr)
      { op := 0x0106, h := h, params := leBytes 1 n ++ leBytes 3 0 ++ leBytes 4 id ++ leBytes 4 off ++ leBytes 4 len ++ leBytes 8 addr, subject := id, count := 1 } (s.sess h).role)) ∧
  (∀ (h : Hdr) (n item : Nat) (s : State), s.Ready 0x0107 h → s.mayDefer h → n < 4 → (stageSet s n).state = 1 → (stageSet s n).owner = h.session →
    storeReadOwn h item (s.taken 0x0107 h) = [] →
    exec (.stageLoadSaved h n item) s = .next ((s.taken 0x0107 h).defers (.stageLoadSaved h n item)
      { op := 0x0107, h := h, params := leBytes 1 n ++ leBytes 3 0 ++ leBytes 4 item, subject := item, count := 1 } (s.sess h).role)) ∧
  (∀ (h : Hdr) (item : Nat) (s : State), s.Ready 0x0108 h → s.mayDefer h → (item = 0x100 ∨ storeOwn h item (s.taken 0x0108 h) = []) →
    exec (.stageSave h item) s = .next (pumpStore ((queueStore { why := .command h.session h.seq, item := item, data := savedImage s, whole := true }
      (s.taken 0x0108 h)).defers (.stageSave h item) { op := 0x0108, h := h, params := leBytes 4 item, subject := item, count := 1 } (s.sess h).role)))

/-- Where the packet passes the checks of R63, PARAM_READ of an identifier that the sender may read returns its applied value, or the check value of its table, or 0x0302 for an undefined one; STATUS_READ of SYS, TWIN or STORE returns its block; COUNTERS_READ of a Rein returns events passed and gated, and with clear from an APP-S to which the Rein's owner opens it they become 0; TELEMETRY_READ returns the latest snapshot; DIGEST_READ the kept digests of a flow; LOG_READ the entries from an index on; TWIN_STATUS and POWER_STATUS their blocks; STORE_LIST the items from one on; STORE_READ the bytes of the newest copy. The state changes only by what taking a command and answering it change. -/
def Obligations.QueryCommands : Prop :=
  (∀ (h : Hdr) (id : Nat) (s : State), s.Ready 0x0301 h → idErr (s.taken 0x0301 h) h.via.principal (s.sess h).role true id = none → 16 ≤ (s.sess h).pktSize - 40 →
    exec (.paramRead h [id]) s = .next ((s.taken 0x0301 h).answer { op := 0x0301, h := h, params := leBytes 4 1 ++ leBytes 4 id } (paramEntry s.sys.applied id) false 0)) ∧
  (∀ (h : Hdr) (unit inst : Nat) (b : List Byte) (s : State), s.Ready 0x0302 h → instExists unit inst = true →
    (unit, b) ∈ [(0x01, bootBlock (s.taken 0x0302 h)), (0x0E, twinBlock (s.taken 0x0302 h)), (0x17, storeBlock (s.taken 0x0302 h))] → b.length ≤ (s.sess h).pktSize - 40 →
    exec (.statusRead h unit inst) s = .next ((s.taken 0x0302 h).answer { op := 0x0302, h := h, params := leBytes 1 unit ++ leBytes 1 inst ++ leBytes 6 0 } b false 0)) ∧
  (∀ (h : Hdr) (n : Nat) (c : Bool) (s : State), s.Ready 0x0303 h → n < 256 → (c = true → h.via.principal = .appS ∧ itemErr s .appS (s.sess h).role (prmN s (P.EVNT_OWNER n)) 0x11 false = none) → 16 ≤ (s.sess h).pktSize - 40 →
    exec (.countersRead h 0x11 n (b2n c)) s = .next ((if c then setRein n { rein s n with passed := 0, gated := 0 } (s.taken 0x0303 h) else s.taken 0x0303 h).answer
      { op := 0x0303, h := h, params := leBytes 1 0x11 ++ leBytes 1 n ++ leBytes 1 (b2n c) ++ leBytes 5 0 } (leBytes 8 (rein s n).passed ++ leBytes 8 (rein s n).gated) false 0)) ∧
  (∀ (h : Hdr) (s : State), s.Ready 0x0304 h → exec (.telemetryRead h) s = .next ((s.taken 0x0304 h).answer { op := 0x0304, h := h }
    (s.bkgd.latest.take ((s.sess h).pktSize - 40)) (decide ((s.sess h).pktSize - 40 < s.bkgd.latest.length)) 0)) ∧
  (∀ (h : Hdr) (f first count : Nat) (ps : List Byte) (more : Bool) (s : State), s.Ready 0x0305 h → f < 1024 →
    (ps, more) = fitItems ((s.sess h).pktSize - 40) [] ((((flow s f).kept.filter (fun k => decide (first ≤ k.1))).take count).map (fun k => leBytes 8 k.1 ++ leBytes 8 k.2)) →
    exec (.digestRead h f first count) s = .next ((s.taken 0x0305 h).answer
      { op := 0x0305, h := h, params := leBytes 2 f ++ leBytes 6 0 ++ leBytes 8 first ++ leBytes 4 count } ps more 0)) ∧
  (∀ (h : Hdr) (first count : Nat) (e : LogEntry) (es : List LogEntry) (ps : List Byte) (more : Bool) (s : State), s.Ready 0x0401 h → count ≤ 63 → first < 2 ^ 63 →
    s.sys.log.entries.filter (fun e => decide (first ≤ e.index)) = e :: es →
    (ps, more) = fitItems ((s.sess h).pktSize - 40) (leBytes 8 e.index) (((e :: es).take count).map logBytes) →
    exec (.logRead h first count) s = .next ((s.taken 0x0401 h).answer { op := 0x0401, h := h, params := leBytes 8 first ++ leBytes 4 count } ps more 0)) ∧
  (∀ (h : Hdr) (s : State), s.Ready 0x0801 h → exec (.twinStatus h) s = .next ((s.taken 0x0801 h).answer { op := 0x0801, h := h } (twinBlock s) false 0)) ∧
  (∀ (h : Hdr) (s : State), s.Ready 0x0A01 h → exec (.powerStatus h) s = .next ((s.taken 0x0A01 h).answer { op := 0x0A01, h := h }
    (leBytes 1 s.thrm.state ++ leBytes 1 s.thrm.cap ++ leBytes 1 s.thrm.theta ++ leBytes 1 s.thrm.lambda ++ leBytes 1 (hottest s).1 ++ leBytes 3 0 ++
      leBytes 2 (toCode 16 (tHot s)) ++ leBytes 2 0 ++ leBytes 4 s.thrm.estMw) false 0)) ∧
  (∀ (h : Hdr) (first count : Nat) (ps : List Byte) (more : Bool) (s : State), s.Ready 0x0901 h →
    (ps, more) = fitItems ((s.sess h).pktSize - 40) [] (((s.stor.items.filter (fun p => decide (first ≤ p.1))).take count).map (fun p =>
      leBytes 4 p.1 ++ leBytes 4 (match newestCopy p.2 with | some c => c.data.length | none => 0) ++ leBytes 1 (itemState p.2) ++ leBytes 3 0)) →
    exec (.storeList h first count) s = .next ((s.taken 0x0901 h).answer { op := 0x0901, h := h, params := leBytes 4 first ++ leBytes 4 count } ps more 0)) ∧
  (∀ (h : Hdr) (item off len : Nat) (c : StoreCopy) (s : State), s.Ready 0x0902 h → storeReadOwn h item (s.taken 0x0902 h) = [] → len ≤ 4040 →
    newestCopy (storeItem s item) = some c → off + len ≤ c.data.length → len ≤ (s.sess h).pktSize - 40 →
    exec (.storeRead h item off len) s = .next ((s.taken 0x0902 h).answer { op := 0x0902, h := h, params := leBytes 4 item ++ leBytes 4 off ++ leBytes 4 len }
      ((c.data.drop off).take len) false 0))

/-- Where the packet passes the checks of R63, no Cinch pends, the set is OPEN and the session's, and the boundary's fields are in range, CINCH makes the set CHECKING and is deferred: in stage 5 its checks wait; in stage 6, where they find nothing, it is checked and the strips and engines that it starts are to be ungated and the strips of stopped ports whose CALIB it holds to be loaded. CINCH_CHECK whose checks find nothing is answered with eight zero bytes and leaves the set as it was. BOOT_SET_CINCH in stage 6 with a valid boot set whose checks find nothing stages it in set 0 and sends it on as a checked Cinch of session 0 (the set and session are the model's choice, log entry 38); without a boot set it only ends the wait for it. -/
def Obligations.CinchCommands : Prop :=
  (∀ (h : Hdr) (n btype axis mask value limit : Nat) (s : State), s.Ready 0x0201 h → s.mayDefer h → n < 4 → (stageSet s n).state = 1 → (stageSet s n).owner = h.session →
    boundaryBad btype mask value = [] → s.sys.cinch = none → s.twin.join = none → (s.boot.stage = 5 ∨ s.boot.stage = 6) →
    ∃ (c : Cinch) (p : Cmd) (u t : State), c.set = n ∧ c.session = h.session ∧ c.seq = h.seq ∧ c.btype = btype ∧ c.axis = axis ∧ c.mask = mask ∧ c.value = value ∧
      c.limitMs = (if limit = 0 then 60000 else limit) ∧ c.phase = 0 ∧ c.mirrored = h.mirrored ∧ c.from0 = (Machine.axis s axis).p ∧ p.op = 0x0201 ∧ p.h = h ∧ p.count = 1 ∧
      u = setStage n { stageSet s n with state := 2 } { s.taken 0x0201 h with sys.cinch := some c, twin.armedPeer := none } ∧
      t = deferCmd (.cinch h n btype axis mask value limit) p (s.sess h).role (mirrorCmd p 1 (nextEpoch s.sys.epoch) [] u) ∧
      (s.boot.stage = 5 → exec (.cinch h n btype axis mask value limit) s = .next t) ∧
      (s.boot.stage = 6 → runChecks t (stageSet s n).dict (some (btype, axis, mask)) = [] → exec (.cinch h n btype axis mask value limit) s =
        .next { t with sys.cinch := some { c with phase := 1, loads := stagedCalib t (stageSet s n).dict }, thrm.ungateQ := s.thrm.ungateQ ++ startsUngate t (overlay s.sys.applied (stageSet s n).dict) })) ∧
  (∀ (h : Hdr) (n : Nat) (s : State), s.Ready 0x0202 h → n < 4 → (stageSet s n).state = 1 → (stageSet s n).owner = h.session →
    runChecks (s.taken 0x0202 h) (stageSet s n).dict none = [] →
    exec (.cinchCheck h n) s = .next ((s.taken 0x0202 h).answer { op := 0x0202, h := h, params := leBytes 1 n ++ leBytes 7 0 } (leBytes 8 0) false 0)) ∧
  (∀ (x : SavedSet) (u : State) (s : State), s.boot.stage = 6 → s.boot.calm = false → s.sys.cinch = none → s.twin.join = none → (stageSet s 0).state = 0 → (storeItem s 0x100).copies ≠ [] →
    readSaved { s with boot.calm := true } .sup 0 0x100 = ([], x) → u = stageSaved 0 x (setStage 0 { state := 1, owner := 0 } { s with boot.calm := true }) →
    runChecks u (stageSet u 0).dict (some (2, 0, 0)) = [] →
    ∃ c : Cinch, c.set = 0 ∧ c.session = 0 ∧ c.btype = 2 ∧ exec .bootSetCinch s = .next (beginChecks (setStage 0 { stageSet u 0 with state := 2 } { u with sys.cinch := some c, twin.armedPeer := none }))) ∧
  (∀ s : State, s.boot.stage = 6 → s.boot.calm = false → s.sys.cinch = none → (stageSet s 0).state = 0 → (storeItem s 0x100).copies = [] →
    exec .bootSetCinch s = .next { s with boot.calm := true })

/-- A checked Cinch with nothing to load, bias or ungate and a boundary not passed is armed: its set is ARMED, and epoch and applied values stay. An armed immediate Cinch whose twin has armed fires: EPOCH advances by one (0xFFFF_FFFF to 1), the staged values but those that wait for the stop of their instances (R78) are applied over the old ones, the old ones are kept under the old epoch with the I-class values, and the Cinch has committed. One whose streams have all switched finishes: no Cinch pends, its set is FREE and empty, its CINCH entry is in the log, the newest but where the reply to a mirrored Cinch shows a divergence, and its deferred command has been answered. The time limit abandons a Cinch that has not fired: the set is OPEN again and the epoch unchanged. -/
def Obligations.CinchRun : Prop :=
  (∀ (c : Cinch) (s : State), s.sys.cinch = some c → c.phase = 1 → (stageSet s c.set).state = 2 → c.loads = [] → quadsToBias s = [] → s.thrm.ungateQ = [] → c.session ≠ 0 → boundaryPassed s c = false →
    ∃ t, exec .cinchArmed s = .next t ∧ t.sys.cinch = some c ∧ stageSet t c.set = { stageSet s c.set with state := 3 } ∧ t.sys.epoch = s.sys.epoch ∧ t.sys.applied = s.sys.applied) ∧
  (∀ (c : Cinch) (s : State), s.sys.cinch = some c → c.phase = 1 → (stageSet s c.set).state = 3 → c.btype = 0 → shadowArmed c s = true →
    ∃ t c', exec .cinchFire s = .next t ∧ t.sys.epoch = nextEpoch s.sys.epoch ∧ t.sys.applied = overlay s.sys.applied (partOf (fun id => (stopStream s.sys.applied (cinchDict s c) (switchStreams s) id).isNone) (cinchDict s c)) ∧
      t.sys.past = (Map.insert s.sys.past s.sys.epoch s.sys.applied).map (fun p => (p.1, overlay p.2 (partOf (fun id => idClass id == .I)
        (partOf (fun id => (stopStream s.sys.applied (cinchDict s c) (switchStreams s) id).isNone) (cinchDict s c))))) ∧
      c'.later = laterPart s.sys.applied (cinchDict s c) (switchStreams s) ∧
      t.sys.cinch = some c' ∧ c'.phase = 2 ∧ c'.tStar = some (nowNs s) ∧ c'.result = 0) ∧
  (∀ (c : Cinch) (s : State), s.sys.cinch = some c → c.phase = 2 → c.waiting = [] →
    ∃ t e, exec .cinchFinish s = .next t ∧ t.sys.cinch = none ∧ stageSet t c.set = {} ∧ findDeferred t c.session c.seq = none ∧ t.sys.epoch = s.sys.epoch ∧
      e ∈ t.sys.log.entries ∧ ((∀ d, findDeferred s c.session c.seq = some d → d.expect = none) → t.sys.log.entries.getLast? = some e) ∧ e.kind = 2 ∧ e.epoch = s.sys.epoch ∧ e.value = c.result ∧ e.session = c.session ∧ e.timeS = c.fireS ∧ e.timeNs = c.fireNs) ∧
  (∀ (c : Cinch) (s : State), s.sys.cinch = some c → c.phase < 2 →
    ∃ t, exec .cinchTimeLimit s = .next t ∧ t.sys.cinch = none ∧ stageSet t c.set = { stageSet s c.set with state := 1 } ∧ findDeferred t c.session c.seq = none ∧
      t.sys.epoch = s.sys.epoch ∧ t.sys.applied = s.sys.applied)

/-- LOG_MARK enters a MARK entry with the text's length and check value and right after it the TEXT entry, and returns the index of the first. A write to a register marked L with no open entry opens one with COUNT 1; a further write by the same principal within 1 ms (of elapsed time, log entry 123) adds one to COUNT and replaces VALUE; the close of the window commits the entry. With a free store that may be written and whose pool gives the blocks of both copies, LOG_PERSIST, the expired LOG_PERSIST_PERIOD and the retry each begin to write the newest 65,536 entries as one item in 32 blocks; LOG_PERSIST is deferred meanwhile. Besides the store only the queues and DMA channels and the events of the channel that moves the entries change. -/
def Obligations.LogCommands : Prop :=
  (∀ (h : Hdr) (text : List Byte) (s : State), s.Ready 0x0402 h → 1 ≤ text.length → text.length ≤ 48 →
    ∃ m, m = { kind := 5, principal := h.via.principal.code, transport := h.via.code, timeS := (receivedAt s).1, timeNs := (receivedAt s).2, flags := cmdFlags h s, opcode := 0x0402,
                tag := h.tag, epoch := s.sys.epoch, count := text.length, session := h.session, digest := crc64 text } ∧
      exec (.logMark h text) s = .next ((logCommit { kind := 6, text := text } (logCommit m (s.taken 0x0402 h))).answer
        { op := 0x0402, h := h, params := text, count := text.length } (leBytes 8 s.sys.log.next) false 0)) ∧
  (∀ (p : Principal) (addr : Nat) (v : Word32) (s : State), (∀ w ∈ s.sys.log.windows, w.addr ≠ addr) →
    exec (.loggedRegisterWrite p addr v) s = .next { s with sys.log.windows := s.sys.log.windows ++ [⟨p.code, addr, s.tk.secs, s.tk.ns, 1, v.toNat, monoNs s⟩] }) ∧
  (∀ (p : Principal) (addr : Nat) (v : Word32) (w : RegWindow) (s : State), s.sys.log.windows = [w] → w.addr = addr → w.principal = p.code → monoNs s ≤ w.mono + 1000000 →
    exec (.loggedRegisterWrite p addr v) s = .next { s with sys.log.windows := [{ w with count := w.count + 1, value := v.toNat }] }) ∧
  (∀ (p : Principal) (addr : Nat) (w : RegWindow) (s : State), s.sys.log.windows = [w] → w.addr = addr → w.principal = p.code →
    exec (.logRegisterWindowClose p addr) s = .next (logCommit (regEntry w s) { s with sys.log.windows := [] })) ∧
  (∀ (bs : List Nat) (s : State), s.stor.ops = [] → storeInhibited s = false → poolGives 32 Config.logItem s = true → takeBlocks 32 s = some bs →
    ∃ x : StoreOp, x.item = Config.logItem ∧ x.begun = true ∧ x.full = (newestEntries s).flatMap logBytes ∧ x.blocks = bs ∧ x.todo = bs ∧ x.last = newestEntries s ∧ x.why = .persist ∧
      (∃ t, exec .logPersistPeriod s = .next t ∧ t = { s with stor.ops := [x], qdma := t.qdma, evnt.inflight := t.evnt.inflight }) ∧
      (s.sys.log.retry = true → ∃ t, exec .logPersistRetry s = .next t ∧ t = { s with stor.ops := [x], qdma := t.qdma, evnt.inflight := t.evnt.inflight })) ∧
  (∀ s : State, s.sys.log.retry = false → exec .logPersistRetry s = .next s) ∧
  (∀ (h : Hdr) (bs : List Nat) (s : State), s.Ready 0x0403 h → s.mayDefer h → s.stor.ops = [] → storeInhibited s = false → poolGives 32 Config.logItem s = true → takeBlocks 32 s = some bs →
    ∃ x : StoreOp, x.item = Config.logItem ∧ x.begun = true ∧ x.full = (newestEntries s).flatMap logBytes ∧ x.blocks = bs ∧ x.todo = bs ∧ x.last = newestEntries s ∧
      x.why = .command h.session h.seq ∧ ∃ t, exec (.logPersist h) s = .next t ∧ t =
        { (s.taken 0x0403 h).defers (.logPersist h) { op := 0x0403, h := h, count := 1 } (s.sess h).role with stor.ops := [x], qdma := t.qdma, evnt.inflight := t.evnt.inflight })

/-- On a unit instance that has no test, is open to the principal and is admitted for the code, TEST_RUN and CALIBRATE join the tests with the outcome of R487 for the class, start the test where it may start at once, and are deferred. A test that mode 1 to 3 starts on a lane or uplink that needs no FORCE takes the pattern at its seed, injection and rate with cleared counters, and mode 0 ends it, a driven uplink changing over to the pattern and back; PRBS_CONTROL is answered at once. EYE_SCAN of a LOCKED lane that is open to the principal is deferred. In a gap of its unit's stream a deferred gap test starts. A running test that passes or fails leaves, is counted (EYE_NOW as an eye measurement too), raises TEST_PASS (561) or TEST_FAIL (562) with its code and ends its command with the result block. -/
def Obligations.TestCommands : Prop :=
  (∀ (h : Hdr) (cal : Bool) (code unit inst arg : Nat) (s u : State) (now out : Bool),
    s.Ready (if cal then 0x0502 else 0x0501) h → s.mayDefer h → (testClass code).isSome = true → testAdmits code unit inst = true →
    (s.bkgd.tests.any (fun t => t.unit == unit && t.inst == inst)) = false → u = s.taken (if cal then 0x0502 else 0x0501) h → resErr h unit inst u = [] → testStart h code unit inst u = (0, now, out) →
    ∃ (t : TestRun) (i : Instr), t = { code := code, unit := unit, inst := inst, arg := arg, session := h.session, seq := h.seq, started := now, startNs := monoNs s, forced := out } ∧
      i = (if cal then .calibrate h code unit inst arg else .testRun h code unit inst arg) ∧
      exec i s = .next (State.defers (if now then beginTest t { u with bkgd.tests := s.bkgd.tests ++ [t] } else { u with bkgd.tests := s.bkgd.tests ++ [t] }) i
        { op := if cal then 0x0502 else 0x0501, h := h, params := leBytes 2 code ++ leBytes 1 unit ++ leBytes 1 inst ++ leBytes 4 arg, count := 1 } (s.sess h).role)) ∧
  (∀ (h : Hdr) (lane pattern mode injection rate : Nat) (s : State), s.Ready 0x0503 h → h.force = false → prbsValues lane pattern mode injection rate = [] →
    (if lane < 64 then resErr h 2 lane (s.taken 0x0503 h) = [] else itemErr (s.taken 0x0503 h) h.via.principal (s.sess h).role 2 2 false = none) → (mode = 0 ∨ prbsFree s lane = true) →
    exec (.prbsControl h lane pattern mode injection rate) s = .next (State.answer (if mode = 0
        then (if (Machine.lane s lane).prbsMode = 3 then uplinkPattern lane none else id)
          (setLane lane { stopPrbs (Machine.lane s lane) with prbsMode := 0, forced := false } (s.taken 0x0503 h))
        else uplinkPattern lane (if mode = 3 then some (pattern, injection, rate) else none) (setLane lane { Machine.lane s lane with
          gen := prbsSeed pattern, prbsMode := mode, prbsPattern := pattern, injection := injection, prbsRate := rate, errs := 0, bits := 0, prbsSync := false
          prbsLeft := false, prbsPos := 0, inject := (if injection = 1 then 1 else if injection = 2 then rate else 0), forced := false }
          (s.taken 0x0503 h))) { op := 0x0503, h := h, params := leBytes 1 lane ++ leBytes 1 pattern ++ leBytes 1 mode ++ leBytes 1 injection ++ leBytes 4 rate, count := 1 } [] false 0)) ∧
  (∀ (h : Hdr) (n : Nat) (s : State), s.Ready 0x0504 h → s.mayDefer h → n < 64 → resErr h 2 n (s.taken 0x0504 h) = [] → (lane s n).state = 2 →
    exec (.eyeScan h n) s = .next ((s.taken 0x0504 h).defers (.eyeScan h n) { op := 0x0504, h := h, params := leBytes 1 n ++ leBytes 7 0 } (s.sess h).role)) ∧
  (∀ (unit inst : Nat) (s : State), gapOpen s unit inst = true → burnishSuspended s = false → exec (.gapWindowTest unit inst) s = .next { s with
    bkgd.tests := s.bkgd.tests.map (fun t => if t.unit = unit ∧ t.inst = inst ∧ testClass t.code = some 1 then { t with started := true, startNs := monoNs s } else t) }) ∧
  (∀ (t : TestRun) (outcome : Fin 3) (usecs detail measured : Nat) (d : Deferred) (s v u : State), s.bkgd.tests.find? (fun x => x.unit == t.unit && x.inst == t.inst) = some t →
    testRunning s t = true → outcome ≠ 2 →
    v = leaveTest t { s with bkgd.tests := s.bkgd.tests.filter (· ≠ t), bkgd.nTests := s.bkgd.nTests + 1 } →
    u = raise (if outcome = 0 then 561 else 562) t.code (if t.code = 3 then { v with bkgd.nEyes := v.bkgd.nEyes + 1 } else v) →
    findDeferred u t.session t.seq = some d → exec (.testDone t.unit t.inst outcome usecs detail measured) s =
      .next (endDeferred d (if outcome = 0 then 0 else 0x070A) (resultBlock t outcome.val usecs detail measured) false 0 u))

/-- While task 1 runs, no port is in panic, the channel is up and no waiting transaction can be granted, a scrub finds the next block good: the read is counted, the programme moves on 64 bytes and no byte of memory changes. SRAM_SCRUB adds the corrected words and restores every bad calibration entry and working copy. EYE_TRACKING keeps the opening of the next LOCKED lane and raises the event below EYE_MIN. A retraining period asks for every channel. A wear-levelling run on an idle store that may be written begins to move the contents of the least-worn block into the most-worn free one; with nothing to move it only notes its completion. TELE_SNAP keeps the snapshot of the state and counts it. The next quad is biased; the next strip is ungated. A good erase of the block in hand counts on its wear and the copy goes on to program it; a pending item joins the store's queue. -/
def Obligations.BackgroundTasks : Prop :=
  (∀ s : State, taskOn s 1 = true → burnishSuspended s = false → anyPanic s = false → (memChan s (locOf s (s.bkgd.scrub / 64 * 64)).chan).state = 0 →
    chooseTxn s (locOf s (s.bkgd.scrub / 64 * 64)).chan ((memChan s (locOf s (s.bkgd.scrub / 64 * 64)).chan).queue.map (aged s)) = none →
    s.bkgd.scrub / 64 * 64 + 64 < dramEnd → s.badBlocks.contains (s.bkgd.scrub / 64 * 64) = false →
    ∃ (c : Nat) (t : State), c = (locOf s (s.bkgd.scrub / 64 * 64)).chan ∧ exec (.dramScrub none []) s = .next t ∧
      (memChan t c).reads = (memChan s c).reads + 1 ∧ (memChan t c).scrubs = (memChan s c).scrubs.filter (· ≠ s.bkgd.scrub / 64 * 64) ∧
      t.bkgd = { s.bkgd with nScrub := s.bkgd.nScrub + 1, scrub := s.bkgd.scrub / 64 * 64 + 64 } ∧ t.mem = s.mem ∧ t.ports = s.ports ∧ t.badBlocks = s.badBlocks ∧
      (∀ k, k ≠ c → memChan t k = memChan s k)) ∧
  (∀ (n : Nat) (s : State), ∃ t, exec (.sramScrub n []) s = .next t ∧ (∀ i, i < 16 → (strip t i).bad = [] ∧ (strip t i).soft = []) ∧ t.bkgd.nSram = s.bkgd.nSram + n ∧
    t.bkgd.nRestored = s.bkgd.nRestored + ((List.range 16).map (fun i => (strip s i).bad.length)).sum + s.chk.copies.length ∧ t.chk.copies = [] ∧ (task t 2).doneNs = nowNs s ∧ t.evnt = s.evnt ∧ t.mem = s.mem) ∧
  (∀ (h v n : Nat) (s : State), h < 256 → v < 256 → taskOn s 4 = true → burnishSuspended s = false → nextEyeLane s = some n →
    ∃ t, exec (.eyeTracking h v) s = .next t ∧ t.bkgd.eyeLane = n ∧ t.bkgd.eyes.get 0 n = h * 256 + v ∧ t.bkgd.nEyes = s.bkgd.nEyes + 1 ∧
      t.evnt.inflight = s.evnt.inflight ++ (if h < prmN s P.BKGD_EYE_MIN then [⟨562, n, none⟩] else []) ∧ t.lanes = s.lanes) ∧
  (∀ s : State, taskOn s 5 = true → burnishSuspended s = false → s.bkgd.wants = [] → exec (.retrainPeriod none) s = .next { s with bkgd.wants := List.range 16 }) ∧
  (∀ s : State, taskOn s 6 = true → burnishSuspended s = false → s.stor.ops = [] → wearMove s = none →
    exec .wearLevelling s = .next (setTask 6 { task s 6 with doneNs := nowNs s } s)) ∧
  (∀ (src dst : Nat) (s : State), taskOn s 6 = true → burnishSuspended s = false → s.stor.ops = [] → storeInhibited s = false → wearMove s = some (src, dst) →
    exec .wearLevelling s = .next { s with stor.ops := [{ why := .wear, item := 0, begun := true, blocks := [dst], todo := [dst], source := src }] }) ∧
  (∀ s : State, ∃ t, exec .teleSnap s = .next t ∧ t.bkgd.latest = snapshotBytes s ∧ t.bkgd.snapshots = s.bkgd.snapshots + 1 ∧ t.bkgd.overdue = 0 ∧ (task t 7).doneNs = nowNs s ∧
    (∀ p, p < 16 → t.bkgd.lost.get 0 p = lossLines s p) ∧ t.ports = s.ports ∧ t.mem = s.mem) ∧
  (∀ (q : Nat) (qs : List Nat) (s : State), arming s = true → quadsToBias s = q :: qs →
    exec .quadBias s = .next { s with thrm.biased := (s.thrm.biased ++ [q]).insertionSort (· ≤ ·) }) ∧
  (∀ (i : Nat) (q : List Nat) (s : State), s.thrm.ungateQ = i :: q → i < 16 → stripDuty s < 16 →
    exec .stripUngate s = .next { s with thrm.ungateQ := q, thrm.ungated := (i :: s.thrm.ungated).dedup.insertionSort (· ≤ ·) }) ∧
  (∀ (x : StoreOp) (b : Nat) (rest : List Nat) (s : State), s.stor.ops = [x] → x.begun = true → x.todo = b :: rest → x.erased = false → x.erase = false →
    eraseCount s b + 1 < prmN s P.STOR_WEAR_LIMIT → storeInhibited s = false →
    exec (.storeBlockDone true) s = .next { s with stor.wear := s.stor.wear.set 0 b (eraseCount s b + 1), stor.ops := [{ x with erased := true }] }) ∧
  (∀ (item : Nat) (y : StoreOp) (s : State), storeInhibited s = false → itemState (storeItem s item) = 2 → s.stor.ops = [y] → y.item ≠ item → y.begun = true →
    exec (.pendingCompletion item) s = .next { s with stor.ops := [y, { why := .pending, item := item }] })

/-- A reading enters every site with its sum and number in every state. Where all sites are healthy and one reads 120 °C or more, a device that has not tripped trips: TRIPPED, DRAM lost, cause 0 kept. A reading of all sites that reaches THROTTLE_TJ below ORDERLY_TJ raises θ by one, at most to 7. The rise window begins new sums and forms the rates; a rate above its limit raises THRM_RISE (558) with the site and θ by one. The cross-check judges every site against the median (the even median is the model's reading, log entry 30). A further STEP_PERIOD at THROTTLE_TJ raises θ and RECOVER_TIME below the band lowers it, and the cap step follows. The power estimate is kept; within the cap and with no measure applied nothing else changes, above it the Burnish measure is applied first. The steps of an orderly stop follow the table: memory channels in self-refresh, then STOPPED. -/
def Obligations.ThermalEvents : Prop :=
  (∀ (codes : List Int) (s : State), codes.length = 24 → ∃ t, exec (.sensorReading codes) s = .next t ∧ ∀ k (hk : k < codes.length),
    (site t k).reading = codes[k] ∧ (site t k).sum = (site s k).sum + codes[k] ∧ (site t k).n = (site s k).n + 1) ∧
  (∀ (codes : List Int) (k : Nat) (hk : k < codes.length) (s : State), codes.length = 24 → healthySites s = List.range 24 → 1920 ≤ codes[k] → s.thrm.state ≠ 4 →
    ∃ t, exec (.sensorReading codes) s = .next t ∧ t.thrm.state = 4 ∧ t.mem = [] ∧ t.twin.driving = false ∧ t.thrm.trip.map Trip.cause = some 0 ∧ t.thrm.nHard = s.thrm.nHard + 1) ∧
  (∀ (c : Int) (s : State), s.thrm.state < 2 → s.thrm.above = false → 16 * (prmN s P.THRM_THROTTLE_TJ : Int) ≤ c → c < 16 * (prmN s P.THRM_ORDERLY_TJ : Int) → c < 1920 →
    ∃ t, exec (.sensorReading (List.replicate 24 c)) s = .next t ∧ t.thrm.theta = min 7 (s.thrm.theta + 1) ∧ t.thrm.above = true ∧ t.thrm.cap = capStep t) ∧
  (∀ s : State, (∀ k, k < 24 → prmN s (P.THRM_RISE_LIMIT k) = 0) → ∃ t, exec .riseWindow s = .next t ∧ t.thrm.theta = s.thrm.theta ∧ t.evnt = s.evnt ∧ ∀ k, k < 24 → (site s k).n ≠ 0 →
    site t k = { site s k with
      sum := 0, n := 0, mean := some (((site s k).sum : Rat) / 16 / (site s k).n)
      rise := match (site s k).mean with | some p => (((site s k).sum : Rat) / 16 / (site s k).n - p) * 1000 | none => 0 }) ∧
  (∀ (k : Nat) (s : State), k < 24 → (∀ j, j < 24 → (site s j).n = 0) → (∀ j, j < k → prmN s (P.THRM_RISE_LIMIT j) = 0) → prmN s (P.THRM_RISE_LIMIT k) ≠ 0 →
    (prmN s (P.THRM_RISE_LIMIT k) : Rat) < (site s k).rise → s.thrm.lastRiseEv = none →
    ∃ t, exec .riseWindow s = .next t ∧ t.thrm.theta = min 7 (s.thrm.theta + 1) ∧ ⟨558, k, none⟩ ∈ t.evnt.inflight ∧ t.thrm.nRiseEv = s.thrm.nRiseEv + 1) ∧
  (∀ (m : Rat) (s : State), m = medianOf ((countingSites s).map (fun k => (site s k).reading)) → ∃ t, exec .siteCrossCheck s = .next t ∧ (t.bkgd.tasks.get {} 3).doneNs = nowNs s ∧
    t.thrm.cap = capStep t ∧ ∀ k, k < 24 → ∃ b : Bool, b = decide ((128 : Rat) < |((site s k).reading : Rat) - m| - Config.siteGradient k) ∧
      (site t k).bad = (if b then (site s k).bad + 1 else 0) ∧ (site t k).good = (if b then 0 else (site s k).good + 1) ∧ (site t k).reading = (site s k).reading) ∧
  (∀ s : State, throttleHot s = true → ∃ t, exec .thetaStepPeriod s = .next t ∧ t.thrm.theta = min 7 (s.thrm.theta + 1) ∧ t.thrm.cap = capStep t ∧ t.thrm.lastRise = some (monoNs s)) ∧
  (∀ s : State, recoverCool s = true → 0 < s.thrm.theta → ∃ t, exec .thetaRecover s = .next t ∧ t.thrm.theta = s.thrm.theta - 1 ∧ t.thrm.cap = capStep t) ∧
  (∀ s : State, estimate s ≤ capMw s.thrm.cap → s.thrm.measures = [] →
    exec .powerEstimate s = .next { s with thrm.estMw := (estimate s).floor.toNat, thrm.nMsLow := s.thrm.nMsLow + b2n (decide (stripDuty s < 16)) }) ∧
  (∀ s : State, capMw s.thrm.cap < estimate s → hasIncrement s 1 = true → ∃ t mw, exec .powerEstimate s = .next t ∧ t.thrm.estMw = (estimate s).floor.toNat ∧
    t.thrm.measures = (1, mw) :: s.thrm.measures ∧ t.thrm.nApplied = s.thrm.nApplied + 1) ∧
  (∀ s : State, s.thrm.state = 2 → s.thrm.stopStep = 4 → ∃ t, exec .orderlyStopStep s = .next t ∧ t.thrm.stopStep = 5 ∧ ∀ c, c < 16 → memChan t c = { memChan s c with state := 2 }) ∧
  (∀ s : State, s.thrm.state = 2 → s.thrm.stopStep = 5 → ∃ t, exec .orderlyStopStep s = .next t ∧ t.thrm.state = 3 ∧ t.twin.driving = false ∧ t.boot.domains = min 5 s.boot.domains ∧ t.mem = s.mem)

/-- POWER_CAP_LIMIT from 0 to 7 sets λ and the cap step follows. ORDERLY_STOP with no Cinch pending enters STOPPING at step 1, raises THRM_STOP (559) and is deferred. THERMAL_RESTART on a stopped or tripped device that has cooled is answered, and the device restarts with θ and the cap step at 7 in THROTTLING. RESET of kind 0 to 2 is answered, and the device restarts: stage 0 with that kind, EPOCH 0, no session open, no set staged, no Cinch, the keys kept, and memory kept below the end of DRAM for kind 1 and lost otherwise. -/
def Obligations.PowerCommands : Prop :=
  (∀ (h : Hdr) (n : Nat) (s : State), s.Ready 0x0A02 h → n ≤ 7 → ∃ u : State, u.thrm.lambda = n ∧ u.thrm.theta = s.thrm.theta ∧ u.thrm.cap = capStep u ∧ u.sys = (s.taken 0x0A02 h).sys ∧
    exec (.powerCapLimit h n) s = .next (u.answer { op := 0x0A02, h := h, params := leBytes 1 n ++ leBytes 7 0, count := 1, value := n } [] false n)) ∧
  (∀ (h : Hdr) (s : State), s.Ready 0x0A04 h → s.mayDefer h → s.sys.cinch = none →
    exec (.orderlyStop h) s = .next (State.defers (raise 559 0 (htCause 1 { s.taken 0x0A04 h with
      thrm.state := 2, thrm.stopStep := 1, thrm.byCommand := true, thrm.rearmed := false, thrm.nOrderly := s.thrm.nOrderly + 1 }))
      (.orderlyStop h) { op := 0x0A04, h := h, count := 1 } (s.sess h).role)) ∧
  (∀ (h : Hdr) (s : State), s.Ready 0x0A03 h → (s.thrm.state = 3 ∨ s.thrm.state = 4) → s.thrm.rearmed = true → ∃ t, exec (.thermalRestart h) s = .next t ∧
    t.thrm.theta = 7 ∧ t.thrm.cap = 7 ∧ t.thrm.state = 1 ∧ t.boot.stage = 0 ∧ t.boot.kind = (if s.thrm.state = 3 then 1 else 0) ∧ t.sys.epoch = 0 ∧ t.sys.sessions = [] ∧ t.sys.keys = s.sys.keys) ∧
  (∀ (h : Hdr) (kind : Nat) (s : State), s.Ready 0x0006 h → kind ≤ 2 → ∃ t, exec (.reset h kind) s = .next t ∧
    t.boot.stage = 0 ∧ t.boot.kind = kind ∧ t.boot.resetting = none ∧ t.sys.epoch = 0 ∧ t.sys.sessions = [] ∧ t.sys.stage = [] ∧ t.sys.cinch = none ∧ t.sys.deferred = [] ∧ t.sys.keys = s.sys.keys ∧
      t.twin.driving = false ∧ t.ports = [] ∧ t.stor.items = s.stor.items ∧ ∀ a, t.mem.byte a = if kind = 1 ∧ a < dramEnd then s.mem.byte a else 0)

/-- Asserting PORST_N puts every field at its reset value but for the store, the keys, the flash and fuses, the log's indices, memories of the bus and what has been sent; releasing it brings PD0 up with the I/O banks chosen and HT busy. The lock of CLK_TIME presets the Timekeeper to MTIME times 6.4 ns. The next power domain comes up in order. The boot ROM takes the descriptor with the higher GENERATION and tries its preferred slot first. A good image ends loading with its version and slot; a refused one leaves the other slot, and with none left start-up fails. The mounted store brings stage 5 and a RESTART entry; the end of the DRAM write brings READY and the rollback counter. A restart with DRAM held whose image verifies trains the channels and mounts the store next. -/
def Obligations.StartUp : Prop :=
  (∀ s : State, ∃ t, exec .porstNAssert s = .next t ∧ t.boot.stage = 0 ∧ t.boot.porst = true ∧ t.sys.epoch = 0 ∧ t.sys.applied = {} ∧ t.sys.sessions = [] ∧ t.sys.keys = s.sys.keys ∧
    t.sys.log.next = s.sys.log.next ∧ t.stor.items = s.stor.items ∧ t.mem = [] ∧ t.twin.driving = false ∧ t.ports = [] ∧ t.lanes = [] ∧ t.boot.rollback = s.boot.rollback ∧ t.boot.written = s.boot.written) ∧
  (∀ (b : Fin 4) (s : State), s.boot.porst = true → exec (.porstNRelease b) s = .next { s with boot.porst := false, boot.domains := 1, boot.banks := b.val, ht.state := 1 }) ∧
  (∀ (m : Nat) (s : State), s.boot.porst = false → 1 ≤ s.boot.domains → bitOf s.boot.clocks 1 = false → ∃ t, exec (.synthesiserLock 1 m) s = .next t ∧
    t.boot.clocks = s.boot.clocks ||| 2 ∧ nowNs t = m * 64 / 10 ∧ t.boot.stage = s.boot.stage) ∧
  (∀ s : State, s.boot.porst = false → s.thrm.state < 3 → s.boot.domains < 22 → ∃ t, exec .powerDomainUp s = .next t ∧ t.boot.domains = s.boot.domains + 1 ∧
    (s.boot.stage = 1 → s.boot.domains = 4 → bitOf s.boot.clocks 2 = true → t.boot.stage = 2)) ∧
  (∀ (a b : List Byte) (x y : Nat × Nat) (s : State), s.boot.porst = false → s.boot.stage = 0 → s.boot.kind ≠ 1 → 3 ≤ s.boot.domains → s.boot.domains < 5 → bitOf s.boot.clocks 0 = true →
    descriptor a = some x → descriptor b = some y → x.1 < y.1 →
    exec (.bootRom a b) s = .next { s with boot.stage := 1, boot.generation := y.1, boot.preferred := y.2, boot.tries := [y.2, 1 - y.2] }) ∧
  (∀ (hdr : List Byte) (k : Nat) (ks : List Nat) (s : State), s.boot.stage = 2 → s.boot.tries = k :: ks → imageOk s.boot.rollback hdr = true → exec (.imageLoaded hdr true) s = .next { s with
    boot.stage := 4, boot.slot := k, boot.version := leAt hdr 12 4, boot.advance := bitOf (leAt hdr 6 2) 1, boot.tries := [] }) ∧
  (∀ (hdr : List Byte) (k : Nat) (ks : List Nat) (s : State), s.boot.stage = 2 → s.boot.tries = k :: ks →
    exec (.imageLoaded hdr false) s = .next { s with boot.tries := ks, boot.stage := if ks = [] then 3 else 2 }) ∧
  (∀ s : State, s.boot.stage = 3 → s.boot.tries = [] → exec .bootFailed s = .next { s with boot.stage := 7 }) ∧
  (∀ s : State, s.boot.stage = 4 → s.boot.held = false → s.thrm.trip = none → exec .storeMounted s =
    .next (logNow { kind := 7, count := 1, value := s.boot.kind } { s with boot.stage := 5, ht.state := 0, sys.log.entries := s.sys.log.persistedEntries })) ∧
  (∀ s : State, s.boot.stage = 5 → exec .dramInitialised s = .next { s with
    boot.stage := 6, boot.readyNs := some (nowNs s), boot.rollback := if s.boot.advance then max s.boot.rollback s.boot.version else s.boot.rollback }) ∧
  (∀ s : State, s.boot.kind = 1 → s.boot.stage = 0 → s.boot.porst = false → ∃ t, exec (.restartDramHeld true) s = .next t ∧ t.boot.stage = 4 ∧ t.mem = s.mem ∧ ∀ c, (memChan t c).state = 0)

/-- With an idle store that may be written and blocks enough for both copies, STORE_WRITE of an item that the sender owns is deferred, and the new version, the old bytes with the data laid over them, begins to be written with the next generation; STORE_ERASE of an item with copies is deferred and begins to erase their blocks. FW_STAGE lays its chunk into the staging buffer and FW_COMMIT is deferred. KEY_PROVISION puts role and key into its slot, KEY_REVOKE empties it, and both close the sessions that the slot opened; the replies are tagged under the key before. -/
def Obligations.StoreAndKeyCommands : Prop :=
  (∀ (h : Hdr) (item off : Nat) (data : List Byte) (c : StoreCopy) (bs : List Nat) (s : State), s.Ready 0x0903 h → s.mayDefer h → item ≠ 0x100 → storeOwn h item (s.taken 0x0903 h) = [] → data.length ≤ 4048 →
    s.stor.ops = [] → storeInhibited s = false → newestCopy (storeItem s item) = some c → off ≤ c.data.length →
    poolGives (blocksFor (max c.data.length (off + data.length))) item s = true → takeBlocks (blocksFor (max c.data.length (off + data.length))) s = some bs →
    ∃ x : StoreOp, x = { why := .command h.session h.seq, item := item, off := off, data := data, begun := true, gen := c.gen + 1, blocks := bs, todo := bs,
                         full := c.data.take off ++ data ++ c.data.drop (off + data.length) } ∧
      exec (.storeWrite h item off data) s = .next { (s.taken 0x0903 h).defers (.storeWrite h item off data)
        { op := 0x0903, h := h, params := leBytes 4 item ++ leBytes 4 off ++ data, subject := item, count := 1 } (s.sess h).role with stor.ops := [x] }) ∧
  (∀ (h : Hdr) (item : Nat) (bs : List Nat) (s : State), s.Ready 0x0904 h → s.mayDefer h → storeOwn h item (s.taken 0x0904 h) = [] → s.stor.ops = [] → storeInhibited s = false →
    (storeItem s item).copies ≠ [] → bs = (storeItem s item).copies.flatMap StoreCopy.blocks →
    exec (.storeErase h item) s = .next { (s.taken 0x0904 h).defers (.storeErase h item)
        { op := 0x0904, h := h, params := leBytes 4 item ++ leBytes 4 0, subject := item, count := 1 } (s.sess h).role with
      stor.ops := [{ why := .command h.session h.seq, item := item, erase := true, begun := true, blocks := bs, todo := bs }] }) ∧
  (∀ (h : Hdr) (off : Nat) (data : List Byte) (s : State), s.Ready 0x0905 h → off + data.length ≤ stagingSize → data.length ≤ 4048 →
    ∃ u : State, (∀ k, u.core.staging.get 0 k = if off ≤ k ∧ k < off + data.length then data.getD (k - off) 0 else s.core.staging.get 0 k) ∧ u.sys = (s.taken 0x0905 h).sys ∧
      exec (.fwStage h off data) s = .next (u.answer { op := 0x0905, h := h, params := leBytes 4 off ++ leBytes 4 0 ++ data, count := 1 } [] false 0)) ∧
  (∀ (h : Hdr) (len : Nat) (s : State), s.Ready 0x0906 h → s.mayDefer h → exec (.fwCommit h len) s = .next ((s.taken 0x0906 h).defers (.fwCommit h len)
    { op := 0x0906, h := h, params := leBytes 4 len ++ leBytes 4 0, count := 1 } (s.sess h).role)) ∧
  (∀ (h : Hdr) (slot role : Nat) (key : List Byte) (s : State), s.Ready 0x0907 h → slot < 8 → role ≤ 2 → storeInhibited s = false →
    exec (.keyProvision h slot role key) s = .next { State.answer (closeSlot slot { s.taken 0x0907 h with
        sys.oldKey := some (slot, (s.sys.keys.get {} slot).key), sys.keys := s.sys.keys.set {} slot ⟨role, key⟩ })
      { op := 0x0907, h := h, params := leBytes 1 slot ++ leBytes 1 role ++ leBytes 6 0 ++ key, subject := slot, count := 1, value := role, noDigest := true } [] false role with sys.oldKey := none }) ∧
  (∀ (h : Hdr) (slot : Nat) (s : State), s.Ready 0x0908 h → slot < 8 → storeInhibited s = false →
    exec (.keyRevoke h slot) s = .next { State.answer (closeSlot slot { s.taken 0x0908 h with
        sys.oldKey := some (slot, (s.sys.keys.get {} slot).key), sys.keys := s.sys.keys.erase slot })
      { op := 0x0908, h := h, params := leBytes 1 slot ++ leBytes 7 0, subject := slot, count := 1 } [] false 0 with sys.oldKey := none })

/-- An empty channel in normal operation grants the one transaction of at most one block that reaches it: the count of reads or writes rises by one, a core's write stores its bytes and no other grant without an error changes memory; with nothing waiting only the command slots count. Work of priority 1 is issued before any transaction. A refresh falls due in a channel out of normal operation, which owes it up to 8; without a real-time burst it is issued, with it one that was postponed or, while the bank is idle, one in advance down to -8; under a burst it is postponed, and at 8 owed it takes priority 1. MR4_READ sets the rate of the package's four channels and changes nothing else; a hot package also raises θ. ZQ_LATCH counts. The end of a disturbance window returns to step 0 the requesters that no row hit and empties the trackers. MC_ERR_HI_READ returns the record and clears it but for the low address word. -/
def Obligations.MemoryController : Prop :=
  (∀ (ch : Fin 16) (t : MemTxn) (s : State), (locOf s t.addr).chan = ch.val → (memChan s ch.val).state = 0 → (memChan s ch.val).train = 0 → (memChan s ch.val).queue = [] →
    (memChan s ch.val).blocked = [] → (memChan s ch.val).urgent = [] → 0 < t.size → t.addr % 64 + t.size ≤ 64 → t.addr < dramEnd →
    (memChan s ch.val).steps.get 0 t.req = 0 → (t.req ≠ 16 ∨ anyPanic s = false) → t.flips = [] → s.badBlocks.contains (t.addr / 64 * 64) = false →
    ∃ u, exec (.memoryTransaction ch [t]) s = .next u ∧ (memChan u ch.val).reads = (memChan s ch.val).reads + b2n (!t.write) ∧
      (memChan u ch.val).writes = (memChan s ch.val).writes + b2n t.write ∧ u.qdma = s.qdma ∧ u.ports = s.ports ∧
      u.mem = if t.write = true ∧ (t.req = 13 ∨ t.req = 14) then s.mem.store t.addr t.data else s.mem) ∧
  (∀ (ch : Fin 16) (s : State), (memChan s ch.val).queue = [] → (memChan s ch.val).blocked = [] → (memChan s ch.val).urgent = [] →
    ∃ u, exec (.memoryTransaction ch []) s = .next u ∧ u = { s with memc.chans := u.memc.chans } ∧ memChan u ch.val = { memChan s ch.val with
      slots := (memChan s ch.val).steps.map (fun p => (p.1, (memChan s ch.val).slots.get 0 p.1 + 1)) }) ∧
  (∀ (ch b : Fin 16) (us : List Urgency) (s : State), (memChan s ch.val).state = 0 → (memChan s ch.val).urgent = .refresh b.val :: us →
    ∃ u, exec (.memoryTransaction ch []) s = .next u ∧ u = { s with memc.chans := u.memc.chans } ∧ (memChan u ch.val).urgent = us ∧
      (memChan u ch.val).forced = (memChan s ch.val).forced + 1 ∧ (bank (memChan u ch.val) b.val).owed = (bank (memChan s ch.val) b.val).owed - 1 ∧ (bank (memChan u ch.val) b.val).row = none ∧
      (memChan u ch.val).reads = (memChan s ch.val).reads ∧ (memChan u ch.val).writes = (memChan s ch.val).writes) ∧
  (∀ (ch bk : Fin 16) (burst idle : Bool) (s : State), exec (.refreshInterval ch bk burst idle) s = .next (setMemChan ch.val
    (if (memChan s ch.val).state ≠ 0 then setBank bk.val { bank (memChan s ch.val) bk.val with owed := min 8 ((bank (memChan s ch.val) bk.val).owed + 1) } (memChan s ch.val)
     else if burst = true then
       (if 7 ≤ (bank (memChan s ch.val) bk.val).owed then
          { setBank bk.val { bank (memChan s ch.val) bk.val with owed := 8 } (memChan s ch.val) with
            urgent := (memChan s ch.val).urgent ++ (if (memChan s ch.val).urgent.contains (.refresh bk.val) then [] else [.refresh bk.val]) }
        else { setBank bk.val { bank (memChan s ch.val) bk.val with owed := (bank (memChan s ch.val) bk.val).owed + 1 } (memChan s ch.val) with postponed := (memChan s ch.val).postponed + 1 })
     else { setBank bk.val { bank (memChan s ch.val) bk.val with
                row := none, raa := (bank (memChan s ch.val) bk.val).raa - Config.raaRefresh
                owed := if 0 < (bank (memChan s ch.val) bk.val).owed then (bank (memChan s ch.val) bk.val).owed - 1
                        else if idle = true then max (-8) ((bank (memChan s ch.val) bk.val).owed - 1) else (bank (memChan s ch.val) bk.val).owed } (memChan s ch.val) with
              urgent := (memChan s ch.val).urgent.filter (· ≠ .refresh bk.val) }) s)) ∧
  (∀ (pkg : Fin 4) (rate : Nat) (s : State), ∃ t, exec (.mr4Read pkg rate false) s = .next t ∧ t = { s with memc.chans := t.memc.chans } ∧
    ∀ c, memChan t c = if c / 4 = pkg.val then { memChan s c with rate := rate } else memChan s c) ∧
  (∀ (pkg : Fin 4) (rate : Nat) (s : State), s.thrm.lastRise = none → ∃ t, exec (.mr4Read pkg rate true) s = .next t ∧ t.thrm.theta = min 7 (s.thrm.theta + 1) ∧
    t.thrm.lastRise = some (monoNs s) ∧ (∃ v, s.evnt.inflight ++ [⟨377, v, none⟩] = t.evnt.inflight.take (s.evnt.inflight.length + 1)) ∧
    ∀ c, memChan t c = if c / 4 = pkg.val then { memChan s c with rate := rate } else memChan s c) ∧
  (∀ s : State, exec .zqLatch s = .next { s with memc.zq := s.memc.zq + 1 }) ∧
  (∀ (ch : Fin 16) (s : State), ∃ x, exec (.rhWindowEnd ch) s = .next (setMemChan ch.val x s) ∧ x = { memChan s ch.val with steps := x.steps, hit := [], banks := x.banks } ∧
    x.steps = (memChan s ch.val).steps.filter (fun p => (memChan s ch.val).hit.contains p.1) ∧ ∀ p ∈ x.banks, p.2.rows = [] ∧ ∃ q ∈ (memChan s ch.val).banks, p = (q.1, { q.2 with rows := [] })) ∧
  (∀ (a : Acc) (ch : Fin 16) (s : State), s.accessible a → exec (.mcErrHiRead a ch) s = .next (setMemChan ch.val
      { memChan s ch.val with errValid := false, errUn := false, errReq := 0, errAddr := (memChan s ch.val).errAddr % 2 ^ 32 }
      { s with core.rdata := (2 ^ 31 * b2n (memChan s ch.val).errValid + 2 ^ 30 * b2n (memChan s ch.val).errUn + 2 ^ 22 * (memChan s ch.val).errReq +
          (memChan s ch.val).errAddr / 2 ^ 32 % 16) % 2 ^ 32 }))

/-- With the right of R434 or R435 a push commits the word with its marks to a queue that has room, or sets OVERFLOW on a full one and counts the drop; the fill that reaches READY_MARK from below raises QUEUE_READY. A pop returns and removes the head word and captures its high half and marks; of an empty queue, or one of SIZE 0, it returns 0 and sets UNDERFLOW. FLUSH empties the queue, sets TRUNC and counts a drop where a unit producer was part-way through a packet, and ends a burst under way for it. A unit's packet goes in whole or is dropped and counted. A time-out sets TIMEOUT and raises QUEUE_TIMEOUT, and QUEUE_READY for a window consumer. A flush of the queue that a burst drains turns the words not yet carried into filler words of value 0. After a push to a mailbox queue the supervisor serves a packet that has come whole. Channels notice the new level of their queues; all else keeps its value. -/
def Obligations.QueueCommands : Prop :=
  (∀ (a : Acc) (q : Fin 1024) (v : Word32) (x : Queue) (s : State), s.accessible a → pushRight s a.principal q.val = true → x = queue s q.val → producer s q.val = 0 →
    s.sys.mailSkip.contains q.val = false → x.words.length < queueSize s q.val →
    ∃ t, exec (.qPushHi a q v) s = .next (serveMail q.val t) ∧ (q.val < 1016 → serveMail q.val t = t) ∧
      queue t q.val = { x with words := x.words ++ [⟨x.pushLo + v.toNat * 2 ^ 32, x.pushEnd, x.pushErr⟩], pushed := x.pushed + 1, pushEnd := false, pushErr := false } ∧
      (∀ k, k ≠ q.val → queue t k = queue s k) ∧ (∀ c, chan t c = { chan s c with above := (chan t c).above }) ∧ t = { s with
      qdma := t.qdma
      evnt.inflight := s.evnt.inflight ++ (if consumerOf s q.val = 0 ∧ x.words.length < prmN s (P.QUEUE_READY_MARK q.val) ∧ prmN s (P.QUEUE_READY_MARK q.val) ≤ x.words.length + 1
        then [⟨378 + 2 * (q.val / 16), q.val, none⟩] else []) }) ∧
  (∀ (a : Acc) (q : Fin 1024) (v : Word32) (x : Queue) (s : State), s.accessible a → pushRight s a.principal q.val = true → x = queue s q.val → producer s q.val = 0 →
    s.sys.mailSkip.contains q.val = false → queueSize s q.val ≠ 0 → queueSize s q.val ≤ x.words.length →
    exec (.qPushHi a q v) s = .next (serveMail q.val (setQueue q.val { x with flags := setFlag x.flags 0, dropped := x.dropped + 1, pushEnd := false, pushErr := false } s)) ∧
    (q.val < 1016 → ∀ t, serveMail q.val t = t)) ∧
  (∀ (a : Acc) (q : Fin 1024) (w : QWord) (ws : List QWord) (x : Queue) (s : State), s.accessible a → popRight s a.principal q.val = true → x = queue s q.val →
    consumerOf s q.val = 0 → queueSize s q.val ≠ 0 → x.words = w :: ws →
    exec (.qPopLo a q) s = .next (setQueue q.val { x with words := ws, popHi := w.val / 2 ^ 32, popEnd := w.endm, popErr := w.err, popValid := true, tail := x.tail && !ws.isEmpty }
      { s with core.rdata := w.val % 2 ^ 32 })) ∧
  (∀ (a : Acc) (q : Fin 1024) (x : Queue) (s : State), s.accessible a → popRight s a.principal q.val = true → x = queue s q.val → consumerOf s q.val = 0 → (queueSize s q.val = 0 ∨ x.words = []) →
    exec (.qPopLo a q) s = .next (setQueue q.val { x with flags := setFlag x.flags 1, popValid := false, popHi := 0, popEnd := false, popErr := false } { s with core.rdata := 0 })) ∧
  (∀ (a : Acc) (q : Fin 1024) (mid : Bool) (left : Nat) (x : Queue) (s : State), s.accessible a → q.val < 1016 →
    writeRight a.principal (prmN s (P.QUEUE_OWNER q.val)) (prmB s (P.QUEUE_SECURE q.val)) = true → x = queue s q.val →
    (∀ c, x.chanCons = some c ∨ x.chanProd = some c → (chan s c).bursts = []) →
    ∃ t, exec (.flush a q mid left) s = .next t ∧ t = setQueue q.val { x with
      words := [], tail := false, flags := setFlagIf (mid && producer s q.val == 2) x.flags 3
      dropped := x.dropped + b2n (mid && producer s q.val == 2) } (s.logged t)) ∧
  (∀ (a : Acc) (q : Fin 1024) (mid : Bool) (left c : Nat) (b : Burst) (bs : List Burst) (s : State), s.accessible a → q.val < 1016 →
    writeRight a.principal (prmN s (P.QUEUE_OWNER q.val)) (prmB s (P.QUEUE_SECURE q.val)) = true → (queue s q.val).chanCons = none → (queue s q.val).chanProd = some c →
    (chan s c).dst % 1024 = q.val → (chan s c).bursts = b :: bs → ∃ t, exec (.flush a q mid left) s = .next t ∧ (queue t q.val).words = [] ∧
      (queue t q.val).pushed = (queue s q.val).pushed + carried left b ∧
      chan t c = { chan s c with
        bursts := (b :: bs).map (fun b => { b with words := [], keep := 0, flushed := true }), withdraw := true, nFlush := (chan s c).nFlush + 1
        nWritten := (chan s c).nWritten + 8 * carried left b, above := (chan t c).above }) ∧
  (∀ (a : Acc) (q : Fin 1024) (mid : Bool) (left c : Nat) (b : Burst) (bs : List Burst) (s : State), s.accessible a → q.val < 1016 →
    writeRight a.principal (prmN s (P.QUEUE_OWNER q.val)) (prmB s (P.QUEUE_SECURE q.val)) = true → (queue s q.val).chanCons = some c → (queue s q.val).chanProd = none →
    (chan s c).bursts = bs ++ [b] → ∃ t f, exec (.flush a q mid left) s = .next t ∧ (queue t q.val).words = [] ∧ f.length = b.keep - carried left b ∧ (∀ w ∈ f, QWord.val w = 0) ∧
      chan t c = { chan s c with
        bursts := bs ++ [{ b with words := b.words.take (carried left b) ++ f ++ b.words.drop b.keep, flushed := true }], withdraw := true, nFlush := (chan s c).nFlush + 1
        above := (chan t c).above }) ∧
  (∀ (q : Fin 1024) (ws : List Nat) (x : Queue) (s : State), producer s q.val = 2 → x = queue s q.val → x.words.length + ws.length ≤ queueSize s q.val →
    ∃ t, exec (.unitQueuePush q ws) s = .next t ∧ t = { setQueue q.val { x with
        words := x.words ++ ws.mapIdx (fun i v => ⟨v, i + 1 == ws.length, false⟩), pushed := x.pushed + ws.length } s with
      evnt.inflight := s.evnt.inflight ++ (if consumerOf s q.val = 0 ∧ x.words.length < prmN s (P.QUEUE_READY_MARK q.val) ∧ prmN s (P.QUEUE_READY_MARK q.val) ≤ x.words.length + ws.length
        then [⟨378 + 2 * (q.val / 16), q.val, none⟩] else []) }) ∧
  (∀ (q : Fin 1024) (ws : List Nat) (s : State), producer s q.val = 2 → queueSize s q.val < (queue s q.val).words.length + ws.length →
    exec (.unitQueuePush q ws) s = .next (setQueue q.val { queue s q.val with dropped := (queue s q.val).dropped + 1 } s)) ∧
  (∀ (q : Fin 1024) (x : Queue) (s : State), x = queue s q.val → x.words ≠ [] → prm s (P.QUEUE_TIMEOUT q.val) ≠ 0 →
    ∃ t, exec (.queueTimeout q) s = .next t ∧ t = { setQueue q.val { x with flags := setFlag x.flags 2, timeouts := x.timeouts + 1, tail := x.chanCons.isSome } s with
      evnt.inflight := s.evnt.inflight ++ ⟨378 + 2 * (q.val / 16) + 1, q.val, none⟩ :: (if consumerOf s q.val = 0 then [⟨378 + 2 * (q.val / 16), q.val, none⟩] else []) })

/-- With the right of R434 a START of an idle channel whose checks pass takes the fields of DC_CTRL, claims its queues and enters WAITING with REMAIN at COUNT; a check that fails leaves STATE 6 with its code and field. A STOP ends a channel without a burst in STOPPED with its event and withdraws one with a burst; an idle channel takes the other fields. The read engine reads one burst for the next eligible channel, from memory or off the head of its queue, after requests whose queue has fallen below STOP_MARK have been withdrawn. The oldest burst of a channel that completes for a memory in reach is stored word by word at the channel's progress, a ring returning to its base, WR_PTR and REMAIN advance, and at REMAIN 0 with no burst left the channel ends in DONE with its event. -/
def Obligations.ChannelCommands : Prop :=
  (∀ (a : Acc) (c : Fin 64) (v : Word32) (x : Chan) (s : State), s.accessible a → writeRight a.principal (prmN s (P.QDMA_OWNER c.val)) (prmB s (P.QDMA_SECURE c.val)) = true →
    x = ctrlFields v (chan s c.val) → chanBusy x = false → x.srcKind ≠ 3 → startCheck s c.val x = none →
    ∃ t, exec (.start a c v) s = .next t ∧ chan t c.val = { x with
        state := 1, errCode := 0, errField := 0, remain := x.count, wrPtr := 0, flushed := false, errMark := false, hadErr := false, withdraw := false, issued := 0, bursts := []
        above := (chan t c.val).above } ∧
      (x.srcKind = 1 → (queue t (x.src % 1024)).chanCons = some c.val) ∧ (x.dstKind = 1 → (queue t (x.dst % 1024)).chanProd = some c.val) ∧ (∀ q, (queue t q).words = (queue s q).words) ∧
      (∀ k, k ≠ c.val → chan t k = { chan s k with above := (chan t k).above }) ∧ t = { s.logged t with qdma := t.qdma }) ∧
  (∀ (a : Acc) (c : Fin 64) (v : Word32) (x : Chan) (e : Nat × Nat) (s : State), s.accessible a → writeRight a.principal (prmN s (P.QDMA_OWNER c.val)) (prmB s (P.QDMA_SECURE c.val)) = true →
    x = ctrlFields v (chan s c.val) → chanBusy x = false → (if x.srcKind = 3 then e = (3, 0) else startCheck s c.val x = some e) →
    ∃ t, exec (.start a c v) s = .next t ∧ chan t c.val = { x with state := 6, errCode := e.1, errField := e.2, nRefused := x.nRefused + 1 } ∧
      (∀ k, k ≠ c.val → chan t k = chan s k) ∧ t = { s.logged t with qdma.chans := t.qdma.chans }) ∧
  (∀ (a : Acc) (c : Fin 64) (v : Word32) (s : State), s.accessible a → writeRight a.principal (prmN s (P.QDMA_OWNER c.val)) (prmB s (P.QDMA_SECURE c.val)) = true →
    ∃ t, exec (.stop a ⟨c, v⟩) s = .next t ∧
      (chanBusy (chan s c.val) = false → t = setChan c.val (ctrlFields v (chan s c.val)) (s.logged t)) ∧
      (chanBusy (chan s c.val) = true → (chan s c.val).bursts ≠ [] → t = setChan c.val { chan s c.val with withdraw := true } (s.logged t)) ∧
      (chanBusy (chan s c.val) = true → (chan s c.val).bursts = [] → (c.val ≠ 63 ∨ s.qdma.sup = []) →
        chan t c.val = { chan s c.val with state := 5, withdraw := false, above := (chan t c.val).above } ∧ t.evnt.inflight = s.evnt.inflight ++ [⟨506 + 3 * (c.val / 4) + 2, c.val, none⟩] ∧
        t.mem = s.mem ∧ ∀ q, (queue t q).words = (queue s q).words)) ∧
  (∀ (c n : Nat) (s u : State), u = fallBack s → nextChan u = some c → n = burstLen u (chan u c) / 8 → (chan u c).srcKind = 0 → ∃ t b, exec .dmaBurstDecision s = .next t ∧
    chan t c = { chan u c with
      state := 2, bursts := (chan u c).bursts ++ [b], issued := (chan u c).issued + 8 * n, nBursts := (chan u c).nBursts + 1, nRead := (chan u c).nRead + 8 * n } ∧ b.words.take n = memWords u c n ∧
    b.keep = n ∧ b.bytes = 8 * n ∧ b.flushed = false ∧ b.rdId = some 8 ∧ t.qdma.rr = c ∧ t.qdma.queues = u.qdma.queues ∧ t.mem = s.mem) ∧
  (∀ (c n q : Nat) (s u : State), u = fallBack s → nextChan u = some c → n = burstLen u (chan u c) / 8 → (chan u c).srcKind = 1 → (chan u c).pktAlign = false → q = (chan u c).src % 1024 →
    ∃ t b, exec .dmaBurstDecision s = .next t ∧ (chan t c).state = 2 ∧ (chan t c).bursts = (chan u c).bursts ++ [b] ∧ b.words.take b.keep = (queue u q).words.take n ∧
      (queue t q).words = (queue u q).words.drop n ∧ t.qdma.rr = c ∧ t.mem = s.mem) ∧
  (∀ s : State, nextChan (fallBack s) = none → exec .dmaBurstDecision s = .next (fallBack s)) ∧
  (∀ (c : Fin 64) (x : Chan) (b : Burst) (bs : List Burst) (s : State), x = chan s c.val → chanBusy x = true → x.bursts = b :: bs → x.dstKind = 0 ∨ x.dstKind = 2 →
    (∀ p ∈ placed x b.words, beyond s c.val x.dstKind p.1 = false) → b.errAddr = none → b.flushed = false → x.flushed = false →
    x.hadErr = false → x.withdraw = false → (c.val ≠ 63 ∨ s.qdma.sup = []) → s.chk.jobs = [] → endless x = false → ∃ t, exec (.dmaBurstComplete c) s = .next t ∧
      t.mem = (placed x b.words).foldl (fun m p => m.store p.1 (leBytes 8 p.2.val)) s.mem ∧
      (chan t c.val).wrPtr = (x.wrPtr + b.bytes) % 2 ^ 32 ∧ (chan t c.val).remain = x.remain - b.bytes ∧ (chan t c.val).bursts = bs ∧
      (chan t c.val).nWritten = x.nWritten + 8 * b.words.length ∧ (chan t c.val).state = (if x.remain ≤ b.bytes ∧ bs = [] then 3 else x.state) ∧
      t.evnt.inflight = s.evnt.inflight ++ (if x.remain ≤ b.bytes ∧ bs = [] then [⟨506 + 3 * (c.val / 4), c.val, none⟩] else []))

/-- With the right of R434 on an idle unit PRESET takes the preset and its start state and INIT begins again; a busy unit only sets REFUSED. A unit without a job consumes the next word, up to CK_LIMIT. CK_STATE_CAPTURE of a unit at a 64-byte boundary keeps state, result and count together; CK_STATE_RESTORE lays a half of the state, cut to the preset's width. A corrected SRAM error is counted, recorded unless an uncorrectable one is held, and raised as 555; an uncorrectable one is recorded, raised as 556 and logged, a word of the queue pool takes its error mark, and no other memory loses a byte. CHK_ECC_HI_READ returns and clears the record but for the index. -/
def Obligations.CrcUnitCommands : Prop :=
  (∀ (a : Acc) (u : Fin 8) (v : Word32) (s : State), s.accessible a → crcRight s a.principal u.val = true →
    ∃ t, exec (.preset a u v) s = .next t ∧ t = setCrcUnit u.val (if crcBusy s u.val = true then { crcUnit s u.val with refused := true, nRefused := (crcUnit s u.val).nRefused + 1 }
      else { crcUnit s u.val with preset := v.toNat % 4, state := (crcPreset (v.toNat % 4)).init, count := 0, reached := false, errMark := false, cfgRsv := v.toNat / 4 }) (s.logged t)) ∧
  (∀ (a : Acc) (u : Fin 8) (s : State), s.accessible a → crcRight s a.principal u.val = true →
    exec (.init a u) s = .next (setCrcUnit u.val (if crcBusy s u.val = true then { crcUnit s u.val with refused := true, nRefused := (crcUnit s u.val).nRefused + 1 }
      else { crcUnit s u.val with state := (crcPreset (crcUnit s u.val).preset).init, count := 0, reached := false, errMark := false }) s)) ∧
  (∀ (u : Fin 8) (x : CrcUnit) (w : QWord) (ws : List QWord) (n : Nat) (s : State), x = crcUnit s u.val → x.input = w :: ws → x.job = none → s.chk.jobs = [] →
    n = (if x.limit = 0 then 8 else min 8 (x.limit - x.count)) → exec (.crcFeed u) s = .next (setCrcUnit u.val { x with
      input := ws, state := crcFeed (crcPreset x.preset) x.state ((leBytes 8 w.val).take n), count := (x.count + n) % 2 ^ 32, bytes := x.bytes + n
      reached := x.reached || (x.limit != 0 && decide (x.count + n = x.limit)), errMark := x.errMark || (w.err && n != 0) } s)) ∧
  (∀ (u : Fin 8) (s : State), (crcUnit s u.val).input = [] → (crcUnit s u.val).job = none → s.chk.jobs = [] →
    exec (.crcFeed u) s = .next (setCrcUnit u.val (crcUnit s u.val) s)) ∧
  (∀ (a : Acc) (u : Fin 8) (x : CrcUnit) (s : State), s.accessible a → x = crcUnit s u.val → x.count % 64 = 0 → x.job = none →
    exec (.ckStateCapture a u) s = .next (setCrcUnit u.val { x with saved := { state := x.state, result := crcResult (crcPreset x.preset) x.state, count := x.count } }
      { s with core.rdata := x.state % 2 ^ 32 })) ∧
  (∀ (a : Acc) (u : Fin 8) (hi : Bool) (v : Word32) (x : CrcUnit) (s : State), s.accessible a → crcRight s a.principal u.val = true → x = crcUnit s u.val → crcBusy s u.val = false →
    ∃ y, exec (.ckStateRestore a u hi v) s = .next (setCrcUnit u.val y s) ∧
      y.state = (if hi then v.toNat * 2 ^ 32 + x.state % 2 ^ 32 else x.state / 2 ^ 32 * 2 ^ 32 + v.toNat) % 2 ^ (crcPreset x.preset).width ∧
      y = { x with state := y.state, saved.state := y.saved.state }) ∧
  (∀ (m : Fin 9) (i : Word32) (s : State), ∃ t, exec (.chkEccCe m i) s = .next t ∧ t.chk.ce = s.chk.ce + 1 ∧ t.chk.ue = s.chk.ue ∧ t.mem = s.mem ∧
    t.chk.ecc = (if s.chk.ecc.valid = true ∧ s.chk.ecc.uncorr = true then s.chk.ecc else ⟨true, false, m.val, i.toNat⟩) ∧
    ∃ v, t.evnt.inflight = s.evnt.inflight ++ [⟨555, v, none⟩]) ∧
  (∀ (m : Fin 9) (i : Word32) (p : Nat × Nat) (s : State), m.val ≠ 7 → ∃ t, exec (.chkEccUe m i p) s = .next t ∧ t.chk.ue = s.chk.ue + 1 ∧ t.chk.ce = s.chk.ce ∧ t.mem = s.mem ∧
    t.chk.ecc = ⟨true, true, m.val, i.toNat⟩ ∧ t.sys.log.next = s.sys.log.next + 1 ∧ (∃ v, t.evnt.inflight = s.evnt.inflight ++ [⟨556, v, none⟩]) ∧
    (m.val = 4 → (queue t p.1).words = (queue s p.1).words.mapIdx (fun k w => if k = p.2 then { w with err := true } else w))) ∧
  (∀ (a : Acc) (s : State), s.accessible a → exec (.chkEccHiRead a) s = .next { s with
    chk.ecc := { index := s.chk.ecc.index }, core.rdata := (2 ^ 31 * b2n s.chk.ecc.valid + 2 ^ 30 * b2n s.chk.ecc.uncorr + s.chk.ecc.memory) % 2 ^ 32 })

/-- A running core in machine mode and the secure world that writes its own AC_WORLD takes the world written; any other writer with access changes nothing by it. AC_IP_WRITE clears the pending inputs written as 1 that the writer may change; MSIP follows bit 0 of AC_SWI; the timer interrupt stands while MTIME has reached AC_TIMECMP. A read of MTIME_LO returns the low half and captures both; REFUSE_INFO_READ returns the recorded refusal and clears all of it but the address. A window access reads or writes the register that the address names (shown for DC_COUNT and RN_COUNT), a write without the right is refused and recorded, and one that is misaligned or below the first window ends with a bus error. Where a clause gives the next state, all else keeps its value. -/
def Obligations.CoreWindow : Prop :=
  (∀ (a : Acc) (k : Fin 8) (m : Bool) (v : Word32) (s : State), s.accessible a → systemRight a.principal = true →
    exec (.acWorldSet a k m v) s = .next (if a.source = k.val ∧ a.principal = .appS ∧ m = true ∧ (appCore s k.val).running = true ∧ (appCore s k.val).world = false
      then setAppCore k.val { appCore s k.val with world := hasFlag v 0 } s else s)) ∧
  (∀ (a : Acc) (k : Fin 8) (v : Word32) (s : State), s.accessible a → (systemRight a.principal || a.principal == .appN) = true →
    exec (.acIpWrite a k v) s = .next (setAppCore k.val { appCore s k.val with
      ip := w1c (appCore s k.val).ip (v.truncate 16 &&& (if systemRight a.principal = true then 0xFFFF#16 else ~~~(BitVec.ofNat 16 (prmN s (P.CORE_INT_WORLD k.val))))) } s)) ∧
  (∀ (a : Acc) (k : Fin 8) (v : Word32) (s : State), s.accessible a → systemRight a.principal = true →
    exec (.msip a k v) s = .next (setAppCore k.val { appCore s k.val with msip := hasFlag v 0, swiRsv := v.toNat / 2 } s)) ∧
  (∀ (k : Fin 8) (s : State), exec (.timerInterrupt k) s = .next (setAppCore k.val { appCore s k.val with timerInt := decide ((appCore s k.val).timecmp ≤ s.tk.cycles * 5 / 16) } s)) ∧
  (∀ (a : Acc) (s : State), s.accessible a → exec (.mtimeCapture a) s = .next { s with core.rdata := s.tk.cycles * 5 / 16 % 2 ^ 32, core.mtimeCap := s.tk.cycles * 5 / 16 }) ∧
  (∀ (a : Acc) (s : State), s.accessible a → exec (.refuseInfoRead a) s = .next { s with
    core.rdata := (2 ^ 31 * b2n s.core.refused.valid + 2 ^ 30 * b2n s.core.refused.window + 2 ^ 29 * b2n s.core.refused.write + 2 ^ 26 * s.core.refused.principal + s.core.refused.source) % 2 ^ 32
    core.refused := { addr := s.core.refused.addr } }) ∧
  (∀ (a : Acc) (c : Fin 64) (v : Word32) (s : State), s.accessible a →
    exec (.windowAccess a false true (0x1010010010 + c.val * 0x40) v) s = .next { s with core.rdata := (chan s c.val).count % 2 ^ 32 } ∧
    (writeRight a.principal (prmN s (P.QDMA_OWNER c.val)) (prmB s (P.QDMA_SECURE c.val)) = true → chanBusy (chan s c.val) = false →
      exec (.windowAccess a true true (0x1010010010 + c.val * 0x40) v) s = .next (setChan c.val { chan s c.val with count := v.toNat } s)) ∧
    (writeRight a.principal (prmN s (P.QDMA_OWNER c.val)) (prmB s (P.QDMA_SECURE c.val)) = false → prmB s P.CORE_REFUSE_FAULT = false → s.core.refused.valid = false →
      exec (.windowAccess a true true (0x1010010010 + c.val * 0x40) v) s = .next { s with core.refused := ⟨true, true, true, a.principal.code, a.source, 0x1010010010 + c.val * 0x40⟩ })) ∧
  (∀ (a : Acc) (n : Fin 256) (v : Word32) (s : State), s.accessible a →
    exec (.windowAccess a false true (0x1011000004 + n.val * 0x10) v) s = .next (setRein n.val { rein s n.val with count := 0 } { s with core.rdata := (rein s n.val).count % 2 ^ 32 })) ∧
  (∀ (a : Acc) (w al : Bool) (addr : Nat) (v : Word32) (s : State), dramEnd ≤ addr → addr < 0x2000000000 → (addr < 0x1001000000 ∨ 0x1018000000 ≤ addr ∨ al = false ∨ addr % 4 ≠ 0) →
    exec (.windowAccess a w al addr v) s = .next { s with core.busErrors := s.core.busErrors + 1 })

/-- A core's access beyond DRAM ends with a bus error; one outside the regions open to its world also leaves the record of R434 with WINDOW clear; one to a lost line ends with a bus error until a whole line is written; any other changes nothing. A corrected level-2 error is counted and raised as 555; an uncorrectable one of a dirty line also loses the line and ends in a bus error. A good signed request of at most 256 bytes unlocks debug access and is logged. A well-formed loader whose load range lies within the regions open to APP-S is read, then its body is stored at LOAD, and where the digest and, for a signed one, the signature verify, every core with RUN 1 is released at ENTRY in the secure world. -/
def Obligations.CoreAccesses : Prop :=
  (∀ (a : Acc) (addr len : Nat) (w : Bool) (s : State), dramEnd < addr + len → exec (.dramAccessRefused a addr len w) s = .next { s with core.busErrors := s.core.busErrors + 1 }) ∧
  (∀ (a : Acc) (addr len : Nat) (w : Bool) (s : State), addr + len ≤ dramEnd → inRegions s (if a.principal = .appN then 3 else 2) addr len = false →
    exec (.dramAccessRefused a addr len w) s = .next { s with
      core.busErrors := s.core.busErrors + 1
      core.refused := if s.core.refused.valid = true then s.core.refused else ⟨true, false, w, a.principal.code, a.source, addr⟩ }) ∧
  (∀ (a : Acc) (addr len : Nat) (w : Bool) (s : State), addr + len ≤ dramEnd → inRegions s (if a.principal = .appN then 3 else 2) addr len = true →
    exec (.dramAccessRefused a addr len w) s = .next (if touchesLost s addr len = false then s
      else if w = true ∧ addr % 64 = 0 ∧ len % 64 = 0 then { s with core.lost := s.core.lost.filter (fun l => !decide (addr ≤ l ∧ l < addr + len)) }
      else { s with core.busErrors := s.core.busErrors + 1 })) ∧
  (∀ (c : Fin 2) (i l : Nat) (u d : Bool) (s : State), (if c.val = 0 then s.boot.clusterA else s.boot.clusterB) = true → ∃ t, exec (.l2EccError c i l u d) s = .next t ∧ t.mem = s.mem ∧
    t.core.l2Ue = s.core.l2Ue + b2n u ∧ t.core.l2Ce = s.core.l2Ce + b2n (!u) ∧ t.core.busErrors = s.core.busErrors + b2n (u && d) ∧
    t.core.lost = (if u = true ∧ d = true then (l :: s.core.lost).dedup else s.core.lost) ∧ ∃ v, t.evnt.inflight = s.evnt.inflight ++ [⟨if u = true then 556 else 555, v, none⟩]) ∧
  (∀ (r : List Byte) (s : State), s.core.unlocked = false → r.length ≤ 256 → accepting s = true →
    ∃ t, exec (.debugUnlock r true) s = .next t ∧ t = { s.logged t with core.unlocked := true } ∧ t.sys.log.next = s.sys.log.next + 1) ∧
  (∀ (r : List Byte) (s : State), exec (.debugUnlock r false) s = .next s) ∧
  (∀ (hdr h : List Byte) (s : State), s.core.boot = 1 → (prm s P.CORE_BOOT_SRC = 1 → itemFault s (prmN s P.CORE_BOOT_ITEM) = none) →
    h = (if prm s P.CORE_BOOT_SRC = 1 then (itemData s (prmN s P.CORE_BOOT_ITEM)).take 128 else hdr) → loaderOk h = true → inRegions s 2 (leAt h 16 8) (leAt h 8 4) = true →
    exec (.coreBoot hdr) s = .next { s with core.boot := 2, core.hdr := h }) ∧
  (∀ (body bs : List Byte) (good : Bool) (s : State), s.core.boot = 2 → loaderFault s true good = none → bs.length = leAt s.core.hdr 8 4 →
    bs = (if prm s P.CORE_BOOT_SRC = 1 then ((itemData s (prmN s P.CORE_BOOT_ITEM)).drop 128).take (leAt s.core.hdr 8 4) else body.take (leAt s.core.hdr 8 4)) →
    ∃ t, exec (.coreLoaderDone body true good) s = .next t ∧ t.mem = s.mem.store (leAt s.core.hdr 16 8) bs ∧ t.core.entry = leAt s.core.hdr 24 8 ∧ t.core.loaded = true ∧ t.core.boot = 0 ∧
      ∀ k, k < 8 → appCore t k = if prmB s (P.CORE_RUN k) = true then { appCore s k with running := true, world := false, bootFail := false } else appCore s k)

/-- With the right of R434 a GO that no reason of R448 refuses takes the fields of TW_CMD and starts a transaction, which begins at once on a free bus with no alert read due; a refused one sets RESULT 6 and REFUSED alone. CLEAR begins a bus clear on an idle TW0 or TW1 whose SCL is free, RESET pulses the reset line of TW2 to TW7. A transaction that has begun ends with its result, the bytes moved, the bytes read in the receive buffer, the bus busy again and TW_DONE raised. Lost arbitration sets ARB_LOST, raises 566 + 4t and is tried again within RETRY, as an alert read is. A hold is recorded, raised and logged. A cure that ends frees the bus or sets CURE_FAIL. A channel whose transaction has not begun that sees TWALERT_N low reads the alert address into a FIFO with room and raises TW_ALERT; the line going high ends the episode, and a transaction that waited begins on a free bus; TW_ALERT_READ returns and removes the oldest address; BUS_FREE frees the bus of a running channel, where a transaction that waits begins unless an alert read is due. Where a clause gives the next state, all else keeps its value. -/
def Obligations.TwoWireCommands : Prop :=
  (∀ (a : Acc) (c : Fin 8) (v : Word32) (s : State), s.accessible a → twRight s a.principal c.val = true →
    ∃ t, exec (.go a c v) s = .next t ∧ t = { s.logged t with twcs := t.twcs } ∧ (∀ k, k ≠ c.val → twc t k = twc s k) ∧
      twc t c.val = if goRefused s c.val v = true then { twc s c.val with result := 6, flags := setFlag (twc s c.val).flags 0 }
        else { cmdFields v (twc s c.val) with act := 1, tries := 0, begun := !(twc s c.val).busBusy && !alertDue s c.val }) ∧
  (∀ (a : Acc) (c : Fin 8) (v : Word32) (s : State), s.accessible a → twRight s a.principal c.val = true → c.val < 2 → (twc s c.val).run = true → (twc s c.val).act = 0 →
    twQuiet s c.val = false → ∃ t, exec (.twbClear a c v) s = .next t ∧ t = { s.logged t with twcs := t.twcs } ∧ (∀ k, k ≠ c.val → twc t k = twc s k) ∧ twc t c.val = if 2 ≤ (twc s c.val).stuck then
      { cmdFields v (twc s c.val) with flags := setFlag (twc s c.val).flags 5, nCureBad := (twc s c.val).nCureBad + 1 } else { cmdFields v (twc s c.val) with act := 4 }) ∧
  (∀ (a : Acc) (c : Fin 8) (v : Word32) (s : State), s.accessible a → twRight s a.principal c.val = true → 2 ≤ c.val → twQuiet s c.val = false → (twc s c.val).act ≠ 1 →
    ∃ t, exec (.twbReset a c v) s = .next t ∧ t = setTwc c.val { cmdFields v (twc s c.val) with act := 3 } (s.logged t)) ∧
  (∀ (a : Acc) (c : Fin 8) (v : Word32) (s : State), s.accessible a → twRight s a.principal c.val = true → 2 ≤ c.val → twQuiet s c.val = false → (twc s c.val).act = 1 →
    ∃ t, exec (.twbReset a c v) s = .next t ∧ (twc t c.val).act = 3 ∧ (twc t c.val).result = 7 ∧ (twc t c.val).busBusy = true ∧ (twc t c.val).addr = field v.toNat 7 1 ∧
      ∃ e, t.evnt.inflight = s.evnt.inflight ++ [⟨565 + 4 * c.val, e, none⟩]) ∧
  (∀ (c : Fin 8) (r : Fin 3) (n : Nat) (d g : List Byte) (s : State), (twc s c.val).act = 1 → (twc s c.val).begun = true → g = (if r = 0 then d.take (twc s c.val).rlen else []) →
    ∃ t, exec (.twDone c r n d) s = .next t ∧ (twc t c.val).act = 0 ∧ (twc t c.val).result = r.val + 1 ∧ (twc t c.val).bytes = min n (twc s c.val).wlen + g.length ∧ (twc t c.val).busBusy = true ∧
      (∀ i, (twc t c.val).rx.get 0 i = if h : i < g.length then g[i] else (twc s c.val).rx.get 0 i) ∧
      t.evnt.inflight = s.evnt.inflight ++ [⟨565 + 4 * c.val, r.val + 1 + 16 * (min n (twc s c.val).wlen + g.length), none⟩] ∧
      t = { s with twcs := t.twcs, evnt.inflight := t.evnt.inflight }) ∧
  (∀ (c : Fin 8) (b : Nat) (s : State), (twc s c.val).act = 1 → (twc s c.val).begun = true → (twc s c.val).tries + 1 ≤ prmN s (P.TWB_RETRY c.val) →
    ∃ t, exec (.twArbLost c b) s = .next t ∧ t = { s with twcs := t.twcs, evnt.inflight := s.evnt.inflight ++ [⟨566 + 4 * c.val, b, none⟩] } ∧ (∀ k, k ≠ c.val → twc t k = twc s k) ∧
      twc t c.val = { twc s c.val with
        flags := setFlag (twc s c.val).flags 1, nLost := (twc s c.val).nLost + 1, tries := (twc s c.val).tries + 1, busBusy := true, begun := false }) ∧
  (∀ (c : Fin 8) (b : Nat) (s : State), (twc s c.val).act ≤ 1 → (twc s c.val).begun = false → (twc s c.val).busBusy = false → alertDue s c.val = true →
    ∃ t, exec (.twArbLost c b) s = .next t ∧ t = { s with twcs := t.twcs, evnt.inflight := s.evnt.inflight ++ [⟨566 + 4 * c.val, b, none⟩] } ∧
      (twc t c.val).nLost = (twc s c.val).nLost + 1 ∧ (twc t c.val).busBusy = true ∧ (twc t c.val).act = (twc s c.val).act ∧
      ((twc s c.val).alertTries + 1 ≤ prmN s (P.TWB_RETRY c.val) → (twc t c.val).alertTries = (twc s c.val).alertTries + 1 ∧ (twc t c.val).episode = (twc s c.val).episode) ∧
      (prmN s (P.TWB_RETRY c.val) < (twc s c.val).alertTries + 1 → (twc t c.val).alertTries = 0 ∧ (twc t c.val).episode = (twc s c.val).episode + 1 ∧ (twc t c.val).nLostEnd = (twc s c.val).nLostEnd + 1)) ∧
  (∀ (c : Fin 8) (b : Nat) (s : State), (twc s c.val).act = 1 → (twc s c.val).begun = true → prmN s (P.TWB_RETRY c.val) < (twc s c.val).tries + 1 →
    ∃ t, exec (.twArbLost c b) s = .next t ∧ (twc t c.val).act = 0 ∧ (twc t c.val).result = 4 ∧ hasFlag (twc t c.val).flags 1 = true ∧ (twc t c.val).nLostEnd = (twc s c.val).nLostEnd + 1) ∧
  (∀ (c : Fin 8) (sda scl st : Bool) (s : State), (twc s c.val).run = true → (twc s c.val).act < 2 → (sda || scl) = true →
    ∃ t, exec (.twTimeout c sda scl st) s = .next t ∧ (twc t c.val).stuck = b2n sda + 2 * b2n scl ∧ (twc t c.val).nHolds = (twc s c.val).nHolds + 1 ∧ t.sys.log.next = s.sys.log.next + 1 ∧
      ⟨567 + 4 * c.val, b2n sda + 2 * b2n scl, none⟩ ∈ t.evnt.inflight ∧ ((twc s c.val).act = 1 → (twc t c.val).result = 5) ∧
      (2 ≤ c.val → twQuiet s c.val = false → (prmB s (P.TWB_RST_AUTO c.val) || st) = true → (twc t c.val).act = 3)) ∧
  (∀ (c : Fin 8) (f : Bool) (s : State), 3 ≤ (twc s c.val).act → exec (.cureDone c f) s = .next (setTwc c.val { twc s c.val with
    act := 0, stuck := if f = true then 0 else (twc s c.val).stuck, flags := setFlag (twc s c.val).flags (if f = true then 4 else 5)
    nCured := (twc s c.val).nCured + b2n f, nCureBad := (twc s c.val).nCureBad + b2n (!f) } s)) ∧
  (∀ (c : Fin 8) (d : Fin 128) (s : State), (twc s c.val).run = true → prmB s (P.TWB_ALERT_AUTO c.val) = true → (twc s c.val).act ≤ 1 → (twc s c.val).begun = false → (twc s c.val).alertStop = false →
    (twc s c.val).busBusy = false → twQuiet s c.val = false → (twc s c.val).fifo.length < 8 → ∃ t, exec (.twAlert c true (some d)) s = .next t ∧ (twc t c.val).fifo = (twc s c.val).fifo ++ [d.val] ∧
      (twc t c.val).episode = (twc s c.val).episode + 1 ∧ (twc t c.val).alertStop = decide (16 ≤ (twc s c.val).episode + 1) ∧
      t.evnt.inflight = s.evnt.inflight ++ [⟨568 + 4 * c.val, d.val, none⟩] ∧ t = { s with twcs := t.twcs, evnt.inflight := t.evnt.inflight }) ∧
  (∀ (c : Fin 8) (d : Option (Fin 128)) (s : State), ∃ t, exec (.twAlert c false d) s = .next t ∧ t = { s with twcs := t.twcs } ∧ (∀ k, k ≠ c.val → twc t k = twc s k) ∧ twc t c.val = { twc s c.val with
    alertPin := false, episode := 0, alertTries := 0, alertStop := false, begun := (twc s c.val).begun || ((twc s c.val).act == 1 && !(twc s c.val).busBusy) }) ∧
  (∀ (a : Acc) (c : Fin 8) (d : Nat) (ds : List Nat) (s : State), s.accessible a → (twc s c.val).fifo = d :: ds →
    exec (.twAlertRead a c) s = .next (setTwc c.val { twc s c.val with fifo := ds } { s with core.rdata := (2 ^ 31 + 2 ^ 24 * ds.length + d) % 2 ^ 32 })) ∧
  (∀ (c : Fin 8) (s : State), (twc s c.val).run = true → ∃ t, exec (.busFree c) s = .next t ∧ t = { s with twcs := t.twcs } ∧ (∀ k, k ≠ c.val → twc t k = twc s k) ∧ twc t c.val = { twc s c.val with
    busBusy := false, begun := (twc s c.val).begun || ((twc s c.val).act == 1 && !alertDue s c.val) })

/-- A transaction that addresses the running port in its range with function 0 to 2 is acknowledged and selects the function; another function is counted as not acknowledged. A write takes two bytes of pointer, high byte first, then stores bytes in the command buffer and advances the pointer in its page of 64; a byte 1 at 0x1000 is the doorbell that the STOP acts on. A read returns the byte at the pointer and advances it; the read of ALERT_CAUSE clears the causes. A hold by the host ends the transaction. The alert response drives the base shifted left, and a port that wins releases the line. A reply that has been read leaves, the next takes its place, else the state byte returns to 0. The doorbell while the port is busy is counted and sets the overrun state. Where a clause gives the next state, all else keeps its value. -/
def Obligations.HostPortCommands : Prop :=
  (∀ (d : Fin 128) (rd : Bool) (s u : State), u = { s with ht.fn := none, ht.bell := none, ht.base := htBase s, ht.mask := prmN s P.TWB_HT_MASK } → htRuns s = true → htMatches u d.val = true →
    exec (.htAddress d rd false) s = .next (if htFunction s (d.val % (u.ht.mask + 1)) = true
      then { u with ht.addressed := s.ht.addressed + 1, ht.fn := some (d.val % (u.ht.mask + 1)), ht.reading := rd, ht.have2 := 0 }
      else { u with ht.addressed := s.ht.addressed + 1, ht.notAcked := s.ht.notAcked + 1 })) ∧
  (∀ (b : Byte) (f : Nat) (s : State), s.ht.fn = some f → s.ht.reading = false → s.ht.have2 = 0 → exec (.htWriteByte b) s = .next { s with ht.ptrHigh := b, ht.have2 := 1 }) ∧
  (∀ (b : Byte) (f : Nat) (s : State), s.ht.fn = some f → s.ht.reading = false → s.ht.have2 = 1 →
    exec (.htWriteByte b) s = .next { s with ht.have2 := 2, ht.ptrs := s.ht.ptrs.set 0 f (s.ht.ptrHigh.toNat * 256 + b.toNat) }) ∧
  (∀ (b : Byte) (p : Nat) (s : State), s.ht.fn = some 0 → s.ht.reading = false → s.ht.have2 = 2 → p = s.ht.ptrs.get 0 0 → p < 0x1000 →
    exec (.htWriteByte b) s = .next { s with ht.cmd := s.ht.cmd.set 0 p b, ht.ptrs := s.ht.ptrs.set 0 0 (p - p % 64 + (p + 1) % 64) }) ∧
  (∀ s : State, s.ht.fn = some 0 → s.ht.reading = false → s.ht.have2 = 2 → s.ht.ptrs.get 0 0 = 0x1000 →
    exec (.htWriteByte 1) s = .next { s with ht.bell := some 1, ht.ptrs := s.ht.ptrs.set 0 0 0x1001 }) ∧
  (∀ (b : Byte) (p : Nat) (s : State), s.ht.fn = some 1 → s.ht.reading = false → s.ht.have2 = 2 → p = s.ht.ptrs.get 0 1 →
    exec (.htWriteByte b) s = .next { s with ht.discarded := s.ht.discarded + 1, ht.ptrs := s.ht.ptrs.set 0 1 (p - p % 64 + (p + 1) % 64) }) ∧
  (∀ (p : Nat) (s : State), s.ht.fn = some 0 → s.ht.reading = true → p = s.ht.ptrs.get 0 0 → p < 0x1000 →
    exec .htReadByte s = .next { s with ht.driven := s.ht.cmd.get 0 p, ht.ptrs := s.ht.ptrs.set 0 0 (p + 1) }) ∧
  (∀ s : State, s.ht.fn = some 1 → s.ht.reading = true → s.ht.ptrs.get 0 1 = 1 →
    exec .htReadByte s = .next { s with ht.driven := BitVec.ofNat 8 s.ht.causes.toNat, ht.causes := 0, ht.quieted := 0, ht.ptrs := s.ht.ptrs.set 0 1 2 }) ∧
  (∀ (f : Nat) (s : State), s.ht.fn = some f → exec .htHostHold s = .next { s with ht.fn := none, ht.bell := none, ht.holds := s.ht.holds + 1 }) ∧
  (∀ (w : Bool) (s : State), htRuns s = true → halertLow s = true → exec (.htAlertResponse w) s = .next { s with
    ht.driven := BitVec.ofNat 8 (2 * s.ht.base), ht.quieted := if w = true then s.ht.quieted ||| s.ht.causes else s.ht.quieted }) ∧
  (∀ s : State, s.ht.reply ≠ [] → s.ht.waiting = [] → exec .htReplyConsumed s = .next { s with ht.state := if s.ht.state = 2 then 0 else s.ht.state, ht.reply := [] }) ∧
  (∀ (r : List Byte) (rs : List (List Byte)) (s : State), s.ht.reply ≠ [] → s.ht.waiting = r :: rs → s.ht.state = 2 → ∃ t, exec .htReplyConsumed s = .next t ∧
    t.ht.reply = r ∧ t.ht.waiting = rs ∧ t.ht.state = 2 ∧ hasFlag t.ht.causes 0 = true) ∧
  (∀ (b : Byte) (s : State), s.ht.bell = some b → accepting s = true → s.ht.state = 1 ∨ s.ht.state = 2 →
    exec .htDoorbell s = .next { s with ht.bell := none, ht.state := 3, ht.overruns := s.ht.overruns + 1 }) ∧
  (∀ (b : Byte) (bytes : List Byte) (h : Hdr) (s u : State), s.ht.bell = some b → s.ht.state = 0 ∨ s.ht.state = 3 → s.ht.reply = [] → bytes = htPacket s →
    bytes = packetOf 0x0004 h [] → h = runInstr.hdrOf .ht bytes → h.quiet = false → reservedFault .ht bytes = none → ackWaits s 5 h.seq = false →
    u = { s with ht.bell := none, ht.state := 1, ht.doorbells := s.ht.doorbells + 1, evnt.inflight := s.evnt.inflight ++ [⟨597, 0, none⟩] } → u.Ready 0x0004 h →
    ∃ t, exec .htDoorbell s = .next t ∧ t.ht.state = 2 ∧ t.ht.bell = none ∧ t.ht.doorbells = s.ht.doorbells + 1 ∧ t.evnt.inflight = s.evnt.inflight ++ [⟨597, 0, none⟩] ∧
      t.ht.reply = replyBytes ⟨.ht, 0x0004, h.tag, 5, h.seq, 0, false, false, s.sys.epoch, 5, []⟩ ∧ hasFlag t.ht.causes 0 = true)

/-- On a running quadrature axis one changed level is a count of the sign that R143 gives; what the hysteresis of R145 leaves of it, where it is on, moves P within its range, the last direction follows, and no other axis changes; on any other axis the levels are followed. A change of both levels is illegal: flag, count, event and VALID clear. An index copies P. The first SSI word sets P to word plus PRESET; a later one within MAX_DELTA moves P by the signed difference where HYSTERESIS is 0; a bad read is an SSI error and illegal. The observer follows the pseudocode of R148. STILL resets it to P at rest and raises the event; VALID is set after the settling time and four counts of one sign. A read of AX_POS_LO captures the block. Where a clause gives the next state, all else keeps its value. -/
def Obligations.EncoderCommands : Prop :=
  (∀ (ax : Fin 8) (na nb hy : Bool) (c e : Int) (x : Axis) (s : State), x = axis s ax.val → x.run = true → prm s (P.MOTN_AX_INPUT ax.val) = 0 → hy = prmB s (P.MOTN_AX_HYSTERESIS ax.val) →
    (na != x.a) ≠ (nb != x.b) → c = (if (if (na != x.a) = true then na != nb else nb == na) = prmB s (P.MOTN_AX_INVERT ax.val) then -1 else 1) →
    e = (if hy = false then c else if x.pend = false then (if c = x.d then c else 0) else (if c = x.d then 0 else 2 * c)) → posMin ≤ x.p + e → x.p + e ≤ posMax →
    ∃ t, exec (.quadratureEdge ax (na, nb)) s = .next t ∧ (axis t ax.val).p = x.p + e ∧ (axis t ax.val).d = (if e = 0 then x.d else c) ∧ (axis t ax.val).a = na ∧ (axis t ax.val).b = nb ∧
      (axis t ax.val).pend = (if hy = true then !x.pend && decide (c ≠ x.d) else x.pend) ∧ (e ≠ 0 → (axis t ax.val).still = false ∧ (axis t ax.val).illegal = false) ∧
      (∀ j, j ≠ ax.val → axis t j = axis s j) ∧ t.mem = s.mem ∧ t.sys.applied = s.sys.applied) ∧
  (∀ (ax : Fin 8) (na nb : Bool) (s : State), (axis s ax.val).run = false ∨ prm s (P.MOTN_AX_INPUT ax.val) ≠ 0 →
    exec (.quadratureEdge ax (na, nb)) s = .next (setAxis ax.val { axis s ax.val with a := na, b := nb } s)) ∧
  (∀ (ax : Fin 8) (x : Axis) (s : State), x = axis s ax.val → x.run = true → prm s (P.MOTN_AX_INPUT ax.val) = 0 → exec (.illegalTransition ax) s = .next { setAxis ax.val { x with
      a := !x.a, b := !x.b, flags := setFlag x.flags 0, nIllegal := x.nIllegal + 1, illegal := true, illegals := x.illegals + 1, valid := false, clearNs := monoNs s, same := 0, ssiBig := false } s with
    evnt.inflight := s.evnt.inflight ++ [⟨192 + 4 * ax.val, argOf x.p, none⟩] }) ∧
  (∀ (ax : Fin 8) (x : Axis) (s : State), x = axis s ax.val → x.run = true → prm s (P.MOTN_AX_INPUT ax.val) = 0 → exec (.encIndex ax) s = .next { setAxis ax.val { x with
      index := x.p, flags := setFlag x.flags 2 } s with evnt.inflight := s.evnt.inflight ++ [⟨193 + 4 * ax.val, argOf x.p, none⟩] }) ∧
  (∀ (ax : Fin 8) (raw w : Nat) (x : Axis) (s : State), x = axis s ax.val → x.run = true → prm s (P.MOTN_AX_INPUT ax.val) = 1 → x.ssiPrev = none →
    w = (if prmB s (P.MOTN_AX_SSI_CODE ax.val) = true then grayToBin (prmN s (P.MOTN_AX_SSI_BITS ax.val)) (raw % 2 ^ prmN s (P.MOTN_AX_SSI_BITS ax.val)) else raw % 2 ^ prmN s (P.MOTN_AX_SSI_BITS ax.val)) →
    ∃ t, exec (.ssiRead ax (some raw)) s = .next t ∧ axis t ax.val = { x with ssiPrev := some w, p := max posMin (min posMax (w + prm s (P.MOTN_AX_PRESET ax.val))) } ∧
      (∀ j, j ≠ ax.val → axis t j = axis s j) ∧ t.mem = s.mem) ∧
  (∀ (ax : Fin 8) (raw w prev : Nat) (d : Int) (x : Axis) (s : State), x = axis s ax.val → x.run = true → prm s (P.MOTN_AX_INPUT ax.val) = 1 → x.ssiPrev = some prev →
    w = (if prmB s (P.MOTN_AX_SSI_CODE ax.val) = true then grayToBin (prmN s (P.MOTN_AX_SSI_BITS ax.val)) (raw % 2 ^ prmN s (P.MOTN_AX_SSI_BITS ax.val)) else raw % 2 ^ prmN s (P.MOTN_AX_SSI_BITS ax.val)) →
    d = ofCode (prmN s (P.MOTN_AX_SSI_BITS ax.val)) (w + 2 ^ prmN s (P.MOTN_AX_SSI_BITS ax.val) - prev) →
    d.natAbs ≤ prmN s (P.MOTN_AX_SSI_MAX_DELTA ax.val) → prmB s (P.MOTN_AX_HYSTERESIS ax.val) = false → posMin ≤ x.p → x.p ≤ posMax → posMin ≤ x.p + d → x.p + d ≤ posMax →
    ∃ t, exec (.ssiRead ax (some raw)) s = .next t ∧ (axis t ax.val).p = x.p + d ∧ (axis t ax.val).ssiPrev = some w ∧ ∀ j, j ≠ ax.val → axis t j = axis s j) ∧
  (∀ (ax : Fin 8) (x : Axis) (s : State), x = axis s ax.val → x.run = true → prm s (P.MOTN_AX_INPUT ax.val) = 1 → exec (.ssiRead ax none) s = .next { setAxis ax.val { x with
      flags := setFlag (setFlag x.flags 1) 0, nSsiErr := x.nSsiErr + 1, nIllegal := x.nIllegal + 1, illegal := true, illegals := x.illegals + 1, valid := false, clearNs := monoNs s, same := 0, ssiBig := false } s with
    evnt.inflight := s.evnt.inflight ++ [⟨192 + 4 * ax.val, argOf x.p, none⟩] }) ∧
  (∀ (ax : Fin 8) (x y : Axis) (g : Int × Int × Int) (e ainc : Int) (s : State), x = axis s ax.val → x.run = true → x.still = false → g = gains (prmN s (P.MOTN_AX_BANDWIDTH ax.val)) →
    e = x.p * 2 ^ 32 - x.xh → ainc = rnd (g.2.1 * e) 32 → y.xh = x.xh + rnd x.vt 16 + rnd (g.1 * e) 32 → y.vt = x.vt + ainc → y.v = satS (rnd (y.vt * 1000000) 32) 48 →
    y.ah = satS (x.ah + rnd (g.2.2 * (satS (rnd (ainc * 10 ^ 12) 40) 40 - x.ah)) 32) 40 → y.dir = (if y.v < 0 then true else if 0 < y.v then false else x.dir) →
    exec (.observerUpdate ax) s = .next (setAxis ax.val { x with xh := y.xh, vt := y.vt, v := y.v, ah := y.ah, dir := y.dir } s)) ∧
  (∀ (ax : Fin 8) (x : Axis) (s : State), x = axis s ax.val → x.run = true → x.still = false → exec (.encStill ax) s = .next { setAxis ax.val { x with
      still := true, xh := x.p * 2 ^ 32, vt := 0, ah := 0, v := 0, nStill := x.nStill + 1 } s with evnt.inflight := s.evnt.inflight ++ [⟨194 + 4 * ax.val, argOf x.p, none⟩] }) ∧
  (∀ (ax : Fin 8) (x : Axis) (s : State), x = axis s ax.val → x.run = true → 4 ≤ x.same ∨ x.ssiBig = true → x.clearNs + settleNs (prmN s (P.MOTN_AX_BANDWIDTH ax.val)) ≤ monoNs s →
    exec (.validSettled ax) s = .next (setAxis ax.val { x with valid := true } s)) ∧
  (∀ (a : Acc) (ax : Fin 8) (x : Axis) (s : State), s.accessible a → x = axis s ax.val →
    exec (.axPosCapture a ax) s = .next (setAxis ax.val { x with cap := ⟨x.p, x.v, x.ah, x.index⟩ } { s with core.rdata := toCode 48 x.p % 2 ^ 32 }))

/-- A timer-mode generator behind the accumulator by 2 ns takes one step: below DIV_N its accumulator rises by DIV_M, at DIV_N it wraps and a trigger whose MIN_PERIOD has passed is issued to its port with the latch and raised. The oldest held trigger is issued once MIN_PERIOD has passed. On a device with the claim and with the right of R434 PC_INS_CMD inserts an entry ahead of the axis into a list with room, sorted, with LAST_RESULT 1; a passed one without LATE is missed, with its event and LAST_RESULT 3. CLEAR empties the list and DELETE takes out the entries of a tag. A pulse ends at its time. A read of PC_FIRED returns and removes the oldest record, one of PC_MISSED returns and clears the tag. Where a clause gives the next state, all else keeps its value but for the register log and the messages that forward the write. -/
def Obligations.TriggerAndCompare : Prop :=
  (∀ (k : Fin 16) (x : Ltg) (s : State), x = ltg s k.val → x.run = true → prm s (P.MOTN_LTG_SOURCE (16 + k.val)) = 1 → (x.timer + 1) * 2 ^ 49 ≤ s.tk.timer →
    x.acc + prm s (P.MOTN_LTG_DIV_M (16 + k.val)) < prm s (P.MOTN_LTG_DIV_N (16 + k.val)) →
    exec (.ltgTimerStep k) s = .next (setLtg k.val { x with timer := x.timer + 1, acc := x.acc + prm s (P.MOTN_LTG_DIV_M (16 + k.val)) } s)) ∧
  (∀ (k : Fin 16) (x : Ltg) (l : Latch) (s : State), x = ltg s k.val → x.run = true → prm s (P.MOTN_LTG_SOURCE (16 + k.val)) = 1 → (x.timer + 1) * 2 ^ 49 ≤ s.tk.timer →
    prm s (P.MOTN_LTG_DIV_N (16 + k.val)) ≤ x.acc + prm s (P.MOTN_LTG_DIV_M (16 + k.val)) → x.lastNs = none → l = latchAt s (prmN s (P.MOTN_LTG_AXIS (16 + k.val))) 0 →
    ∃ t, exec (.ltgTimerStep k) s = .next t ∧ ltg t k.val = { x with
        timer := x.timer + 1, acc := x.acc + prm s (P.MOTN_LTG_DIV_M (16 + k.val)) - prm s (P.MOTN_LTG_DIV_N (16 + k.val)), issued := x.issued + 1, lastNs := some (monoNs s) } ∧
      port t k.val = { port s k.val with incoming := (port s k.val).incoming ++ [(l, false)] } ∧ t.evnt.inflight = s.evnt.inflight ++ [⟨224 + 2 * k.val, argOf l.pos, none⟩]) ∧
  (∀ (k : Fin 16) (x : Ltg) (l : Latch) (ls : List Latch) (s : State), x = ltg s k.val → x.held = l :: ls → x.lastNs.getD 0 + prmN s (P.MOTN_LTG_MIN_PERIOD (16 + k.val)) ≤ monoNs s →
    ∃ t, exec (.ltgHeldIssue k) s = .next t ∧ ltg t k.val = { x with held := ls, issued := x.issued + 1, lastNs := some (monoNs s) } ∧
      port t k.val = { port s k.val with incoming := (port s k.val).incoming ++ [(l, false)] } ∧ (∀ j, j ≠ k.val → ltg t j = ltg s j ∧ port t j = port s j) ∧
      t = { s with motn.ltgs := t.motn.ltgs, ports := t.ports, evnt.inflight := s.evnt.inflight ++ [⟨224 + 2 * k.val, argOf l.pos, none⟩] }) ∧
  (∀ (a : Acc) (n : Fin 8) (v : Word32) (x : Pc) (e : PcEntry) (y : Axis) (s : State), s.accessible a → pcRight s a n.val = true → holdsClaim s = true → x = pc s n.val → x.run = true →
    e = windowEntry x v → y = axis s (prmN s (P.MOTN_PC_AXIS (32 + n.val))) → ¬ (e.pos ≤ y.p ∧ y.d = 1) → x.list.length < 4096 →
    ∃ t, exec (.pcInsCmd a n v) s = .next t ∧ t = setPc n.val { x with list := insertEntry e x.list, result := 1 } (s.logged t)) ∧
  (∀ (a : Acc) (n : Fin 8) (v : Word32) (x : Pc) (e : PcEntry) (y : Axis) (s : State), s.accessible a → pcRight s a n.val = true → holdsClaim s = true → x = pc s n.val → x.run = true →
    e = windowEntry x v → y = axis s (prmN s (P.MOTN_PC_AXIS (32 + n.val))) → e.pos ≤ y.p → y.d = 1 → e.late = false →
    ∃ t, exec (.pcInsCmd a n v) s = .next t ∧ t = { setPc n.val { x with flags := setFlag x.flags 0, missed := some e.tag, nMissed := x.nMissed + 1, result := 3 } (s.logged t) with
      evnt.inflight := s.evnt.inflight ++ [⟨256 + 3 * n.val + 2, e.tag, none⟩] }) ∧
  (∀ (a : Acc) (n : Fin 8) (s : State), s.accessible a → pcRight s a n.val = true → holdsClaim s = true →
    ∃ t, exec (.clear a n) s = .next t ∧ t = setPc n.val { pc s n.val with list := [], result := 1 } (s.logged t)) ∧
  (∀ (a : Acc) (n : Fin 8) (tag : Word16) (left : List PcEntry) (s : State), s.accessible a → pcRight s a n.val = true → holdsClaim s = true →
    left = (pc s n.val).list.filter (fun e => e.tag != tag.toNat) →
    ∃ t, exec (.delete a n tag) s = .next t ∧ t = setPc n.val { pc s n.val with list := left, result := if left.length = (pc s n.val).list.length then 5 else 1 } (s.logged t)) ∧
  (∀ (n : Fin 8) (e : Nat) (s : State), (pc s n.val).pulseEnd = some e → e ≤ monoNs s → exec (.pcPulseEnd n) s = .next (setPc n.val { pc s n.val with pulseEnd := none } s)) ∧
  (∀ (a : Acc) (n : Fin 8) (f : PcFired) (fs : List PcFired) (s : State), s.accessible a → (pc s n.val).fired = f :: fs → exec (.pcFiredRead a n) s = .next (setPc n.val
    { pc s n.val with fired := fs } { s with core.rdata := (f.tag % 2 ^ 16 + 2 ^ 29 * b2n f.reverse + 2 ^ 30 * b2n f.late + 2 ^ 31) % 2 ^ 32 })) ∧
  (∀ (a : Acc) (n : Fin 8) (s : State), s.accessible a → exec (.pcMissedRead a n) s = .next (setPc n.val { pc s n.val with missed := none }
    { s with core.rdata := (match (pc s n.val).missed with | some tag => tag % 2 ^ 16 + 2 ^ 31 | none => 0) % 2 ^ 32 }))

/-- A strip that nothing holds takes the next line of its port and gives its colour unit the corrected line, stages 1 to 6 on the bytes as read, or FILL_VALUE in every sample of a line with LOSS or FILL, with a new LINE_CHECK, and counts it. A shading update replaces the set of the next frame by the new multipliers. CALIB_LOAD outside the arming of a Cinch takes the table of the epoch of the next line and ends every error in it. A colour unit whose row may leave gives it, as received, by the matrix or by colour reconstruction as MODE says, to the stitcher that takes its port. -/
def Obligations.PixelCommands : Prop :=
  (∀ (i : Fin 16) (soft hard : List Nat) (ups : LineUpset (Nat × Nat)) (o : OutLine) (rest : List OutLine) (t0 : Stamp) (d : Dict) (s u : State), (strip s i.val).inq = o :: rest →
    u = (if o.first = true then freshLine i.val (dictAt s o.line.stamp.epoch) s else s) → t0 = { o.line.stamp with flags := setFlagIf (forcedOut u 5 i.val) o.line.stamp.flags 0 } → d = dictAt u t0.epoch →
    dataPathHeld u = false → waitsCapture u i.val t0.globalLine = false → waitsHeartbeat u i.val t0.globalLine = false →
    (ganged d i.val = true → waitsHeartbeat u (i.val + 1) t0.globalLine = false) → calibLoaded u i.val t0.epoch = true → gapHeld u 5 i.val = false →
    (strip u i.val).preset = none →
    ∃ t l, exec (.stripLine i soft hard ups) s = .next t ∧ (strip t i.val).inq = rest ∧ (colr t i.val).wait = (colr s i.val).wait ++ [l] ∧
      l.stamp.globalLine = t0.globalLine ∧ l.stamp.epoch = t0.epoch ∧ l.stamp.lineCheck = lineCheck l.px ∧ l.comps = dictN d (P.PORT_COMPONENTS i.val) ∧
      (strip t i.val).counts.lines = (strip u i.val).counts.lines + b2n (!stampLost t0) ∧ (strip t i.val).counts.lost = (strip u i.val).counts.lost + b2n (stampLost t0) ∧
      l.px = if stampLost t0 = true then List.replicate (lineSamples d i.val) (dictN d (P.PORT_FILL_VALUE i.val))
        else (correctLine (asRead u d) i.val (lineSamples d i.val) ((strip u i.val).bad ++ hard.filter (· < lineSamples d i.val)).dedup (prevLine d i.val t0 (strip u i.val))
          (if dictVal d (P.STRP_SHADE_EN i.val) = 1 ∧ (strip u i.val).shadeOn = false then [] else (strip u i.val).m0) (upsetBytes ups.entry o.line.bytes)).map Px.o) ∧
  (∀ (i : Fin 16) (j : ShadeJob) (s : State), (strip s i.val).job = some j → exec (.shadeUpdate i) s = .next (setStrip i.val { strip s i.val with
    job := none, m1 := (List.range j.ref.length).map (newMul j), counts.updates := (strip s i.val).counts.updates + 1 } s)) ∧
  (∀ (i : Fin 16) (o : OutLine) (rest : List OutLine) (s : State), s.sys.cinch = none → (strip s i.val).inq = o :: rest → exec (.calibLoad i) s = .next (setStrip i.val { strip s i.val with
    cal := (dictAt s o.line.stamp.epoch).tabs.find? (P.CALIB i.val), calDue := none, soft := [], bad := [] } s)) ∧
  (∀ (i : Fin 16) (s : State), s.sys.cinch = none → (strip s i.val).inq = [] → exec (.calibLoad i) s = .next (setStrip i.val { strip s i.val with
    cal := s.sys.applied.tabs.find? (P.CALIB i.val), calDue := none, soft := [], bad := [] } s)) ∧
  (∀ (i : Fin 16) (ups : LineUpset (Nat × Nat)) (c : Line) (rest past : List Line) (d : Dict) (mode cut : Nat) (s : State), (colr s i.val).wait = c :: rest → d = dictAt s c.stamp.epoch →
    mode = dictN d (P.COLR_MODE i.val) → (mode = 1 ∨ mode = 2 → mayEmit s i.val mode c rest = true) → past = (if c.first = true then [] else (colr s i.val).past) →
    cut = dictN d (P.PORT_WIDTH i.val) / (if ganged d i.val = true then 2 else 1) → s.stch.run = true → prmAtB s c.stamp.epoch (P.STCH_RUN i.val) = true → prmAtB s c.stamp.epoch P.STCH_OUT_RUN = true →
    ∃ t l, exec (.colourLine i ups) s = .next t ∧ (colr t i.val).wait = rest ∧ (colr t i.val).lines = (colr s i.val).lines + 1 ∧ (stchIn t i.val).inq = (stchIn s i.val).inq ++ [l] ∧
      l.comps = compsOf d i.val ∧ l.stamp.globalLine = c.stamp.globalLine ∧ l.stamp.lineCheck = (if mode = 0 then c.stamp.lineCheck else lineCheck l.px) ∧
      l.px = if mode = 1 ∨ mode = 2 then (mosaicLine d i.val mode cut { c with px := upsetPx ups.entry c.px } past rest).1
        else if mode = 3 ∧ stampLost c.stamp = false then (matrixLine d i.val ((triples (upsetPx ups.entry c.px)).take cut)).1 ++ (matrixLine d i.val ((triples (upsetPx ups.entry c.px)).drop cut)).1
        else upsetPx ups.entry c.px)

/-- The oldest corrected line of an input with room in its ring, or whose frame may be composed, is written at its index, counted from the first line or frame of the input past the wrap of the count, and leaves the queue. A stitched line whose parts are all there, with nothing that holds the stream and no Cinch pending, takes the blended samples of its columns and their mask with the parts' flags, a new LINE_CHECK and the next numbers, is counted and goes to SEGM and the line history; so does the next row of a frame that every contributing port has delivered. COMPOSE_LATE makes the newest row that is not yet lost, of a frame two or more ahead, a LOSS line of FILL_VALUE, counts it and raises 329. -/
def Obligations.StitchCommands : Prop :=
  (∀ (p : Fin 16) (l : Line) (rest : List Line) (x : StchIn) (d : Dict) (b i : Nat) (s : State), x = stchIn s p.val → x.inq = l :: rest → d = dictAt s s.stch.epoch → areaMode d = false →
    rtpHeld s (p.val / 4) = false → x.ring.length < dictN d (P.STCH_MD_DELAY p.val) + 2 → b = x.base.getD l.stamp.globalLine → i = (l.stamp.globalLine + 2 ^ 48 - b) % 2 ^ 48 →
    ∃ t, exec (.stchDelayWrite p) s = .next t ∧ (stchIn t p.val).inq = rest ∧ (stchIn t p.val).base = some b ∧
      (stchIn t p.val).ring = (if dMax d - dictN d (P.STCH_MD_DELAY p.val) - 1 ≤ i then x.ring ++ [(i, 0, l)] else x.ring) ∧
      t.stch.discarded = s.stch.discarded + b2n (decide (i < dMax d - dictN d (P.STCH_MD_DELAY p.val) - 1)) ∧ ∀ q, q ≠ p.val → stchIn t q = stchIn s q) ∧
  (∀ (p : Fin 16) (l : Line) (rest : List Line) (x : StchIn) (d : Dict) (b i : Nat) (s : State), x = stchIn s p.val → x.inq = l :: rest → d = dictAt s s.stch.epoch → areaMode d = true →
    rtpHeld s (p.val / 4) = false → (x.base = some b ∨ (x.base = none ∧ hasFlag l.stamp.flags 13 = true ∧ b = l.stamp.frame)) → i = (l.stamp.frame + 2 ^ 32 - b) % 2 ^ 32 → tooFar s i = false →
    ∃ t, exec (.stchDelayWrite p) s = .next t ∧ (stchIn t p.val).inq = rest ∧ (stchIn t p.val).base = some b ∧ (stchIn t p.val).ring = x.ring ++ [(i, l.stamp.lineInFrame, l)] ∧
      (stchIn t p.val).ended = (if hasFlag l.stamp.flags 14 = true then x.ended ++ [i] else x.ended) ∧ ∀ q, q ≠ p.val → stchIn t q = stchIn s q) ∧
  (∀ (errs : List (Nat × Nat)) (ups : LineUpset (Nat × Nat × Nat × Nat)) (n : Nat) (d : Dict) (parts : List PortPart) (s v : State), d = dictAt s s.stch.epoch → n = s.stch.next → s.sys.cinch = none →
    s.stch.run = true → areaMode d = false → dataPathHeld s = false → waitsStitched s s.stch.globalLine = false → streamHeld s d = false → contributors d ≠ [] →
    (∀ p ∈ contributors d, (linePart s d n p).isSome = true) → dictVal d P.STCH_OUT_RUN ≠ 0 → v = upsetStored ups.entry n d (markBad errs n d s) →
    parts = ((contributors d).filterMap (linePart v d n)).map (testedPart v) →
    ∃ t l, exec (.stitchedLine errs ups) s = .next t ∧ l.px = (List.range (dictN d P.STCH_OUT_WIDTH)).flatMap (fun x => (blend (asRead s d) parts x 0).1) ∧
      l.mask = (List.range (dictN d P.STCH_OUT_WIDTH)).map (fun x => (blend (asRead s d) parts x 0).2) ∧ l.stamp.lineCheck = lineCheck l.px ∧ l.stamp.globalLine = s.stch.globalLine ∧
      l.stamp.frame = s.stch.frame ∧ l.stamp.lineInFrame = s.stch.lineInFrame ∧ l.stamp.epoch = s.stch.epoch ∧ hasFlag l.stamp.flags 13 = (s.stch.lineInFrame == 0) ∧
      t.stch.next = n + 1 ∧ t.stch.globalLine = (s.stch.globalLine + 1) % 2 ^ 48 ∧ t.stch.emitted = s.stch.emitted + 1 ∧
      (s.segm.run = true ∨ dictVal d P.SEGM_RUN = 1 → ∃ r, t.segm.inq = [(l, r)]) ∧ (dictVal d P.RECD_HIST_EN = 1 → dictN d P.RECD_HIST_DEPTH ≠ 0 → (s.stch.runNo, l) ∈ t.recd.hist)) ∧
  (∀ (errs : List Nat) (ups : LineUpset (Nat × Nat × Nat)) (f y : Nat) (d : Dict) (parts : List PortPart) (s v : State), d = dictAt s s.stch.epoch → f = s.stch.frame → y = s.stch.lineInFrame →
    s.sys.cinch = none → s.stch.run = true → areaMode d = true → dataPathHeld s = false → waitsStitched s s.stch.globalLine = false → streamHeld s d = false → contributors d ≠ [] →
    (∀ p ∈ contributors d, (stchIn s p).ended.contains f = true) → dictVal d P.STCH_OUT_RUN ≠ 0 →
    v = forEach (errs.filter (fun p => (contributors d).contains p && (rowPart s d f y p).isSome)) (fun p s =>
      setStchIn p { stchIn s p with bad := (stchIn s p).bad ++ [(f, y - dictN d (P.STCH_TILE_Y p))] } { s with stch.readErrs := s.stch.readErrs + 1 }) s →
    parts = ((contributors d).filterMap (rowPart v d f y)).map (fun q => testedPart v (upsetPart ups.entry q)) →
    ∃ t l, exec (.areaComposition errs ups) s = .next t ∧ l.px = (List.range (dictN d P.STCH_OUT_WIDTH)).flatMap (fun x => (blend d parts x y).1) ∧ l.stamp.lineCheck = lineCheck l.px ∧
      l.stamp.globalLine = s.stch.globalLine ∧ l.stamp.frame = f ∧ l.stamp.lineInFrame = y ∧ hasFlag l.stamp.flags 13 = (y == 0) ∧ hasFlag l.stamp.flags 14 = (y + 1 == dictN d P.STCH_OUT_HEIGHT) ∧
      t.stch.emitted = s.stch.emitted + 1 ∧ t.stch.globalLine = (s.stch.globalLine + 1) % 2 ^ 48 ∧ t.stch.lineInFrame = (if y + 1 = dictN d P.STCH_OUT_HEIGHT then 0 else y + 1) ∧
      (s.segm.run = true ∨ dictVal d P.SEGM_RUN = 1 → ∃ r, t.segm.inq = [(l, r)])) ∧
  (∀ (p : Fin 16) (as bs : List Line) (l : Line) (b : Nat) (px : List Nat) (s : State), (stchIn s p.val).inq = as ++ l :: bs → (stchIn s p.val).base = some b → hasFlag l.stamp.flags 0 = false →
    (∀ m ∈ bs, hasFlag m.stamp.flags 0 = true) → tooFar s ((l.stamp.frame + 2 ^ 32 - b) % 2 ^ 32) = true → areaMode (dictAt s s.stch.epoch) = true →
    px = List.replicate l.px.length (prmAtN s l.stamp.epoch (P.PORT_FILL_VALUE p.val)) →
    ∃ t, exec (.composeLate p) s = .next t ∧ (stchIn t p.val).inq = as ++ { l with px := px, stamp := { l.stamp with flags := setFlag l.stamp.flags 0, lineCheck := lineCheck px } } :: bs ∧
      t.stch.rowsLost = s.stch.rowsLost + 1 ∧ ∃ v, t.evnt.inflight = s.evnt.inflight ++ [⟨329, v, none⟩])

/-- A running SEGM takes the next stitched line that nothing holds, classes its pixels, counts them by class, and keeps the stamp as that of the last line; a line without a member pixel and without an open object opens and hands over none. The next object handed over becomes a record: it is counted as formed, and as emitted or suppressed by the verdict of its rule, its 128 bytes enter the queue that RECORD_QUEUE names where they fit, and its patch joins the requests. The oldest patch request whose last line is in the history, or whose run has ended, leaves, is counted, and its body goes to the flows that select PATCH. -/
def Obligations.ObjectCommands : Prop :=
  (∀ (ecc : List (Nat × Fin 26)) (ups : List (Nat × Nat)) (l : Line) (refs : Option (List RefSet)) (rest : List (Line × Option (List RefSet))) (d : Dict) (pix : List PixClass) (s : State),
    s.segm.inq = (l, refs) :: rest → d = dictAt s l.stamp.epoch → dataPathHeld s = false → waitsHeartbeat s 16 l.stamp.globalLine = false → s.segm.run = true → s.segm.stopping = false →
    dictVal d P.SEGM_RUN = 1 → forcedOut s 9 0 = false → (latchSlot s 16).pending = [] →
    pix = (List.range (dictN d P.STCH_OUT_WIDTH)).map (fun x => classPix d (compRefs d (keepRefs d (refs.getD s.segm.refs))) s.segm.skip ((l.mask[x]?).getD false) x
      (at0 (upsetPx ups l.px) (x * l.comps + dictN d P.SEGM_COMP))) →
    ∃ t, exec (.segmLine ecc ups) s = .next t ∧ t.segm.inq = rest ∧ t.segm.lastLine = some l.stamp ∧ t.segm.epoch = l.stamp.epoch ∧ t.segm.skip = s.segm.skip ∧
      t.segm.counts.lines = s.segm.counts.lines + 1 ∧ t.segm.counts.dark = s.segm.counts.dark + (pix.filter (fun p => p.cls == 1)).length ∧
      t.segm.counts.bright = s.segm.counts.bright + (pix.filter (fun p => p.cls == 2)).length ∧ t.segm.counts.sat = s.segm.counts.sat + (pix.filter (fun p => p.cls == 3)).length ∧
      ((∀ p ∈ pix, p.cls = 0) → s.segm.objs = [] → t.segm.objs = [] ∧ t.segm.next = s.segm.next ∧ t.recd.inq = s.recd.inq)) ∧
  (∀ (k : ClosedObj) (rest : List ClosedObj) (d : Dict) (v : Verdict) (s : State), s.recd.inq = k :: rest → d = dictAt s k.epoch → v = verdict (asRead s d) k.obj →
    ¬ (v.patch = true ∧ (patchOf d k).2.2.2 = true ∧ 256 ≤ s.recd.patches.length) →
    ∃ t, exec .recordFormed s = .next t ∧ t.recd.inq = rest ∧ t.recd.counts.formed = s.recd.counts.formed + 1 ∧ t.recd.counts.emitted = s.recd.counts.emitted + b2n v.emits ∧
      t.recd.counts.suppressed = s.recd.counts.suppressed + b2n (!v.emits) ∧ t.recd.counts.noRule = s.recd.counts.noRule + b2n (!v.matched) ∧
      t.recd.patches = (if v.patch = true ∧ (patchOf d k).2.2.2 = true then s.recd.patches ++ [(patchOf d k).1] else s.recd.patches) ∧
      (∀ q, q = prmN s P.RECD_RECORD_QUEUE → q ≠ 0xFFFF → v.emits = true → (queue s q).words.length + 16 ≤ queueSize s q →
        (queue t q).words.map QWord.val = (queue s q).words.map QWord.val ++ wordsOf (recordBytes d k v (v.patch && (patchOf d k).2.1) (v.patch && (patchOf d k).2.2.1)))) ∧
  (∀ (q : PatchReq) (d : Dict) (last : Nat) (s : State),
    s.recd.patches.find? (fun q => (!s.stch.run || s.stch.runNo != q.runNo) || (match histLast s q.runNo with | some n => decide (q.nCut ≤ n) | none => false)) = some q →
    rtpHeld s 7 = false → s.recd.stopping = false → d = dictAt s q.epoch → last = (histLast s q.runNo).getD q.bottom →
    ∃ t, exec .patchCut s = .next t ∧ t.recd.patches = s.recd.patches.erase q ∧ t.recd.counts.patches = s.recd.counts.patches + 1 ∧
      t = { s with recd.patches := t.recd.patches, recd.counts.patches := t.recd.counts.patches, netw.flows := t.netw.flows } ∧
      t.netw.flows = (feed { product := 6, source := 0xFF, epoch := q.epoch, firstId := q.object, chunks := (patchBody d s q (min q.bottom last) (decide (min q.bottom last < q.bottom))).1, last := true
                             loss := (patchBody d s q (min q.bottom last) (decide (min q.bottom last < q.bottom))).2, top := some q.top
                             refNs := ((histLine s q.runNo (min q.nCut last)).map (fun l => stampNs l.stamp)).getD (nowNs s) } s).netw.flows)

/-- A slice's lag is kept with its peak; beyond PANIC_LEVEL the port enters panic, counts it and raises MEM_PANIC. The panic ends when every slice lies below half of the level: its time is added and the held stream goes on. Slices that hold more than their bases and the shared remainder overflow: that is latched, counted once and holds the stream until they have room. A channel asked for retrains only in the calm: no panic, every lag below 25 %, no other channel retraining; its real-time read slices raise their target read-ahead to their cover; it enters self-refresh when the read-ahead is full, a panic before that abandons the attempt, which stays asked for. At the end the channel resumes with no refresh owed; without an eye it counts a failure and raises MEM_RETRAIN. A read of RTP_STATUS returns the lags and clears the peak. -/
def Obligations.PanicAndRetraining : Prop :=
  (∀ (r : Fin 8) (ch : Fin 16) (lag : Nat) (s : State), prmN s (P.MEMC_PANIC_LEVEL (16 + r.val)) < lag → (rtp s r.val).panic = none →
    exec (.memPanic r ch lag) s = .next (raiseOpen 374 (setRtp r.val { rtp s r.val with
      lags := (rtp s r.val).lags.set 0 ch.val lag, peak := max (rtp s r.val).peak lag,
      held := (rtp s r.val).held && sliceOver (lagBytes s r.val { rtp s r.val with lags := (rtp s r.val).lags.set 0 ch.val lag }),
      panic := some (monoNs s), panics := (rtp s r.val).panics + 1 } s))) ∧
  (∀ (r : Fin 8) (ch : Fin 16) (lag : Nat) (s : State), lag ≤ prmN s (P.MEMC_PANIC_LEVEL (16 + r.val)) ∨ (rtp s r.val).panic ≠ none →
    exec (.memPanic r ch lag) s = .next (setRtp r.val { rtp s r.val with
      lags := (rtp s r.val).lags.set 0 ch.val lag, peak := max (rtp s r.val).peak lag
      held := (rtp s r.val).held && sliceOver (lagBytes s r.val { rtp s r.val with lags := (rtp s r.val).lags.set 0 ch.val lag }) } s)) ∧
  (∀ (r : Fin 8) (lags : List Nat) (t0 : Nat) (s : State), lags.length = 16 → (rtp s r.val).panic = some t0 →
    (∀ l ∈ lags, 2 * l < prmN s (P.MEMC_PANIC_LEVEL (16 + r.val))) →
    ∃ y, exec (.panicExit r lags) s = .next (setRtp r.val y s) ∧ y = { rtp s r.val with lags := y.lags, panic := none, held := false, panicNs := y.panicNs } ∧
      y.panicNs = (rtp s r.val).panicNs + (monoNs s - t0) ∧ ∀ p ∈ y.lags, lags[p.1]? = some p.2) ∧
  (∀ (r : Fin 8) (lags : List Nat) (s : State), lags.length = 16 → (rtp s r.val).panic = none ∨ (∃ l ∈ lags, prmN s (P.MEMC_PANIC_LEVEL (16 + r.val)) ≤ 2 * l) →
    exec (.panicExit r lags) s = .next s) ∧
  (∀ (f : SliceFill) (s : State), exec (.elasticOverflow f) s = .next (setRtp f.rtp.val (if 983040 < (f.bytes.map (· - 4096)).sum then { rtp s f.rtp.val with
      overflow := true, overflows := (rtp s f.rtp.val).overflows + b2n (!(rtp s f.rtp.val).held), held := true } else { rtp s f.rtp.val with held := false }) s)) ∧
  (∀ (ch : Fin 16) (s : State), (s.bkgd.wants.contains ch.val = true ∧ burnishSuspended s = false) ∨ retrainTest s ch.val = true →
    anyPanic s = false → (∀ r < 8, ∀ p ∈ (rtp s r).lags, p.2 < 25) → (∀ k < 16, (memChan s k).train = 0) → (memChan s ch.val).state = 0 →
    ∃ t, exec (.retrainStart ch) s = .next t ∧ memChan t ch.val = { memChan s ch.val with train := 1, again := false } ∧ t.bkgd = { s.bkgd with nRetrain := s.bkgd.nRetrain + 1 } ∧
      (∀ k, k ≠ ch.val → memChan t k = memChan s k) ∧ (∀ r ∈ readPorts, (rtp t r).ahead.get 0 ch.val = cover s r) ∧ (∀ r, rtp t r = { rtp s r with ahead := (rtp t r).ahead }) ∧
      t = { s with bkgd := t.bkgd, memc := t.memc } ∧ t.memc = { s.memc with chans := t.memc.chans, rtps := t.memc.rtps }) ∧
  (∀ (ch : Fin 16) (s : State), anyPanic s = true ∨ (∃ k < 16, (memChan s k).train ≠ 0) → exec (.retrainStart ch) s = .next s) ∧
  (∀ (ch : Fin 16) (s : State), (memChan s ch.val).train = 1 → anyPanic s = false →
    ∃ x, exec (.retrainReadAheadFull ch) s = .next (setMemChan ch.val x s) ∧ x = { memChan s ch.val with train := 3, state := 1, banks := x.banks } ∧
      ∀ p ∈ x.banks, p.2.row = none) ∧
  (∀ (ch : Fin 16) (s : State), (memChan s ch.val).train = 1 → anyPanic s = true →
    exec (.retrainReadAheadFull ch) s = .next s ∧ exec (.retrainAbandoned ch) s = .next (setMemChan ch.val { memChan s ch.val with
      train := 0, again := true, failed := (memChan s ch.val).failed + 1 } (usualAhead ch.val s))) ∧
  (∀ (ch : Fin 16) (eye : Bool) (s : State), (memChan s ch.val).train = 3 → ∃ t, exec (.retrainDone ch eye) s = .next t ∧
    (memChan t ch.val).train = 0 ∧ (memChan t ch.val).state = 0 ∧ (memChan t ch.val).trained = (memChan s ch.val).trained + b2n eye ∧
    (memChan t ch.val).failed = (memChan s ch.val).failed + b2n (!eye) ∧ (∀ p ∈ (memChan t ch.val).banks, p.2.owed ≤ 0) ∧
    t.bkgd.wants = s.bkgd.wants.filter (· ≠ ch.val) ∧ t.mem = s.mem ∧ t.qdma = s.qdma ∧ (eye = true → t.evnt = s.evnt)) ∧
  (∀ (a : Acc) (r : Fin 8) (s : State), s.accessible a → exec (.rtpStatusRead a r) s = .next (setRtp r.val { rtp s r.val with peak := 0 }
    { s with core.rdata := (2 ^ 24 * min 255 (rtp s r.val).peak + 2 ^ 16 * min 255 ((rtp s r.val).lags.foldl (fun m p => max m p.2) 0) +
        2 * b2n (rtp s r.val).overflow + b2n (rtp s r.val).panic.isSome) % 2 ^ 32 }))

/-- On a device alone, the oldest closed unit of a flow takes the flow's sequence number, keeps its digest and enters whole its transmit queue, or the coding backlog where its entry asks for coding. The open LOG unit of a flow closes. An idle engine takes the first unit of the backlog, which enters its transmit queue as the engine begins to write it, else a job, which then commits. An engine whose queue lacks room for the coded unit stops with what the queue has taken and counts the stop; it resumes when a further word fits. A coded unit that fits fills its place in its queue and the engine is free; a job ends with its own engine. A compress job whose capacity is too small fails at the stop. An engine that the cap has taken and that has no work in hand leaves service. A job that has timed out leaves every list and engine and fails with 0x0507. -/
def Obligations.ProductUnits : Prop :=
  (∀ (f : Fin 1024) (u : OpenUnit) (us : List OpenUnit) (s t : State) (pu : Machine.PUnit) (plain : Bool), (flow s f.val).closed = u :: us → attached s = false → isShadow s = false →
    plain = (u.product == 10 || u.product == 11) →
    pu = formUnit f.val (flow s f.val).nextSeq (if plain = true then prmN s P.CHK_DIGEST_SCOPE else prmAtN s u.epoch P.CHK_DIGEST_SCOPE)
      (if plain = true then s.sys.epoch else u.epoch) (if plain = true then { u with launchRef := nowNs s } else u) →
    t = setFlow f.val { flow s f.val with
      closed := us, nextSeq := (flow s f.val).nextSeq + 1
      kept := ((flow s f.val).kept ++ [(pu.seq, pu.digest)]).drop ((flow s f.val).kept.length + 1 - 1024) } s →
    (bitOf pu.uflags 0 = true → (s.cmpr.backlog.map Machine.PUnit.bodyLen).sum + pu.bodyLen ≤ prmN s P.CMPR_BACKLOG * 2 ^ 20 →
      exec (.unitFormed f) s = .next { t with cmpr.backlog := s.cmpr.backlog ++ [pu] }) ∧
    (bitOf pu.uflags 0 = false → leAt u.entry 3 1 ≠ 3 → (∀ v ∈ (txQueue (netPort s (leAt u.entry 3 1)) (leAt u.entry 4 1)).units, v.writer ≠ some 20) → (unitHeader pu pu.body ++ pu.body).length ≤ queueRoom s (leAt u.entry 3 1) (leAt u.entry 4 1) 20 →
      exec (.unitFormed f) s = .next (setNetPort (leAt u.entry 3 1) (setTxQueue (netPort s (leAt u.entry 3 1)) (leAt u.entry 4 1)
        { txQueue (netPort s (leAt u.entry 3 1)) (leAt u.entry 4 1) with
          units := (txQueue (netPort s (leAt u.entry 3 1)) (leAt u.entry 4 1)).units ++ [{ flow := f.val, product := u.product, source := u.source, seq := pu.seq, coded := false, launch := pu.launch, entry := u.entry, bytes := unitHeader pu pu.body ++ pu.body }] }) t))) ∧
  (∀ (f : Fin 1024) (s : State), (flow s f.val).closed = [] → exec (.unitFormed f) s = .next s) ∧
  (∀ (f : Fin 1024) (u : OpenUnit) (s : State), (flow s f.val).fill = some u → u.product = 10 → (flow s f.val).selected = true →
    exec (.logUnitTimeout f) s = .next (setFlow f.val { flow s f.val with
      fill := none, closed := (flow s f.val).closed ++ [{ u with early := false }] } s)) ∧
  (∀ (e : Nat) (u : Machine.PUnit) (us : List Machine.PUnit) (s : State), s.cmpr.backlog = u :: us → idleEngine s (prmN s P.CMPR_PRODUCT_ENGINES) = some e →
    exec .engineTakesUnit s = .next (setEngine e { state := 1, unit := some u } (enterQueue e u { s with cmpr.backlog := us }))) ∧
  (∀ (e : Nat) (j : Nat × Nat) (js : List (Nat × Nat)) (s : State), s.cmpr.backlog = [] → s.cmpr.cjobs = j :: js → idleEngine s (prmN s P.CMPR_JOB_ENGINES) = some e →
    exec .engineTakesUnit s = .next (commitDeferred j.1 j.2 (setEngine e { state := 2, job := some j } { s with cmpr.cjobs := js }))) ∧
  (∀ (e : Nat) (j : Nat × Nat) (js : List (Nat × Nat)) (s : State), s.cmpr.backlog = [] → s.cmpr.cjobs = [] → s.cmpr.djobs = j :: js →
    [16, 17, 18, 19].find? (fun e => (engine s e).state == 0) = some e →
    exec .engineTakesUnit s = .next (commitDeferred j.1 j.2 (setEngine e { state := 2, job := some j } { s with cmpr.djobs := js }))) ∧
  (∀ (e : Fin 16) (n : Nat) (u : Machine.PUnit) (s : State), (engine s e.val).state = 1 → (engine s e.val).unit = some u → leAt u.entry 3 1 ≠ 3 →
    unitRoom s e.val u < (codedUnit (unitCoding s u) u.body).length →
    ∃ i k, exec (.engineStop e n (streamRoom (unitRoom s e.val u))) s = .next (setEngine e.val { engine s e.val with
      state := 3, inDone := i, outDone := streamRoom (unitRoom s e.val u), nextEntry := k } { s with cmpr.stops := s.cmpr.stops + 1 })) ∧
  (∀ (e : Fin 16) (n : Nat) (d : Deferred) (j : Nat × Nat) (h : Hdr) (src len product pred source dst cap : Nat) (s : State), (engine s e.val).state = 2 → (engine s e.val).job = some j →
    findDeferred s j.1 j.2 = some d → d.cmd = .jobCompress h src len product pred source dst cap → anyBad s src len = false →
    cap < (codedUnit (codingOf s.sys.applied product source pred true false (s.mem.read src len)) (s.mem.read src len)).length →
    exec (.engineStop e n (streamRoom cap)) s = .next (jobNoSpace d (codingOf s.sys.applied product source pred true false (s.mem.read src len)) (s.mem.read src len) dst cap n (freeEngine e.val s))) ∧
  (∀ (e : Fin 16) (u : Machine.PUnit) (s : State), (engine s e.val).state = 3 → (engine s e.val).unit = some u →
    ((engine s e.val).outDone < streamRoom (unitRoom s e.val u) ∨ (codedUnit (unitCoding s u) u.body).length ≤ unitRoom s e.val u) →
    exec (.engineResume e) s = .next (setEngine e.val { engine s e.val with state := 1 } s)) ∧
  (∀ (e : Fin 20) (u : Machine.PUnit) (s : State), (engine s e.val).state = 1 → (engine s e.val).unit = some u → leAt u.entry 3 1 ≠ 3 →
    (admitUnit e.val u (codedUnit (unitCoding s u) u.body) s).1 = true →
    ∃ v, exec (.codingDone e) s = .next (freeEngine e.val v) ∧ v.cmpr.coded = s.cmpr.coded + 1 ∧ v.cmpr.bodyBytes = s.cmpr.bodyBytes + u.body.length ∧
      v.netw = (admitUnit e.val u (codedUnit (unitCoding s u) u.body) s).2.netw ∧ v.mem = s.mem ∧ v.sys = s.sys) ∧
  (∀ (e : Fin 20) (j : Nat × Nat) (s : State), (engine s e.val).state = 2 → (engine s e.val).job = some j →
    exec (.codingDone e) s = .next (freeEngine e.val (endJob j s))) ∧
  (∀ (e : Fin 16) (s : State), (engine s e.val).state = 0 → (engine s e.val).leaving = true →
    exec (.engineOutOfService e) s = .next (setEngine e.val { state := 4 } s)) ∧
  (∀ (n q : Nat) (d : Deferred) (s : State), findDeferred s n q = some d → d.opcode = 0x0701 ∨ d.opcode = 0x0702 →
    exec (.jobTimeout n q) s = .next (failDeferred d (refuseFree 0x0507) (forgetJob (n, q) s)))

/-- A port without link, paused or stopped sends nothing. Otherwise a frame that waits ahead of the queues leaves first, unless priority 7 is paused; then the highest-numbered eligible queue sends one segment of its head unit, the frame is counted with its FCS, and a yield that waits for the units begun goes on. A change of link is raised with the state, a loss counted. A pause frame stops the port where PAUSE_EN is 1 and a PFC frame the queues it names where PAUSE_EN is 2; both are counted in every case. A pause that expires lets the port, or the queue, go on. A request for the port's own address is answered, on NET0 and NET1 by the holder of the claim alone; MGT answers an echo request with its data. Every other frame is counted as not claimed, or as bad. -/
def Obligations.NetworkPorts : Prop :=
  (∀ (p : Fin 3) (s : State), (netPort s p.val).linkUp = false ∨ (netPort s p.val).paused = true ∨ prmN s (P.NETW_RUN p.val) = 0 → exec (.segmentSend p) s = .next s) ∧
  (∀ (p : Fin 3) (v6 : Bool) (frame : List Byte) (us : List Urgent) (s : State), (netPort s p.val).linkUp = true → (netPort s p.val).paused = false → prmN s (P.NETW_RUN p.val) ≠ 0 →
    (txQueue (netPort s p.val) 7).paused = false → (netPort s p.val).urgent = .frame (.arpReply p.val v6 frame) :: us →
    exec (.segmentSend p) s = .next (setNetPort p.val { netPort s p.val with
      urgent := us, frames := (netPort s p.val).frames + 1, bytes := (netPort s p.val).bytes + frame.length + 4 } { s with netw.sent := s.netw.sent ++ [.arpReply p.val v6 frame] })) ∧
  (∀ (p : Fin 3) (q : Nat) (x : NetPort) (u : TxUnit) (rest : List TxUnit) (s : State), (netPort s p.val).linkUp = true → (netPort s p.val).paused = false → prmN s (P.NETW_RUN p.val) ≠ 0 →
    ((txQueue (netPort s p.val) 7).paused = true ∨ (netPort s p.val).urgent = []) →
    x = forEach (List.range 8) (fun q x => setTxQueue x q (refill s p.val q (txQueue x q))) (netPort s p.val) →
    ((List.range (if p.val = 2 then 4 else 8)).reverse).find? (fun q => eligibleQueue (setNetPort p.val x s) p.val q (txQueue x q)) = some q →
    (txQueue x q).units = u :: rest → (u.begun = true ∨ lateBy s p.val q u = none) →
    ∃ t, exec (.segmentSend p) s = .next t ∧ t = tryYield (sendHead p.val q u rest (setNetPort p.val x s)) ∧
      t.netw.sent = s.netw.sent ++ [.segment p.val u.flow u.seq u.sent (segFrame (setNetPort p.val x s) p.val u (min (leAt u.entry 22 2) (u.bytes.length - u.sent)))] ∧
      (netPort t p.val).frames = (netPort s p.val).frames + 1 ∧ t.mem = s.mem ∧ t.ports = s.ports) ∧
  (∀ (p : Fin 3) (up : Bool) (s : State), exec (.netLink p up) s = .next (if (netPort s p.val).linkUp = up then s else raise (352 + 3 * p.val) (b2n up)
    (setNetPort p.val { netPort s p.val with linkUp := up, losses := (netPort s p.val).losses + b2n (!up) } s))) ∧
  (∀ (p : Fin 3) (stop go : List (Fin 8)) (s : State), exec (.pauseFrameReceived p false stop go) s = .next (setNetPort p.val { netPort s p.val with
      rx := (netPort s p.val).rx + 1, pauseRx := (netPort s p.val).pauseRx + 1
      paused := if prmN s (P.NETW_PAUSE_EN p.val) = 1 then !stop.isEmpty else (netPort s p.val).paused } s)) ∧
  (∀ (p : Fin 3) (stop go : List (Fin 8)) (s : State), ∃ x, exec (.pauseFrameReceived p true stop go) s = .next (setNetPort p.val x s) ∧
    x = { netPort s p.val with rx := (netPort s p.val).rx + 1, pfcRx := (netPort s p.val).pfcRx + 1, queues := x.queues } ∧
    ∀ q, txQueue x q = { txQueue (netPort s p.val) q with paused := (
      if prmN s (P.NETW_PAUSE_EN p.val) ≠ 2 then (txQueue (netPort s p.val) q).paused
      else if q ∈ go.map Fin.val then false else if q ∈ stop.map Fin.val then true else (txQueue (netPort s p.val) q).paused) }) ∧
  (∀ (p : Fin 3) (s : State), exec (.pauseExpiry p none) s = .next (setNetPort p.val { netPort s p.val with paused := false } s)) ∧
  (∀ (p : Fin 3) (k : Fin 8) (s : State), exec (.pauseExpiry p (some k)) s =
    .next (setNetPort p.val (setTxQueue (netPort s p.val) k.val { txQueue (netPort s p.val) k.val with paused := false }) s)) ∧
  (∀ (p : Fin 3) (v6 : Bool) (addr : Nat) (peer : Peer) (s : State), exec (.arpRequest p v6 ⟨addr, peer⟩) s = .next (setNetPort p.val
    (if ownAddress s p.val v6 addr = true ∧ (p.val = 2 ∨ holdsClaim s = true) then { netPort s p.val with
        rx := (netPort s p.val).rx + 1, urgent := (netPort s p.val).urgent ++ [.frame (.arpReply p.val v6 (addressFrame s p.val v6 peer true))] }
     else { netPort s p.val with rx := (netPort s p.val).rx + 1, unclaimed := (netPort s p.val).unclaimed + 1 }) s)) ∧
  (∀ (p : Fin 3) (v6 : Bool) (addr ident : Nat) (data : List Byte) (peer : Peer) (s : State), exec (.icmpEchoRequest p v6 ⟨addr, ident, data, peer⟩) s = .next (setNetPort p.val
    (if p.val = 2 ∧ ownAddress s 2 v6 addr = true then { netPort s p.val with
        rx := (netPort s p.val).rx + 1, urgent := (netPort s p.val).urgent ++ [.frame (.echoReply 2 v6 data (echoFrame s v6 ident data peer))] }
     else { netPort s p.val with rx := (netPort s p.val).rx + 1, unclaimed := (netPort s p.val).unclaimed + 1 }) s)) ∧
  (∀ (p : Fin 3) (bad : Bool) (n m : Nat) (s : State), exec (.frameDiscarded p ⟨bad, n, m⟩) s = .next (setNetPort p.val { netPort s p.val with
      rx := (netPort s p.val).rx + 1, badRx := (netPort s p.val).badRx + b2n bad, unclaimed := (netPort s p.val).unclaimed + b2n (!bad)
      fecOk := (netPort s p.val).fecOk + (if p.val < 2 ∧ prmN s (P.NETW_FEC p.val) = 1 then n else 0)
      fecBad := (netPort s p.val).fecBad + (if p.val < 2 ∧ prmN s (P.NETW_FEC p.val) = 1 then m else 0) } s))

/-- Where the packet passes the checks of R63, the operands satisfy R290, R291 or R410, jobs may run and fewer than four of the kind wait, the job joins the end of its queue and the command is deferred; a CRC job begins at once where DC63 and a unit owned by SUP are free. -/
def Obligations.JobCommands : Prop :=
  (∀ (h : Hdr) (src len product pred source dst cap : Nat) (s : State), s.Ready 0x0701 h → s.mayDefer h → jobGeometry len product pred source = [] →
    jobValues h.via.principal src len dst cap s = [] → prmN s P.CMPR_JOB_ENGINES ≠ 0 → prmN s P.CMPR_RUN ≠ 0 → s.cmpr.cjobs.length < 4 →
    exec (.jobCompress h src len product pred source dst cap) s = .next (State.defers { s.taken 0x0701 h with cmpr.cjobs := s.cmpr.cjobs ++ [(h.session, h.seq)] }
      (.jobCompress h src len product pred source dst cap) { op := 0x0701, h := h, params := jobParams src len product pred source dst cap } (s.sess h).role)) ∧
  (∀ (h : Hdr) (src len dst cap : Nat) (s : State), s.Ready 0x0702 h → s.mayDefer h →
    jobValues h.via.principal src len dst cap s = [] → prmN s P.CMPR_JOB_ENGINES ≠ 0 → prmN s P.CMPR_RUN ≠ 0 → s.cmpr.djobs.length < 4 →
    exec (.jobDecompress h src len dst cap) s = .next (State.defers { s.taken 0x0702 h with cmpr.djobs := s.cmpr.djobs ++ [(h.session, h.seq)] }
      (.jobDecompress h src len dst cap) { op := 0x0702, h := h, params := jobParams src len 0 0 0 dst cap } (s.sess h).role)) ∧
  (∀ (h : Hdr) (preset addr len init : Nat) (s : State), s.Ready 0x0703 h → s.mayDefer h → crcJobValues h preset addr len init s = [] →
    s.chk.jobs.length < 4 → (∃ k < 8, prm s (P.CHK_OWNER k) = 0) →
    exec (.jobCrc h preset addr len init) s = .next (pumpCrcJobs (State.defers { s.taken 0x0703 h with chk.jobs := s.chk.jobs ++ [(h.session, h.seq)] }
      (.jobCrc h preset addr len init) { op := 0x0703, h := h, params := leBytes 1 preset ++ leBytes 7 0 ++ leBytes 8 addr ++ leBytes 4 len ++ leBytes 4 0 ++ leBytes 8 init } (s.sess h).role)))

/-- Where the packet passes the checks of R63, CAM_READ, of a device with the claim, and CAM_WRITE to a port that receives join the port's accesses, which go out as the uplink allows, and are deferred; without the claim CAM_READ is refused with 0x0901; CAM_DISCOVER of a stopped port sends its first message where the uplink is on and is deferred; mirrored, the latter two are answered without an access. TWIN_ATTACH of a device that may claim enters CLAIMING and is answered; of the Active it invites the peer, once a heartbeat has named it, of another device it starts a join, and both are deferred. TWIN_DETACH leaves the pair and is answered. TWIN_YIELD of a PAIRED Active is deferred; YIELD leaves at once where no unit has begun. -/
def Obligations.CameraAndPairCommands : Prop :=
  (∀ (h : Hdr) (p addr len : Nat) (s : State), s.Ready 0x0601 h → s.mayDefer h → p < 16 → 0 < len → len ≤ 1024 → holdsClaim s = false →
    exec (.camRead h p addr len) s = .next (refuseWith { op := 0x0601, h := h, params := leBytes 1 p ++ leBytes 3 0 ++ leBytes 4 addr ++ leBytes 4 len } (refuseFree 0x0901) (s.taken 0x0601 h))) ∧
  (∀ (h : Hdr) (p addr len : Nat) (s : State), s.Ready 0x0601 h → s.mayDefer h → p < 16 → 0 < len → len ≤ 1024 → holdsClaim s = true → camReady s p = true →
    exec (.camRead h p addr len) s = .next (State.defers (pumpAccess p (modPort p (fun x => { x with access := x.access ++ [{ tag := 512, kind := 0, session := h.session, seq := h.seq, addr := addr, len := len }] }) (s.taken 0x0601 h)))
      (.camRead h p addr len) { op := 0x0601, h := h, params := leBytes 1 p ++ leBytes 3 0 ++ leBytes 4 addr ++ leBytes 4 len } (s.sess h).role)) ∧
  (∀ (h : Hdr) (p addr : Nat) (data : List Byte) (s : State) (c : Cmd), s.Ready 0x0602 h → s.mayDefer h → p < 16 → data ≠ [] → data.length ≤ 1024 →
    c = { op := 0x0602, h := h, params := leBytes 1 p ++ leBytes 3 0 ++ leBytes 4 addr ++ data, count := 1, value := ofLe (data.take 8) } →
    (h.mirrored = true → exec (.camWrite h p addr data) s = .next ((s.taken 0x0602 h).answer c [] false (ofLe (data.take 8)))) ∧
    (h.mirrored = false → camReady s p = true → exec (.camWrite h p addr data) s = .next (State.defers
      (pumpAccess p (modPort p (fun x => { x with access := x.access ++ [{ tag := 512, kind := 1, session := h.session, seq := h.seq, addr := addr, data := data }] }) (s.taken 0x0602 h)))
      (.camWrite h p addr data) c (s.sess h).role))) ∧
  (∀ (h : Hdr) (p : Nat) (s : State) (c : Cmd), s.Ready 0x0603 h → s.mayDefer h → p < 16 → c = { op := 0x0603, h := h, params := leBytes 1 p ++ leBytes 7 0, count := 1 } →
    (h.mirrored = true → exec (.camDiscover h p) s = .next ((s.taken 0x0603 h).answer c [] false 0)) ∧
    (h.mirrored = false → (port s p).run = false → exec (.camDiscover h p) s = .next (State.defers (if uplinkOn s p = true then sendUplink p .discovery (s.taken 0x0603 h) else s.taken 0x0603 h) (.camDiscover h p) c (s.sess h).role))) ∧
  (∀ (h : Hdr) (s : State), s.Ready 0x0802 h → s.mayDefer h →
    (prmB s P.TWIN_RUN = true → s.twin.lineHigh = true → s.twin.driving = false →
      exec (.twinAttach h) s = .next ((setTwin 1 false (s.taken 0x0802 h)).answer { op := 0x0802, h := h, count := 1 } [] false 0)) ∧
    (prmB s P.TWIN_RUN = false ∨ s.twin.lineHigh = false ∨ s.twin.driving = true → s.twin.link = 2 → sameUnitId s = false → holdsClaim s = true → s.sys.cinch = none →
      exec (.twinAttach h) s = .next ((if s.twin.peer = none then { s.taken 0x0802 h with twin.joinDue := true } else sendSeq 0x40 [] (s.taken 0x0802 h)).defers (.twinAttach h) { op := 0x0802, h := h, count := 1 } (s.sess h).role)) ∧
    (prmB s P.TWIN_RUN = false ∨ s.twin.lineHigh = false → s.twin.link = 2 → sameUnitId s = false → holdsClaim s = false →
      exec (.twinAttach h) s = .next ((startJoin (s.taken 0x0802 h)).defers (.twinAttach h) { op := 0x0802, h := h, count := 1 } (s.sess h).role))) ∧
  (∀ (h : Hdr) (s : State), s.Ready 0x0803 h → s.mayDefer h →
    exec (.twinDetach h) s = .next ((detach (s.taken 0x0803 h)).answer { op := 0x0803, h := h, count := 1 } [] false 0)) ∧
  (∀ (h : Hdr) (s : State), s.Ready 0x0804 h → s.mayDefer h → holdsClaim s = true → s.twin.state = 3 →
    exec (.twinYield h) s = .next ((startYield (s.taken 0x0804 h)).defers (.twinYield h) { op := 0x0804, h := h, count := 1 } (s.sess h).role)) ∧
  (∀ s : State, (anyBegun s = true → startYield s = { s with twin.yieldDue := true }) ∧ (anyBegun s = false → startYield s =
    { sendSeq 0x31 [] { s with twin.yieldDue := true } with twin.yielding := some s.twin.txNext, twin.yieldDue := false, twin.yields := s.twin.yields + 1 }))

/-- On a device that accepts commands: a fragment and a datagram to another port are discarded and counted; a mailbox packet with an error mark, 512 words without an end mark, and a packet with a wrong CRC are taken from their transport and answered with 0x0109, 0x0104 and 0x0103. A failed authentication is counted and blocks its source for good at the limit within one second, until AUTH_BLOCK_EXPIRY. Held commands are answered with 0x0107 and the expected SEQ, and logged with the time of their receipt. An idle MGMT session is closed. A job, test or FW_COMMIT past its limit fails with 0x0507. A deferred eye scan, discovery, saved set, staging DMA or firmware commit ends with what it measured, found or read. -/
def Obligations.PacketsAndTimeLimits : Prop :=
  (∀ s : State, accepting s = true → exec (.packetRejected .fragment) s = .next { countRx 2 s with netw.fragments := s.netw.fragments + 1 }) ∧
  (∀ (peer : Peer) (dst : Nat) (bytes : List Byte) (s : State), accepting s = true → dst ≠ prmN s P.SYS_MGT_UDP_PORT →
    exec (.packetRejected (.datagram peer dst bytes)) s = .next (unclaimed 2 s)) ∧
  (∀ (pair : Fin 4) (s : State), accepting s = true → s.sys.inbox = [] → heldCount s = 0 → replyWaits s = false → mailMarked pair s = true →
    ((queue s (mailQueue pair)).words.filter QWord.endm).length = 1 → (∀ p, p ≠ pair → mailReady p s = false) →
    exec (.packetRejected (.errorMark pair)) s =
      .next (earlyReply (.mailbox pair) (mailBytes pair s) 0x0109 (dropPacket (mailQueue pair) (s.arrived (.mailbox pair))))) ∧
  (∀ (via : Via) (bytes : List Byte) (s : State), accepting s = true → s.sys.inbox = [] → heldCount s = 0 → replyWaits s = false →
    (∀ p, mailReady p s = false) → (∀ a b c, via ≠ .udp a b c) → leAt bytes 0 2 = 0x5358 → leAt bytes 3 1 = 0 →
    leAt bytes 20 4 ≤ 4056 → bytes.length = 40 + roundUp 8 (leAt bytes 20 4) → leAt bytes (32 + roundUp 8 (leAt bytes 20 4)) 4 ≠ crc32c (bytes.take (32 + roundUp 8 (leAt bytes 20 4))) →
    exec (.packetRejected (.packet via bytes)) s = .next (htSettle via (earlyReply via bytes 0x0103 (s.arrived via)))) ∧
  (∀ (pair : Fin 4) (s : State), accepting s = true → 512 ≤ (queue s (mailQueue pair)).words.length → ((queue s (mailQueue pair)).words.take 512).any QWord.endm = false →
    ((queue s (mailQueue pair)).words.any QWord.endm = true →
      exec (.mailboxEndMarkMissing pair) s = .next (earlyReply (.mailbox pair) (mailBytes pair s) 0x0104 (dropPacket (mailQueue pair) s))) ∧
    ((queue s (mailQueue pair)).words.any QWord.endm = false →
      exec (.mailboxEndMarkMissing pair) s = .next (earlyReply (.mailbox pair) (mailBytes pair s) 0x0104
        (setQueue (mailQueue pair) { queue s (mailQueue pair) with words := [] } { s with sys.mailSkip := (mailQueue pair :: s.sys.mailSkip).dedup })))) ∧
  (∀ (addr : Nat) (s : State), accepting s = true → (∀ e ∈ s.sys.auth, e.1 = addr → e.2.blocked = false) → ∃ t x, exec (.udpAuthFailure addr) s = .next t ∧
    t.sys.authBad = s.sys.authBad + 1 ∧ t.sys.auth.find? addr = some x ∧
    (x.blocked = true ↔ prmN s P.SYS_AUTH_FAIL_LIMIT ≤ x.times.length) ∧ (netPort t 2).rx = (netPort s 2).rx + 1 ∧ monoNs s ∈ x.times) ∧
  (∀ (addr : Nat) (x : AuthSource) (s : State), s.sys.auth.find? addr = some x →
    exec (.authBlockExpiry addr) s = .next { s with sys.auth := Map.insert s.sys.auth addr { x with blocked := false } }) ∧
  (∀ (n : Nat) (x : Session) (e : Held) (s : State), session s n = some x → x.held = [e] →
    exec (.seqHoldTimeout n) s = .next { refuseEarly e.cmd (refuse1 0x0107 0 x.nextSeq) { setSession n { x with held := [] } s with sys.since := some (e.timeS, e.timeNs) } with sys.since := none }) ∧
  (∀ (n : Nat) (s : State), 0x10000 ≤ n → (s.sys.sessions.find? n).isSome = true →
    exec (.sessionIdleTimeout n) s = .next (closeSession n s) ∧ (closeSession n s).sys.sessions.find? n = none) ∧
  (∀ (n q : Nat) (d : Deferred) (s : State), findDeferred s n q = some d →
    (d.opcode / 256 = 7 ∨ d.opcode = 0x0501 ∨ d.opcode = 0x0502 → exec (.deferredTimeLimit n q) s = .next (failDeferred d (refuseFree 0x0507) (forgetDeferred d s))) ∧
    (d.opcode = 0x0906 → exec (.deferredTimeLimit n q) s = .next (failDeferred d (refuseFree 0x0507) s))) ∧
  (∀ (n q : Nat) (res : DeferredResult) (d : Deferred) (s : State), findDeferred s n q = some d →
    (∀ h lane, d.cmd = .eyeScan h lane → exec (.deferredCompletion n q res) s = .next (endDeferred d 0 (eyeReply s lane res.data) false 0 s)) ∧
    (∀ h p, d.cmd = .camDiscover h p → res.status = 0 → exec (.deferredCompletion n q res) s = .next (endDeferred d 0 res.data false 0 s)) ∧
    (∀ h set item x, d.cmd = .stageLoadSaved h set item → setRefusal true set d.session s = [] → readSaved s d.who d.role item = ([], x) →
      exec (.deferredCompletion n q res) s = .next (endStaging d (savedPackets set x) (stageSaved set x s))) ∧
    (∀ h set id off len addr, d.cmd = .stageBlockDma h set id off len addr → setRefusal true set d.session s = [] →
      s.badBlocks.any (fun b => decide (b < addr + len ∧ addr < b + 64)) = false → areaFull set id off (Memory.read s.mem addr len) s = false →
      exec (.deferredCompletion n q res) s = .next (endStaging d (blockPackets set id off (Memory.read s.mem addr len)) (stageBytes set id off (Memory.read s.mem addr len) (supMove addr (supAddr 0) len s)))) ∧
    (∀ h len, d.cmd = .fwCommit h len → stagedOk s len res.good = true → res.status = 0 → exec (.deferredCompletion n q res) s =
      .next (endDeferred d 0 [] false 0 { s with
        core.staging := [], boot.written := Map.insert s.boot.written (1 - s.boot.slot) (stagedImage s len), boot.preferred := 1 - s.boot.slot
        boot.generation := s.boot.generation + 1 })))

/-- With RUN 1 a device that is off or claiming claims on a high line and is ISOLATED on a low one. After the settle time on a high line it drives the line and is ACTIVE, with the conflict window open. In the window UNIT_ID 1, where both drive, releases, is ISOLATED and joins where the link is UP; with no peer, and at the window's end, nothing else happens. The claim timer's end releases a driven line, cuts off the pulses on shared outputs, and the device is DETACHED. A permitted takeover drives the line, ends all holds, has the two-wire channels of TW_QUIET wait for a free bus, and the running NET ports announce their addresses. -/
def Obligations.ClaimLine : Prop :=
  (∀ s : State, prmB s P.TWIN_RUN = true → s.twin.state = 0 ∨ s.twin.state = 1 →
    exec (.twinClaiming true) s = .next (setTwin 1 false { s with twin.lineHigh := true }) ∧ (setTwin 1 false { s with twin.lineHigh := true }).twin.state = 1 ∧
    holdsClaim (setTwin 1 false { s with twin.lineHigh := true }) = false ∧
    ∃ t, exec (.twinClaiming false) s = .next t ∧ t.twin.state = 7 ∧ t.twin.isoFrom = 7 ∧ t.twin.driving = false ∧ t.mem = s.mem ∧ t.ports = s.ports ∧ t.sys = s.sys) ∧
  (∀ (b : Bool) (s : State), prmB s P.TWIN_RUN = false ∨ (s.twin.state ≠ 0 ∧ s.twin.state ≠ 1) → exec (.twinClaiming b) s = .next s) ∧
  (∀ s : State, s.twin.state = 1 → s.twin.lineHigh = true → ∃ t, exec .claimSettleExpiry s = .next t ∧ t.twin.state = 2 ∧ t.twin.driving = true ∧ t.twin.lineHigh = false ∧
    t.twin.conflict = true ∧ t.twin.timerLive = true ∧ holdsClaim t = true ∧ t.mem = s.mem ∧ t.ports = s.ports ∧ t.sys = s.sys ∧ t.netw.flows = s.netw.flows) ∧
  (∀ s : State, s.twin.state ≠ 1 ∨ s.twin.lineHigh = false → exec .claimSettleExpiry s = .next s) ∧
  (∀ s : State, exec (.claimConflictWindow true) s = .next { s with twin.conflict := false }) ∧
  (∀ s : State, s.twin.peer = none ∨ s.twin.conflict = false → exec (.claimConflictWindow false) s = .next s) ∧
  (∀ (s : State) (h : Heartbeat), s.twin.peer = some h → s.twin.conflict = true → s.twin.driving = true → h.driving = true → prmN s P.TWIN_UNIT_ID = 1 → h.unitId ≠ 1 →
    ∃ t, exec (.claimConflictWindow false) s = .next t ∧ t.twin.driving = false ∧ t.twin.conflict = false ∧ t.twin.timerLive = false ∧
      t.twin.state = if s.twin.link = 2 then 4 else 7) ∧
  (∀ s : State, s.twin.driving = true → ∃ t, exec .claimTimerExpiry s = .next t ∧ t.twin.state = 8 ∧ t.twin.driving = false ∧ t.twin.lineHigh = true ∧ t.twin.timerLive = false ∧ t.mem = s.mem ∧
    (∀ p, port t p = { port s p with trigPulse := false }) ∧ ∀ n, pc t n = { pc s n with pulseEnd := none }) ∧
  (∀ s : State, s.twin.driving = false → exec .claimTimerExpiry s = .next s) ∧
  (∀ s : State, exec .claimRefresh s = .next { s with twin.timerLive := s.twin.driving }) ∧
  (∀ s : State, prmB s P.TWIN_RUN = true → s.twin.mayTake = true → s.twin.driving = false → takeoverPermits s = true → ∃ t, exec .takeover s = .next t ∧
    t.twin.state = 2 ∧ t.twin.driving = true ∧ t.twin.takeovers = s.twin.takeovers + 1 ∧ t.twin.mayTake = false ∧ t.twin.join = none ∧ t.twin.timerLive = true ∧
    (∀ p < 16, t.twin.release.get 0 p = 2 ^ 48) ∧ (∀ i < 17, t.twin.skipHb.get 0 i = 2 ^ 48) ∧ t.mem = s.mem ∧ t.ports = s.ports ∧
    (∀ k < 8, bitOf (prmN s P.TWIN_TW_QUIET) k = true → (twc t k).busBusy = true) ∧
    ∀ p < 2, prmN s (P.NETW_RUN p) = 1 → ∃ us a b, (netPort t p).urgent = us ++ [.frame (.arpReply p false a), .frame (.arpReply p true b)]) ∧
  (∀ s : State, prmB s P.TWIN_RUN = false ∨ s.twin.mayTake = false ∨ s.twin.driving = true ∨ takeoverPermits s = false → exec .takeover s = .next s)

/-- Messages number from 1 once the link is UP. A link that goes DOWN, and 32 µs without a heartbeat, are a heartbeat loss: a PAIRED Active goes on alone, and a Shadow may take over, being ISOLATED while the line is low. A HEARTBEAT leaves on an UP link and its report is kept, the ones missed before it being counted; the claim line follows it, and the Active is PAIRED while its peer is in SHADOW. An ACK ends the messages it names. A NAK and the end of the acknowledgement time send the named messages again. A bad sequenced message is answered with a NAK, at most once in 5 µs. Where nothing waits for the peer, receiving a message changes only the number expected, and no command runs after it. -/
def Obligations.ShaeshLink : Prop :=
  (∀ (s : State) (m : MsgHdr), s.unwaited → s.received m = { s with twin.rxExpect := nextMseq s.twin.rxExpect, twin.rxLast := m.mseq } ∧ serveAll s = s ∧ ∀ a, processAck a s = s) ∧
  (∀ s : State, prmB s P.TWIN_RUN = true → s.twin.link ≠ 2 → ∃ t, exec .shaeshLinkUp s = .next t ∧ t.twin.link = 2 ∧ t.twin.rxExpect = 1 ∧ t.twin.rxLast = 0 ∧ t.sys.sessions = s.sys.sessions.erase 6 ∧
    t.mem = s.mem ∧ t.ports = s.ports ∧ ((s.twin.state ≠ 7 ∨ prmB s P.TWIN_AUTO_REJOIN = false) → t.twin.state = s.twin.state ∧ t.twin.txNext = 1 ∧ t.twin.replay = [] ∧ t.twin.nextMirror = 1)) ∧
  (∀ s : State, prmB s P.TWIN_RUN = false ∨ s.twin.link = 2 → exec .shaeshLinkUp s = .next s) ∧
  (∀ s : State, s.twin.link = 2 → s.twin.state = 3 → s.twin.driving = true → s.twin.mirrors = [] → s.twin.join = none → s.sys.deferred = [] → s.sys.inbox = [] → heldCount s = 0 → (∀ p, mailReady p s = false) →
    ∃ t, exec .shaeshLinkDown s = .next t ∧ t.twin.link = 0 ∧ t.twin.state = 2 ∧ t.twin.peer = none ∧ t.twin.driving = true ∧ t.twin.hbLosses = s.twin.hbLosses + 1 ∧ t.mem = s.mem ∧ t.sys = s.sys) ∧
  (∀ s : State, s.twin.link ≠ 2 → exec .shaeshLinkDown s = .next (serveAll s)) ∧
  (∀ s : State, exec .heartbeatSend s = .next (if s.twin.link = 2 then { s with
      twin.sent := s.twin.sent ++ [twinBytes ⟨1, 0, s.twin.rxLast, heartbeatPayload s⟩] } else s)) ∧
  (∀ (hb : Heartbeat) (a : Nat) (s : State), s.twin.link = 2 → s.unwaited → s.twin.peer.isSome = true → s.twin.conflict = false → s.twin.joinDue = false →
    exec (.heartbeatReceived hb a) s = .next { s with
      twin.hbMissed := s.twin.hbMissed + (match s.twin.hbAt with | some t => missedIn (monoNs s - t) | none => 0), twin.hbAt := some (monoNs s), twin.peer := some hb, twin.peerEpoch := hb.epoch, twin.lineHigh := (if s.twin.driving = true then false else hb.lineHigh && !hb.driving)
      twin.state := if s.twin.state = 3 ∧ hb.state ≠ 5 then 2
        else if s.twin.state = 2 ∧ hb.state = 5 ∧ s.twin.join = none ∧ s.twin.unhealthyPeer = false ∧ hb.unitId ≠ prmN s P.TWIN_UNIT_ID then 3 else s.twin.state }) ∧
  (∀ s : State, s.twin.peer.isSome = true → s.twin.state = 3 → s.twin.driving = true → s.twin.mirrors = [] → s.sys.inbox = [] → heldCount s = 0 → (∀ p, mailReady p s = false) →
    exec .twinHbLost s = .next { s with
      twin.hbMissed := s.twin.hbMissed + max 3 (match s.twin.hbAt with | some t => missedIn (monoNs s - t) | none => 0), twin.hbAt := none, twin.hbLosses := s.twin.hbLosses + 1, twin.peer := none, twin.state := 2 }) ∧
  (∀ s : State, s.twin.peer.isSome = true → s.twin.state = 5 → s.twin.driving = false → s.twin.join = none → s.twin.mirrors = [] → s.sys.inbox = [] → heldCount s = 0 → (∀ p, mailReady p s = false) →
    ∃ t, exec .twinHbLost s = .next t ∧ t.twin.mayTake = true ∧ t.twin.peer = none ∧ t.twin.hbLosses = s.twin.hbLosses + 1 ∧ t.twin.state = (if s.twin.lineHigh = true then 5 else 7) ∧
      (s.twin.lineHigh = false → t.twin.isoFrom = 5) ∧ (∀ p < 16, t.twin.release.get 0 p = 2 ^ 48) ∧ t.mem = s.mem ∧ t.sys = s.sys) ∧
  (∀ s : State, s.twin.peer = none → exec .twinHbLost s = .next (serveAll s)) ∧
  (∀ (a : Nat) (s : State), s.twin.link = 2 → s.twin.waiting = [] → s.twin.mirrors = [] → s.twin.yielding = none → s.sys.inbox = [] → heldCount s = 0 → (∀ p, mailReady p s = false) →
    exec (.ack a) s = .next { s with twin.replay := s.twin.replay.filter (fun m => !seqLe m.msg.mseq a) }) ∧
  (∀ (n : Nat) (s : State), s.twin.link = 2 → s.twin.waiting = [] → s.twin.mirrors = [] → s.twin.yielding = none → s.sys.inbox = [] → heldCount s = 0 → (∀ p, mailReady p s = false) → (∀ m ∈ s.twin.replay, m.replays < 2 ∧ seqLe m.msg.mseq (n + 2 ^ 32 - 1) = false ∧ seqLe n m.msg.mseq = true) →
    exec (.nak n ((n + 2 ^ 32 - 1))) s = .next { s with
      twin.sent := s.twin.sent ++ s.twin.replay.map (fun m => twinBytes m.msg), twin.replays := s.twin.replays + s.twin.replay.length
      twin.replay := s.twin.replay.map (fun m => { m with replays := m.replays + 1 }) }) ∧
  (∀ s : State, s.twin.link = 2 → s.sys.inbox = [] → heldCount s = 0 → (∀ p, mailReady p s = false) → ∀ m ms, s.twin.replay = m :: ms → (∀ x ∈ m :: ms, x.replays < 2 ∧ seqLe m.msg.mseq x.msg.mseq = true) →
    exec .replayTimeout s = .next { s with
      twin.sent := s.twin.sent ++ (m :: ms).map (fun x => twinBytes x.msg), twin.replays := s.twin.replays + (m :: ms).length
      twin.replay := (m :: ms).map (fun x => { x with replays := x.replays + 1 }) }) ∧
  (∀ (bs : List Byte) (s : State), s.twin.link = 2 → 3 < leAt bs 0 1 → twinCrcOk bs = false ∨ leAt bs 4 4 ≠ s.twin.rxExpect → s.twin.lastNak = none →
    exec (.shaeshMessageRejected bs) s = .next { s with
      twin.lastNak := some (monoNs s)
      twin.sent := s.twin.sent ++ [twinBytes ⟨3, 0, s.twin.rxLast, leBytes 4 s.twin.rxExpect ++ leBytes 4 0⟩] })

/-- A sequenced message that is not the one expected does nothing but acknowledge and ask for the expected one. In order: a Shadow acknowledges a COMMAND and takes its packet; a REPLY ends the wait for it, and 0x0904 is a divergence; the device with the claim keeps ARMED; a WINDOW_WRITE acts as its principal's write of a compare unit; STAMPS wait for their lines, late ones being counted; an EVENT waits in its latch slot for its line; a DIGESTS entry is compared with its unit, or kept; DISPOSED units are discarded and acknowledged; LOG entries enter the mirror ring, but of a DETACHED device; DIVERGENCE, YIELD and DETACH act on the pair. A mirrored packet without acknowledgement releases its replies and is a divergence. The end of ADOPT_WAIT releases the line and leaves a Shadow UNHEALTHY. An entry without a unit after 1 s is a divergence. -/
def Obligations.TwinMessages : Prop :=
  (∀ (m : MsgHdr) (s : State) (pk : List Byte) (r : Reply) (n : Nat) (p : Principal) (v : Word32) (port : Fin 16) (ts : List Stamp) (k line : Nat) (es : List DigestEntry)
      (ds : List DisposedEntry) (ls : List LogEntry) (e : DigestEntry), s.twin.link = 2 → m.mseq ≠ (processAck m.ack s).twin.rxExpect →
    ∀ i ∈ ([.command m pk, .reply m r, .armed m n, .windowWrite m p n v, .stamps m port ts, .event m n k line, .digests m es, .disposed m ds, .log m ls, .divergence m e n, .yield m, .detach m] : List Instr),
      exec i s = .next (serveAll (sendNak (processAck m.ack s)))) ∧
  (∀ (m : MsgHdr) (pk : List Byte) (s : State), s.inOrder m → exec (.command m pk) s = .next (serveAll
    (if (s.received m).twin.state = 5 ∨ (s.received m).twin.state = 6 then accept .shaesh (.packetRejected (.packet .shaesh pk)) (sendAck (s.received m)) else sendAck (s.received m)))) ∧
  (∀ (m : MsgHdr) (r : Reply) (s t : State), s.inOrder m → t = (if r.interim = true then s.received m else
      { s.received m with twin.mirrors := (s.received m).twin.mirrors.filter (fun w => !(w.acked && w.mirrorSeq == r.seq)) }) →
    exec (.reply m r) s = .next (serveAll (if r.status = 0x0904 then activeDiverge t else t))) ∧
  (∀ (w : MirrorWait) (s : State), s.twin.mirrors.find? (fun w => !w.acked) = some w → exec .mirrorAckTimeout s =
    .next (serveAll (activeDiverge (forEach w.replies emit { s with twin.mirrors := s.twin.mirrors.filter (fun x => x.mirrorSeq != w.mirrorSeq) })))) ∧
  (∀ s : State, (∀ w ∈ s.twin.mirrors, w.acked = true) → exec .mirrorAckTimeout s = .next (serveAll s)) ∧
  (∀ (m : MsgHdr) (n : Nat) (s : State), s.inOrder m → exec (.armed m n) s = .next (serveAll (if holdsClaim (s.received m) = true then { s.received m with twin.armedPeer := some n } else s.received m))) ∧
  (∀ (m : MsgHdr) (p : Principal) (n r : Nat) (v : Word32) (s : State), s.inOrder m → isShadow (s.received m) = true → n < 8 → r = 8 ∨ r = 0xC ∨ r = 0x10 ∨ r = 0x14 →
    exec (.windowWrite m p (4 * 0x1000000 + 0x1000 + 0x100 * n + r) v) s = .next (serveAll (windowWrite { principal := p } (pcRight (s.received m) { principal := p } n)
      (r == 0x10 || r == 0x14) 4 (0x1000 + 0x100 * n + r) v.toNat (pcAct n r v) (s.received m)))) ∧
  (∀ (m : MsgHdr) (port : Fin 16) (ts : List Stamp) (s : State), s.inOrder m → adopts (s.received m) = true → ∃ t, exec (.stamps m port ts) s = .next (serveAll t) ∧
    t = { s.received m with
      twin.lateStamps := (s.received m).twin.lateStamps + (ts.filter (fun x => decide (x.globalLine < nextDelivered (s.received m) port.val))).length
      twin.stamps := (s.received m).twin.stamps ++ (ts.filter (fun x => !decide (x.globalLine < nextDelivered (s.received m) port.val))).map (fun x => { x with port := port.val }) }) ∧
  (∀ (m : MsgHdr) (c k line : Nat) (s : State), s.inOrder m → isShadow (s.received m) = true → exec (.event m c k line) s = .next (serveAll (setLatchSlot (slotOf c).1
    { latchSlot (s.received m) (slotOf c).1 with pending := (latchSlot (s.received m) (slotOf c).1).pending ++ [⟨k, 0, some line⟩] } (s.received m)))) ∧
  (∀ (m : MsgHdr) (e o : DigestEntry) (s : State), s.inOrder m → (s.received m).twin.excluded = [] → (s.received m).twin.state = 5 → comparable (s.received m) e = true →
    (s.received m).twin.own.find? (sameUnit e) = some o → exec (.digests m [e]) s = .next (serveAll (compareDigest o e
      { s.received m with twin.own := (s.received m).twin.own.filter (fun x => !sameUnit e x) }))) ∧
  (∀ (m : MsgHdr) (e : DigestEntry) (s : State), s.inOrder m → (s.received m).twin.excluded = [] → (s.received m).twin.state = 5 → comparable (s.received m) e = true →
    (s.received m).twin.own.find? (sameUnit e) = none → exec (.digests m [e]) s = .next (serveAll { s.received m with twin.theirs := (s.received m).twin.theirs ++ [e] })) ∧
  (∀ (m : MsgHdr) (ds : List DisposedEntry) (s : State), s.inOrder m → exec (.disposed m ds) s =
    .next (serveAll (sendAck (if isShadow (s.received m) = true then forEach ds discardUnits (s.received m) else s.received m)))) ∧
  (∀ (m : MsgHdr) (ls : List LogEntry) (s : State), s.inOrder m → (s.received m).twin.state = 8 → exec (.log m ls) s = .next (serveAll (s.received m))) ∧
  (∀ (m : MsgHdr) (ls : List LogEntry) (s : State), s.inOrder m → (s.received m).twin.state ≠ 8 → ∃ t, exec (.log m ls) s = .next (serveAll t) ∧ t = { s.received m with sys.log.mirror := t.sys.log.mirror } ∧
    t.sys.log.mirror = ((s.received m).sys.log.mirror ++ ls).drop ((s.received m).sys.log.mirror.length + ls.length - 262144)) ∧
  (∀ (m : MsgHdr) (e : DigestEntry) (n : Nat) (s : State), s.inOrder m → exec (.divergence m e n) s = .next (serveAll (activeDiverge { s.received m with
      twin.lastId := e.firstId, twin.lastProduct := e.product, twin.lastResult := if n = e.digest then 2 else 1 }))) ∧
  (∀ (m : MsgHdr) (s : State), s.inOrder m → exec (.yield m) s = .next (serveAll (if isShadow (s.received m) = true then sendAck { s.received m with twin.mayTake := true } else s.received m))) ∧
  (∀ (m : MsgHdr) (s : State), s.inOrder m → exec (.detach m) s = .next (serveAll (if holdsClaim (s.received m) = true then
      (if (s.received m).twin.state = 3 then { s.received m with twin.state := 2 } else s.received m)
    else { s.received m with
      twin.state := 8, twin.join := none, twin.mayTake := false, twin.retry := false, twin.joinDue := false, twin.rejoin := false }))) ∧
  (∀ (slot : Nat) (s : State), slot < 16 → (port s slot).out ≠ [] → waitsStamp s slot (nextDelivered s slot) = true → ∃ t, exec (.adoptWaitExpiry slot) s = .next t ∧
    t.twin.adoptMiss = s.twin.adoptMiss + 1 ∧ t.twin.release.get 0 slot = nextDelivered s slot + 1 ∧ t.twin.state = (if s.twin.state = 5 then 6 else s.twin.state) ∧ t.ports = s.ports ∧ t.mem = s.mem) ∧
  (∀ (n slot g : Nat) (s : State), (n = 16 ∧ slot = 16 ∧ (s.segm.inq.head?).map (fun x => x.1.stamp.globalLine) = some g) ∨
      (slot < 16 ∧ (n = 17 + slot ∨ (n = slot ∧ (port s slot).out = [])) ∧ ((strip s slot).inq.head?).map (fun o => o.line.stamp.globalLine) = some g) → waitsHeartbeat s slot g = true →
    ∃ t, exec (.adoptWaitExpiry n) s = .next t ∧ t.twin.adoptMiss = s.twin.adoptMiss + 1 ∧ t.twin.skipHb.get 0 slot = g + 1 ∧
      t.twin.state = (if s.twin.state = 5 then 6 else s.twin.state) ∧ t.segm = s.segm ∧ t.strips = s.strips) ∧
  (∀ (e : DigestEntry) (s : State), e ∈ s.twin.own ∨ e ∈ s.twin.theirs → ∃ t, exec (.digestUnmatchedTimeout e) s = .next t ∧ t.twin.diverged = s.twin.diverged + 1 ∧
    t.twin.lastResult = 2 ∧ t.twin.lastId = e.firstId ∧ t.mem = s.mem) ∧
  (∀ (e : DigestEntry) (s : State), e ∉ s.twin.own → e ∉ s.twin.theirs → exec (.digestUnmatchedTimeout e) s = .next s)

/-- The device with the claim answers a JOIN_REQ with its configuration, after a pending Cinch where there is one; another but a DETACHED one begins to join. Each item of JOIN_DATA is kept or applied in its order. JOIN_DONE with status 0 makes the Active PAIRED and succeeds the commands that waited, another status fails the join. A joiner whose clock is LOCKED and that has paired a trigger of every running port within ALIGN_TOL takes the Active's counts. A capture goes through DC63 and sends the boundaries with the state of the port channels, or that of the stitched side, which puts the joiner in step; where the Active's own clock is not LOCKED the join fails. A joiner not aligned in time fails the join and is UNHEALTHY; it tries again under AUTO_REJOIN. -/
def Obligations.JoiningThePair : Prop :=
  (∀ (m : MsgHdr) (s : State) (items : List JoinItem) (a b : Nat), s.twin.link = 2 → m.mseq ≠ (processAck m.ack s).twin.rxExpect →
    ∀ i ∈ ([.joinReq m, .joinData m items, .joinDone m a b] : List Instr), exec i s = .next (serveAll (sendNak (processAck m.ack s)))) ∧
  (∀ (m : MsgHdr) (s : State), s.inOrder m → (holdsClaim (s.received m) = true → (s.received m).sys.cinch = none → sameUnitId (s.received m) = false →
      ∃ t, exec (.joinReq m) s = .next (serveAll (sendItems (configItems (s.received m)) t)) ∧ t.twin.join = some { joiner := false, phase := 2 } ∧
        t.twin.state = (if (s.received m).twin.state = 3 then 2 else (s.received m).twin.state) ∧ t.mem = (s.received m).mem ∧ t.ports = (s.received m).ports) ∧
    (∀ c, holdsClaim (s.received m) = true → (s.received m).sys.cinch = some c → sameUnitId (s.received m) = false → exec (.joinReq m) s = .next (serveAll { s.received m with twin.rejoin := true })) ∧
    (holdsClaim (s.received m) = false → (s.received m).twin.state ≠ 8 → exec (.joinReq m) s = .next (serveAll (startJoin (s.received m)))) ∧
    (holdsClaim (s.received m) = false → (s.received m).twin.state = 8 → exec (.joinReq m) s = .next (serveAll (s.received m)))) ∧
  (∀ (m : MsgHdr) (j : Join) (s : State), s.inOrder m → (s.received m).twin.join = some j → j.joiner = true →
    (∀ id v, exec (.joinData m [.scalar id v]) s = .next (serveAll { s.received m with twin.join := some { j with vals := Map.insert j.vals id v } })) ∧
    (∀ e, j.phase < 3 → exec (.joinData m [.epoch e]) s = .next (serveAll (applyJoin j e (s.received m)))) ∧
    (∀ p line, exec (.joinData m [.portStart p line]) s = .next (serveAll { s.received m with twin.join := some { j with frames := Map.insert j.frames p line } })) ∧
    (∀ f seq first, exec (.joinData m [.flowStart f seq first]) s = .next (serveAll (setFlow f { flow (s.received m) f with
        joinFrom := some (seq, first), fill := none, closed := [] } { s.received m with twin.joinFlows := Map.insert (s.received m).twin.joinFlows f seq }))) ∧
    (∀ c x, captureLate (s.received m) j (prmN (s.received m) (P.PROF_SRC c)) = false → exec (.joinData m [.portState c x]) s =
      .next (serveAll (setProf c x { s.received m with twin.join := some { j with caps := c :: j.caps } }))) ∧
    (∀ profs objs next lists, stitchedLate (s.received m) j = false → (s.received m).sys.deferred = [] → (s.received m).twin.own = [] →
      ∃ t, exec (.joinData m [.stitchedState profs objs next lists]) s = .next (serveAll t) ∧ t.twin.state = 5 ∧ t.twin.join = none ∧ t.twin.joinsOk = (s.received m).twin.joinsOk + 1 ∧
        t.twin.joinBase = some (j.frames, j.line.getD 0) ∧ t.segm.objs = objs ∧ t.segm.next = next)) ∧
  (∀ (m : MsgHdr) (items : List JoinItem) (s : State), s.inOrder m → (s.received m).twin.join = none → exec (.joinData m items) s = .next (serveAll (s.received m))) ∧
  (∀ (m : MsgHdr) (st d : Nat) (j : Join) (s : State), s.inOrder m → (s.received m).twin.join = some j → j.joiner = false → holdsClaim (s.received m) = true →
    (st = 0 → ∃ t, exec (.joinDone m st d) s = .next (serveAll (endTwinCommands 0x0802 0 t)) ∧ t.twin.state = 3 ∧ t.twin.join = none ∧ t.twin.joinsOk = (s.received m).twin.joinsOk + 1 ∧
      t.twin.unhealthyPeer = false ∧ t.mem = (s.received m).mem) ∧
    (st ≠ 0 → exec (.joinDone m st d) s = .next (serveAll (endTwinCommands 0x0802 0x0905 { s.received m with
      twin.join := none, twin.joinsBad := (s.received m).twin.joinsBad + 1 })))) ∧
  (∀ (cs : List JoinCounts) (j : Join) (s : State), s.twin.join = some j → j.joiner = true → j.phase = 3 → s.tk.state = 2 → (∀ c ∈ cs, c.timeDeltaNs.natAbs ≤ prmN s P.TWIN_ALIGN_TOL) →
    (∀ p < 16, (port s p).run = true → ∃ c ∈ cs, c.port = p) →
    exec (.joinAlignment cs) s = .next (forEach cs alignPort { s with twin.join := some { j with phase := 4 } })) ∧
  (∀ (cs : List JoinCounts) (s : State), s.twin.join = none ∨ s.tk.state ≠ 2 ∨ (∃ c ∈ cs, prmN s P.TWIN_ALIGN_TOL < c.timeDeltaNs.natAbs) → exec (.joinAlignment cs) s = .next s) ∧
  (∀ (stitched : Bool) (j : Join) (s : State), s.twin.join = some j → j.joiner = false → (stitched = true ∨ s.tk.state = 2) → ∃ t, exec (.joinCapture stitched) s = .next t ∧
    t = sendSnapshot (if stitched = true then stitchedItems s else portItems s) { s with twin.join := some (if stitched = true then { j with lineCap := true } else { j with caps := List.range 16 }) } ∧
    t.twin.join = some (if stitched = true then { j with lineCap := true } else { j with caps := List.range 16 }) ∧ t.ports = s.ports ∧ t.twin.state = s.twin.state) ∧
  (∀ (j : Join) (s : State), s.twin.join = some j → j.joiner = false → s.tk.state ≠ 2 → exec (.joinCapture false) s = .next (failJoin s)) ∧
  (∀ (stitched : Bool) (s : State), s.twin.join = none → exec (.joinCapture stitched) s = .next s) ∧
  (∀ s : State, s.twin.retry = true → prmB s P.TWIN_AUTO_REJOIN = true → holdsClaim s = false → s.twin.state ≠ 8 → s.twin.link = 2 → s.twin.peer.isSome = true → sameUnitId s = false → ∃ t, exec .joinRetry s = .next t ∧
    t.twin.state = 4 ∧ t.twin.join = some { joiner := true } ∧ t.twin.own = [] ∧ t.twin.theirs = [] ∧ t.twin.stamps = [] ∧ t.twin.retry = false ∧ t.sys = s.sys) ∧
  (∀ s : State, s.twin.retry = false ∨ prmB s P.TWIN_AUTO_REJOIN = false ∨ holdsClaim s = true ∨ s.twin.state = 8 → exec .joinRetry s = .next s) ∧
  (∀ (j : Join) (s : State), s.twin.join = some j → j.joiner = true → j.phase < 4 → s.sys.deferred = [] → holdsClaim s = false → ∃ t, exec .joinAlignmentTimeout s = .next t ∧ t.twin.state = 6 ∧
    t.twin.join = none ∧ t.twin.joinsBad = s.twin.joinsBad + 1 ∧ t.twin.retry = prmB s P.TWIN_AUTO_REJOIN ∧ t.mem = s.mem) ∧
  (∀ s : State, s.twin.join = none → exec .joinAlignmentTimeout s = .next s)

/-- A core's access to DRAM outside the regions open to its principal answers a next state: the bus error is counted and, where no refusal is recorded, this one is. A level-2 error of a powered cluster completes: a corrected one is counted and raised, an uncorrectable one of a clean line is counted, raised and logged, and one of a dirty line also loses the line. A request of at most 256 bytes whose signature is good unlocks debug access while it is locked. After a fire that asked for it, a well-formed loader in the flash or in a readable store item whose range APP-S may access is taken, and a body of its length with a good digest and, where the header is signed, a key item and a good signature releases the cores whose RUN is 1 at ENTRY; an unsigned one does so while BOOT_VERIFY is 0. Where counts differ by more than WEAR_SPREAD, a wear-levelling run on an idle store that may be written begins its move. -/
def Obligations.CoreRowsComplete : Prop :=
  (∀ (a : Acc) (addr len : Nat) (w : Bool) (s : State), addr + len ≤ dramEnd → inRegions s (if a.principal = .appN then 3 else 2) addr len = false → s.core.refused.valid = false →
    exec (.dramAccessRefused a addr len w) s = .next { s with core.busErrors := s.core.busErrors + 1, core.refused := ⟨true, false, w, a.principal.code, a.source, addr⟩ }) ∧
  (∀ (c : Fin 2) (i l : Nat) (d : Bool) (s : State), (if c.val = 0 then s.boot.clusterA else s.boot.clusterB) = true →
    exec (.l2EccError c i l false d) s = .next (raiseOpen 555 (recordEcc false 8 i { s with chk.ce := s.chk.ce + 1, core.l2Ce := s.core.l2Ce + 1 }))) ∧
  (∀ (c : Fin 2) (i l : Nat) (d : Bool) (s : State), (if c.val = 0 then s.boot.clusterA else s.boot.clusterB) = true →
    ∃ t, exec (.l2EccError c i l true d) s = .next t ∧ t.core.l2Ue = s.core.l2Ue + 1 ∧ t.chk.ue = s.chk.ue + 1 ∧ t.chk.ecc = ⟨true, true, 8, i⟩ ∧ t.mem = s.mem ∧
      t.core.lost = (if d = true then (l :: s.core.lost).dedup else s.core.lost) ∧ t.core.busErrors = s.core.busErrors + b2n d) ∧
  (∀ (r : List Byte) (s : State), s.core.unlocked = false → r.length ≤ 256 → accepting s = true →
    ∃ t, exec (.debugUnlock r true) s = .next t ∧ t.core.unlocked = true ∧ t.mem = s.mem ∧ t.core.cores = s.core.cores) ∧
  (∀ (h : List Byte) (s : State), s.core.boot = 1 → prm s P.CORE_BOOT_SRC = 0 → loaderOk h = true → inRegions s 2 (leAt h 16 8) (leAt h 8 4) = true →
    exec (.coreBoot h) s = .next { s with core.boot := 2, core.hdr := h }) ∧
  (∀ (hdr : List Byte) (s : State), s.core.boot = 1 → prm s P.CORE_BOOT_SRC = 1 → itemFault s (prmN s P.CORE_BOOT_ITEM) = none →
    loaderOk ((itemData s (prmN s P.CORE_BOOT_ITEM)).take 128) = true →
    inRegions s 2 (leAt ((itemData s (prmN s P.CORE_BOOT_ITEM)).take 128) 16 8) (leAt ((itemData s (prmN s P.CORE_BOOT_ITEM)).take 128) 8 4) = true →
    exec (.coreBoot hdr) s = .next { s with core.boot := 2, core.hdr := (itemData s (prmN s P.CORE_BOOT_ITEM)).take 128 }) ∧
  (∀ (body bs : List Byte) (good : Bool) (s : State), s.core.boot = 2 → bs.length = leAt s.core.hdr 8 4 →
    bs = (if prm s P.CORE_BOOT_SRC = 1 then ((itemData s (prmN s P.CORE_BOOT_ITEM)).drop 128).take (leAt s.core.hdr 8 4) else body.take (leAt s.core.hdr 8 4)) →
    (if bitOf (leAt s.core.hdr 6 2) 0 = true then itemFault s (prmN s P.CORE_BOOT_KEY_ITEM) = none ∧ good = true else prmB s P.CORE_BOOT_VERIFY = false) →
    ∃ t, exec (.coreLoaderDone body true good) s = .next t ∧ t.mem = s.mem.store (leAt s.core.hdr 16 8) bs ∧ t.core.boot = 0 ∧ t.core.loaded = true ∧ t.core.entry = leAt s.core.hdr 24 8 ∧
      ∀ k, k < 8 → prmB s (P.CORE_RUN k) = true → (appCore t k).running = true ∧ (appCore t k).world = false) ∧
  (∀ (src dst : Nat) (s : State), taskOn s 6 = true → burnishSuspended s = false → s.stor.ops = [] → storeInhibited s = false → wearMove s = some (src, dst) →
    ∃ t, exec .wearLevelling s = .next t ∧ t = { s with stor.ops := t.stor.ops } ∧ t.stor.ops.map StoreOp.source = [src] ∧ t.stor.ops.map StoreOp.todo = [[dst]] ∧ t.stor.ops.map StoreOp.begun = [true])
end

