-- ==== Sys2Proof/Laws/Maps.lean ====
section
/-! SUPPORT. Laws/Maps.lean: the laws of the tables that hold the instances of a unit: reading after writing, and their form. -/
namespace Sys2Proof.Machine

theorem Map.get_insert {α : Type} (d v : α) (n k : Nat) : ∀ m : Map α, Map.get d (Map.insert m n v) k = if k = n then v else Map.get d m k
  | [] => by simp [Map.insert, Map.get]
  | (j, w) :: m => by
    simp only [Map.insert]
    split
    · simp [Map.get]
    · split
      · next h => subst h; by_cases hk : k = n <;> simp [Map.get, hk]
      · next h1 h2 =>
        have ih := Map.get_insert d v n k m
        by_cases hk : k = j
        · subst hk; simp [Map.get, Ne.symm h2]
        · simp [Map.get, hk, ih]

theorem Map.find?_insert {α : Type} (v : α) (n k : Nat) : ∀ m : Map α, Map.find? (Map.insert m n v) k = if k = n then some v else Map.find? m k
  | [] => by simp [Map.insert, Map.find?]
  | (j, w) :: m => by
    simp only [Map.insert]
    split
    · simp [Map.find?]
    · split
      · next h => subst h; by_cases hk : k = n <;> simp [Map.find?, hk]
      · next h1 h2 =>
        have ih := Map.find?_insert v n k m
        by_cases hk : k = j
        · subst hk; simp [Map.find?, Ne.symm h2]
        · simp [Map.find?, hk, ih]

theorem Map.get_erase {α : Type} (d : α) (n k : Nat) : ∀ m : Map α, Map.get d (Map.erase m n) k = if k = n then d else Map.get d m k
  | [] => by simp [Map.erase, Map.get]
  | (j, w) :: m => by
    have ih := Map.get_erase d n k m
    simp only [Map.erase] at ih
    by_cases hj : j = n
    · subst hj
      by_cases hk : k = j <;> simp_all [Map.erase, Map.get]
    · by_cases hk : k = j
      · subst hk; simp [Map.erase, Map.get, hj]
      · simp_all [Map.erase, Map.get]

/-- An instance reads as it was last set, every other instance as before. -/
theorem Map.get_set {α : Type} [DecidableEq α] (d v : α) (m : Map α) (n k : Nat) :
    Map.get d (Map.set d m n v) k = if k = n then v else Map.get d m k := by
  unfold Map.set
  split
  · next h => subst h; exact Map.get_erase v n k m
  · exact Map.get_insert d v n k m

@[simp] theorem Map.get_set_self {α : Type} [DecidableEq α] (d v : α) (m : Map α) (n : Nat) : Map.get d (Map.set d m n v) n = v := by
  simp [Map.get_set]

theorem Map.get_set_ne {α : Type} [DecidableEq α] (d v : α) (m : Map α) {n k : Nat} (h : k ≠ n) : Map.get d (Map.set d m n v) k = Map.get d m k := by
  simp [Map.get_set, h]

@[simp] theorem Map.find?_insert_self {α : Type} (v : α) (m : Map α) (n : Nat) : Map.find? (Map.insert m n v) n = some v := by
  simp [Map.find?_insert]

theorem Map.mem_insert {α : Type} {n : Nat} {v : α} : ∀ {m : Map α} {p : Nat × α}, p ∈ Map.insert m n v → p = (n, v) ∨ p ∈ m
  | [], p, h => by simpa [Map.insert] using h
  | (k, w) :: m, p, h => by
    simp only [Map.insert] at h
    split at h
    · simpa using h
    · split at h
      · rcases List.mem_cons.mp h with h | h
        · exact .inl h
        · exact .inr (List.mem_cons_of_mem _ h)
      · rcases List.mem_cons.mp h with h | h
        · exact .inr (h ▸ List.mem_cons_self ..)
        · rcases Map.mem_insert h with h | h
          · exact .inl h
          · exact .inr (List.mem_cons_of_mem _ h)

theorem Map.sorted_cons {α : Type} {k : Nat} {w : α} {m : Map α} : Map.sorted ((k, w) :: m) = true ↔ (∀ p ∈ m, k < p.1) ∧ Map.sorted m = true := by
  simp [Map.sorted]

theorem Map.insert_sorted {α : Type} (n : Nat) (v : α) : ∀ {m : Map α}, Map.sorted m = true → Map.sorted (Map.insert m n v) = true
  | [], _ => by simp [Map.insert, Map.sorted]
  | (k, w) :: m, h => by
    obtain ⟨h1, h2⟩ := Map.sorted_cons.mp h
    simp only [Map.insert]
    split
    · next hlt =>
      refine Map.sorted_cons.mpr ⟨fun p hp => ?_, h⟩
      rcases List.mem_cons.mp hp with rfl | hp
      · exact hlt
      · exact Nat.lt_trans hlt (h1 p hp)
    · split
      · next heq => exact heq ▸ Map.sorted_cons.mpr ⟨h1, h2⟩
      · next hlt hne =>
        refine Map.sorted_cons.mpr ⟨fun p hp => ?_, Map.insert_sorted n v h2⟩
        rcases Map.mem_insert hp with rfl | hp
        · show k < n; omega
        · exact h1 p hp

theorem Map.set_sorted {α : Type} [DecidableEq α] (d : α) (n : Nat) (v : α) {m : Map α} (h : Map.sorted m = true) :
    Map.sorted (Map.set d m n v) = true := by
  unfold Map.set
  split
  · simp only [Map.sorted, Map.erase] at h ⊢
    exact decide_eq_true ((of_decide_eq_true h).sublist (List.Sublist.map _ List.filter_sublist))
  · exact Map.insert_sorted n v h

end Sys2Proof.Machine
end

