-- ==== Sys2Proof/Laws/State.lean ====
section
/-! SUPPORT. Laws/State.lean: one lemma per update of an instance and field of State, so that no later proof unfolds a record update. -/
namespace Sys2Proof.Machine

theorem task_setTask (n k : Nat) (x : Task) (s : State) : task (setTask n x s) k = if k = n then x else task s k := Map.get_set ..
@[simp] theorem task_setTask_self (n : Nat) (x : Task) (s : State) : task (setTask n x s) n = x := Map.get_set_self ..
@[simp] theorem setTask_pending (n : Nat) (x : Task) (s : State) : (setTask n x s).pending = s.pending := rfl
@[simp] theorem setTask_freeCtr (n : Nat) (x : Task) (s : State) : (setTask n x s).freeCtr = s.freeCtr := rfl
@[simp] theorem setTask_sys (n : Nat) (x : Task) (s : State) : (setTask n x s).sys = s.sys := rfl
@[simp] theorem setTask_evnt (n : Nat) (x : Task) (s : State) : (setTask n x s).evnt = s.evnt := rfl
@[simp] theorem setTask_tk (n : Nat) (x : Task) (s : State) : (setTask n x s).tk = s.tk := rfl
@[simp] theorem setTask_netw (n : Nat) (x : Task) (s : State) : (setTask n x s).netw = s.netw := rfl
@[simp] theorem setTask_twin (n : Nat) (x : Task) (s : State) : (setTask n x s).twin = s.twin := rfl
@[simp] theorem setTask_core (n : Nat) (x : Task) (s : State) : (setTask n x s).core = s.core := rfl
@[simp] theorem setTask_qdma (n : Nat) (x : Task) (s : State) : (setTask n x s).qdma = s.qdma := rfl
@[simp] theorem setTask_ht (n : Nat) (x : Task) (s : State) : (setTask n x s).ht = s.ht := rfl
@[simp] theorem setTask_cmpr (n : Nat) (x : Task) (s : State) : (setTask n x s).cmpr = s.cmpr := rfl
@[simp] theorem setTask_lanes (n : Nat) (x : Task) (s : State) : (setTask n x s).lanes = s.lanes := rfl
@[simp] theorem setTask_thrm (n : Nat) (x : Task) (s : State) : (setTask n x s).thrm = s.thrm := rfl
@[simp] theorem setTask_ports (n : Nat) (x : Task) (s : State) : (setTask n x s).ports = s.ports := rfl
@[simp] theorem setTask_motn (n : Nat) (x : Task) (s : State) : (setTask n x s).motn = s.motn := rfl
@[simp] theorem setTask_strips (n : Nat) (x : Task) (s : State) : (setTask n x s).strips = s.strips := rfl
@[simp] theorem setTask_colrs (n : Nat) (x : Task) (s : State) : (setTask n x s).colrs = s.colrs := rfl
@[simp] theorem setTask_stch (n : Nat) (x : Task) (s : State) : (setTask n x s).stch = s.stch := rfl
@[simp] theorem setTask_profs (n : Nat) (x : Task) (s : State) : (setTask n x s).profs = s.profs := rfl
@[simp] theorem setTask_segm (n : Nat) (x : Task) (s : State) : (setTask n x s).segm = s.segm := rfl
@[simp] theorem setTask_recd (n : Nat) (x : Task) (s : State) : (setTask n x s).recd = s.recd := rfl
@[simp] theorem setTask_chk (n : Nat) (x : Task) (s : State) : (setTask n x s).chk = s.chk := rfl
@[simp] theorem setTask_boot (n : Nat) (x : Task) (s : State) : (setTask n x s).boot = s.boot := rfl
@[simp] theorem setTask_stor (n : Nat) (x : Task) (s : State) : (setTask n x s).stor = s.stor := rfl
@[simp] theorem setTask_memc (n : Nat) (x : Task) (s : State) : (setTask n x s).memc = s.memc := rfl
@[simp] theorem setTask_twcs (n : Nat) (x : Task) (s : State) : (setTask n x s).twcs = s.twcs := rfl
@[simp] theorem setTask_mem (n : Nat) (x : Task) (s : State) : (setTask n x s).mem = s.mem := rfl
@[simp] theorem setTask_badBlocks (n : Nat) (x : Task) (s : State) : (setTask n x s).badBlocks = s.badBlocks := rfl

theorem crcUnit_setCrcUnit (n k : Nat) (x : CrcUnit) (s : State) : crcUnit (setCrcUnit n x s) k = if k = n then x else crcUnit s k := Map.get_set ..
@[simp] theorem crcUnit_setCrcUnit_self (n : Nat) (x : CrcUnit) (s : State) : crcUnit (setCrcUnit n x s) n = x := Map.get_set_self ..
@[simp] theorem setCrcUnit_pending (n : Nat) (x : CrcUnit) (s : State) : (setCrcUnit n x s).pending = s.pending := rfl
@[simp] theorem setCrcUnit_freeCtr (n : Nat) (x : CrcUnit) (s : State) : (setCrcUnit n x s).freeCtr = s.freeCtr := rfl
@[simp] theorem setCrcUnit_sys (n : Nat) (x : CrcUnit) (s : State) : (setCrcUnit n x s).sys = s.sys := rfl
@[simp] theorem setCrcUnit_evnt (n : Nat) (x : CrcUnit) (s : State) : (setCrcUnit n x s).evnt = s.evnt := rfl
@[simp] theorem setCrcUnit_tk (n : Nat) (x : CrcUnit) (s : State) : (setCrcUnit n x s).tk = s.tk := rfl
@[simp] theorem setCrcUnit_netw (n : Nat) (x : CrcUnit) (s : State) : (setCrcUnit n x s).netw = s.netw := rfl
@[simp] theorem setCrcUnit_twin (n : Nat) (x : CrcUnit) (s : State) : (setCrcUnit n x s).twin = s.twin := rfl
@[simp] theorem setCrcUnit_core (n : Nat) (x : CrcUnit) (s : State) : (setCrcUnit n x s).core = s.core := rfl
@[simp] theorem setCrcUnit_qdma (n : Nat) (x : CrcUnit) (s : State) : (setCrcUnit n x s).qdma = s.qdma := rfl
@[simp] theorem setCrcUnit_ht (n : Nat) (x : CrcUnit) (s : State) : (setCrcUnit n x s).ht = s.ht := rfl
@[simp] theorem setCrcUnit_cmpr (n : Nat) (x : CrcUnit) (s : State) : (setCrcUnit n x s).cmpr = s.cmpr := rfl
@[simp] theorem setCrcUnit_lanes (n : Nat) (x : CrcUnit) (s : State) : (setCrcUnit n x s).lanes = s.lanes := rfl
@[simp] theorem setCrcUnit_thrm (n : Nat) (x : CrcUnit) (s : State) : (setCrcUnit n x s).thrm = s.thrm := rfl
@[simp] theorem setCrcUnit_ports (n : Nat) (x : CrcUnit) (s : State) : (setCrcUnit n x s).ports = s.ports := rfl
@[simp] theorem setCrcUnit_motn (n : Nat) (x : CrcUnit) (s : State) : (setCrcUnit n x s).motn = s.motn := rfl
@[simp] theorem setCrcUnit_strips (n : Nat) (x : CrcUnit) (s : State) : (setCrcUnit n x s).strips = s.strips := rfl
@[simp] theorem setCrcUnit_colrs (n : Nat) (x : CrcUnit) (s : State) : (setCrcUnit n x s).colrs = s.colrs := rfl
@[simp] theorem setCrcUnit_stch (n : Nat) (x : CrcUnit) (s : State) : (setCrcUnit n x s).stch = s.stch := rfl
@[simp] theorem setCrcUnit_profs (n : Nat) (x : CrcUnit) (s : State) : (setCrcUnit n x s).profs = s.profs := rfl
@[simp] theorem setCrcUnit_segm (n : Nat) (x : CrcUnit) (s : State) : (setCrcUnit n x s).segm = s.segm := rfl
@[simp] theorem setCrcUnit_recd (n : Nat) (x : CrcUnit) (s : State) : (setCrcUnit n x s).recd = s.recd := rfl
@[simp] theorem setCrcUnit_boot (n : Nat) (x : CrcUnit) (s : State) : (setCrcUnit n x s).boot = s.boot := rfl
@[simp] theorem setCrcUnit_bkgd (n : Nat) (x : CrcUnit) (s : State) : (setCrcUnit n x s).bkgd = s.bkgd := rfl
@[simp] theorem setCrcUnit_stor (n : Nat) (x : CrcUnit) (s : State) : (setCrcUnit n x s).stor = s.stor := rfl
@[simp] theorem setCrcUnit_memc (n : Nat) (x : CrcUnit) (s : State) : (setCrcUnit n x s).memc = s.memc := rfl
@[simp] theorem setCrcUnit_twcs (n : Nat) (x : CrcUnit) (s : State) : (setCrcUnit n x s).twcs = s.twcs := rfl
@[simp] theorem setCrcUnit_mem (n : Nat) (x : CrcUnit) (s : State) : (setCrcUnit n x s).mem = s.mem := rfl
@[simp] theorem setCrcUnit_badBlocks (n : Nat) (x : CrcUnit) (s : State) : (setCrcUnit n x s).badBlocks = s.badBlocks := rfl

theorem engine_setEngine (n k : Nat) (x : Engine) (s : State) : engine (setEngine n x s) k = if k = n then x else engine s k := Map.get_set ..
@[simp] theorem engine_setEngine_self (n : Nat) (x : Engine) (s : State) : engine (setEngine n x s) n = x := Map.get_set_self ..
@[simp] theorem setEngine_pending (n : Nat) (x : Engine) (s : State) : (setEngine n x s).pending = s.pending := rfl
@[simp] theorem setEngine_freeCtr (n : Nat) (x : Engine) (s : State) : (setEngine n x s).freeCtr = s.freeCtr := rfl
@[simp] theorem setEngine_sys (n : Nat) (x : Engine) (s : State) : (setEngine n x s).sys = s.sys := rfl
@[simp] theorem setEngine_evnt (n : Nat) (x : Engine) (s : State) : (setEngine n x s).evnt = s.evnt := rfl
@[simp] theorem setEngine_tk (n : Nat) (x : Engine) (s : State) : (setEngine n x s).tk = s.tk := rfl
@[simp] theorem setEngine_netw (n : Nat) (x : Engine) (s : State) : (setEngine n x s).netw = s.netw := rfl
@[simp] theorem setEngine_twin (n : Nat) (x : Engine) (s : State) : (setEngine n x s).twin = s.twin := rfl
@[simp] theorem setEngine_core (n : Nat) (x : Engine) (s : State) : (setEngine n x s).core = s.core := rfl
@[simp] theorem setEngine_qdma (n : Nat) (x : Engine) (s : State) : (setEngine n x s).qdma = s.qdma := rfl
@[simp] theorem setEngine_ht (n : Nat) (x : Engine) (s : State) : (setEngine n x s).ht = s.ht := rfl
@[simp] theorem setEngine_lanes (n : Nat) (x : Engine) (s : State) : (setEngine n x s).lanes = s.lanes := rfl
@[simp] theorem setEngine_thrm (n : Nat) (x : Engine) (s : State) : (setEngine n x s).thrm = s.thrm := rfl
@[simp] theorem setEngine_ports (n : Nat) (x : Engine) (s : State) : (setEngine n x s).ports = s.ports := rfl
@[simp] theorem setEngine_motn (n : Nat) (x : Engine) (s : State) : (setEngine n x s).motn = s.motn := rfl
@[simp] theorem setEngine_strips (n : Nat) (x : Engine) (s : State) : (setEngine n x s).strips = s.strips := rfl
@[simp] theorem setEngine_colrs (n : Nat) (x : Engine) (s : State) : (setEngine n x s).colrs = s.colrs := rfl
@[simp] theorem setEngine_stch (n : Nat) (x : Engine) (s : State) : (setEngine n x s).stch = s.stch := rfl
@[simp] theorem setEngine_profs (n : Nat) (x : Engine) (s : State) : (setEngine n x s).profs = s.profs := rfl
@[simp] theorem setEngine_segm (n : Nat) (x : Engine) (s : State) : (setEngine n x s).segm = s.segm := rfl
@[simp] theorem setEngine_recd (n : Nat) (x : Engine) (s : State) : (setEngine n x s).recd = s.recd := rfl
@[simp] theorem setEngine_chk (n : Nat) (x : Engine) (s : State) : (setEngine n x s).chk = s.chk := rfl
@[simp] theorem setEngine_boot (n : Nat) (x : Engine) (s : State) : (setEngine n x s).boot = s.boot := rfl
@[simp] theorem setEngine_bkgd (n : Nat) (x : Engine) (s : State) : (setEngine n x s).bkgd = s.bkgd := rfl
@[simp] theorem setEngine_stor (n : Nat) (x : Engine) (s : State) : (setEngine n x s).stor = s.stor := rfl
@[simp] theorem setEngine_memc (n : Nat) (x : Engine) (s : State) : (setEngine n x s).memc = s.memc := rfl
@[simp] theorem setEngine_twcs (n : Nat) (x : Engine) (s : State) : (setEngine n x s).twcs = s.twcs := rfl
@[simp] theorem setEngine_mem (n : Nat) (x : Engine) (s : State) : (setEngine n x s).mem = s.mem := rfl
@[simp] theorem setEngine_badBlocks (n : Nat) (x : Engine) (s : State) : (setEngine n x s).badBlocks = s.badBlocks := rfl

theorem colr_setColr (n k : Nat) (x : Colr) (s : State) : colr (setColr n x s) k = if k = n then x else colr s k := Map.get_set ..
@[simp] theorem colr_setColr_self (n : Nat) (x : Colr) (s : State) : colr (setColr n x s) n = x := Map.get_set_self ..
@[simp] theorem setColr_pending (n : Nat) (x : Colr) (s : State) : (setColr n x s).pending = s.pending := rfl
@[simp] theorem setColr_freeCtr (n : Nat) (x : Colr) (s : State) : (setColr n x s).freeCtr = s.freeCtr := rfl
@[simp] theorem setColr_sys (n : Nat) (x : Colr) (s : State) : (setColr n x s).sys = s.sys := rfl
@[simp] theorem setColr_evnt (n : Nat) (x : Colr) (s : State) : (setColr n x s).evnt = s.evnt := rfl
@[simp] theorem setColr_tk (n : Nat) (x : Colr) (s : State) : (setColr n x s).tk = s.tk := rfl
@[simp] theorem setColr_netw (n : Nat) (x : Colr) (s : State) : (setColr n x s).netw = s.netw := rfl
@[simp] theorem setColr_twin (n : Nat) (x : Colr) (s : State) : (setColr n x s).twin = s.twin := rfl
@[simp] theorem setColr_core (n : Nat) (x : Colr) (s : State) : (setColr n x s).core = s.core := rfl
@[simp] theorem setColr_qdma (n : Nat) (x : Colr) (s : State) : (setColr n x s).qdma = s.qdma := rfl
@[simp] theorem setColr_ht (n : Nat) (x : Colr) (s : State) : (setColr n x s).ht = s.ht := rfl
@[simp] theorem setColr_cmpr (n : Nat) (x : Colr) (s : State) : (setColr n x s).cmpr = s.cmpr := rfl
@[simp] theorem setColr_lanes (n : Nat) (x : Colr) (s : State) : (setColr n x s).lanes = s.lanes := rfl
@[simp] theorem setColr_thrm (n : Nat) (x : Colr) (s : State) : (setColr n x s).thrm = s.thrm := rfl
@[simp] theorem setColr_ports (n : Nat) (x : Colr) (s : State) : (setColr n x s).ports = s.ports := rfl
@[simp] theorem setColr_motn (n : Nat) (x : Colr) (s : State) : (setColr n x s).motn = s.motn := rfl
@[simp] theorem setColr_strips (n : Nat) (x : Colr) (s : State) : (setColr n x s).strips = s.strips := rfl
@[simp] theorem setColr_stch (n : Nat) (x : Colr) (s : State) : (setColr n x s).stch = s.stch := rfl
@[simp] theorem setColr_profs (n : Nat) (x : Colr) (s : State) : (setColr n x s).profs = s.profs := rfl
@[simp] theorem setColr_segm (n : Nat) (x : Colr) (s : State) : (setColr n x s).segm = s.segm := rfl
@[simp] theorem setColr_recd (n : Nat) (x : Colr) (s : State) : (setColr n x s).recd = s.recd := rfl
@[simp] theorem setColr_chk (n : Nat) (x : Colr) (s : State) : (setColr n x s).chk = s.chk := rfl
@[simp] theorem setColr_boot (n : Nat) (x : Colr) (s : State) : (setColr n x s).boot = s.boot := rfl
@[simp] theorem setColr_bkgd (n : Nat) (x : Colr) (s : State) : (setColr n x s).bkgd = s.bkgd := rfl
@[simp] theorem setColr_stor (n : Nat) (x : Colr) (s : State) : (setColr n x s).stor = s.stor := rfl
@[simp] theorem setColr_memc (n : Nat) (x : Colr) (s : State) : (setColr n x s).memc = s.memc := rfl
@[simp] theorem setColr_twcs (n : Nat) (x : Colr) (s : State) : (setColr n x s).twcs = s.twcs := rfl
@[simp] theorem setColr_mem (n : Nat) (x : Colr) (s : State) : (setColr n x s).mem = s.mem := rfl
@[simp] theorem setColr_badBlocks (n : Nat) (x : Colr) (s : State) : (setColr n x s).badBlocks = s.badBlocks := rfl

theorem appCore_setAppCore (n k : Nat) (x : AppCore) (s : State) : appCore (setAppCore n x s) k = if k = n then x else appCore s k := Map.get_set ..
@[simp] theorem appCore_setAppCore_self (n : Nat) (x : AppCore) (s : State) : appCore (setAppCore n x s) n = x := Map.get_set_self ..
@[simp] theorem setAppCore_pending (n : Nat) (x : AppCore) (s : State) : (setAppCore n x s).pending = s.pending := rfl
@[simp] theorem setAppCore_freeCtr (n : Nat) (x : AppCore) (s : State) : (setAppCore n x s).freeCtr = s.freeCtr := rfl
@[simp] theorem setAppCore_sys (n : Nat) (x : AppCore) (s : State) : (setAppCore n x s).sys = s.sys := rfl
@[simp] theorem setAppCore_evnt (n : Nat) (x : AppCore) (s : State) : (setAppCore n x s).evnt = s.evnt := rfl
@[simp] theorem setAppCore_tk (n : Nat) (x : AppCore) (s : State) : (setAppCore n x s).tk = s.tk := rfl
@[simp] theorem setAppCore_netw (n : Nat) (x : AppCore) (s : State) : (setAppCore n x s).netw = s.netw := rfl
@[simp] theorem setAppCore_twin (n : Nat) (x : AppCore) (s : State) : (setAppCore n x s).twin = s.twin := rfl
@[simp] theorem setAppCore_qdma (n : Nat) (x : AppCore) (s : State) : (setAppCore n x s).qdma = s.qdma := rfl
@[simp] theorem setAppCore_ht (n : Nat) (x : AppCore) (s : State) : (setAppCore n x s).ht = s.ht := rfl
@[simp] theorem setAppCore_cmpr (n : Nat) (x : AppCore) (s : State) : (setAppCore n x s).cmpr = s.cmpr := rfl
@[simp] theorem setAppCore_lanes (n : Nat) (x : AppCore) (s : State) : (setAppCore n x s).lanes = s.lanes := rfl
@[simp] theorem setAppCore_thrm (n : Nat) (x : AppCore) (s : State) : (setAppCore n x s).thrm = s.thrm := rfl
@[simp] theorem setAppCore_ports (n : Nat) (x : AppCore) (s : State) : (setAppCore n x s).ports = s.ports := rfl
@[simp] theorem setAppCore_motn (n : Nat) (x : AppCore) (s : State) : (setAppCore n x s).motn = s.motn := rfl
@[simp] theorem setAppCore_strips (n : Nat) (x : AppCore) (s : State) : (setAppCore n x s).strips = s.strips := rfl
@[simp] theorem setAppCore_colrs (n : Nat) (x : AppCore) (s : State) : (setAppCore n x s).colrs = s.colrs := rfl
@[simp] theorem setAppCore_stch (n : Nat) (x : AppCore) (s : State) : (setAppCore n x s).stch = s.stch := rfl
@[simp] theorem setAppCore_profs (n : Nat) (x : AppCore) (s : State) : (setAppCore n x s).profs = s.profs := rfl
@[simp] theorem setAppCore_segm (n : Nat) (x : AppCore) (s : State) : (setAppCore n x s).segm = s.segm := rfl
@[simp] theorem setAppCore_recd (n : Nat) (x : AppCore) (s : State) : (setAppCore n x s).recd = s.recd := rfl
@[simp] theorem setAppCore_chk (n : Nat) (x : AppCore) (s : State) : (setAppCore n x s).chk = s.chk := rfl
@[simp] theorem setAppCore_boot (n : Nat) (x : AppCore) (s : State) : (setAppCore n x s).boot = s.boot := rfl
@[simp] theorem setAppCore_bkgd (n : Nat) (x : AppCore) (s : State) : (setAppCore n x s).bkgd = s.bkgd := rfl
@[simp] theorem setAppCore_stor (n : Nat) (x : AppCore) (s : State) : (setAppCore n x s).stor = s.stor := rfl
@[simp] theorem setAppCore_memc (n : Nat) (x : AppCore) (s : State) : (setAppCore n x s).memc = s.memc := rfl
@[simp] theorem setAppCore_twcs (n : Nat) (x : AppCore) (s : State) : (setAppCore n x s).twcs = s.twcs := rfl
@[simp] theorem setAppCore_mem (n : Nat) (x : AppCore) (s : State) : (setAppCore n x s).mem = s.mem := rfl
@[simp] theorem setAppCore_badBlocks (n : Nat) (x : AppCore) (s : State) : (setAppCore n x s).badBlocks = s.badBlocks := rfl

theorem consumer_setConsumer (n k : Nat) (x : Consumer) (s : State) : consumer (setConsumer n x s) k = if k = n then x else consumer s k := Map.get_set ..
@[simp] theorem consumer_setConsumer_self (n : Nat) (x : Consumer) (s : State) : consumer (setConsumer n x s) n = x := Map.get_set_self ..
@[simp] theorem setConsumer_pending (n : Nat) (x : Consumer) (s : State) : (setConsumer n x s).pending = s.pending := rfl
@[simp] theorem setConsumer_freeCtr (n : Nat) (x : Consumer) (s : State) : (setConsumer n x s).freeCtr = s.freeCtr := rfl
@[simp] theorem setConsumer_sys (n : Nat) (x : Consumer) (s : State) : (setConsumer n x s).sys = s.sys := rfl
@[simp] theorem setConsumer_tk (n : Nat) (x : Consumer) (s : State) : (setConsumer n x s).tk = s.tk := rfl
@[simp] theorem setConsumer_netw (n : Nat) (x : Consumer) (s : State) : (setConsumer n x s).netw = s.netw := rfl
@[simp] theorem setConsumer_twin (n : Nat) (x : Consumer) (s : State) : (setConsumer n x s).twin = s.twin := rfl
@[simp] theorem setConsumer_core (n : Nat) (x : Consumer) (s : State) : (setConsumer n x s).core = s.core := rfl
@[simp] theorem setConsumer_qdma (n : Nat) (x : Consumer) (s : State) : (setConsumer n x s).qdma = s.qdma := rfl
@[simp] theorem setConsumer_ht (n : Nat) (x : Consumer) (s : State) : (setConsumer n x s).ht = s.ht := rfl
@[simp] theorem setConsumer_cmpr (n : Nat) (x : Consumer) (s : State) : (setConsumer n x s).cmpr = s.cmpr := rfl
@[simp] theorem setConsumer_lanes (n : Nat) (x : Consumer) (s : State) : (setConsumer n x s).lanes = s.lanes := rfl
@[simp] theorem setConsumer_thrm (n : Nat) (x : Consumer) (s : State) : (setConsumer n x s).thrm = s.thrm := rfl
@[simp] theorem setConsumer_ports (n : Nat) (x : Consumer) (s : State) : (setConsumer n x s).ports = s.ports := rfl
@[simp] theorem setConsumer_motn (n : Nat) (x : Consumer) (s : State) : (setConsumer n x s).motn = s.motn := rfl
@[simp] theorem setConsumer_strips (n : Nat) (x : Consumer) (s : State) : (setConsumer n x s).strips = s.strips := rfl
@[simp] theorem setConsumer_colrs (n : Nat) (x : Consumer) (s : State) : (setConsumer n x s).colrs = s.colrs := rfl
@[simp] theorem setConsumer_stch (n : Nat) (x : Consumer) (s : State) : (setConsumer n x s).stch = s.stch := rfl
@[simp] theorem setConsumer_profs (n : Nat) (x : Consumer) (s : State) : (setConsumer n x s).profs = s.profs := rfl
@[simp] theorem setConsumer_segm (n : Nat) (x : Consumer) (s : State) : (setConsumer n x s).segm = s.segm := rfl
@[simp] theorem setConsumer_recd (n : Nat) (x : Consumer) (s : State) : (setConsumer n x s).recd = s.recd := rfl
@[simp] theorem setConsumer_chk (n : Nat) (x : Consumer) (s : State) : (setConsumer n x s).chk = s.chk := rfl
@[simp] theorem setConsumer_boot (n : Nat) (x : Consumer) (s : State) : (setConsumer n x s).boot = s.boot := rfl
@[simp] theorem setConsumer_bkgd (n : Nat) (x : Consumer) (s : State) : (setConsumer n x s).bkgd = s.bkgd := rfl
@[simp] theorem setConsumer_stor (n : Nat) (x : Consumer) (s : State) : (setConsumer n x s).stor = s.stor := rfl
@[simp] theorem setConsumer_memc (n : Nat) (x : Consumer) (s : State) : (setConsumer n x s).memc = s.memc := rfl
@[simp] theorem setConsumer_twcs (n : Nat) (x : Consumer) (s : State) : (setConsumer n x s).twcs = s.twcs := rfl
@[simp] theorem setConsumer_mem (n : Nat) (x : Consumer) (s : State) : (setConsumer n x s).mem = s.mem := rfl
@[simp] theorem setConsumer_badBlocks (n : Nat) (x : Consumer) (s : State) : (setConsumer n x s).badBlocks = s.badBlocks := rfl

theorem rein_setRein (n k : Nat) (x : Rein) (s : State) : rein (setRein n x s) k = if k = n then x else rein s k := Map.get_set ..
@[simp] theorem rein_setRein_self (n : Nat) (x : Rein) (s : State) : rein (setRein n x s) n = x := Map.get_set_self ..
@[simp] theorem setRein_pending (n : Nat) (x : Rein) (s : State) : (setRein n x s).pending = s.pending := rfl
@[simp] theorem setRein_freeCtr (n : Nat) (x : Rein) (s : State) : (setRein n x s).freeCtr = s.freeCtr := rfl
@[simp] theorem setRein_sys (n : Nat) (x : Rein) (s : State) : (setRein n x s).sys = s.sys := rfl
@[simp] theorem setRein_tk (n : Nat) (x : Rein) (s : State) : (setRein n x s).tk = s.tk := rfl
@[simp] theorem setRein_netw (n : Nat) (x : Rein) (s : State) : (setRein n x s).netw = s.netw := rfl
@[simp] theorem setRein_twin (n : Nat) (x : Rein) (s : State) : (setRein n x s).twin = s.twin := rfl
@[simp] theorem setRein_core (n : Nat) (x : Rein) (s : State) : (setRein n x s).core = s.core := rfl
@[simp] theorem setRein_qdma (n : Nat) (x : Rein) (s : State) : (setRein n x s).qdma = s.qdma := rfl
@[simp] theorem setRein_ht (n : Nat) (x : Rein) (s : State) : (setRein n x s).ht = s.ht := rfl
@[simp] theorem setRein_cmpr (n : Nat) (x : Rein) (s : State) : (setRein n x s).cmpr = s.cmpr := rfl
@[simp] theorem setRein_lanes (n : Nat) (x : Rein) (s : State) : (setRein n x s).lanes = s.lanes := rfl
@[simp] theorem setRein_thrm (n : Nat) (x : Rein) (s : State) : (setRein n x s).thrm = s.thrm := rfl
@[simp] theorem setRein_ports (n : Nat) (x : Rein) (s : State) : (setRein n x s).ports = s.ports := rfl
@[simp] theorem setRein_motn (n : Nat) (x : Rein) (s : State) : (setRein n x s).motn = s.motn := rfl
@[simp] theorem setRein_strips (n : Nat) (x : Rein) (s : State) : (setRein n x s).strips = s.strips := rfl
@[simp] theorem setRein_colrs (n : Nat) (x : Rein) (s : State) : (setRein n x s).colrs = s.colrs := rfl
@[simp] theorem setRein_stch (n : Nat) (x : Rein) (s : State) : (setRein n x s).stch = s.stch := rfl
@[simp] theorem setRein_profs (n : Nat) (x : Rein) (s : State) : (setRein n x s).profs = s.profs := rfl
@[simp] theorem setRein_segm (n : Nat) (x : Rein) (s : State) : (setRein n x s).segm = s.segm := rfl
@[simp] theorem setRein_recd (n : Nat) (x : Rein) (s : State) : (setRein n x s).recd = s.recd := rfl
@[simp] theorem setRein_chk (n : Nat) (x : Rein) (s : State) : (setRein n x s).chk = s.chk := rfl
@[simp] theorem setRein_boot (n : Nat) (x : Rein) (s : State) : (setRein n x s).boot = s.boot := rfl
@[simp] theorem setRein_bkgd (n : Nat) (x : Rein) (s : State) : (setRein n x s).bkgd = s.bkgd := rfl
@[simp] theorem setRein_stor (n : Nat) (x : Rein) (s : State) : (setRein n x s).stor = s.stor := rfl
@[simp] theorem setRein_memc (n : Nat) (x : Rein) (s : State) : (setRein n x s).memc = s.memc := rfl
@[simp] theorem setRein_twcs (n : Nat) (x : Rein) (s : State) : (setRein n x s).twcs = s.twcs := rfl
@[simp] theorem setRein_mem (n : Nat) (x : Rein) (s : State) : (setRein n x s).mem = s.mem := rfl
@[simp] theorem setRein_badBlocks (n : Nat) (x : Rein) (s : State) : (setRein n x s).badBlocks = s.badBlocks := rfl

theorem latchSlot_setLatchSlot (n k : Nat) (x : LatchSlot) (s : State) : latchSlot (setLatchSlot n x s) k = if k = n then x else latchSlot s k := Map.get_set ..
@[simp] theorem latchSlot_setLatchSlot_self (n : Nat) (x : LatchSlot) (s : State) : latchSlot (setLatchSlot n x s) n = x := Map.get_set_self ..
@[simp] theorem setLatchSlot_pending (n : Nat) (x : LatchSlot) (s : State) : (setLatchSlot n x s).pending = s.pending := rfl
@[simp] theorem setLatchSlot_freeCtr (n : Nat) (x : LatchSlot) (s : State) : (setLatchSlot n x s).freeCtr = s.freeCtr := rfl
@[simp] theorem setLatchSlot_sys (n : Nat) (x : LatchSlot) (s : State) : (setLatchSlot n x s).sys = s.sys := rfl
@[simp] theorem setLatchSlot_tk (n : Nat) (x : LatchSlot) (s : State) : (setLatchSlot n x s).tk = s.tk := rfl
@[simp] theorem setLatchSlot_netw (n : Nat) (x : LatchSlot) (s : State) : (setLatchSlot n x s).netw = s.netw := rfl
@[simp] theorem setLatchSlot_twin (n : Nat) (x : LatchSlot) (s : State) : (setLatchSlot n x s).twin = s.twin := rfl
@[simp] theorem setLatchSlot_core (n : Nat) (x : LatchSlot) (s : State) : (setLatchSlot n x s).core = s.core := rfl
@[simp] theorem setLatchSlot_qdma (n : Nat) (x : LatchSlot) (s : State) : (setLatchSlot n x s).qdma = s.qdma := rfl
@[simp] theorem setLatchSlot_ht (n : Nat) (x : LatchSlot) (s : State) : (setLatchSlot n x s).ht = s.ht := rfl
@[simp] theorem setLatchSlot_cmpr (n : Nat) (x : LatchSlot) (s : State) : (setLatchSlot n x s).cmpr = s.cmpr := rfl
@[simp] theorem setLatchSlot_lanes (n : Nat) (x : LatchSlot) (s : State) : (setLatchSlot n x s).lanes = s.lanes := rfl
@[simp] theorem setLatchSlot_thrm (n : Nat) (x : LatchSlot) (s : State) : (setLatchSlot n x s).thrm = s.thrm := rfl
@[simp] theorem setLatchSlot_ports (n : Nat) (x : LatchSlot) (s : State) : (setLatchSlot n x s).ports = s.ports := rfl
@[simp] theorem setLatchSlot_motn (n : Nat) (x : LatchSlot) (s : State) : (setLatchSlot n x s).motn = s.motn := rfl
@[simp] theorem setLatchSlot_strips (n : Nat) (x : LatchSlot) (s : State) : (setLatchSlot n x s).strips = s.strips := rfl
@[simp] theorem setLatchSlot_colrs (n : Nat) (x : LatchSlot) (s : State) : (setLatchSlot n x s).colrs = s.colrs := rfl
@[simp] theorem setLatchSlot_stch (n : Nat) (x : LatchSlot) (s : State) : (setLatchSlot n x s).stch = s.stch := rfl
@[simp] theorem setLatchSlot_profs (n : Nat) (x : LatchSlot) (s : State) : (setLatchSlot n x s).profs = s.profs := rfl
@[simp] theorem setLatchSlot_segm (n : Nat) (x : LatchSlot) (s : State) : (setLatchSlot n x s).segm = s.segm := rfl
@[simp] theorem setLatchSlot_recd (n : Nat) (x : LatchSlot) (s : State) : (setLatchSlot n x s).recd = s.recd := rfl
@[simp] theorem setLatchSlot_chk (n : Nat) (x : LatchSlot) (s : State) : (setLatchSlot n x s).chk = s.chk := rfl
@[simp] theorem setLatchSlot_boot (n : Nat) (x : LatchSlot) (s : State) : (setLatchSlot n x s).boot = s.boot := rfl
@[simp] theorem setLatchSlot_bkgd (n : Nat) (x : LatchSlot) (s : State) : (setLatchSlot n x s).bkgd = s.bkgd := rfl
@[simp] theorem setLatchSlot_stor (n : Nat) (x : LatchSlot) (s : State) : (setLatchSlot n x s).stor = s.stor := rfl
@[simp] theorem setLatchSlot_memc (n : Nat) (x : LatchSlot) (s : State) : (setLatchSlot n x s).memc = s.memc := rfl
@[simp] theorem setLatchSlot_twcs (n : Nat) (x : LatchSlot) (s : State) : (setLatchSlot n x s).twcs = s.twcs := rfl
@[simp] theorem setLatchSlot_mem (n : Nat) (x : LatchSlot) (s : State) : (setLatchSlot n x s).mem = s.mem := rfl
@[simp] theorem setLatchSlot_badBlocks (n : Nat) (x : LatchSlot) (s : State) : (setLatchSlot n x s).badBlocks = s.badBlocks := rfl

theorem lane_setLane (n k : Nat) (x : Lane) (s : State) : lane (setLane n x s) k = if k = n then x else lane s k := Map.get_set ..
@[simp] theorem lane_setLane_self (n : Nat) (x : Lane) (s : State) : lane (setLane n x s) n = x := Map.get_set_self ..
@[simp] theorem setLane_pending (n : Nat) (x : Lane) (s : State) : (setLane n x s).pending = s.pending := rfl
@[simp] theorem setLane_freeCtr (n : Nat) (x : Lane) (s : State) : (setLane n x s).freeCtr = s.freeCtr := rfl
@[simp] theorem setLane_sys (n : Nat) (x : Lane) (s : State) : (setLane n x s).sys = s.sys := rfl
@[simp] theorem setLane_evnt (n : Nat) (x : Lane) (s : State) : (setLane n x s).evnt = s.evnt := rfl
@[simp] theorem setLane_tk (n : Nat) (x : Lane) (s : State) : (setLane n x s).tk = s.tk := rfl
@[simp] theorem setLane_netw (n : Nat) (x : Lane) (s : State) : (setLane n x s).netw = s.netw := rfl
@[simp] theorem setLane_twin (n : Nat) (x : Lane) (s : State) : (setLane n x s).twin = s.twin := rfl
@[simp] theorem setLane_core (n : Nat) (x : Lane) (s : State) : (setLane n x s).core = s.core := rfl
@[simp] theorem setLane_qdma (n : Nat) (x : Lane) (s : State) : (setLane n x s).qdma = s.qdma := rfl
@[simp] theorem setLane_ht (n : Nat) (x : Lane) (s : State) : (setLane n x s).ht = s.ht := rfl
@[simp] theorem setLane_cmpr (n : Nat) (x : Lane) (s : State) : (setLane n x s).cmpr = s.cmpr := rfl
@[simp] theorem setLane_thrm (n : Nat) (x : Lane) (s : State) : (setLane n x s).thrm = s.thrm := rfl
@[simp] theorem setLane_ports (n : Nat) (x : Lane) (s : State) : (setLane n x s).ports = s.ports := rfl
@[simp] theorem setLane_motn (n : Nat) (x : Lane) (s : State) : (setLane n x s).motn = s.motn := rfl
@[simp] theorem setLane_strips (n : Nat) (x : Lane) (s : State) : (setLane n x s).strips = s.strips := rfl
@[simp] theorem setLane_colrs (n : Nat) (x : Lane) (s : State) : (setLane n x s).colrs = s.colrs := rfl
@[simp] theorem setLane_stch (n : Nat) (x : Lane) (s : State) : (setLane n x s).stch = s.stch := rfl
@[simp] theorem setLane_profs (n : Nat) (x : Lane) (s : State) : (setLane n x s).profs = s.profs := rfl
@[simp] theorem setLane_segm (n : Nat) (x : Lane) (s : State) : (setLane n x s).segm = s.segm := rfl
@[simp] theorem setLane_recd (n : Nat) (x : Lane) (s : State) : (setLane n x s).recd = s.recd := rfl
@[simp] theorem setLane_chk (n : Nat) (x : Lane) (s : State) : (setLane n x s).chk = s.chk := rfl
@[simp] theorem setLane_boot (n : Nat) (x : Lane) (s : State) : (setLane n x s).boot = s.boot := rfl
@[simp] theorem setLane_bkgd (n : Nat) (x : Lane) (s : State) : (setLane n x s).bkgd = s.bkgd := rfl
@[simp] theorem setLane_stor (n : Nat) (x : Lane) (s : State) : (setLane n x s).stor = s.stor := rfl
@[simp] theorem setLane_memc (n : Nat) (x : Lane) (s : State) : (setLane n x s).memc = s.memc := rfl
@[simp] theorem setLane_twcs (n : Nat) (x : Lane) (s : State) : (setLane n x s).twcs = s.twcs := rfl
@[simp] theorem setLane_mem (n : Nat) (x : Lane) (s : State) : (setLane n x s).mem = s.mem := rfl
@[simp] theorem setLane_badBlocks (n : Nat) (x : Lane) (s : State) : (setLane n x s).badBlocks = s.badBlocks := rfl

theorem memChan_setMemChan (n k : Nat) (x : MemChan) (s : State) : memChan (setMemChan n x s) k = if k = n then x else memChan s k := Map.get_set ..
@[simp] theorem memChan_setMemChan_self (n : Nat) (x : MemChan) (s : State) : memChan (setMemChan n x s) n = x := Map.get_set_self ..
@[simp] theorem setMemChan_pending (n : Nat) (x : MemChan) (s : State) : (setMemChan n x s).pending = s.pending := rfl
@[simp] theorem setMemChan_freeCtr (n : Nat) (x : MemChan) (s : State) : (setMemChan n x s).freeCtr = s.freeCtr := rfl
@[simp] theorem setMemChan_sys (n : Nat) (x : MemChan) (s : State) : (setMemChan n x s).sys = s.sys := rfl
@[simp] theorem setMemChan_evnt (n : Nat) (x : MemChan) (s : State) : (setMemChan n x s).evnt = s.evnt := rfl
@[simp] theorem setMemChan_tk (n : Nat) (x : MemChan) (s : State) : (setMemChan n x s).tk = s.tk := rfl
@[simp] theorem setMemChan_netw (n : Nat) (x : MemChan) (s : State) : (setMemChan n x s).netw = s.netw := rfl
@[simp] theorem setMemChan_twin (n : Nat) (x : MemChan) (s : State) : (setMemChan n x s).twin = s.twin := rfl
@[simp] theorem setMemChan_core (n : Nat) (x : MemChan) (s : State) : (setMemChan n x s).core = s.core := rfl
@[simp] theorem setMemChan_qdma (n : Nat) (x : MemChan) (s : State) : (setMemChan n x s).qdma = s.qdma := rfl
@[simp] theorem setMemChan_ht (n : Nat) (x : MemChan) (s : State) : (setMemChan n x s).ht = s.ht := rfl
@[simp] theorem setMemChan_cmpr (n : Nat) (x : MemChan) (s : State) : (setMemChan n x s).cmpr = s.cmpr := rfl
@[simp] theorem setMemChan_lanes (n : Nat) (x : MemChan) (s : State) : (setMemChan n x s).lanes = s.lanes := rfl
@[simp] theorem setMemChan_thrm (n : Nat) (x : MemChan) (s : State) : (setMemChan n x s).thrm = s.thrm := rfl
@[simp] theorem setMemChan_ports (n : Nat) (x : MemChan) (s : State) : (setMemChan n x s).ports = s.ports := rfl
@[simp] theorem setMemChan_motn (n : Nat) (x : MemChan) (s : State) : (setMemChan n x s).motn = s.motn := rfl
@[simp] theorem setMemChan_strips (n : Nat) (x : MemChan) (s : State) : (setMemChan n x s).strips = s.strips := rfl
@[simp] theorem setMemChan_colrs (n : Nat) (x : MemChan) (s : State) : (setMemChan n x s).colrs = s.colrs := rfl
@[simp] theorem setMemChan_stch (n : Nat) (x : MemChan) (s : State) : (setMemChan n x s).stch = s.stch := rfl
@[simp] theorem setMemChan_profs (n : Nat) (x : MemChan) (s : State) : (setMemChan n x s).profs = s.profs := rfl
@[simp] theorem setMemChan_segm (n : Nat) (x : MemChan) (s : State) : (setMemChan n x s).segm = s.segm := rfl
@[simp] theorem setMemChan_recd (n : Nat) (x : MemChan) (s : State) : (setMemChan n x s).recd = s.recd := rfl
@[simp] theorem setMemChan_chk (n : Nat) (x : MemChan) (s : State) : (setMemChan n x s).chk = s.chk := rfl
@[simp] theorem setMemChan_boot (n : Nat) (x : MemChan) (s : State) : (setMemChan n x s).boot = s.boot := rfl
@[simp] theorem setMemChan_bkgd (n : Nat) (x : MemChan) (s : State) : (setMemChan n x s).bkgd = s.bkgd := rfl
@[simp] theorem setMemChan_stor (n : Nat) (x : MemChan) (s : State) : (setMemChan n x s).stor = s.stor := rfl
@[simp] theorem setMemChan_twcs (n : Nat) (x : MemChan) (s : State) : (setMemChan n x s).twcs = s.twcs := rfl
@[simp] theorem setMemChan_mem (n : Nat) (x : MemChan) (s : State) : (setMemChan n x s).mem = s.mem := rfl
@[simp] theorem setMemChan_badBlocks (n : Nat) (x : MemChan) (s : State) : (setMemChan n x s).badBlocks = s.badBlocks := rfl

theorem rtp_setRtp (n k : Nat) (x : Rtp) (s : State) : rtp (setRtp n x s) k = if k = n then x else rtp s k := Map.get_set ..
@[simp] theorem rtp_setRtp_self (n : Nat) (x : Rtp) (s : State) : rtp (setRtp n x s) n = x := Map.get_set_self ..
@[simp] theorem setRtp_pending (n : Nat) (x : Rtp) (s : State) : (setRtp n x s).pending = s.pending := rfl
@[simp] theorem setRtp_freeCtr (n : Nat) (x : Rtp) (s : State) : (setRtp n x s).freeCtr = s.freeCtr := rfl
@[simp] theorem setRtp_sys (n : Nat) (x : Rtp) (s : State) : (setRtp n x s).sys = s.sys := rfl
@[simp] theorem setRtp_evnt (n : Nat) (x : Rtp) (s : State) : (setRtp n x s).evnt = s.evnt := rfl
@[simp] theorem setRtp_tk (n : Nat) (x : Rtp) (s : State) : (setRtp n x s).tk = s.tk := rfl
@[simp] theorem setRtp_netw (n : Nat) (x : Rtp) (s : State) : (setRtp n x s).netw = s.netw := rfl
@[simp] theorem setRtp_twin (n : Nat) (x : Rtp) (s : State) : (setRtp n x s).twin = s.twin := rfl
@[simp] theorem setRtp_core (n : Nat) (x : Rtp) (s : State) : (setRtp n x s).core = s.core := rfl
@[simp] theorem setRtp_qdma (n : Nat) (x : Rtp) (s : State) : (setRtp n x s).qdma = s.qdma := rfl
@[simp] theorem setRtp_ht (n : Nat) (x : Rtp) (s : State) : (setRtp n x s).ht = s.ht := rfl
@[simp] theorem setRtp_cmpr (n : Nat) (x : Rtp) (s : State) : (setRtp n x s).cmpr = s.cmpr := rfl
@[simp] theorem setRtp_lanes (n : Nat) (x : Rtp) (s : State) : (setRtp n x s).lanes = s.lanes := rfl
@[simp] theorem setRtp_thrm (n : Nat) (x : Rtp) (s : State) : (setRtp n x s).thrm = s.thrm := rfl
@[simp] theorem setRtp_ports (n : Nat) (x : Rtp) (s : State) : (setRtp n x s).ports = s.ports := rfl
@[simp] theorem setRtp_motn (n : Nat) (x : Rtp) (s : State) : (setRtp n x s).motn = s.motn := rfl
@[simp] theorem setRtp_strips (n : Nat) (x : Rtp) (s : State) : (setRtp n x s).strips = s.strips := rfl
@[simp] theorem setRtp_colrs (n : Nat) (x : Rtp) (s : State) : (setRtp n x s).colrs = s.colrs := rfl
@[simp] theorem setRtp_stch (n : Nat) (x : Rtp) (s : State) : (setRtp n x s).stch = s.stch := rfl
@[simp] theorem setRtp_profs (n : Nat) (x : Rtp) (s : State) : (setRtp n x s).profs = s.profs := rfl
@[simp] theorem setRtp_segm (n : Nat) (x : Rtp) (s : State) : (setRtp n x s).segm = s.segm := rfl
@[simp] theorem setRtp_recd (n : Nat) (x : Rtp) (s : State) : (setRtp n x s).recd = s.recd := rfl
@[simp] theorem setRtp_chk (n : Nat) (x : Rtp) (s : State) : (setRtp n x s).chk = s.chk := rfl
@[simp] theorem setRtp_boot (n : Nat) (x : Rtp) (s : State) : (setRtp n x s).boot = s.boot := rfl
@[simp] theorem setRtp_bkgd (n : Nat) (x : Rtp) (s : State) : (setRtp n x s).bkgd = s.bkgd := rfl
@[simp] theorem setRtp_stor (n : Nat) (x : Rtp) (s : State) : (setRtp n x s).stor = s.stor := rfl
@[simp] theorem setRtp_twcs (n : Nat) (x : Rtp) (s : State) : (setRtp n x s).twcs = s.twcs := rfl
@[simp] theorem setRtp_mem (n : Nat) (x : Rtp) (s : State) : (setRtp n x s).mem = s.mem := rfl
@[simp] theorem setRtp_badBlocks (n : Nat) (x : Rtp) (s : State) : (setRtp n x s).badBlocks = s.badBlocks := rfl

theorem axis_setAxis (n k : Nat) (x : Axis) (s : State) : axis (setAxis n x s) k = if k = n then x else axis s k := Map.get_set ..
@[simp] theorem axis_setAxis_self (n : Nat) (x : Axis) (s : State) : axis (setAxis n x s) n = x := Map.get_set_self ..
@[simp] theorem setAxis_pending (n : Nat) (x : Axis) (s : State) : (setAxis n x s).pending = s.pending := rfl
@[simp] theorem setAxis_freeCtr (n : Nat) (x : Axis) (s : State) : (setAxis n x s).freeCtr = s.freeCtr := rfl
@[simp] theorem setAxis_sys (n : Nat) (x : Axis) (s : State) : (setAxis n x s).sys = s.sys := rfl
@[simp] theorem setAxis_evnt (n : Nat) (x : Axis) (s : State) : (setAxis n x s).evnt = s.evnt := rfl
@[simp] theorem setAxis_tk (n : Nat) (x : Axis) (s : State) : (setAxis n x s).tk = s.tk := rfl
@[simp] theorem setAxis_netw (n : Nat) (x : Axis) (s : State) : (setAxis n x s).netw = s.netw := rfl
@[simp] theorem setAxis_twin (n : Nat) (x : Axis) (s : State) : (setAxis n x s).twin = s.twin := rfl
@[simp] theorem setAxis_core (n : Nat) (x : Axis) (s : State) : (setAxis n x s).core = s.core := rfl
@[simp] theorem setAxis_qdma (n : Nat) (x : Axis) (s : State) : (setAxis n x s).qdma = s.qdma := rfl
@[simp] theorem setAxis_ht (n : Nat) (x : Axis) (s : State) : (setAxis n x s).ht = s.ht := rfl
@[simp] theorem setAxis_cmpr (n : Nat) (x : Axis) (s : State) : (setAxis n x s).cmpr = s.cmpr := rfl
@[simp] theorem setAxis_lanes (n : Nat) (x : Axis) (s : State) : (setAxis n x s).lanes = s.lanes := rfl
@[simp] theorem setAxis_thrm (n : Nat) (x : Axis) (s : State) : (setAxis n x s).thrm = s.thrm := rfl
@[simp] theorem setAxis_ports (n : Nat) (x : Axis) (s : State) : (setAxis n x s).ports = s.ports := rfl
@[simp] theorem setAxis_strips (n : Nat) (x : Axis) (s : State) : (setAxis n x s).strips = s.strips := rfl
@[simp] theorem setAxis_colrs (n : Nat) (x : Axis) (s : State) : (setAxis n x s).colrs = s.colrs := rfl
@[simp] theorem setAxis_stch (n : Nat) (x : Axis) (s : State) : (setAxis n x s).stch = s.stch := rfl
@[simp] theorem setAxis_profs (n : Nat) (x : Axis) (s : State) : (setAxis n x s).profs = s.profs := rfl
@[simp] theorem setAxis_segm (n : Nat) (x : Axis) (s : State) : (setAxis n x s).segm = s.segm := rfl
@[simp] theorem setAxis_recd (n : Nat) (x : Axis) (s : State) : (setAxis n x s).recd = s.recd := rfl
@[simp] theorem setAxis_chk (n : Nat) (x : Axis) (s : State) : (setAxis n x s).chk = s.chk := rfl
@[simp] theorem setAxis_boot (n : Nat) (x : Axis) (s : State) : (setAxis n x s).boot = s.boot := rfl
@[simp] theorem setAxis_bkgd (n : Nat) (x : Axis) (s : State) : (setAxis n x s).bkgd = s.bkgd := rfl
@[simp] theorem setAxis_stor (n : Nat) (x : Axis) (s : State) : (setAxis n x s).stor = s.stor := rfl
@[simp] theorem setAxis_memc (n : Nat) (x : Axis) (s : State) : (setAxis n x s).memc = s.memc := rfl
@[simp] theorem setAxis_twcs (n : Nat) (x : Axis) (s : State) : (setAxis n x s).twcs = s.twcs := rfl
@[simp] theorem setAxis_mem (n : Nat) (x : Axis) (s : State) : (setAxis n x s).mem = s.mem := rfl
@[simp] theorem setAxis_badBlocks (n : Nat) (x : Axis) (s : State) : (setAxis n x s).badBlocks = s.badBlocks := rfl

theorem ltg_setLtg (n k : Nat) (x : Ltg) (s : State) : ltg (setLtg n x s) k = if k = n then x else ltg s k := Map.get_set ..
@[simp] theorem ltg_setLtg_self (n : Nat) (x : Ltg) (s : State) : ltg (setLtg n x s) n = x := Map.get_set_self ..
@[simp] theorem setLtg_pending (n : Nat) (x : Ltg) (s : State) : (setLtg n x s).pending = s.pending := rfl
@[simp] theorem setLtg_freeCtr (n : Nat) (x : Ltg) (s : State) : (setLtg n x s).freeCtr = s.freeCtr := rfl
@[simp] theorem setLtg_sys (n : Nat) (x : Ltg) (s : State) : (setLtg n x s).sys = s.sys := rfl
@[simp] theorem setLtg_evnt (n : Nat) (x : Ltg) (s : State) : (setLtg n x s).evnt = s.evnt := rfl
@[simp] theorem setLtg_tk (n : Nat) (x : Ltg) (s : State) : (setLtg n x s).tk = s.tk := rfl
@[simp] theorem setLtg_netw (n : Nat) (x : Ltg) (s : State) : (setLtg n x s).netw = s.netw := rfl
@[simp] theorem setLtg_twin (n : Nat) (x : Ltg) (s : State) : (setLtg n x s).twin = s.twin := rfl
@[simp] theorem setLtg_core (n : Nat) (x : Ltg) (s : State) : (setLtg n x s).core = s.core := rfl
@[simp] theorem setLtg_qdma (n : Nat) (x : Ltg) (s : State) : (setLtg n x s).qdma = s.qdma := rfl
@[simp] theorem setLtg_ht (n : Nat) (x : Ltg) (s : State) : (setLtg n x s).ht = s.ht := rfl
@[simp] theorem setLtg_cmpr (n : Nat) (x : Ltg) (s : State) : (setLtg n x s).cmpr = s.cmpr := rfl
@[simp] theorem setLtg_lanes (n : Nat) (x : Ltg) (s : State) : (setLtg n x s).lanes = s.lanes := rfl
@[simp] theorem setLtg_thrm (n : Nat) (x : Ltg) (s : State) : (setLtg n x s).thrm = s.thrm := rfl
@[simp] theorem setLtg_ports (n : Nat) (x : Ltg) (s : State) : (setLtg n x s).ports = s.ports := rfl
@[simp] theorem setLtg_strips (n : Nat) (x : Ltg) (s : State) : (setLtg n x s).strips = s.strips := rfl
@[simp] theorem setLtg_colrs (n : Nat) (x : Ltg) (s : State) : (setLtg n x s).colrs = s.colrs := rfl
@[simp] theorem setLtg_stch (n : Nat) (x : Ltg) (s : State) : (setLtg n x s).stch = s.stch := rfl
@[simp] theorem setLtg_profs (n : Nat) (x : Ltg) (s : State) : (setLtg n x s).profs = s.profs := rfl
@[simp] theorem setLtg_segm (n : Nat) (x : Ltg) (s : State) : (setLtg n x s).segm = s.segm := rfl
@[simp] theorem setLtg_recd (n : Nat) (x : Ltg) (s : State) : (setLtg n x s).recd = s.recd := rfl
@[simp] theorem setLtg_chk (n : Nat) (x : Ltg) (s : State) : (setLtg n x s).chk = s.chk := rfl
@[simp] theorem setLtg_boot (n : Nat) (x : Ltg) (s : State) : (setLtg n x s).boot = s.boot := rfl
@[simp] theorem setLtg_bkgd (n : Nat) (x : Ltg) (s : State) : (setLtg n x s).bkgd = s.bkgd := rfl
@[simp] theorem setLtg_stor (n : Nat) (x : Ltg) (s : State) : (setLtg n x s).stor = s.stor := rfl
@[simp] theorem setLtg_memc (n : Nat) (x : Ltg) (s : State) : (setLtg n x s).memc = s.memc := rfl
@[simp] theorem setLtg_twcs (n : Nat) (x : Ltg) (s : State) : (setLtg n x s).twcs = s.twcs := rfl
@[simp] theorem setLtg_mem (n : Nat) (x : Ltg) (s : State) : (setLtg n x s).mem = s.mem := rfl
@[simp] theorem setLtg_badBlocks (n : Nat) (x : Ltg) (s : State) : (setLtg n x s).badBlocks = s.badBlocks := rfl

theorem pc_setPc (n k : Nat) (x : Pc) (s : State) : pc (setPc n x s) k = if k = n then x else pc s k := Map.get_set ..
@[simp] theorem pc_setPc_self (n : Nat) (x : Pc) (s : State) : pc (setPc n x s) n = x := Map.get_set_self ..
@[simp] theorem setPc_pending (n : Nat) (x : Pc) (s : State) : (setPc n x s).pending = s.pending := rfl
@[simp] theorem setPc_freeCtr (n : Nat) (x : Pc) (s : State) : (setPc n x s).freeCtr = s.freeCtr := rfl
@[simp] theorem setPc_sys (n : Nat) (x : Pc) (s : State) : (setPc n x s).sys = s.sys := rfl
@[simp] theorem setPc_evnt (n : Nat) (x : Pc) (s : State) : (setPc n x s).evnt = s.evnt := rfl
@[simp] theorem setPc_tk (n : Nat) (x : Pc) (s : State) : (setPc n x s).tk = s.tk := rfl
@[simp] theorem setPc_netw (n : Nat) (x : Pc) (s : State) : (setPc n x s).netw = s.netw := rfl
@[simp] theorem setPc_twin (n : Nat) (x : Pc) (s : State) : (setPc n x s).twin = s.twin := rfl
@[simp] theorem setPc_core (n : Nat) (x : Pc) (s : State) : (setPc n x s).core = s.core := rfl
@[simp] theorem setPc_qdma (n : Nat) (x : Pc) (s : State) : (setPc n x s).qdma = s.qdma := rfl
@[simp] theorem setPc_ht (n : Nat) (x : Pc) (s : State) : (setPc n x s).ht = s.ht := rfl
@[simp] theorem setPc_cmpr (n : Nat) (x : Pc) (s : State) : (setPc n x s).cmpr = s.cmpr := rfl
@[simp] theorem setPc_lanes (n : Nat) (x : Pc) (s : State) : (setPc n x s).lanes = s.lanes := rfl
@[simp] theorem setPc_thrm (n : Nat) (x : Pc) (s : State) : (setPc n x s).thrm = s.thrm := rfl
@[simp] theorem setPc_ports (n : Nat) (x : Pc) (s : State) : (setPc n x s).ports = s.ports := rfl
@[simp] theorem setPc_strips (n : Nat) (x : Pc) (s : State) : (setPc n x s).strips = s.strips := rfl
@[simp] theorem setPc_colrs (n : Nat) (x : Pc) (s : State) : (setPc n x s).colrs = s.colrs := rfl
@[simp] theorem setPc_stch (n : Nat) (x : Pc) (s : State) : (setPc n x s).stch = s.stch := rfl
@[simp] theorem setPc_profs (n : Nat) (x : Pc) (s : State) : (setPc n x s).profs = s.profs := rfl
@[simp] theorem setPc_segm (n : Nat) (x : Pc) (s : State) : (setPc n x s).segm = s.segm := rfl
@[simp] theorem setPc_recd (n : Nat) (x : Pc) (s : State) : (setPc n x s).recd = s.recd := rfl
@[simp] theorem setPc_chk (n : Nat) (x : Pc) (s : State) : (setPc n x s).chk = s.chk := rfl
@[simp] theorem setPc_boot (n : Nat) (x : Pc) (s : State) : (setPc n x s).boot = s.boot := rfl
@[simp] theorem setPc_bkgd (n : Nat) (x : Pc) (s : State) : (setPc n x s).bkgd = s.bkgd := rfl
@[simp] theorem setPc_stor (n : Nat) (x : Pc) (s : State) : (setPc n x s).stor = s.stor := rfl
@[simp] theorem setPc_memc (n : Nat) (x : Pc) (s : State) : (setPc n x s).memc = s.memc := rfl
@[simp] theorem setPc_twcs (n : Nat) (x : Pc) (s : State) : (setPc n x s).twcs = s.twcs := rfl
@[simp] theorem setPc_mem (n : Nat) (x : Pc) (s : State) : (setPc n x s).mem = s.mem := rfl
@[simp] theorem setPc_badBlocks (n : Nat) (x : Pc) (s : State) : (setPc n x s).badBlocks = s.badBlocks := rfl

theorem flow_setFlow (n k : Nat) (x : Flow) (s : State) : flow (setFlow n x s) k = if k = n then x else flow s k := Map.get_set ..
@[simp] theorem flow_setFlow_self (n : Nat) (x : Flow) (s : State) : flow (setFlow n x s) n = x := Map.get_set_self ..
@[simp] theorem setFlow_pending (n : Nat) (x : Flow) (s : State) : (setFlow n x s).pending = s.pending := rfl
@[simp] theorem setFlow_freeCtr (n : Nat) (x : Flow) (s : State) : (setFlow n x s).freeCtr = s.freeCtr := rfl
@[simp] theorem setFlow_sys (n : Nat) (x : Flow) (s : State) : (setFlow n x s).sys = s.sys := rfl
@[simp] theorem setFlow_evnt (n : Nat) (x : Flow) (s : State) : (setFlow n x s).evnt = s.evnt := rfl
@[simp] theorem setFlow_tk (n : Nat) (x : Flow) (s : State) : (setFlow n x s).tk = s.tk := rfl
@[simp] theorem setFlow_twin (n : Nat) (x : Flow) (s : State) : (setFlow n x s).twin = s.twin := rfl
@[simp] theorem setFlow_core (n : Nat) (x : Flow) (s : State) : (setFlow n x s).core = s.core := rfl
@[simp] theorem setFlow_qdma (n : Nat) (x : Flow) (s : State) : (setFlow n x s).qdma = s.qdma := rfl
@[simp] theorem setFlow_ht (n : Nat) (x : Flow) (s : State) : (setFlow n x s).ht = s.ht := rfl
@[simp] theorem setFlow_cmpr (n : Nat) (x : Flow) (s : State) : (setFlow n x s).cmpr = s.cmpr := rfl
@[simp] theorem setFlow_lanes (n : Nat) (x : Flow) (s : State) : (setFlow n x s).lanes = s.lanes := rfl
@[simp] theorem setFlow_thrm (n : Nat) (x : Flow) (s : State) : (setFlow n x s).thrm = s.thrm := rfl
@[simp] theorem setFlow_ports (n : Nat) (x : Flow) (s : State) : (setFlow n x s).ports = s.ports := rfl
@[simp] theorem setFlow_motn (n : Nat) (x : Flow) (s : State) : (setFlow n x s).motn = s.motn := rfl
@[simp] theorem setFlow_strips (n : Nat) (x : Flow) (s : State) : (setFlow n x s).strips = s.strips := rfl
@[simp] theorem setFlow_colrs (n : Nat) (x : Flow) (s : State) : (setFlow n x s).colrs = s.colrs := rfl
@[simp] theorem setFlow_stch (n : Nat) (x : Flow) (s : State) : (setFlow n x s).stch = s.stch := rfl
@[simp] theorem setFlow_profs (n : Nat) (x : Flow) (s : State) : (setFlow n x s).profs = s.profs := rfl
@[simp] theorem setFlow_segm (n : Nat) (x : Flow) (s : State) : (setFlow n x s).segm = s.segm := rfl
@[simp] theorem setFlow_recd (n : Nat) (x : Flow) (s : State) : (setFlow n x s).recd = s.recd := rfl
@[simp] theorem setFlow_chk (n : Nat) (x : Flow) (s : State) : (setFlow n x s).chk = s.chk := rfl
@[simp] theorem setFlow_boot (n : Nat) (x : Flow) (s : State) : (setFlow n x s).boot = s.boot := rfl
@[simp] theorem setFlow_bkgd (n : Nat) (x : Flow) (s : State) : (setFlow n x s).bkgd = s.bkgd := rfl
@[simp] theorem setFlow_stor (n : Nat) (x : Flow) (s : State) : (setFlow n x s).stor = s.stor := rfl
@[simp] theorem setFlow_memc (n : Nat) (x : Flow) (s : State) : (setFlow n x s).memc = s.memc := rfl
@[simp] theorem setFlow_twcs (n : Nat) (x : Flow) (s : State) : (setFlow n x s).twcs = s.twcs := rfl
@[simp] theorem setFlow_mem (n : Nat) (x : Flow) (s : State) : (setFlow n x s).mem = s.mem := rfl
@[simp] theorem setFlow_badBlocks (n : Nat) (x : Flow) (s : State) : (setFlow n x s).badBlocks = s.badBlocks := rfl

theorem netPort_setNetPort (n k : Nat) (x : NetPort) (s : State) : netPort (setNetPort n x s) k = if k = n then x else netPort s k := Map.get_set ..
@[simp] theorem netPort_setNetPort_self (n : Nat) (x : NetPort) (s : State) : netPort (setNetPort n x s) n = x := Map.get_set_self ..
@[simp] theorem setNetPort_pending (n : Nat) (x : NetPort) (s : State) : (setNetPort n x s).pending = s.pending := rfl
@[simp] theorem setNetPort_freeCtr (n : Nat) (x : NetPort) (s : State) : (setNetPort n x s).freeCtr = s.freeCtr := rfl
@[simp] theorem setNetPort_sys (n : Nat) (x : NetPort) (s : State) : (setNetPort n x s).sys = s.sys := rfl
@[simp] theorem setNetPort_evnt (n : Nat) (x : NetPort) (s : State) : (setNetPort n x s).evnt = s.evnt := rfl
@[simp] theorem setNetPort_tk (n : Nat) (x : NetPort) (s : State) : (setNetPort n x s).tk = s.tk := rfl
@[simp] theorem setNetPort_twin (n : Nat) (x : NetPort) (s : State) : (setNetPort n x s).twin = s.twin := rfl
@[simp] theorem setNetPort_core (n : Nat) (x : NetPort) (s : State) : (setNetPort n x s).core = s.core := rfl
@[simp] theorem setNetPort_qdma (n : Nat) (x : NetPort) (s : State) : (setNetPort n x s).qdma = s.qdma := rfl
@[simp] theorem setNetPort_ht (n : Nat) (x : NetPort) (s : State) : (setNetPort n x s).ht = s.ht := rfl
@[simp] theorem setNetPort_cmpr (n : Nat) (x : NetPort) (s : State) : (setNetPort n x s).cmpr = s.cmpr := rfl
@[simp] theorem setNetPort_lanes (n : Nat) (x : NetPort) (s : State) : (setNetPort n x s).lanes = s.lanes := rfl
@[simp] theorem setNetPort_thrm (n : Nat) (x : NetPort) (s : State) : (setNetPort n x s).thrm = s.thrm := rfl
@[simp] theorem setNetPort_ports (n : Nat) (x : NetPort) (s : State) : (setNetPort n x s).ports = s.ports := rfl
@[simp] theorem setNetPort_motn (n : Nat) (x : NetPort) (s : State) : (setNetPort n x s).motn = s.motn := rfl
@[simp] theorem setNetPort_strips (n : Nat) (x : NetPort) (s : State) : (setNetPort n x s).strips = s.strips := rfl
@[simp] theorem setNetPort_colrs (n : Nat) (x : NetPort) (s : State) : (setNetPort n x s).colrs = s.colrs := rfl
@[simp] theorem setNetPort_stch (n : Nat) (x : NetPort) (s : State) : (setNetPort n x s).stch = s.stch := rfl
@[simp] theorem setNetPort_profs (n : Nat) (x : NetPort) (s : State) : (setNetPort n x s).profs = s.profs := rfl
@[simp] theorem setNetPort_segm (n : Nat) (x : NetPort) (s : State) : (setNetPort n x s).segm = s.segm := rfl
@[simp] theorem setNetPort_recd (n : Nat) (x : NetPort) (s : State) : (setNetPort n x s).recd = s.recd := rfl
@[simp] theorem setNetPort_chk (n : Nat) (x : NetPort) (s : State) : (setNetPort n x s).chk = s.chk := rfl
@[simp] theorem setNetPort_boot (n : Nat) (x : NetPort) (s : State) : (setNetPort n x s).boot = s.boot := rfl
@[simp] theorem setNetPort_bkgd (n : Nat) (x : NetPort) (s : State) : (setNetPort n x s).bkgd = s.bkgd := rfl
@[simp] theorem setNetPort_stor (n : Nat) (x : NetPort) (s : State) : (setNetPort n x s).stor = s.stor := rfl
@[simp] theorem setNetPort_memc (n : Nat) (x : NetPort) (s : State) : (setNetPort n x s).memc = s.memc := rfl
@[simp] theorem setNetPort_twcs (n : Nat) (x : NetPort) (s : State) : (setNetPort n x s).twcs = s.twcs := rfl
@[simp] theorem setNetPort_mem (n : Nat) (x : NetPort) (s : State) : (setNetPort n x s).mem = s.mem := rfl
@[simp] theorem setNetPort_badBlocks (n : Nat) (x : NetPort) (s : State) : (setNetPort n x s).badBlocks = s.badBlocks := rfl

theorem port_setPort (n k : Nat) (x : Port) (s : State) : port (setPort n x s) k = if k = n then x else port s k := Map.get_set ..
@[simp] theorem port_setPort_self (n : Nat) (x : Port) (s : State) : port (setPort n x s) n = x := Map.get_set_self ..
@[simp] theorem setPort_pending (n : Nat) (x : Port) (s : State) : (setPort n x s).pending = s.pending := rfl
@[simp] theorem setPort_freeCtr (n : Nat) (x : Port) (s : State) : (setPort n x s).freeCtr = s.freeCtr := rfl
@[simp] theorem setPort_sys (n : Nat) (x : Port) (s : State) : (setPort n x s).sys = s.sys := rfl
@[simp] theorem setPort_evnt (n : Nat) (x : Port) (s : State) : (setPort n x s).evnt = s.evnt := rfl
@[simp] theorem setPort_tk (n : Nat) (x : Port) (s : State) : (setPort n x s).tk = s.tk := rfl
@[simp] theorem setPort_netw (n : Nat) (x : Port) (s : State) : (setPort n x s).netw = s.netw := rfl
@[simp] theorem setPort_twin (n : Nat) (x : Port) (s : State) : (setPort n x s).twin = s.twin := rfl
@[simp] theorem setPort_core (n : Nat) (x : Port) (s : State) : (setPort n x s).core = s.core := rfl
@[simp] theorem setPort_qdma (n : Nat) (x : Port) (s : State) : (setPort n x s).qdma = s.qdma := rfl
@[simp] theorem setPort_ht (n : Nat) (x : Port) (s : State) : (setPort n x s).ht = s.ht := rfl
@[simp] theorem setPort_cmpr (n : Nat) (x : Port) (s : State) : (setPort n x s).cmpr = s.cmpr := rfl
@[simp] theorem setPort_lanes (n : Nat) (x : Port) (s : State) : (setPort n x s).lanes = s.lanes := rfl
@[simp] theorem setPort_thrm (n : Nat) (x : Port) (s : State) : (setPort n x s).thrm = s.thrm := rfl
@[simp] theorem setPort_motn (n : Nat) (x : Port) (s : State) : (setPort n x s).motn = s.motn := rfl
@[simp] theorem setPort_strips (n : Nat) (x : Port) (s : State) : (setPort n x s).strips = s.strips := rfl
@[simp] theorem setPort_colrs (n : Nat) (x : Port) (s : State) : (setPort n x s).colrs = s.colrs := rfl
@[simp] theorem setPort_stch (n : Nat) (x : Port) (s : State) : (setPort n x s).stch = s.stch := rfl
@[simp] theorem setPort_profs (n : Nat) (x : Port) (s : State) : (setPort n x s).profs = s.profs := rfl
@[simp] theorem setPort_segm (n : Nat) (x : Port) (s : State) : (setPort n x s).segm = s.segm := rfl
@[simp] theorem setPort_recd (n : Nat) (x : Port) (s : State) : (setPort n x s).recd = s.recd := rfl
@[simp] theorem setPort_chk (n : Nat) (x : Port) (s : State) : (setPort n x s).chk = s.chk := rfl
@[simp] theorem setPort_boot (n : Nat) (x : Port) (s : State) : (setPort n x s).boot = s.boot := rfl
@[simp] theorem setPort_bkgd (n : Nat) (x : Port) (s : State) : (setPort n x s).bkgd = s.bkgd := rfl
@[simp] theorem setPort_stor (n : Nat) (x : Port) (s : State) : (setPort n x s).stor = s.stor := rfl
@[simp] theorem setPort_memc (n : Nat) (x : Port) (s : State) : (setPort n x s).memc = s.memc := rfl
@[simp] theorem setPort_twcs (n : Nat) (x : Port) (s : State) : (setPort n x s).twcs = s.twcs := rfl
@[simp] theorem setPort_mem (n : Nat) (x : Port) (s : State) : (setPort n x s).mem = s.mem := rfl
@[simp] theorem setPort_badBlocks (n : Nat) (x : Port) (s : State) : (setPort n x s).badBlocks = s.badBlocks := rfl

theorem prof_setProf (n k : Nat) (x : Prof) (s : State) : prof (setProf n x s) k = if k = n then x else prof s k := Map.get_set ..
@[simp] theorem prof_setProf_self (n : Nat) (x : Prof) (s : State) : prof (setProf n x s) n = x := Map.get_set_self ..
@[simp] theorem setProf_pending (n : Nat) (x : Prof) (s : State) : (setProf n x s).pending = s.pending := rfl
@[simp] theorem setProf_freeCtr (n : Nat) (x : Prof) (s : State) : (setProf n x s).freeCtr = s.freeCtr := rfl
@[simp] theorem setProf_sys (n : Nat) (x : Prof) (s : State) : (setProf n x s).sys = s.sys := rfl
@[simp] theorem setProf_evnt (n : Nat) (x : Prof) (s : State) : (setProf n x s).evnt = s.evnt := rfl
@[simp] theorem setProf_tk (n : Nat) (x : Prof) (s : State) : (setProf n x s).tk = s.tk := rfl
@[simp] theorem setProf_netw (n : Nat) (x : Prof) (s : State) : (setProf n x s).netw = s.netw := rfl
@[simp] theorem setProf_twin (n : Nat) (x : Prof) (s : State) : (setProf n x s).twin = s.twin := rfl
@[simp] theorem setProf_core (n : Nat) (x : Prof) (s : State) : (setProf n x s).core = s.core := rfl
@[simp] theorem setProf_qdma (n : Nat) (x : Prof) (s : State) : (setProf n x s).qdma = s.qdma := rfl
@[simp] theorem setProf_ht (n : Nat) (x : Prof) (s : State) : (setProf n x s).ht = s.ht := rfl
@[simp] theorem setProf_cmpr (n : Nat) (x : Prof) (s : State) : (setProf n x s).cmpr = s.cmpr := rfl
@[simp] theorem setProf_lanes (n : Nat) (x : Prof) (s : State) : (setProf n x s).lanes = s.lanes := rfl
@[simp] theorem setProf_thrm (n : Nat) (x : Prof) (s : State) : (setProf n x s).thrm = s.thrm := rfl
@[simp] theorem setProf_ports (n : Nat) (x : Prof) (s : State) : (setProf n x s).ports = s.ports := rfl
@[simp] theorem setProf_motn (n : Nat) (x : Prof) (s : State) : (setProf n x s).motn = s.motn := rfl
@[simp] theorem setProf_strips (n : Nat) (x : Prof) (s : State) : (setProf n x s).strips = s.strips := rfl
@[simp] theorem setProf_colrs (n : Nat) (x : Prof) (s : State) : (setProf n x s).colrs = s.colrs := rfl
@[simp] theorem setProf_stch (n : Nat) (x : Prof) (s : State) : (setProf n x s).stch = s.stch := rfl
@[simp] theorem setProf_segm (n : Nat) (x : Prof) (s : State) : (setProf n x s).segm = s.segm := rfl
@[simp] theorem setProf_recd (n : Nat) (x : Prof) (s : State) : (setProf n x s).recd = s.recd := rfl
@[simp] theorem setProf_chk (n : Nat) (x : Prof) (s : State) : (setProf n x s).chk = s.chk := rfl
@[simp] theorem setProf_boot (n : Nat) (x : Prof) (s : State) : (setProf n x s).boot = s.boot := rfl
@[simp] theorem setProf_bkgd (n : Nat) (x : Prof) (s : State) : (setProf n x s).bkgd = s.bkgd := rfl
@[simp] theorem setProf_stor (n : Nat) (x : Prof) (s : State) : (setProf n x s).stor = s.stor := rfl
@[simp] theorem setProf_memc (n : Nat) (x : Prof) (s : State) : (setProf n x s).memc = s.memc := rfl
@[simp] theorem setProf_twcs (n : Nat) (x : Prof) (s : State) : (setProf n x s).twcs = s.twcs := rfl
@[simp] theorem setProf_mem (n : Nat) (x : Prof) (s : State) : (setProf n x s).mem = s.mem := rfl
@[simp] theorem setProf_badBlocks (n : Nat) (x : Prof) (s : State) : (setProf n x s).badBlocks = s.badBlocks := rfl

theorem chan_setChan (n k : Nat) (x : Chan) (s : State) : chan (setChan n x s) k = if k = n then x else chan s k := Map.get_set ..
@[simp] theorem chan_setChan_self (n : Nat) (x : Chan) (s : State) : chan (setChan n x s) n = x := Map.get_set_self ..
@[simp] theorem setChan_pending (n : Nat) (x : Chan) (s : State) : (setChan n x s).pending = s.pending := rfl
@[simp] theorem setChan_freeCtr (n : Nat) (x : Chan) (s : State) : (setChan n x s).freeCtr = s.freeCtr := rfl
@[simp] theorem setChan_sys (n : Nat) (x : Chan) (s : State) : (setChan n x s).sys = s.sys := rfl
@[simp] theorem setChan_evnt (n : Nat) (x : Chan) (s : State) : (setChan n x s).evnt = s.evnt := rfl
@[simp] theorem setChan_tk (n : Nat) (x : Chan) (s : State) : (setChan n x s).tk = s.tk := rfl
@[simp] theorem setChan_netw (n : Nat) (x : Chan) (s : State) : (setChan n x s).netw = s.netw := rfl
@[simp] theorem setChan_twin (n : Nat) (x : Chan) (s : State) : (setChan n x s).twin = s.twin := rfl
@[simp] theorem setChan_core (n : Nat) (x : Chan) (s : State) : (setChan n x s).core = s.core := rfl
@[simp] theorem setChan_ht (n : Nat) (x : Chan) (s : State) : (setChan n x s).ht = s.ht := rfl
@[simp] theorem setChan_cmpr (n : Nat) (x : Chan) (s : State) : (setChan n x s).cmpr = s.cmpr := rfl
@[simp] theorem setChan_lanes (n : Nat) (x : Chan) (s : State) : (setChan n x s).lanes = s.lanes := rfl
@[simp] theorem setChan_thrm (n : Nat) (x : Chan) (s : State) : (setChan n x s).thrm = s.thrm := rfl
@[simp] theorem setChan_ports (n : Nat) (x : Chan) (s : State) : (setChan n x s).ports = s.ports := rfl
@[simp] theorem setChan_motn (n : Nat) (x : Chan) (s : State) : (setChan n x s).motn = s.motn := rfl
@[simp] theorem setChan_strips (n : Nat) (x : Chan) (s : State) : (setChan n x s).strips = s.strips := rfl
@[simp] theorem setChan_colrs (n : Nat) (x : Chan) (s : State) : (setChan n x s).colrs = s.colrs := rfl
@[simp] theorem setChan_stch (n : Nat) (x : Chan) (s : State) : (setChan n x s).stch = s.stch := rfl
@[simp] theorem setChan_profs (n : Nat) (x : Chan) (s : State) : (setChan n x s).profs = s.profs := rfl
@[simp] theorem setChan_segm (n : Nat) (x : Chan) (s : State) : (setChan n x s).segm = s.segm := rfl
@[simp] theorem setChan_recd (n : Nat) (x : Chan) (s : State) : (setChan n x s).recd = s.recd := rfl
@[simp] theorem setChan_chk (n : Nat) (x : Chan) (s : State) : (setChan n x s).chk = s.chk := rfl
@[simp] theorem setChan_boot (n : Nat) (x : Chan) (s : State) : (setChan n x s).boot = s.boot := rfl
@[simp] theorem setChan_bkgd (n : Nat) (x : Chan) (s : State) : (setChan n x s).bkgd = s.bkgd := rfl
@[simp] theorem setChan_stor (n : Nat) (x : Chan) (s : State) : (setChan n x s).stor = s.stor := rfl
@[simp] theorem setChan_memc (n : Nat) (x : Chan) (s : State) : (setChan n x s).memc = s.memc := rfl
@[simp] theorem setChan_twcs (n : Nat) (x : Chan) (s : State) : (setChan n x s).twcs = s.twcs := rfl
@[simp] theorem setChan_mem (n : Nat) (x : Chan) (s : State) : (setChan n x s).mem = s.mem := rfl
@[simp] theorem setChan_badBlocks (n : Nat) (x : Chan) (s : State) : (setChan n x s).badBlocks = s.badBlocks := rfl

theorem stchIn_setStchIn (n k : Nat) (x : StchIn) (s : State) : stchIn (setStchIn n x s) k = if k = n then x else stchIn s k := Map.get_set ..
@[simp] theorem stchIn_setStchIn_self (n : Nat) (x : StchIn) (s : State) : stchIn (setStchIn n x s) n = x := Map.get_set_self ..
@[simp] theorem setStchIn_pending (n : Nat) (x : StchIn) (s : State) : (setStchIn n x s).pending = s.pending := rfl
@[simp] theorem setStchIn_freeCtr (n : Nat) (x : StchIn) (s : State) : (setStchIn n x s).freeCtr = s.freeCtr := rfl
@[simp] theorem setStchIn_sys (n : Nat) (x : StchIn) (s : State) : (setStchIn n x s).sys = s.sys := rfl
@[simp] theorem setStchIn_evnt (n : Nat) (x : StchIn) (s : State) : (setStchIn n x s).evnt = s.evnt := rfl
@[simp] theorem setStchIn_tk (n : Nat) (x : StchIn) (s : State) : (setStchIn n x s).tk = s.tk := rfl
@[simp] theorem setStchIn_netw (n : Nat) (x : StchIn) (s : State) : (setStchIn n x s).netw = s.netw := rfl
@[simp] theorem setStchIn_twin (n : Nat) (x : StchIn) (s : State) : (setStchIn n x s).twin = s.twin := rfl
@[simp] theorem setStchIn_core (n : Nat) (x : StchIn) (s : State) : (setStchIn n x s).core = s.core := rfl
@[simp] theorem setStchIn_qdma (n : Nat) (x : StchIn) (s : State) : (setStchIn n x s).qdma = s.qdma := rfl
@[simp] theorem setStchIn_ht (n : Nat) (x : StchIn) (s : State) : (setStchIn n x s).ht = s.ht := rfl
@[simp] theorem setStchIn_cmpr (n : Nat) (x : StchIn) (s : State) : (setStchIn n x s).cmpr = s.cmpr := rfl
@[simp] theorem setStchIn_lanes (n : Nat) (x : StchIn) (s : State) : (setStchIn n x s).lanes = s.lanes := rfl
@[simp] theorem setStchIn_thrm (n : Nat) (x : StchIn) (s : State) : (setStchIn n x s).thrm = s.thrm := rfl
@[simp] theorem setStchIn_ports (n : Nat) (x : StchIn) (s : State) : (setStchIn n x s).ports = s.ports := rfl
@[simp] theorem setStchIn_motn (n : Nat) (x : StchIn) (s : State) : (setStchIn n x s).motn = s.motn := rfl
@[simp] theorem setStchIn_strips (n : Nat) (x : StchIn) (s : State) : (setStchIn n x s).strips = s.strips := rfl
@[simp] theorem setStchIn_colrs (n : Nat) (x : StchIn) (s : State) : (setStchIn n x s).colrs = s.colrs := rfl
@[simp] theorem setStchIn_profs (n : Nat) (x : StchIn) (s : State) : (setStchIn n x s).profs = s.profs := rfl
@[simp] theorem setStchIn_segm (n : Nat) (x : StchIn) (s : State) : (setStchIn n x s).segm = s.segm := rfl
@[simp] theorem setStchIn_recd (n : Nat) (x : StchIn) (s : State) : (setStchIn n x s).recd = s.recd := rfl
@[simp] theorem setStchIn_chk (n : Nat) (x : StchIn) (s : State) : (setStchIn n x s).chk = s.chk := rfl
@[simp] theorem setStchIn_boot (n : Nat) (x : StchIn) (s : State) : (setStchIn n x s).boot = s.boot := rfl
@[simp] theorem setStchIn_bkgd (n : Nat) (x : StchIn) (s : State) : (setStchIn n x s).bkgd = s.bkgd := rfl
@[simp] theorem setStchIn_stor (n : Nat) (x : StchIn) (s : State) : (setStchIn n x s).stor = s.stor := rfl
@[simp] theorem setStchIn_memc (n : Nat) (x : StchIn) (s : State) : (setStchIn n x s).memc = s.memc := rfl
@[simp] theorem setStchIn_twcs (n : Nat) (x : StchIn) (s : State) : (setStchIn n x s).twcs = s.twcs := rfl
@[simp] theorem setStchIn_mem (n : Nat) (x : StchIn) (s : State) : (setStchIn n x s).mem = s.mem := rfl
@[simp] theorem setStchIn_badBlocks (n : Nat) (x : StchIn) (s : State) : (setStchIn n x s).badBlocks = s.badBlocks := rfl

theorem storeItem_setStoreItem (n k : Nat) (x : StoreItem) (s : State) : storeItem (setStoreItem n x s) k = if k = n then x else storeItem s k := Map.get_set ..
@[simp] theorem storeItem_setStoreItem_self (n : Nat) (x : StoreItem) (s : State) : storeItem (setStoreItem n x s) n = x := Map.get_set_self ..
@[simp] theorem setStoreItem_pending (n : Nat) (x : StoreItem) (s : State) : (setStoreItem n x s).pending = s.pending := rfl
@[simp] theorem setStoreItem_freeCtr (n : Nat) (x : StoreItem) (s : State) : (setStoreItem n x s).freeCtr = s.freeCtr := rfl
@[simp] theorem setStoreItem_sys (n : Nat) (x : StoreItem) (s : State) : (setStoreItem n x s).sys = s.sys := rfl
@[simp] theorem setStoreItem_evnt (n : Nat) (x : StoreItem) (s : State) : (setStoreItem n x s).evnt = s.evnt := rfl
@[simp] theorem setStoreItem_tk (n : Nat) (x : StoreItem) (s : State) : (setStoreItem n x s).tk = s.tk := rfl
@[simp] theorem setStoreItem_netw (n : Nat) (x : StoreItem) (s : State) : (setStoreItem n x s).netw = s.netw := rfl
@[simp] theorem setStoreItem_twin (n : Nat) (x : StoreItem) (s : State) : (setStoreItem n x s).twin = s.twin := rfl
@[simp] theorem setStoreItem_core (n : Nat) (x : StoreItem) (s : State) : (setStoreItem n x s).core = s.core := rfl
@[simp] theorem setStoreItem_qdma (n : Nat) (x : StoreItem) (s : State) : (setStoreItem n x s).qdma = s.qdma := rfl
@[simp] theorem setStoreItem_ht (n : Nat) (x : StoreItem) (s : State) : (setStoreItem n x s).ht = s.ht := rfl
@[simp] theorem setStoreItem_cmpr (n : Nat) (x : StoreItem) (s : State) : (setStoreItem n x s).cmpr = s.cmpr := rfl
@[simp] theorem setStoreItem_lanes (n : Nat) (x : StoreItem) (s : State) : (setStoreItem n x s).lanes = s.lanes := rfl
@[simp] theorem setStoreItem_thrm (n : Nat) (x : StoreItem) (s : State) : (setStoreItem n x s).thrm = s.thrm := rfl
@[simp] theorem setStoreItem_ports (n : Nat) (x : StoreItem) (s : State) : (setStoreItem n x s).ports = s.ports := rfl
@[simp] theorem setStoreItem_motn (n : Nat) (x : StoreItem) (s : State) : (setStoreItem n x s).motn = s.motn := rfl
@[simp] theorem setStoreItem_strips (n : Nat) (x : StoreItem) (s : State) : (setStoreItem n x s).strips = s.strips := rfl
@[simp] theorem setStoreItem_colrs (n : Nat) (x : StoreItem) (s : State) : (setStoreItem n x s).colrs = s.colrs := rfl
@[simp] theorem setStoreItem_stch (n : Nat) (x : StoreItem) (s : State) : (setStoreItem n x s).stch = s.stch := rfl
@[simp] theorem setStoreItem_profs (n : Nat) (x : StoreItem) (s : State) : (setStoreItem n x s).profs = s.profs := rfl
@[simp] theorem setStoreItem_segm (n : Nat) (x : StoreItem) (s : State) : (setStoreItem n x s).segm = s.segm := rfl
@[simp] theorem setStoreItem_recd (n : Nat) (x : StoreItem) (s : State) : (setStoreItem n x s).recd = s.recd := rfl
@[simp] theorem setStoreItem_chk (n : Nat) (x : StoreItem) (s : State) : (setStoreItem n x s).chk = s.chk := rfl
@[simp] theorem setStoreItem_boot (n : Nat) (x : StoreItem) (s : State) : (setStoreItem n x s).boot = s.boot := rfl
@[simp] theorem setStoreItem_bkgd (n : Nat) (x : StoreItem) (s : State) : (setStoreItem n x s).bkgd = s.bkgd := rfl
@[simp] theorem setStoreItem_memc (n : Nat) (x : StoreItem) (s : State) : (setStoreItem n x s).memc = s.memc := rfl
@[simp] theorem setStoreItem_twcs (n : Nat) (x : StoreItem) (s : State) : (setStoreItem n x s).twcs = s.twcs := rfl
@[simp] theorem setStoreItem_mem (n : Nat) (x : StoreItem) (s : State) : (setStoreItem n x s).mem = s.mem := rfl
@[simp] theorem setStoreItem_badBlocks (n : Nat) (x : StoreItem) (s : State) : (setStoreItem n x s).badBlocks = s.badBlocks := rfl

theorem strip_setStrip (n k : Nat) (x : Strip) (s : State) : strip (setStrip n x s) k = if k = n then x else strip s k := Map.get_set ..
@[simp] theorem strip_setStrip_self (n : Nat) (x : Strip) (s : State) : strip (setStrip n x s) n = x := Map.get_set_self ..
@[simp] theorem setStrip_pending (n : Nat) (x : Strip) (s : State) : (setStrip n x s).pending = s.pending := rfl
@[simp] theorem setStrip_freeCtr (n : Nat) (x : Strip) (s : State) : (setStrip n x s).freeCtr = s.freeCtr := rfl
@[simp] theorem setStrip_sys (n : Nat) (x : Strip) (s : State) : (setStrip n x s).sys = s.sys := rfl
@[simp] theorem setStrip_evnt (n : Nat) (x : Strip) (s : State) : (setStrip n x s).evnt = s.evnt := rfl
@[simp] theorem setStrip_tk (n : Nat) (x : Strip) (s : State) : (setStrip n x s).tk = s.tk := rfl
@[simp] theorem setStrip_netw (n : Nat) (x : Strip) (s : State) : (setStrip n x s).netw = s.netw := rfl
@[simp] theorem setStrip_twin (n : Nat) (x : Strip) (s : State) : (setStrip n x s).twin = s.twin := rfl
@[simp] theorem setStrip_core (n : Nat) (x : Strip) (s : State) : (setStrip n x s).core = s.core := rfl
@[simp] theorem setStrip_qdma (n : Nat) (x : Strip) (s : State) : (setStrip n x s).qdma = s.qdma := rfl
@[simp] theorem setStrip_ht (n : Nat) (x : Strip) (s : State) : (setStrip n x s).ht = s.ht := rfl
@[simp] theorem setStrip_cmpr (n : Nat) (x : Strip) (s : State) : (setStrip n x s).cmpr = s.cmpr := rfl
@[simp] theorem setStrip_lanes (n : Nat) (x : Strip) (s : State) : (setStrip n x s).lanes = s.lanes := rfl
@[simp] theorem setStrip_thrm (n : Nat) (x : Strip) (s : State) : (setStrip n x s).thrm = s.thrm := rfl
@[simp] theorem setStrip_ports (n : Nat) (x : Strip) (s : State) : (setStrip n x s).ports = s.ports := rfl
@[simp] theorem setStrip_motn (n : Nat) (x : Strip) (s : State) : (setStrip n x s).motn = s.motn := rfl
@[simp] theorem setStrip_colrs (n : Nat) (x : Strip) (s : State) : (setStrip n x s).colrs = s.colrs := rfl
@[simp] theorem setStrip_stch (n : Nat) (x : Strip) (s : State) : (setStrip n x s).stch = s.stch := rfl
@[simp] theorem setStrip_profs (n : Nat) (x : Strip) (s : State) : (setStrip n x s).profs = s.profs := rfl
@[simp] theorem setStrip_segm (n : Nat) (x : Strip) (s : State) : (setStrip n x s).segm = s.segm := rfl
@[simp] theorem setStrip_recd (n : Nat) (x : Strip) (s : State) : (setStrip n x s).recd = s.recd := rfl
@[simp] theorem setStrip_chk (n : Nat) (x : Strip) (s : State) : (setStrip n x s).chk = s.chk := rfl
@[simp] theorem setStrip_boot (n : Nat) (x : Strip) (s : State) : (setStrip n x s).boot = s.boot := rfl
@[simp] theorem setStrip_bkgd (n : Nat) (x : Strip) (s : State) : (setStrip n x s).bkgd = s.bkgd := rfl
@[simp] theorem setStrip_stor (n : Nat) (x : Strip) (s : State) : (setStrip n x s).stor = s.stor := rfl
@[simp] theorem setStrip_memc (n : Nat) (x : Strip) (s : State) : (setStrip n x s).memc = s.memc := rfl
@[simp] theorem setStrip_twcs (n : Nat) (x : Strip) (s : State) : (setStrip n x s).twcs = s.twcs := rfl
@[simp] theorem setStrip_mem (n : Nat) (x : Strip) (s : State) : (setStrip n x s).mem = s.mem := rfl
@[simp] theorem setStrip_badBlocks (n : Nat) (x : Strip) (s : State) : (setStrip n x s).badBlocks = s.badBlocks := rfl

theorem stageSet_setStage (n k : Nat) (x : StageSet) (s : State) : stageSet (setStage n x s) k = if k = n then x else stageSet s k := Map.get_set ..
@[simp] theorem stageSet_setStage_self (n : Nat) (x : StageSet) (s : State) : stageSet (setStage n x s) n = x := Map.get_set_self ..
@[simp] theorem setStage_pending (n : Nat) (x : StageSet) (s : State) : (setStage n x s).pending = s.pending := rfl
@[simp] theorem setStage_freeCtr (n : Nat) (x : StageSet) (s : State) : (setStage n x s).freeCtr = s.freeCtr := rfl
@[simp] theorem setStage_evnt (n : Nat) (x : StageSet) (s : State) : (setStage n x s).evnt = s.evnt := rfl
@[simp] theorem setStage_tk (n : Nat) (x : StageSet) (s : State) : (setStage n x s).tk = s.tk := rfl
@[simp] theorem setStage_netw (n : Nat) (x : StageSet) (s : State) : (setStage n x s).netw = s.netw := rfl
@[simp] theorem setStage_twin (n : Nat) (x : StageSet) (s : State) : (setStage n x s).twin = s.twin := rfl
@[simp] theorem setStage_core (n : Nat) (x : StageSet) (s : State) : (setStage n x s).core = s.core := rfl
@[simp] theorem setStage_qdma (n : Nat) (x : StageSet) (s : State) : (setStage n x s).qdma = s.qdma := rfl
@[simp] theorem setStage_ht (n : Nat) (x : StageSet) (s : State) : (setStage n x s).ht = s.ht := rfl
@[simp] theorem setStage_cmpr (n : Nat) (x : StageSet) (s : State) : (setStage n x s).cmpr = s.cmpr := rfl
@[simp] theorem setStage_lanes (n : Nat) (x : StageSet) (s : State) : (setStage n x s).lanes = s.lanes := rfl
@[simp] theorem setStage_thrm (n : Nat) (x : StageSet) (s : State) : (setStage n x s).thrm = s.thrm := rfl
@[simp] theorem setStage_ports (n : Nat) (x : StageSet) (s : State) : (setStage n x s).ports = s.ports := rfl
@[simp] theorem setStage_motn (n : Nat) (x : StageSet) (s : State) : (setStage n x s).motn = s.motn := rfl
@[simp] theorem setStage_strips (n : Nat) (x : StageSet) (s : State) : (setStage n x s).strips = s.strips := rfl
@[simp] theorem setStage_colrs (n : Nat) (x : StageSet) (s : State) : (setStage n x s).colrs = s.colrs := rfl
@[simp] theorem setStage_stch (n : Nat) (x : StageSet) (s : State) : (setStage n x s).stch = s.stch := rfl
@[simp] theorem setStage_profs (n : Nat) (x : StageSet) (s : State) : (setStage n x s).profs = s.profs := rfl
@[simp] theorem setStage_segm (n : Nat) (x : StageSet) (s : State) : (setStage n x s).segm = s.segm := rfl
@[simp] theorem setStage_recd (n : Nat) (x : StageSet) (s : State) : (setStage n x s).recd = s.recd := rfl
@[simp] theorem setStage_chk (n : Nat) (x : StageSet) (s : State) : (setStage n x s).chk = s.chk := rfl
@[simp] theorem setStage_boot (n : Nat) (x : StageSet) (s : State) : (setStage n x s).boot = s.boot := rfl
@[simp] theorem setStage_bkgd (n : Nat) (x : StageSet) (s : State) : (setStage n x s).bkgd = s.bkgd := rfl
@[simp] theorem setStage_stor (n : Nat) (x : StageSet) (s : State) : (setStage n x s).stor = s.stor := rfl
@[simp] theorem setStage_memc (n : Nat) (x : StageSet) (s : State) : (setStage n x s).memc = s.memc := rfl
@[simp] theorem setStage_twcs (n : Nat) (x : StageSet) (s : State) : (setStage n x s).twcs = s.twcs := rfl
@[simp] theorem setStage_mem (n : Nat) (x : StageSet) (s : State) : (setStage n x s).mem = s.mem := rfl
@[simp] theorem setStage_badBlocks (n : Nat) (x : StageSet) (s : State) : (setStage n x s).badBlocks = s.badBlocks := rfl

theorem site_setSite (n k : Nat) (x : Site) (s : State) : site (setSite n x s) k = if k = n then x else site s k := Map.get_set ..
@[simp] theorem site_setSite_self (n : Nat) (x : Site) (s : State) : site (setSite n x s) n = x := Map.get_set_self ..
@[simp] theorem setSite_pending (n : Nat) (x : Site) (s : State) : (setSite n x s).pending = s.pending := rfl
@[simp] theorem setSite_freeCtr (n : Nat) (x : Site) (s : State) : (setSite n x s).freeCtr = s.freeCtr := rfl
@[simp] theorem setSite_sys (n : Nat) (x : Site) (s : State) : (setSite n x s).sys = s.sys := rfl
@[simp] theorem setSite_evnt (n : Nat) (x : Site) (s : State) : (setSite n x s).evnt = s.evnt := rfl
@[simp] theorem setSite_tk (n : Nat) (x : Site) (s : State) : (setSite n x s).tk = s.tk := rfl
@[simp] theorem setSite_netw (n : Nat) (x : Site) (s : State) : (setSite n x s).netw = s.netw := rfl
@[simp] theorem setSite_twin (n : Nat) (x : Site) (s : State) : (setSite n x s).twin = s.twin := rfl
@[simp] theorem setSite_core (n : Nat) (x : Site) (s : State) : (setSite n x s).core = s.core := rfl
@[simp] theorem setSite_qdma (n : Nat) (x : Site) (s : State) : (setSite n x s).qdma = s.qdma := rfl
@[simp] theorem setSite_ht (n : Nat) (x : Site) (s : State) : (setSite n x s).ht = s.ht := rfl
@[simp] theorem setSite_cmpr (n : Nat) (x : Site) (s : State) : (setSite n x s).cmpr = s.cmpr := rfl
@[simp] theorem setSite_lanes (n : Nat) (x : Site) (s : State) : (setSite n x s).lanes = s.lanes := rfl
@[simp] theorem setSite_ports (n : Nat) (x : Site) (s : State) : (setSite n x s).ports = s.ports := rfl
@[simp] theorem setSite_motn (n : Nat) (x : Site) (s : State) : (setSite n x s).motn = s.motn := rfl
@[simp] theorem setSite_strips (n : Nat) (x : Site) (s : State) : (setSite n x s).strips = s.strips := rfl
@[simp] theorem setSite_colrs (n : Nat) (x : Site) (s : State) : (setSite n x s).colrs = s.colrs := rfl
@[simp] theorem setSite_stch (n : Nat) (x : Site) (s : State) : (setSite n x s).stch = s.stch := rfl
@[simp] theorem setSite_profs (n : Nat) (x : Site) (s : State) : (setSite n x s).profs = s.profs := rfl
@[simp] theorem setSite_segm (n : Nat) (x : Site) (s : State) : (setSite n x s).segm = s.segm := rfl
@[simp] theorem setSite_recd (n : Nat) (x : Site) (s : State) : (setSite n x s).recd = s.recd := rfl
@[simp] theorem setSite_chk (n : Nat) (x : Site) (s : State) : (setSite n x s).chk = s.chk := rfl
@[simp] theorem setSite_boot (n : Nat) (x : Site) (s : State) : (setSite n x s).boot = s.boot := rfl
@[simp] theorem setSite_bkgd (n : Nat) (x : Site) (s : State) : (setSite n x s).bkgd = s.bkgd := rfl
@[simp] theorem setSite_stor (n : Nat) (x : Site) (s : State) : (setSite n x s).stor = s.stor := rfl
@[simp] theorem setSite_memc (n : Nat) (x : Site) (s : State) : (setSite n x s).memc = s.memc := rfl
@[simp] theorem setSite_twcs (n : Nat) (x : Site) (s : State) : (setSite n x s).twcs = s.twcs := rfl
@[simp] theorem setSite_mem (n : Nat) (x : Site) (s : State) : (setSite n x s).mem = s.mem := rfl
@[simp] theorem setSite_badBlocks (n : Nat) (x : Site) (s : State) : (setSite n x s).badBlocks = s.badBlocks := rfl

theorem ptpPort_setPtpPort (n k : Nat) (x : PtpPort) (s : State) : ptpPort (setPtpPort n x s) k = if k = n then x else ptpPort s k := Map.get_set ..
@[simp] theorem ptpPort_setPtpPort_self (n : Nat) (x : PtpPort) (s : State) : ptpPort (setPtpPort n x s) n = x := Map.get_set_self ..
@[simp] theorem setPtpPort_pending (n : Nat) (x : PtpPort) (s : State) : (setPtpPort n x s).pending = s.pending := rfl
@[simp] theorem setPtpPort_freeCtr (n : Nat) (x : PtpPort) (s : State) : (setPtpPort n x s).freeCtr = s.freeCtr := rfl
@[simp] theorem setPtpPort_sys (n : Nat) (x : PtpPort) (s : State) : (setPtpPort n x s).sys = s.sys := rfl
@[simp] theorem setPtpPort_evnt (n : Nat) (x : PtpPort) (s : State) : (setPtpPort n x s).evnt = s.evnt := rfl
@[simp] theorem setPtpPort_netw (n : Nat) (x : PtpPort) (s : State) : (setPtpPort n x s).netw = s.netw := rfl
@[simp] theorem setPtpPort_twin (n : Nat) (x : PtpPort) (s : State) : (setPtpPort n x s).twin = s.twin := rfl
@[simp] theorem setPtpPort_core (n : Nat) (x : PtpPort) (s : State) : (setPtpPort n x s).core = s.core := rfl
@[simp] theorem setPtpPort_qdma (n : Nat) (x : PtpPort) (s : State) : (setPtpPort n x s).qdma = s.qdma := rfl
@[simp] theorem setPtpPort_ht (n : Nat) (x : PtpPort) (s : State) : (setPtpPort n x s).ht = s.ht := rfl
@[simp] theorem setPtpPort_cmpr (n : Nat) (x : PtpPort) (s : State) : (setPtpPort n x s).cmpr = s.cmpr := rfl
@[simp] theorem setPtpPort_lanes (n : Nat) (x : PtpPort) (s : State) : (setPtpPort n x s).lanes = s.lanes := rfl
@[simp] theorem setPtpPort_thrm (n : Nat) (x : PtpPort) (s : State) : (setPtpPort n x s).thrm = s.thrm := rfl
@[simp] theorem setPtpPort_ports (n : Nat) (x : PtpPort) (s : State) : (setPtpPort n x s).ports = s.ports := rfl
@[simp] theorem setPtpPort_motn (n : Nat) (x : PtpPort) (s : State) : (setPtpPort n x s).motn = s.motn := rfl
@[simp] theorem setPtpPort_strips (n : Nat) (x : PtpPort) (s : State) : (setPtpPort n x s).strips = s.strips := rfl
@[simp] theorem setPtpPort_colrs (n : Nat) (x : PtpPort) (s : State) : (setPtpPort n x s).colrs = s.colrs := rfl
@[simp] theorem setPtpPort_stch (n : Nat) (x : PtpPort) (s : State) : (setPtpPort n x s).stch = s.stch := rfl
@[simp] theorem setPtpPort_profs (n : Nat) (x : PtpPort) (s : State) : (setPtpPort n x s).profs = s.profs := rfl
@[simp] theorem setPtpPort_segm (n : Nat) (x : PtpPort) (s : State) : (setPtpPort n x s).segm = s.segm := rfl
@[simp] theorem setPtpPort_recd (n : Nat) (x : PtpPort) (s : State) : (setPtpPort n x s).recd = s.recd := rfl
@[simp] theorem setPtpPort_chk (n : Nat) (x : PtpPort) (s : State) : (setPtpPort n x s).chk = s.chk := rfl
@[simp] theorem setPtpPort_boot (n : Nat) (x : PtpPort) (s : State) : (setPtpPort n x s).boot = s.boot := rfl
@[simp] theorem setPtpPort_bkgd (n : Nat) (x : PtpPort) (s : State) : (setPtpPort n x s).bkgd = s.bkgd := rfl
@[simp] theorem setPtpPort_stor (n : Nat) (x : PtpPort) (s : State) : (setPtpPort n x s).stor = s.stor := rfl
@[simp] theorem setPtpPort_memc (n : Nat) (x : PtpPort) (s : State) : (setPtpPort n x s).memc = s.memc := rfl
@[simp] theorem setPtpPort_twcs (n : Nat) (x : PtpPort) (s : State) : (setPtpPort n x s).twcs = s.twcs := rfl
@[simp] theorem setPtpPort_mem (n : Nat) (x : PtpPort) (s : State) : (setPtpPort n x s).mem = s.mem := rfl
@[simp] theorem setPtpPort_badBlocks (n : Nat) (x : PtpPort) (s : State) : (setPtpPort n x s).badBlocks = s.badBlocks := rfl

theorem twc_setTwc (n k : Nat) (x : Twc) (s : State) : twc (setTwc n x s) k = if k = n then x else twc s k := Map.get_set ..
@[simp] theorem twc_setTwc_self (n : Nat) (x : Twc) (s : State) : twc (setTwc n x s) n = x := Map.get_set_self ..
@[simp] theorem setTwc_pending (n : Nat) (x : Twc) (s : State) : (setTwc n x s).pending = s.pending := rfl
@[simp] theorem setTwc_freeCtr (n : Nat) (x : Twc) (s : State) : (setTwc n x s).freeCtr = s.freeCtr := rfl
@[simp] theorem setTwc_sys (n : Nat) (x : Twc) (s : State) : (setTwc n x s).sys = s.sys := rfl
@[simp] theorem setTwc_evnt (n : Nat) (x : Twc) (s : State) : (setTwc n x s).evnt = s.evnt := rfl
@[simp] theorem setTwc_tk (n : Nat) (x : Twc) (s : State) : (setTwc n x s).tk = s.tk := rfl
@[simp] theorem setTwc_netw (n : Nat) (x : Twc) (s : State) : (setTwc n x s).netw = s.netw := rfl
@[simp] theorem setTwc_twin (n : Nat) (x : Twc) (s : State) : (setTwc n x s).twin = s.twin := rfl
@[simp] theorem setTwc_core (n : Nat) (x : Twc) (s : State) : (setTwc n x s).core = s.core := rfl
@[simp] theorem setTwc_qdma (n : Nat) (x : Twc) (s : State) : (setTwc n x s).qdma = s.qdma := rfl
@[simp] theorem setTwc_ht (n : Nat) (x : Twc) (s : State) : (setTwc n x s).ht = s.ht := rfl
@[simp] theorem setTwc_cmpr (n : Nat) (x : Twc) (s : State) : (setTwc n x s).cmpr = s.cmpr := rfl
@[simp] theorem setTwc_lanes (n : Nat) (x : Twc) (s : State) : (setTwc n x s).lanes = s.lanes := rfl
@[simp] theorem setTwc_thrm (n : Nat) (x : Twc) (s : State) : (setTwc n x s).thrm = s.thrm := rfl
@[simp] theorem setTwc_ports (n : Nat) (x : Twc) (s : State) : (setTwc n x s).ports = s.ports := rfl
@[simp] theorem setTwc_motn (n : Nat) (x : Twc) (s : State) : (setTwc n x s).motn = s.motn := rfl
@[simp] theorem setTwc_strips (n : Nat) (x : Twc) (s : State) : (setTwc n x s).strips = s.strips := rfl
@[simp] theorem setTwc_colrs (n : Nat) (x : Twc) (s : State) : (setTwc n x s).colrs = s.colrs := rfl
@[simp] theorem setTwc_stch (n : Nat) (x : Twc) (s : State) : (setTwc n x s).stch = s.stch := rfl
@[simp] theorem setTwc_profs (n : Nat) (x : Twc) (s : State) : (setTwc n x s).profs = s.profs := rfl
@[simp] theorem setTwc_segm (n : Nat) (x : Twc) (s : State) : (setTwc n x s).segm = s.segm := rfl
@[simp] theorem setTwc_recd (n : Nat) (x : Twc) (s : State) : (setTwc n x s).recd = s.recd := rfl
@[simp] theorem setTwc_chk (n : Nat) (x : Twc) (s : State) : (setTwc n x s).chk = s.chk := rfl
@[simp] theorem setTwc_boot (n : Nat) (x : Twc) (s : State) : (setTwc n x s).boot = s.boot := rfl
@[simp] theorem setTwc_bkgd (n : Nat) (x : Twc) (s : State) : (setTwc n x s).bkgd = s.bkgd := rfl
@[simp] theorem setTwc_stor (n : Nat) (x : Twc) (s : State) : (setTwc n x s).stor = s.stor := rfl
@[simp] theorem setTwc_memc (n : Nat) (x : Twc) (s : State) : (setTwc n x s).memc = s.memc := rfl
@[simp] theorem setTwc_mem (n : Nat) (x : Twc) (s : State) : (setTwc n x s).mem = s.mem := rfl
@[simp] theorem setTwc_badBlocks (n : Nat) (x : Twc) (s : State) : (setTwc n x s).badBlocks = s.badBlocks := rfl

theorem noteLevel_queues (sz : Nat → Nat) (c : Nat) (d : Qdma) : (noteLevel sz c d).queues = d.queues := by
  simp only [noteLevel]
  split <;> rfl

theorem foldl_noteLevel_queues (sz : Nat → Nat) (cs : List Nat) (d : Qdma) : (cs.foldl (fun d c => noteLevel sz c d) d).queues = d.queues := by
  induction cs generalizing d with
  | nil => rfl
  | cons c cs ih => simp only [List.foldl_cons, ih, noteLevel_queues]

theorem queue_setQueue (n k : Nat) (x : Queue) (s : State) : queue (setQueue n x s) k = if k = n then x else queue s k := by
  simp only [queue, setQueue, foldl_noteLevel_queues]
  exact Map.get_set ..
@[simp] theorem queue_setQueue_self (n : Nat) (x : Queue) (s : State) : queue (setQueue n x s) n = x := by simp [queue_setQueue]
@[simp] theorem setQueue_pending (n : Nat) (x : Queue) (s : State) : (setQueue n x s).pending = s.pending := rfl
@[simp] theorem setQueue_freeCtr (n : Nat) (x : Queue) (s : State) : (setQueue n x s).freeCtr = s.freeCtr := rfl
@[simp] theorem setQueue_sys (n : Nat) (x : Queue) (s : State) : (setQueue n x s).sys = s.sys := rfl
@[simp] theorem setQueue_evnt (n : Nat) (x : Queue) (s : State) : (setQueue n x s).evnt = s.evnt := rfl
@[simp] theorem setQueue_tk (n : Nat) (x : Queue) (s : State) : (setQueue n x s).tk = s.tk := rfl
@[simp] theorem setQueue_netw (n : Nat) (x : Queue) (s : State) : (setQueue n x s).netw = s.netw := rfl
@[simp] theorem setQueue_twin (n : Nat) (x : Queue) (s : State) : (setQueue n x s).twin = s.twin := rfl
@[simp] theorem setQueue_core (n : Nat) (x : Queue) (s : State) : (setQueue n x s).core = s.core := rfl
@[simp] theorem setQueue_ht (n : Nat) (x : Queue) (s : State) : (setQueue n x s).ht = s.ht := rfl
@[simp] theorem setQueue_cmpr (n : Nat) (x : Queue) (s : State) : (setQueue n x s).cmpr = s.cmpr := rfl
@[simp] theorem setQueue_lanes (n : Nat) (x : Queue) (s : State) : (setQueue n x s).lanes = s.lanes := rfl
@[simp] theorem setQueue_thrm (n : Nat) (x : Queue) (s : State) : (setQueue n x s).thrm = s.thrm := rfl
@[simp] theorem setQueue_ports (n : Nat) (x : Queue) (s : State) : (setQueue n x s).ports = s.ports := rfl
@[simp] theorem setQueue_motn (n : Nat) (x : Queue) (s : State) : (setQueue n x s).motn = s.motn := rfl
@[simp] theorem setQueue_strips (n : Nat) (x : Queue) (s : State) : (setQueue n x s).strips = s.strips := rfl
@[simp] theorem setQueue_colrs (n : Nat) (x : Queue) (s : State) : (setQueue n x s).colrs = s.colrs := rfl
@[simp] theorem setQueue_stch (n : Nat) (x : Queue) (s : State) : (setQueue n x s).stch = s.stch := rfl
@[simp] theorem setQueue_profs (n : Nat) (x : Queue) (s : State) : (setQueue n x s).profs = s.profs := rfl
@[simp] theorem setQueue_segm (n : Nat) (x : Queue) (s : State) : (setQueue n x s).segm = s.segm := rfl
@[simp] theorem setQueue_recd (n : Nat) (x : Queue) (s : State) : (setQueue n x s).recd = s.recd := rfl
@[simp] theorem setQueue_chk (n : Nat) (x : Queue) (s : State) : (setQueue n x s).chk = s.chk := rfl
@[simp] theorem setQueue_boot (n : Nat) (x : Queue) (s : State) : (setQueue n x s).boot = s.boot := rfl
@[simp] theorem setQueue_bkgd (n : Nat) (x : Queue) (s : State) : (setQueue n x s).bkgd = s.bkgd := rfl
@[simp] theorem setQueue_stor (n : Nat) (x : Queue) (s : State) : (setQueue n x s).stor = s.stor := rfl
@[simp] theorem setQueue_memc (n : Nat) (x : Queue) (s : State) : (setQueue n x s).memc = s.memc := rfl
@[simp] theorem setQueue_twcs (n : Nat) (x : Queue) (s : State) : (setQueue n x s).twcs = s.twcs := rfl
@[simp] theorem setQueue_mem (n : Nat) (x : Queue) (s : State) : (setQueue n x s).mem = s.mem := rfl
@[simp] theorem setQueue_badBlocks (n : Nat) (x : Queue) (s : State) : (setQueue n x s).badBlocks = s.badBlocks := rfl

end Sys2Proof.Machine
end

