-- ==== Sys2Proof/Laws/Commands.lean ====
section
/-! SUPPORT. Laws/Commands.lean: what a Xesil command does once every check that does not depend on its parameters passes (R57, R63). -/
namespace Sys2Proof.Machine

/-- No command is held where none is counted. -/
theorem readyHeld_none {s : State} (h : heldCount s = 0) : readyHeld s = none := by
  unfold readyHeld
  rw [List.findSome?_eq_none_iff]
  intro p hp
  have : p.2.held = [] := by
    have := List.sum_eq_zero_iff_forall_eq_nat.1 h p.2.held.length (List.mem_map.2 ⟨p, hp, rfl⟩)
    exact List.eq_nil_of_length_eq_zero this
  simp [this]

/-- A round of seven places passes each. -/
theorem round_finds {α : Type} (t m : Nat) (e : α) (h : m ≤ 6) :
    (List.range 7).findSome? (fun k => if m == (t + 1 + k) % 7 then some e else none) = some e := by
  have hr : List.range 7 = [0, 1, 2, 3, 4, 5, 6] := rfl
  rw [hr]
  simp only [List.findSome?_cons, List.findSome?_nil, beq_iff_eq]
  split_ifs <;> first | rfl | (exfalso; omega)

/-- No mailbox packet is counted where none is ready. -/
theorem waitingCount_alone {s : State} (hm : ∀ p, mailReady p s = false) : waitingCount s = s.sys.inbox.length := by
  unfold waitingCount
  have : ∀ p ∈ List.finRange 4, ((queue s (mailQueue p)).words.filter QWord.endm).length = 0 := by
    intro p _
    have := hm p
    unfold mailReady at this
    rw [List.length_eq_zero_iff, List.filter_eq_nil_iff]
    intro w hw he
    exact absurd (List.any_eq_true.2 ⟨w, hw, he⟩) (by simp [this])
  rw [List.map_congr_left this]
  simp

/-- R57: a command that waits alone is next. -/
theorem nextWaiting_alone (s : State) (via : Via) (i : Instr) (hm : ∀ p, mailReady p s = false) :
    nextWaiting { s with sys.inbox := [(via, i)] } = some (via, some i) := by
  have hn : ∀ k, (List.finRange 4).find? (fun p => turnOf (.mailbox p) == k && mailReady p { s with sys.inbox := [(via, i)] }) = none := by
    intro k
    rw [List.find?_eq_none]
    intro p _
    have : mailReady p { s with sys.inbox := [(via, i)] } = false := hm p
    simp [this]
  have hf : ∀ k, waitingAt { s with sys.inbox := [(via, i)] } k = if turnOf via == k then some (via, some i) else none := by
    intro k
    unfold waitingAt
    rw [hn]
    simp only [List.find?_cons, List.find?_nil]
    split <;> simp_all
  unfold nextWaiting
  simp only [hf]
  refine round_finds s.sys.turn (turnOf via) (via, some i) ?_
  cases via with
  | shaesh => exact Nat.zero_le _
  | mailbox p => have := p.isLt; simp only [turnOf]; omega
  | udp a b c => exact Nat.le_of_ble_eq_true rfl
  | ht => exact Nat.le_of_ble_eq_true rfl

/-- R57: the supervisor serves a command that has come while nothing else waits or is held. -/
theorem serveAll_alone {u : State} {via : Via} {i : Instr} (hi : ∀ p, i ≠ .packetRejected p) (ha : accepting u = true) (hh : heldCount u = 0)
    (hb : u.sys.inbox = []) (hw : replyWaits u = false) (hm : ∀ p, mailReady p u = false) :
    serveAll { u with sys.inbox := u.sys.inbox ++ [(via, i)] } = runInstr i { u with sys.inbox := [], sys.turn := turnOf via } := by
  have h1 : accepting { u with sys.inbox := u.sys.inbox ++ [(via, i)] } = true := ha
  have h2 : heldCount { u with sys.inbox := [(via, i)] } = 0 := hh
  have h3 : replyWaits { u with sys.inbox := [(via, i)] } = false := hw
  have h5 : waitingCount { u with sys.inbox := [(via, i)] } = 1 := waitingCount_alone (s := { u with sys.inbox := [(via, i)] }) hm
  unfold serveAll
  rw [if_pos h1, hb, List.nil_append, h2, h5]
  have h6 : ∀ t, takePacket via i t = runInstr i t := by
    intro t
    cases i <;> first | rfl | exact absurd rfl (hi _)
  have h4 : serveOne { u with sys.inbox := [(via, i)] } = some (runInstr i { u with sys.inbox := [], sys.turn := turnOf via }) := by
    unfold serveOne
    rw [h3, readyHeld_none h2, nextWaiting_alone u via i hm]
    simp [h6]
  show serve 1 _ = _
  unfold serve
  rw [h4]
  rfl

/-- R57: a command that arrives while nothing else waits or is held runs at once. -/
theorem accept_alone {s : State} {op : Nat} {h : Hdr} {i : Instr} (r : s.Ready op h) (hi : ∀ p, i ≠ .packetRejected p) :
    accept h.via i s = runInstr i (s.arrived h.via) := by
  have ha := r.accepts
  unfold accept State.arrived
  cases hv : h.via with
  | shaesh =>
    simp only [ha, Bool.not_true, Bool.false_eq_true, if_false]
    exact serveAll_alone hi ha r.held r.alone r.idle r.mail
  | mailbox p =>
    simp only [ha, Bool.not_true, Bool.false_eq_true, if_false]
    exact serveAll_alone hi ha r.held r.alone r.idle r.mail
  | udp a b c =>
    have h1 : accepting (countRx 2 s) = true := ha
    simp only [h1, Bool.not_true, Bool.false_eq_true, if_false]
    exact serveAll_alone (u := countRx 2 s) hi ha r.held r.alone r.idle r.mail
  | ht =>
    simp only [ha, Bool.not_true, Bool.false_eq_true, if_false]
    exact serveAll_alone hi ha r.held r.alone r.idle r.mail

/-- R57: what the arrival of a command changes besides the queue it is taken from. -/
theorem arrived_only (via : Via) (s : State) : ∃ p t, s.arrived via = { s with netw.ports := p, sys.inbox := [], sys.turn := t } := by
  unfold State.arrived
  cases via <;> exact ⟨_, _, rfl⟩

/-- A session that was just replaced. -/
@[simp] theorem session_setSession (n : Nat) (x : Session) (s : State) : session (setSession n x s) n = some x := by
  unfold session setSession
  simp

/-- R63: the session in which a taken command runs. -/
theorem session_taken (s : State) (op : Nat) (h : Hdr) :
    ∃ x, session (s.taken op h) h.session = some x ∧ x.role = (s.sess h).role ∧ x.pktSize = (s.sess h).pktSize :=
  ⟨_, session_setSession .., rfl, rfl⟩

/-- R57, R63: what taking a command changes. -/
theorem taken_only (s : State) (op : Nat) (h : Hdr) :
    ∃ p t ss, s.taken op h = { s with netw.ports := p, sys.inbox := [], sys.turn := t, sys.sessions := ss } := by
  obtain ⟨p, t, ht⟩ := arrived_only h.via s
  have key : ∀ (y : Session) (u : State), u = { s with netw.ports := p, sys.inbox := [], sys.turn := t } →
      setSession h.session y u = { s with netw.ports := p, sys.inbox := [], sys.turn := t, sys.sessions := Map.insert s.sys.sessions h.session y } := by
    intro y u hu
    rw [hu]
    rfl
  exact ⟨p, t, _, key _ _ ht⟩

/-- R63: once a command is taken, its own checks and its effect are all that is left. -/
theorem runCmd_taken {s : State} {op : Nat} {h : Hdr} (r : s.Ready op h) (i : Instr) {c : Cmd} (mayDefer : Bool) (own values : State → List Detail)
    (run : Nat → State → Ran) (packets : State → List (Nat × List Byte)) (hop : c.op = op) (hh : c.h = h) (hb : c.bad = none)
    (ho : own (s.taken op h) = []) (hv : values (s.taken op h) = []) (hd : mayDefer = true → s.mayDefer h) :
    runCmd i c mayDefer own values run packets false (s.taken op h) =
      match run ((s.sess h).pktSize - 40) (s.taken op h) with
      | .refuse ds => refuseWith c ds (s.taken op h)
      | .done ps more v t => finish c 0 ps more v (mirrorCmd c 0 t.sys.epoch (packets (s.taken op h)) t)
      | .defer t => deferCmd i c (s.sess h).role (mirrorCmd c 1 (if c.op = 0x0201 then nextEpoch t.sys.epoch else t.sys.epoch) (packets (s.taken op h)) t) := by
  obtain ⟨x, hx, hrole, hsize⟩ := session_taken s op h
  have hu := taken_only s op h
  have hp : permit c (s.sess h).role (s.taken op h) = none := by
    obtain ⟨p, t, ss, hu⟩ := hu
    rw [hu]
    have := r.permits
    cases c
    subst hop hh
    exact this
  have he : ¬ (h.epochCheck = true ∧ h.epoch ≠ (s.taken op h).sys.epoch) := by
    obtain ⟨p, t, ss, hu⟩ := hu
    rw [hu]
    exact fun k => k.2 (r.epoch k.1)
  have hs : stopRefuses op (s.taken op h) = false := by
    obtain ⟨p, t, ss, hu⟩ := hu
    rw [hu]
    exact r.runs
  have hm : ¬ (mayDefer = true ∧ (16 ≤ deferredOf (s.taken op h) h.session ∨ 64 ≤ (s.taken op h).sys.deferred.length)) := by
    obtain ⟨p, t, ss, hu⟩ := hu
    rw [hu]
    intro k
    have := hd k.1
    rcases k.2 with k | k
    · exact absurd this.1 (Nat.not_lt.2 k)
    · exact absurd this.2 (Nat.not_lt.2 k)
  unfold runCmd
  simp only [hh, hx, Option.getD_some, hb, hrole, hp, ho, r.reserved, hv, he, if_false, hop, hs, Bool.false_eq_true, hm, hsize]
  all_goals (cases run ((s.sess h).pktSize - 40) (s.taken op h) <;> rfl)

/-- R63: a command that passes every check that does not depend on its parameters is taken and runs. -/
theorem xesil_taken {s : State} {op : Nat} {h : Hdr} (r : s.Ready op h) (i : Instr) {c : Cmd} (mayDefer : Bool) (own values : State → List Detail)
    (run : Nat → State → Ran) (packets : State → List (Nat × List Byte)) (hop : c.op = op) (hh : c.h = h) :
    xesil i c mayDefer own values run packets (s.arrived h.via) = runCmd i c mayDefer own values run packets false (s.taken op h) := by
  have hf : sessionFits h s = some (s.sess h) := by
    unfold State.sess
    obtain ⟨x, hx⟩ := Option.isSome_iff_exists.1 r.session
    rw [hx]
    rfl
  have hu : udpBad h op s = none := Option.isNone_iff_eq_none.1 r.heard
  unfold State.taken
  obtain ⟨p, t, ht⟩ := arrived_only h.via s
  rw [ht]
  have h1 : accepting { s with netw.ports := p, sys.inbox := [], sys.turn := t } = true := r.accepts
  have h2 : udpBad h op { s with netw.ports := p, sys.inbox := [], sys.turn := t } = none := hu
  have h3 : sessionFits h { s with netw.ports := p, sys.inbox := [], sys.turn := t } = some (s.sess h) := hf
  have h4 : ¬ (op = 1 ∧ h.session = 0) := fun k => r.opened k.1 k.2
  have h5 : (decide (0x10000 ≤ h.session) && decide ((refillTokens (s.sess h) { s with netw.ports := p, sys.inbox := [], sys.turn := t }).tokens < 1000000000)) = false := by
    rcases r.rate with k | k
    · simp [Nat.not_le.2 k]
    · have : ¬ (refillTokens (s.sess h) { s with netw.ports := p, sys.inbox := [], sys.turn := t }).tokens < 1000000000 := Nat.not_lt.2 k
      simp [this]
  unfold xesil
  simp only [hop, hh, h1, Bool.not_true, Bool.false_eq_true, if_false, h2, h4, h3, r.seq, if_true, h5]

end Sys2Proof.Machine
end

