-- ==== Sys2Proof/Laws/Memory.lean ====
section
/-! SUPPORT. Laws/Memory.lean: the laws of memory (R432, R372): reading after writing, and that every operation keeps the
canonical form. -/
namespace Sys2Proof.Machine

/-- Every key of a memory lies above an address. -/
def Memory.above (m : Memory) (a : Nat) : Prop := ∀ c ∈ m, a < c.1

theorem Memory.wf_nil : Memory.wf [] = true := by decide

theorem Memory.wf_cons {k : Nat} {b : Byte} {m : Memory} :
    Memory.wf ((k, b) :: m) = true ↔ Memory.above m k ∧ b ≠ 0 ∧ m.wf = true := by
  simp only [Memory.wf, Memory.above, List.map_cons, List.pairwise_cons, List.all_cons, Bool.and_eq_true, decide_eq_true_eq, bne_iff_ne,
    List.mem_map, forall_exists_index, and_imp, forall_apply_eq_imp_iff₂]
  tauto

theorem Memory.above_filter {m : Memory} {a : Nat} (p : Host.Cell → Bool) (h : m.above a) : Memory.above (m.filter p) a :=
  fun c hc => h c (List.mem_filter.mp hc).1

theorem Memory.filter_wf (p : Host.Cell → Bool) : ∀ {m : Memory}, m.wf = true → Memory.wf (m.filter p) = true
  | [], _ => rfl
  | (k, b) :: m, h => by
    obtain ⟨h1, h2, h3⟩ := Memory.wf_cons.mp h
    rw [List.filter_cons]
    split
    · exact Memory.wf_cons.mpr ⟨Memory.above_filter p h1, h2, Memory.filter_wf p h3⟩
    · exact Memory.filter_wf p h3

theorem Memory.mem_insert {a : Nat} {b : Byte} : ∀ {m : Memory} {c : Host.Cell}, c ∈ m.insert a b → c = (a, b) ∨ c ∈ m
  | [], c, h => by simpa [Memory.insert] using h
  | (k, d) :: m, c, h => by
    simp only [Memory.insert] at h
    split at h
    · simpa using h
    · split at h
      · rcases List.mem_cons.mp h with h | h
        · exact .inl h
        · exact .inr (List.mem_cons_of_mem _ h)
      · rcases List.mem_cons.mp h with h | h
        · exact .inr (h ▸ List.mem_cons_self ..)
        · rcases Memory.mem_insert h with h | h
          · exact .inl h
          · exact .inr (List.mem_cons_of_mem _ h)

theorem Memory.insert_wf {a : Nat} {b : Byte} (hb : b ≠ 0) : ∀ {m : Memory}, m.wf = true → (m.insert a b).wf = true
  | [], _ => by
    refine Memory.wf_cons.mpr ⟨fun c h => ?_, hb, Memory.wf_nil⟩
    simp at h
  | (k, d) :: m, h => by
    obtain ⟨h1, h2, h3⟩ := Memory.wf_cons.mp h
    simp only [Memory.insert]
    split
    · next hlt =>
      refine Memory.wf_cons.mpr ⟨fun c hc => ?_, hb, h⟩
      rcases List.mem_cons.mp hc with rfl | hc
      · exact hlt
      · exact Nat.lt_trans hlt (h1 c hc)
    · split
      · next heq => exact heq ▸ Memory.wf_cons.mpr ⟨h1, hb, h3⟩
      · next hlt hne =>
        refine Memory.wf_cons.mpr ⟨fun c hc => ?_, h2, Memory.insert_wf hb h3⟩
        rcases Memory.mem_insert hc with rfl | hc
        · show k < a; omega
        · exact h1 c hc

/-- Writing a byte keeps the canonical form. -/
theorem Memory.write_wf {m : Memory} (a : Nat) (b : Byte) (h : m.wf = true) : (m.write a b).wf = true := by
  unfold Memory.write
  split
  · exact Memory.filter_wf _ h
  · next hb => exact Memory.insert_wf hb h

/-- Storing bytes keeps the canonical form. -/
theorem Memory.store_wf : ∀ {m : Memory} (a : Nat) (bs : List Byte), m.wf = true → (m.store a bs).wf = true
  | _, _, [], h => h
  | _, a, b :: bs, h => Memory.store_wf (a + 1) bs (Memory.write_wf a b h)

theorem Memory.byte_filter (a x : Nat) : ∀ m : Memory, Memory.byte (m.filter (fun c => c.1 ≠ a)) x = if x = a then 0 else m.byte x
  | [] => by simp [Memory.byte]
  | (k, b) :: m => by
    have ih := Memory.byte_filter a x m
    by_cases hk : k = a
    · subst hk
      have : List.filter (fun c : Host.Cell => decide (c.1 ≠ k)) ((k, b) :: m) = m.filter (fun c => c.1 ≠ k) := by simp
      rw [this, ih]
      by_cases hx : x = k
      · simp [hx]
      · simp [hx, Memory.byte, Ne.symm hx]
    · have : List.filter (fun c : Host.Cell => decide (c.1 ≠ a)) ((k, b) :: m) = (k, b) :: m.filter (fun c => c.1 ≠ a) := by simp [hk]
      rw [this]
      by_cases hx : k = x
      · subst hx; simp [Memory.byte, hk]
      · simp [Memory.byte, hx]; simpa using ih

theorem Memory.byte_above {a : Nat} : ∀ {m : Memory}, m.above a → m.byte a = 0
  | [], _ => rfl
  | (k, b) :: m, h => by
    have hk := h (k, b) (List.mem_cons_self ..)
    have : k ≠ a := by simp only at hk; omega
    simp [Memory.byte, this, Memory.byte_above (fun c hc => h c (List.mem_cons_of_mem _ hc))]

theorem Memory.byte_insert (a x : Nat) (b : Byte) : ∀ {m : Memory}, m.wf = true → (m.insert a b).byte x = if x = a then b else m.byte x
  | [], _ => by simp [Memory.insert, Memory.byte, eq_comm]
  | (k, d) :: m, h => by
    obtain ⟨h1, -, h3⟩ := Memory.wf_cons.mp h
    simp only [Memory.insert]
    split
    · by_cases hx : a = x
      · simp [Memory.byte, hx]
      · simp [Memory.byte, hx, Ne.symm hx]
    · split
      · next heq =>
        subst heq
        by_cases hx : a = x
        · simp [Memory.byte, hx]
        · simp [Memory.byte, hx, Ne.symm hx]
      · next hlt hne =>
        by_cases hx : k = x
        · subst hx; simp [Memory.byte, Ne.symm hne]
        · simp [Memory.byte, hx, Memory.byte_insert a x b h3]

/-- R372: a byte reads as it was last written, and every other byte as before. -/
theorem Memory.byte_write {m : Memory} (a x : Nat) (b : Byte) (h : m.wf = true) : (m.write a b).byte x = if x = a then b else m.byte x := by
  unfold Memory.write
  split
  · next hb => rw [Memory.byte_filter, hb]
  · exact Memory.byte_insert a x b h

/-- The bytes that a store writes read back, and every other byte is as before. -/
theorem Memory.byte_store : ∀ {m : Memory} (a : Nat) (bs : List Byte) (x : Nat), m.wf = true →
    (m.store a bs).byte x = if a ≤ x ∧ x < a + bs.length then (bs[x - a]?).getD 0 else m.byte x
  | m, a, [], x, _ => by simp [Memory.store]
  | m, a, b :: bs, x, h => by
    rw [Memory.store, Memory.byte_store (a + 1) bs x (Memory.write_wf a b h), Memory.byte_write a x b h]
    by_cases h1 : x = a
    · subst h1
      simp
    · by_cases h2 : a + 1 ≤ x ∧ x < a + 1 + bs.length
      · have h3 : a ≤ x ∧ x < a + (b :: bs).length := by simp only [List.length_cons]; omega
        have h4 : x - a = (x - (a + 1)) + 1 := by omega
        rw [if_pos h2, if_pos h3, h4]; simp
      · have h3 : ¬ (a ≤ x ∧ x < a + (b :: bs).length) := by simp only [List.length_cons]; omega
        rw [if_neg h2, if_neg h3, if_neg h1]

end Sys2Proof.Machine
end

