-- ==== Sys2Proof/Laws/Ops.lean ====
section
/-! SUPPORT. Laws/Ops.lean: for each shared operation, all that it can change (Machine/Ops.lean, Machine/Window.lean). -/
namespace Sys2Proof.Machine

/-- What a loop keeps at each step it keeps as a whole. -/
theorem forEach_rel {σ α : Type} {R : σ → σ → Prop} (refl : ∀ s, R s s) (trans : ∀ {a b c}, R a b → R b c → R a c) (xs : List α) (f : α → σ → σ)
    (h : ∀ a s, R s (f a s)) (s : σ) : R s (forEach xs f s) := by
  unfold forEach
  induction xs generalizing s with
  | nil => exact refl s
  | cons a xs ih => exact trans (h a s) (ih _)

/-! ### Flows -/

/-- Only the flows differ. -/
def FlowsOnly (s t : State) : Prop := ∃ fl, t = { s with netw.flows := fl }

theorem FlowsOnly.refl (s : State) : FlowsOnly s s := ⟨s.netw.flows, rfl⟩

theorem FlowsOnly.trans {a b c : State} : FlowsOnly a b → FlowsOnly b c → FlowsOnly a c := by
  rintro ⟨x, rfl⟩ ⟨y, rfl⟩; exact ⟨y, rfl⟩

theorem setFlow_only (f : Nat) (x : Flow) (s : State) : FlowsOnly s (setFlow f x s) := ⟨_, rfl⟩

theorem feedFlow_only (i : Item) (f : Nat) (s : State) : FlowsOnly s (feedFlow i f s) := by
  unfold feedFlow
  simp only
  split
  · split
    · exact .refl s
    · split
      · split
        · exact .refl s
        · exact setFlow_only ..
      · exact setFlow_only ..
  · exact .refl s

/-- An item changes flows only. -/
theorem feed_only (i : Item) (s : State) : FlowsOnly s (feed i s) := forEach_rel .refl .trans _ _ (fun f s => feedFlow_only i f s) s

theorem switchFlows_only (p src e : Nat) (s : State) : FlowsOnly s (switchFlows p src e s) := by
  refine forEach_rel .refl .trans _ _ (fun f s => ?_) s
  dsimp only
  split
  · exact .refl s
  · exact setFlow_only ..

theorem closeUnits_only (b : Bool) (p src : Nat) (s : State) : FlowsOnly s (closeUnits b p src s) := by
  refine forEach_rel .refl .trans _ _ (fun f s => ?_) s
  split
  · split
    · exact setFlow_only ..
    · exact .refl s
  · exact .refl s

/-- The stop of a source changes flows only. -/
theorem closeProduct_only (p src : Nat) (s : State) : FlowsOnly s (closeProduct p src s) :=
  (closeUnits_only true p src s).trans (switchFlows_only ..)

/-! ### Shaesh messages and the log -/

/-- Only the messages sent, kept for replay and waiting differ. -/
def SentOnly (s t : State) : Prop := ∃ a b n w, t = { s with twin.sent := a, twin.replay := b, twin.txNext := n, twin.waiting := w }

theorem SentOnly.refl (s : State) : SentOnly s s := ⟨s.twin.sent, s.twin.replay, s.twin.txNext, s.twin.waiting, rfl⟩

theorem SentOnly.trans {a b c : State} : SentOnly a b → SentOnly b c → SentOnly a c := by
  rintro ⟨_, _, _, _, rfl⟩ ⟨x, y, z, w, rfl⟩; exact ⟨x, y, z, w, rfl⟩

theorem transmit_only (m : TwinMsg) (s : State) : SentOnly s (transmit m s) := ⟨_, _, s.twin.txNext, s.twin.waiting, rfl⟩

/-- A sequenced message changes only what was sent, what may be sent again and what waits. -/
theorem sendSeq_only (typ : Nat) (p : List Byte) (s : State) : SentOnly s (sendSeq typ p s) := by
  unfold sendSeq
  split
  · dsimp only
    split
    · exact ⟨_, _, _, s.twin.waiting, rfl⟩
    · exact ⟨s.twin.sent, s.twin.replay, _, _, rfl⟩
  · exact .refl s

/-- Only the log, the flows it feeds and the messages sent differ. -/
def LogOnly (s t : State) : Prop :=
  ∃ log fl a b n w, t = { s with sys.log := log, netw.flows := fl, twin.sent := a, twin.replay := b, twin.txNext := n, twin.waiting := w }

theorem LogOnly.refl (s : State) : LogOnly s s := ⟨s.sys.log, s.netw.flows, s.twin.sent, s.twin.replay, s.twin.txNext, s.twin.waiting, rfl⟩

theorem LogOnly.trans {a b c : State} : LogOnly a b → LogOnly b c → LogOnly a c := by
  rintro ⟨_, _, _, _, _, _, rfl⟩ ⟨u, v, x, y, z, w, rfl⟩; exact ⟨u, v, x, y, z, w, rfl⟩

theorem FlowsOnly.log {s t : State} : FlowsOnly s t → LogOnly s t := by
  rintro ⟨x, rfl⟩; exact ⟨_, x, _, _, _, _, rfl⟩

theorem SentOnly.log {s t : State} : SentOnly s t → LogOnly s t := by
  rintro ⟨x, y, z, w, rfl⟩; exact ⟨_, _, x, y, z, w, rfl⟩

theorem pushLog_only (e : LogEntry) (s : State) : LogOnly s (pushLog e s) := ⟨(pushLog e s).sys.log, _, _, _, _, _, rfl⟩

/-- A log entry changes the log, flows that carry it, and messages sent. -/
theorem logCommit_only (e : LogEntry) (s : State) : LogOnly s (logCommit e s) := by
  unfold logCommit
  dsimp only
  split
  · exact (pushLog_only e s).trans ((feed_only _ _).log.trans (sendSeq_only ..).log)
  · exact (pushLog_only e s).trans (feed_only _ _).log

theorem logNow_only (e : LogEntry) (s : State) : LogOnly s (logNow e s) := logCommit_only ..
theorem logDevice_only (a b c d : Nat) (s : State) : LogOnly s (logDevice a b c d s) := logNow_only ..
theorem logDeviceN_only (a b c d n : Nat) (s : State) : LogOnly s (logDeviceN a b c d n s) := logNow_only ..

theorem windows_only (w : List RegWindow) (s : State) : LogOnly s { s with sys.log.windows := w } :=
  ⟨{ s.sys.log with windows := w }, s.netw.flows, s.twin.sent, s.twin.replay, s.twin.txNext, s.twin.waiting, rfl⟩

theorem closeWindows_only (p : RegWindow → Bool) (s : State) : LogOnly s (closeWindows p s) := by
  unfold closeWindows
  exact (windows_only _ s).trans (forEach_rel LogOnly.refl (fun h k => LogOnly.trans h k) _ _ (fun w s => logCommit_only ..) _)

/-- A logged register write changes the log, flows that carry it, and messages sent. -/
theorem logRegister_only (p : Principal) (a v : Nat) (s : State) : LogOnly s (logRegister p a v s) := by
  unfold logRegister
  generalize h : closeWindows _ s = u
  have hu : LogOnly s u := h ▸ closeWindows_only ..
  dsimp only
  split
  · exact hu.trans (windows_only ..)
  · exact hu.trans (windows_only ..)

/-! ### Windows -/

/-- A write with its right acts after its log entry. -/
theorem windowWrite_right (a : Acc) (logged : Bool) (unit off v : Nat) (act : State → State) (s : State) (h : a.principal ≠ .dbg ∨ s.core.unlocked = true) :
    ∃ t, LogOnly s t ∧ windowWrite a true logged unit off v act s = act t := by
  unfold windowWrite
  have : ¬ (a.principal = .dbg ∧ s.core.unlocked = false) := by rcases h with h | h <;> simp [h]
  rw [if_neg this]
  refine ⟨if logged = true then logRegister a.principal (regAddr unit off) v s else s, ?_, rfl⟩
  split
  · exact logRegister_only ..
  · exact .refl s

/-- A write without its right changes only the record of refusals and the count of bus errors (R434). -/
theorem windowWrite_refused (a : Acc) (logged : Bool) (unit off v : Nat) (act : State → State) (s : State) :
    ∃ r n, windowWrite a false logged unit off v act s = { s with core.refused := r, core.busErrors := n } := by
  unfold windowWrite
  split
  · exact ⟨s.core.refused, s.core.busErrors, rfl⟩
  · simp only [refuseWindow, recordRefusal, Bool.false_eq_true, if_false]
    split <;> split <;> exact ⟨_, _, rfl⟩

end Sys2Proof.Machine
end

