-- ==== Sys2Proof/Laws/PerInstr.lean ====
section
/-! SUPPORT. Laws/PerInstr.lean: what the header of every well-formed Xesil command satisfies (R46, R53, R55), one lemma per
command of the table; a command that is no packet has no header. -/
namespace Sys2Proof.Laws

/-- The header of a command that is a Xesil packet (R46). -/
def Header.of : Instr → Option Hdr
  | .sessionOpen h _ _ => some h
  | .sessionClose h => some h
  | .sessionResync h => some h
  | .echo h _ => some h
  | .deviceInfo h => some h
  | .reset h _ => some h
  | .cancel h _ => some h
  | .detailRead h _ => some h
  | .stageOpen h => some h
  | .stageWrite h _ _ => some h
  | .stageRead h _ _ => some h
  | .stageDiscard h _ => some h
  | .stageBlock h _ _ _ _ => some h
  | .stageBlockDma h _ _ _ _ _ => some h
  | .stageLoadSaved h _ _ => some h
  | .stageSave h _ => some h
  | .cinch h _ _ _ _ _ _ => some h
  | .cinchCheck h _ => some h
  | .paramRead h _ => some h
  | .statusRead h _ _ => some h
  | .countersRead h _ _ _ => some h
  | .telemetryRead h => some h
  | .digestRead h _ _ _ => some h
  | .logRead h _ _ => some h
  | .logMark h _ => some h
  | .logPersist h => some h
  | .testRun h _ _ _ _ => some h
  | .calibrate h _ _ _ _ => some h
  | .prbsControl h _ _ _ _ _ => some h
  | .eyeScan h _ => some h
  | .camRead h _ _ _ => some h
  | .camWrite h _ _ _ => some h
  | .camDiscover h _ => some h
  | .jobCompress h _ _ _ _ _ _ _ => some h
  | .jobDecompress h _ _ _ _ => some h
  | .jobCrc h _ _ _ _ => some h
  | .twinStatus h => some h
  | .twinAttach h => some h
  | .twinDetach h => some h
  | .twinYield h => some h
  | .storeList h _ _ => some h
  | .storeRead h _ _ _ => some h
  | .storeWrite h _ _ _ => some h
  | .storeErase h _ => some h
  | .fwStage h _ _ => some h
  | .fwCommit h _ => some h
  | .keyProvision h _ _ _ => some h
  | .keyRevoke h _ => some h
  | .powerStatus h => some h
  | .powerCapLimit h _ => some h
  | .thermalRestart h => some h
  | .orderlyStop h => some h
  | _ => none

/-- The header's fields fit their places, EPOCH is 0 unless EPOCH_CHECK or MIRRORED is set, and MIRRORED comes over Shaesh. -/
def Header.Statement (i : Instr) : Prop :=
  i.wf = true → ∀ h, Header.of i = some h →
    h.session < 2 ^ 32 ∧ h.seq < 2 ^ 32 ∧ h.tag < 2 ^ 16 ∧ h.epoch < 2 ^ 32 ∧ (h.epochCheck = false → h.mirrored = false → h.epoch = 0) ∧
      (h.mirrored = true → h.via = .shaesh)

theorem Header.of_wf (h : Hdr) (w : h.wf = true) :
    h.session < 2 ^ 32 ∧ h.seq < 2 ^ 32 ∧ h.tag < 2 ^ 16 ∧ h.epoch < 2 ^ 32 ∧ (h.epochCheck = false → h.mirrored = false → h.epoch = 0) ∧
      (h.mirrored = true → h.via = .shaesh) := by
  simp only [Hdr.wf, fits, Bool.and_eq_true, decide_eq_true_eq, Bool.or_eq_true, Bool.not_eq_true', beq_iff_eq] at w
  obtain ⟨⟨⟨⟨⟨⟨⟨_, h1⟩, h2⟩, h3⟩, h4⟩, h5⟩, h6⟩, _⟩ := w
  refine ⟨h1, h2, h3, h4, fun a b => ?_, fun a => ?_⟩
  · rcases h5 with (h5 | h5) | h5 <;> simp_all
  · rcases h6 with h6 | h6 <;> simp_all

theorem Header.ofSome {i : Instr} {h : Hdr} (e : Header.of i = some h) (w : i.wf = true → h.wf = true) : Header.Statement i := by
  intro wi k hk
  rw [e] at hk
  cases hk
  exact Header.of_wf h (w wi)

theorem Header.ofNone {i : Instr} (e : Header.of i = none) : Header.Statement i := by
  intro _ k hk
  rw [e] at hk
  cases hk

theorem Header.left {a b : Bool} (h : (a && b) = true) : a = true := ((Bool.and_eq_true a b).mp h).1

theorem Header.sessionOpen (h : Hdr) (pktSize idleMs : Nat) : Header.Statement (.sessionOpen h pktSize idleMs) :=
  Header.ofSome (h := h) rfl (fun w => Header.left (Header.left (w)))

theorem Header.sessionClose (h : Hdr) : Header.Statement (.sessionClose h) :=
  Header.ofSome (h := h) rfl (fun w => w)

theorem Header.sessionResync (h : Hdr) : Header.Statement (.sessionResync h) :=
  Header.ofSome (h := h) rfl (fun w => w)

theorem Header.echo (h : Hdr) (data : List Byte) : Header.Statement (.echo h data) :=
  Header.ofSome (h := h) rfl (fun w => Header.left (w))

theorem Header.deviceInfo (h : Hdr) : Header.Statement (.deviceInfo h) :=
  Header.ofSome (h := h) rfl (fun w => w)

theorem Header.reset (h : Hdr) (kind : Nat) : Header.Statement (.reset h kind) :=
  Header.ofSome (h := h) rfl (fun w => Header.left (w))

theorem Header.cancel (h : Hdr) (tag : Nat) : Header.Statement (.cancel h tag) :=
  Header.ofSome (h := h) rfl (fun w => Header.left (w))

theorem Header.detailRead (h : Hdr) (first : Nat) : Header.Statement (.detailRead h first) :=
  Header.ofSome (h := h) rfl (fun w => Header.left (w))

theorem Header.stageOpen (h : Hdr) : Header.Statement (.stageOpen h) :=
  Header.ofSome (h := h) rfl (fun w => w)

theorem Header.stageWrite (h : Hdr) (set : Nat) (entries : List (Nat × Nat)) : Header.Statement (.stageWrite h set entries) :=
  Header.ofSome (h := h) rfl (fun w => Header.left (Header.left (Header.left (w))))

theorem Header.stageRead (h : Hdr) (set : Nat) (ids : List Nat) : Header.Statement (.stageRead h set ids) :=
  Header.ofSome (h := h) rfl (fun w => Header.left (Header.left (Header.left (w))))

theorem Header.stageDiscard (h : Hdr) (set : Nat) : Header.Statement (.stageDiscard h set) :=
  Header.ofSome (h := h) rfl (fun w => Header.left (w))

theorem Header.stageBlock (h : Hdr) (set id off : Nat) (data : List Byte) : Header.Statement (.stageBlock h set id off data) :=
  Header.ofSome (h := h) rfl (fun w => Header.left (Header.left (Header.left (Header.left (w)))))

theorem Header.stageBlockDma (h : Hdr) (set id off len addr : Nat) : Header.Statement (.stageBlockDma h set id off len addr) :=
  Header.ofSome (h := h) rfl (fun w => Header.left (Header.left (Header.left (Header.left (Header.left (w))))))

theorem Header.stageLoadSaved (h : Hdr) (set item : Nat) : Header.Statement (.stageLoadSaved h set item) :=
  Header.ofSome (h := h) rfl (fun w => Header.left (Header.left (w)))

theorem Header.stageSave (h : Hdr) (item : Nat) : Header.Statement (.stageSave h item) :=
  Header.ofSome (h := h) rfl (fun w => Header.left (w))

theorem Header.cinch (h : Hdr) (set btype axis mask value limitMs : Nat) : Header.Statement (.cinch h set btype axis mask value limitMs) :=
  Header.ofSome (h := h) rfl (fun w => Header.left (Header.left (Header.left (Header.left (Header.left (Header.left (w)))))))

theorem Header.cinchCheck (h : Hdr) (set : Nat) : Header.Statement (.cinchCheck h set) :=
  Header.ofSome (h := h) rfl (fun w => Header.left (w))

theorem Header.paramRead (h : Hdr) (ids : List Nat) : Header.Statement (.paramRead h ids) :=
  Header.ofSome (h := h) rfl (fun w => Header.left (Header.left (w)))

theorem Header.statusRead (h : Hdr) (unit inst : Nat) : Header.Statement (.statusRead h unit inst) :=
  Header.ofSome (h := h) rfl (fun w => Header.left (Header.left (w)))

theorem Header.countersRead (h : Hdr) (unit inst clear : Nat) : Header.Statement (.countersRead h unit inst clear) :=
  Header.ofSome (h := h) rfl (fun w => Header.left (Header.left (Header.left (w))))

theorem Header.telemetryRead (h : Hdr) : Header.Statement (.telemetryRead h) :=
  Header.ofSome (h := h) rfl (fun w => w)

theorem Header.digestRead (h : Hdr) (flow first count : Nat) : Header.Statement (.digestRead h flow first count) :=
  Header.ofSome (h := h) rfl (fun w => Header.left (Header.left (Header.left (w))))

theorem Header.logRead (h : Hdr) (first count : Nat) : Header.Statement (.logRead h first count) :=
  Header.ofSome (h := h) rfl (fun w => Header.left (Header.left (w)))

theorem Header.logMark (h : Hdr) (text : List Byte) : Header.Statement (.logMark h text) :=
  Header.ofSome (h := h) rfl (fun w => Header.left (Header.left (w)))

theorem Header.logPersist (h : Hdr) : Header.Statement (.logPersist h) :=
  Header.ofSome (h := h) rfl (fun w => w)

theorem Header.testRun (h : Hdr) (test unit inst arg : Nat) : Header.Statement (.testRun h test unit inst arg) :=
  Header.ofSome (h := h) rfl (fun w => Header.left (Header.left (Header.left (Header.left (w)))))

theorem Header.calibrate (h : Hdr) (test unit inst arg : Nat) : Header.Statement (.calibrate h test unit inst arg) :=
  Header.ofSome (h := h) rfl (fun w => Header.left (Header.left (Header.left (Header.left (w)))))

theorem Header.prbsControl (h : Hdr) (lane pattern mode injection rate : Nat) : Header.Statement (.prbsControl h lane pattern mode injection rate) :=
  Header.ofSome (h := h) rfl (fun w => Header.left (Header.left (Header.left (Header.left (Header.left (w))))))

theorem Header.eyeScan (h : Hdr) (lane : Nat) : Header.Statement (.eyeScan h lane) :=
  Header.ofSome (h := h) rfl (fun w => Header.left (w))

theorem Header.camRead (h : Hdr) (port addr len : Nat) : Header.Statement (.camRead h port addr len) :=
  Header.ofSome (h := h) rfl (fun w => Header.left (Header.left (Header.left (w))))

theorem Header.camWrite (h : Hdr) (port addr : Nat) (data : List Byte) : Header.Statement (.camWrite h port addr data) :=
  Header.ofSome (h := h) rfl (fun w => Header.left (Header.left (Header.left (w))))

theorem Header.camDiscover (h : Hdr) (port : Nat) : Header.Statement (.camDiscover h port) :=
  Header.ofSome (h := h) rfl (fun w => Header.left (w))

theorem Header.jobCompress (h : Hdr) (src len product pred source dst cap : Nat) : Header.Statement (.jobCompress h src len product pred source dst cap) :=
  Header.ofSome (h := h) rfl (fun w => Header.left (Header.left (Header.left (Header.left (Header.left (Header.left (Header.left (w))))))))

theorem Header.jobDecompress (h : Hdr) (src len dst cap : Nat) : Header.Statement (.jobDecompress h src len dst cap) :=
  Header.ofSome (h := h) rfl (fun w => Header.left (Header.left (Header.left (Header.left (w)))))

theorem Header.jobCrc (h : Hdr) (preset addr len init : Nat) : Header.Statement (.jobCrc h preset addr len init) :=
  Header.ofSome (h := h) rfl (fun w => Header.left (Header.left (Header.left (Header.left (w)))))

theorem Header.twinStatus (h : Hdr) : Header.Statement (.twinStatus h) :=
  Header.ofSome (h := h) rfl (fun w => w)

theorem Header.twinAttach (h : Hdr) : Header.Statement (.twinAttach h) :=
  Header.ofSome (h := h) rfl (fun w => w)

theorem Header.twinDetach (h : Hdr) : Header.Statement (.twinDetach h) :=
  Header.ofSome (h := h) rfl (fun w => w)

theorem Header.twinYield (h : Hdr) : Header.Statement (.twinYield h) :=
  Header.ofSome (h := h) rfl (fun w => w)

theorem Header.storeList (h : Hdr) (first count : Nat) : Header.Statement (.storeList h first count) :=
  Header.ofSome (h := h) rfl (fun w => Header.left (Header.left (w)))

theorem Header.storeRead (h : Hdr) (item off len : Nat) : Header.Statement (.storeRead h item off len) :=
  Header.ofSome (h := h) rfl (fun w => Header.left (Header.left (Header.left (w))))

theorem Header.storeWrite (h : Hdr) (item off : Nat) (data : List Byte) : Header.Statement (.storeWrite h item off data) :=
  Header.ofSome (h := h) rfl (fun w => Header.left (Header.left (Header.left (w))))

theorem Header.storeErase (h : Hdr) (item : Nat) : Header.Statement (.storeErase h item) :=
  Header.ofSome (h := h) rfl (fun w => Header.left (w))

theorem Header.fwStage (h : Hdr) (off : Nat) (data : List Byte) : Header.Statement (.fwStage h off data) :=
  Header.ofSome (h := h) rfl (fun w => Header.left (Header.left (w)))

theorem Header.fwCommit (h : Hdr) (len : Nat) : Header.Statement (.fwCommit h len) :=
  Header.ofSome (h := h) rfl (fun w => Header.left (w))

theorem Header.keyProvision (h : Hdr) (slot role : Nat) (key : List Byte) : Header.Statement (.keyProvision h slot role key) :=
  Header.ofSome (h := h) rfl (fun w => Header.left (Header.left (Header.left (w))))

theorem Header.keyRevoke (h : Hdr) (slot : Nat) : Header.Statement (.keyRevoke h slot) :=
  Header.ofSome (h := h) rfl (fun w => Header.left (w))

theorem Header.powerStatus (h : Hdr) : Header.Statement (.powerStatus h) :=
  Header.ofSome (h := h) rfl (fun w => w)

theorem Header.powerCapLimit (h : Hdr) (lowest : Nat) : Header.Statement (.powerCapLimit h lowest) :=
  Header.ofSome (h := h) rfl (fun w => Header.left (w))

theorem Header.thermalRestart (h : Hdr) : Header.Statement (.thermalRestart h) :=
  Header.ofSome (h := h) rfl (fun w => w)

theorem Header.orderlyStop (h : Hdr) : Header.Statement (.orderlyStop h) :=
  Header.ofSome (h := h) rfl (fun w => w)

theorem Header.packetRejected (p : BadPacket) : Header.Statement (.packetRejected p) := Header.ofNone rfl

theorem Header.mailboxEndMarkMissing (pair : Fin 4) : Header.Statement (.mailboxEndMarkMissing pair) := Header.ofNone rfl

theorem Header.udpAuthFailure (addr : Nat) : Header.Statement (.udpAuthFailure addr) := Header.ofNone rfl

theorem Header.seqHoldTimeout (session : Nat) : Header.Statement (.seqHoldTimeout session) := Header.ofNone rfl

theorem Header.sessionIdleTimeout (session : Nat) : Header.Statement (.sessionIdleTimeout session) := Header.ofNone rfl

theorem Header.authBlockExpiry (addr : Nat) : Header.Statement (.authBlockExpiry addr) := Header.ofNone rfl

theorem Header.deferredTimeLimit (session seq : Nat) : Header.Statement (.deferredTimeLimit session seq) := Header.ofNone rfl

theorem Header.deferredCompletion (session seq : Nat) (res : DeferredResult) : Header.Statement (.deferredCompletion session seq res) := Header.ofNone rfl

theorem Header.logRegisterWindowClose (principal : Principal) (addr : Nat) : Header.Statement (.logRegisterWindowClose principal addr) := Header.ofNone rfl

theorem Header.loggedRegisterWrite (principal : Principal) (addr : Nat) (value : Word32) : Header.Statement (.loggedRegisterWrite principal addr value) := Header.ofNone rfl

theorem Header.laneSignalDetect (lane : Fin 64) : Header.Statement (.laneSignalDetect lane) := Header.ofNone rfl

theorem Header.laneSignalLoss (lane : Fin 64) : Header.Statement (.laneSignalLoss lane) := Header.ofNone rfl

theorem Header.laneBiasSettled (lane : Fin 64) : Header.Statement (.laneBiasSettled lane) := Header.ofNone rfl

theorem Header.fullAdaptationDone (lane : Fin 64) (eyeOpen : Bool) (ctle : Nat) (dfe : List Int) : Header.Statement (.fullAdaptationDone lane eyeOpen ctle dfe) := Header.ofNone rfl

theorem Header.laneLossOfLock (lane : Fin 64) : Header.Statement (.laneLossOfLock lane) := Header.ofNone rfl

theorem Header.laneIdleMax (lane : Fin 64) : Header.Statement (.laneIdleMax lane) := Header.ofNone rfl

theorem Header.relockDone (lane : Fin 64) (confirmed : Bool) : Header.Statement (.relockDone lane confirmed) := Header.ofNone rfl

theorem Header.adaptationStep (lane : Fin 64) (dCtle : Int) (tap : Fin 5) (dTap : Int) : Header.Statement (.adaptationStep lane dCtle tap dTap) := Header.ofNone rfl

theorem Header.wordAlignmentGained (lane : Fin 64) : Header.Statement (.wordAlignmentGained lane) := Header.ofNone rfl

theorem Header.alignLost (lane : Fin 64) : Header.Statement (.alignLost lane) := Header.ofNone rfl

theorem Header.bitslip (a : Acc) (lane : Fin 64) : Header.Statement (.bitslip a lane) := Header.ofNone rfl

theorem Header.snap (a : Acc) (w : BlockWrite 64) (errs bits : Nat) : Header.Statement (.snap a w errs bits) := Header.ofNone rfl

theorem Header.cntClear (a : Acc) (w : LaneWrite) : Header.Statement (.cntClear a w) := Header.ofNone rfl

theorem Header.comparatorWindowEnd (lane : Fin 64) (hits invHits : Nat) : Header.Statement (.comparatorWindowEnd lane hits invHits) := Header.ofNone rfl

theorem Header.prbsSyncLoss (lane : Fin 64) (errs bits : Nat) : Header.Statement (.prbsSyncLoss lane errs bits) := Header.ofNone rfl

theorem Header.prbsSyncGained (lane : Fin 64) : Header.Statement (.prbsSyncGained lane) := Header.ofNone rfl

theorem Header.portLinkEstablishment (port : Fin 16) (accepted : Bool) : Header.Statement (.portLinkEstablishment port accepted) := Header.ofNone rfl

theorem Header.linkDown (port : Fin 16) : Header.Statement (.linkDown port) := Header.ofNone rfl

theorem Header.linkRetry (port : Fin 16) : Header.Statement (.linkRetry port) := Header.ofNone rfl

theorem Header.streamDataPacket (port : Fin 16) (payload : List Byte) (crcOk codeOk : Bool) (place : StreamPlace) : Header.Statement (.streamDataPacket port payload crcOk codeOk place) := Header.ofNone rfl

theorem Header.rectangularImageHeader (port : Fin 16) (xsize ysize bits comps : Nat) : Header.Statement (.rectangularImageHeader port xsize ysize bits comps) := Header.ofNone rfl

theorem Header.lineMarker (port : Fin 16) : Header.Statement (.lineMarker port) := Header.ofNone rfl

theorem Header.controlAcknowledgement (port : Fin 16) (tag : Nat) (waitMs : Option Nat) (refused : Bool) (data : List Byte) : Header.Statement (.controlAcknowledgement port tag waitMs refused data) := Header.ofNone rfl

theorem Header.triggerPacketReceived (port : Fin 16) : Header.Statement (.triggerPacketReceived port) := Header.ofNone rfl

theorem Header.triggerAcknowledgement (port : Fin 16) : Header.Statement (.triggerAcknowledgement port) := Header.ofNone rfl

theorem Header.heartbeat (port : Fin 16) : Header.Statement (.heartbeat port) := Header.ofNone rfl

theorem Header.eventPacket (port : Fin 16) (payload : List Byte) : Header.Statement (.eventPacket port payload) := Header.ofNone rfl

theorem Header.testPacket (port : Fin 16) : Header.Statement (.testPacket port) := Header.ofNone rfl

theorem Header.unknownPacket (port : Fin 16) : Header.Statement (.unknownPacket port) := Header.ofNone rfl

theorem Header.rawLineSegment (port : Fin 16) (k : Fin 4) (seg : RawSegment) : Header.Statement (.rawLineSegment port k seg) := Header.ofNone rfl

theorem Header.controlReply (port : Fin 16) (tag status : Nat) (m : RawMessage) : Header.Statement (.controlReply port tag status m) := Header.ofNone rfl

theorem Header.rawEventSegment (port : Fin 16) (m : RawMessage) : Header.Statement (.rawEventSegment port m) := Header.ofNone rfl

theorem Header.lineDueTrigger (port : Fin 16) : Header.Statement (.lineDueTrigger port) := Header.ofNone rfl

theorem Header.freeRunDue (port : Fin 16) : Header.Statement (.freeRunDue port) := Header.ofNone rfl

theorem Header.lineTimeout (port : Fin 16) : Header.Statement (.lineTimeout port) := Header.ofNone rfl

theorem Header.portLineAssembled (port : Fin 16) : Header.Statement (.portLineAssembled port) := Header.ofNone rfl

theorem Header.portLineDelivered (line : PortRead) : Header.Statement (.portLineDelivered line) := Header.ofNone rfl

theorem Header.longFrameHoldEnd (port : Fin 16) : Header.Statement (.longFrameHoldEnd port) := Header.ofNone rfl

theorem Header.heartbeatLost (port : Fin 16) : Header.Statement (.heartbeatLost port) := Header.ofNone rfl

theorem Header.camsetSend (port : Fin 16) : Header.Statement (.camsetSend port) := Header.ofNone rfl

theorem Header.camsetFail (port : Fin 16) (timeout : Bool) : Header.Statement (.camsetFail port timeout) := Header.ofNone rfl

theorem Header.camAccessTimeout (port : Fin 16) (tag : Nat) : Header.Statement (.camAccessTimeout port tag) := Header.ofNone rfl

theorem Header.quadratureEdge (axis : Fin 8) (ab : Bool × Bool) : Header.Statement (.quadratureEdge axis ab) := Header.ofNone rfl

theorem Header.illegalTransition (axis : Fin 8) : Header.Statement (.illegalTransition axis) := Header.ofNone rfl

theorem Header.encIndex (axis : Fin 8) : Header.Statement (.encIndex axis) := Header.ofNone rfl

theorem Header.ssiRead (axis : Fin 8) (word : Option Nat) : Header.Statement (.ssiRead axis word) := Header.ofNone rfl

theorem Header.observerUpdate (axis : Fin 8) : Header.Statement (.observerUpdate axis) := Header.ofNone rfl

theorem Header.encStill (axis : Fin 8) : Header.Statement (.encStill axis) := Header.ofNone rfl

theorem Header.validSettled (axis : Fin 8) : Header.Statement (.validSettled axis) := Header.ofNone rfl

theorem Header.ltgTimerStep (ltg : Fin 16) : Header.Statement (.ltgTimerStep ltg) := Header.ofNone rfl

theorem Header.ltgHeldIssue (ltg : Fin 16) : Header.Statement (.ltgHeldIssue ltg) := Header.ofNone rfl

theorem Header.pcPulseEnd (pc : Fin 8) : Header.Statement (.pcPulseEnd pc) := Header.ofNone rfl

theorem Header.pcInsCmd (a : Acc) (pc : Fin 8) (value : Word32) : Header.Statement (.pcInsCmd a pc value) := Header.ofNone rfl

theorem Header.clear (a : Acc) (pc : Fin 8) : Header.Statement (.clear a pc) := Header.ofNone rfl

theorem Header.delete (a : Acc) (pc : Fin 8) (tag : Word16) : Header.Statement (.delete a pc tag) := Header.ofNone rfl

theorem Header.pcFiredRead (a : Acc) (pc : Fin 8) : Header.Statement (.pcFiredRead a pc) := Header.ofNone rfl

theorem Header.pcMissedRead (a : Acc) (pc : Fin 8) : Header.Statement (.pcMissedRead a pc) := Header.ofNone rfl

theorem Header.axPosCapture (a : Acc) (axis : Fin 8) : Header.Statement (.axPosCapture a axis) := Header.ofNone rfl

theorem Header.stripLine (strip : Fin 16) (soft hard : List Nat) (upset : LineUpset (Nat × Nat)) : Header.Statement (.stripLine strip soft hard upset) := Header.ofNone rfl

theorem Header.shadeUpdate (strip : Fin 16) : Header.Statement (.shadeUpdate strip) := Header.ofNone rfl

theorem Header.calibLoad (strip : Fin 16) : Header.Statement (.calibLoad strip) := Header.ofNone rfl

theorem Header.colourLine (strip : Fin 16) (upset : LineUpset (Nat × Nat)) : Header.Statement (.colourLine strip upset) := Header.ofNone rfl

theorem Header.stchDelayWrite (port : Fin 16) : Header.Statement (.stchDelayWrite port) := Header.ofNone rfl

theorem Header.stitchedLine (readErr : List (Nat × Nat)) (upset : LineUpset (Nat × Nat × Nat × Nat)) : Header.Statement (.stitchedLine readErr upset) := Header.ofNone rfl

theorem Header.areaComposition (readErr : List Nat) (upset : LineUpset (Nat × Nat × Nat)) : Header.Statement (.areaComposition readErr upset) := Header.ofNone rfl

theorem Header.composeLate (port : Fin 16) : Header.Statement (.composeLate port) := Header.ofNone rfl

theorem Header.segmLine (ecc : List (Nat × Fin 26)) (upset : List (Nat × Nat)) : Header.Statement (.segmLine ecc upset) := Header.ofNone rfl

theorem Header.unitFormed (f : Fin 1024) : Header.Statement (.unitFormed f) := Header.ofNone rfl

theorem Header.logUnitTimeout (f : Fin 1024) : Header.Statement (.logUnitTimeout f) := Header.ofNone rfl

theorem Header.engineStop (e : Fin 16) (inDone outDone : Nat) : Header.Statement (.engineStop e inDone outDone) := Header.ofNone rfl

theorem Header.engineResume (e : Fin 16) : Header.Statement (.engineResume e) := Header.ofNone rfl

theorem Header.codingDone (e : Fin 20) : Header.Statement (.codingDone e) := Header.ofNone rfl

theorem Header.engineOutOfService (e : Fin 16) : Header.Statement (.engineOutOfService e) := Header.ofNone rfl

theorem Header.jobTimeout (session seq : Nat) : Header.Statement (.jobTimeout session seq) := Header.ofNone rfl

theorem Header.segmentSend (port : Fin 3) : Header.Statement (.segmentSend port) := Header.ofNone rfl

theorem Header.netLink (port : Fin 3) (up : Bool) : Header.Statement (.netLink port up) := Header.ofNone rfl

theorem Header.pauseFrameReceived (port : Fin 3) (pfc : Bool) (stop go : List (Fin 8)) : Header.Statement (.pauseFrameReceived port pfc stop go) := Header.ofNone rfl

theorem Header.pauseExpiry (port : Fin 3) (prio : Option (Fin 8)) : Header.Statement (.pauseExpiry port prio) := Header.ofNone rfl

theorem Header.arpRequest (port : Fin 3) (v6 : Bool) (ask : AddressAsk) : Header.Statement (.arpRequest port v6 ask) := Header.ofNone rfl

theorem Header.icmpEchoRequest (port : Fin 3) (v6 : Bool) (ask : EchoAsk) : Header.Statement (.icmpEchoRequest port v6 ask) := Header.ofNone rfl

theorem Header.frameDiscarded (port : Fin 3) (f : BadFrame) : Header.Statement (.frameDiscarded port f) := Header.ofNone rfl

theorem Header.announce (port : Fin 3) (m : PtpHdr) (d : AnnounceData) : Header.Statement (.announce port m d) := Header.ofNone rfl

theorem Header.sync (port : Fin 3) (m : PtpHdr) (twoStep : Bool) (origin : Nat) : Header.Statement (.sync port m twoStep origin) := Header.ofNone rfl

theorem Header.followUp (port : Fin 3) (m : PtpHdr) (origin : Nat) : Header.Statement (.followUp port m origin) := Header.ofNone rfl

theorem Header.delayReq (port : Fin 3) (m : PtpHdr) : Header.Statement (.delayReq port m) := Header.ofNone rfl

theorem Header.delayResp (port : Fin 3) (m : PtpHdr) (receipt : Nat) : Header.Statement (.delayResp port m receipt) := Header.ofNone rfl

theorem Header.pdelayReq (port : Fin 3) (m : PtpHdr) : Header.Statement (.pdelayReq port m) := Header.ofNone rfl

theorem Header.pdelayResp (port : Fin 3) (m : PtpHdr) (followUp twoStep : Bool) (time : Nat) : Header.Statement (.pdelayResp port m followUp twoStep time) := Header.ofNone rfl

theorem Header.announceReceiptTimeout (port : Fin 3) : Header.Statement (.announceReceiptTimeout port) := Header.ofNone rfl

theorem Header.ptpMessageInterval (port : Fin 3) (typ : Nat) : Header.Statement (.ptpMessageInterval port typ) := Header.ofNone rfl

theorem Header.twinClaiming (lineHigh : Bool) : Header.Statement (.twinClaiming lineHigh) := Header.ofNone rfl

theorem Header.heartbeatReceived (hb : Heartbeat) (ack : Nat) : Header.Statement (.heartbeatReceived hb ack) := Header.ofNone rfl

theorem Header.ack (ack : Nat) : Header.Statement (.ack ack) := Header.ofNone rfl

theorem Header.nak (expected : Nat) (ack : Nat) : Header.Statement (.nak expected ack) := Header.ofNone rfl

theorem Header.command (m : MsgHdr) (packet : List Byte) : Header.Statement (.command m packet) := Header.ofNone rfl

theorem Header.reply (m : MsgHdr) (reply : Reply) : Header.Statement (.reply m reply) := Header.ofNone rfl

theorem Header.armed (m : MsgHdr) (epoch : Nat) : Header.Statement (.armed m epoch) := Header.ofNone rfl

theorem Header.windowWrite (m : MsgHdr) (principal : Principal) (addr : Nat) (value : Word32) : Header.Statement (.windowWrite m principal addr value) := Header.ofNone rfl

theorem Header.stamps (m : MsgHdr) (port : Fin 16) (stamps : List Stamp) : Header.Statement (.stamps m port stamps) := Header.ofNone rfl

theorem Header.adoptWaitExpiry (slot : Nat) : Header.Statement (.adoptWaitExpiry slot) := Header.ofNone rfl

theorem Header.event (m : MsgHdr) (consumer : Nat) (kind : Nat) (line : Nat) : Header.Statement (.event m consumer kind line) := Header.ofNone rfl

theorem Header.digests (m : MsgHdr) (entries : List DigestEntry) : Header.Statement (.digests m entries) := Header.ofNone rfl

theorem Header.disposed (m : MsgHdr) (entries : List DisposedEntry) : Header.Statement (.disposed m entries) := Header.ofNone rfl

theorem Header.log (m : MsgHdr) (entries : List LogEntry) : Header.Statement (.log m entries) := Header.ofNone rfl

theorem Header.divergence (m : MsgHdr) (e : DigestEntry) (own : Nat) : Header.Statement (.divergence m e own) := Header.ofNone rfl

theorem Header.yield (m : MsgHdr) : Header.Statement (.yield m) := Header.ofNone rfl

theorem Header.detach (m : MsgHdr) : Header.Statement (.detach m) := Header.ofNone rfl

theorem Header.joinReq (m : MsgHdr) : Header.Statement (.joinReq m) := Header.ofNone rfl

theorem Header.joinData (m : MsgHdr) (items : List JoinItem) : Header.Statement (.joinData m items) := Header.ofNone rfl

theorem Header.joinDone (m : MsgHdr) (status : Nat) (detail : Nat) : Header.Statement (.joinDone m status detail) := Header.ofNone rfl

theorem Header.memoryTransaction (ch : Fin 16) (waiting : List MemTxn) : Header.Statement (.memoryTransaction ch waiting) := Header.ofNone rfl

theorem Header.refreshInterval (ch : Fin 16) (bk : Fin 16) (burst idle : Bool) : Header.Statement (.refreshInterval ch bk burst idle) := Header.ofNone rfl

theorem Header.mr4Read (pkg : Fin 4) (rate : Nat) (hot : Bool) : Header.Statement (.mr4Read pkg rate hot) := Header.ofNone rfl

theorem Header.rhWindowEnd (ch : Fin 16) : Header.Statement (.rhWindowEnd ch) := Header.ofNone rfl

theorem Header.memPanic (r : Fin 8) (ch : Fin 16) (lag : Nat) : Header.Statement (.memPanic r ch lag) := Header.ofNone rfl

theorem Header.panicExit (r : Fin 8) (lags : List Nat) : Header.Statement (.panicExit r lags) := Header.ofNone rfl

theorem Header.retrainStart (ch : Fin 16) : Header.Statement (.retrainStart ch) := Header.ofNone rfl

theorem Header.retrainDone (ch : Fin 16) (eye : Bool) : Header.Statement (.retrainDone ch eye) := Header.ofNone rfl

theorem Header.mcErrHiRead (a : Acc) (ch : Fin 16) : Header.Statement (.mcErrHiRead a ch) := Header.ofNone rfl

theorem Header.rtpStatusRead (a : Acc) (r : Fin 8) : Header.Statement (.rtpStatusRead a r) := Header.ofNone rfl

theorem Header.qPushHi (a : Acc) (q : Fin 1024) (value : Word32) : Header.Statement (.qPushHi a q value) := Header.ofNone rfl

theorem Header.qPopLo (a : Acc) (q : Fin 1024) : Header.Statement (.qPopLo a q) := Header.ofNone rfl

theorem Header.flush (a : Acc) (q : Fin 1024) (unitMid : Bool) (beatsLeft : Nat) : Header.Statement (.flush a q unitMid beatsLeft) := Header.ofNone rfl

theorem Header.unitQueuePush (q : Fin 1024) (words : List Nat) : Header.Statement (.unitQueuePush q words) := Header.ofNone rfl

theorem Header.queueTimeout (q : Fin 1024) : Header.Statement (.queueTimeout q) := Header.ofNone rfl

theorem Header.start (a : Acc) (chan : Fin 64) (ctrl : Word32) : Header.Statement (.start a chan ctrl) := Header.ofNone rfl

theorem Header.stop (a : Acc) (w : BlockWrite 64) : Header.Statement (.stop a w) := Header.ofNone rfl

theorem Header.dmaBurstComplete (chan : Fin 64) : Header.Statement (.dmaBurstComplete chan) := Header.ofNone rfl

theorem Header.preset (a : Acc) (unit : Fin 8) (value : Word32) : Header.Statement (.preset a unit value) := Header.ofNone rfl

theorem Header.init (a : Acc) (unit : Fin 8) : Header.Statement (.init a unit) := Header.ofNone rfl

theorem Header.ckStateCapture (a : Acc) (unit : Fin 8) : Header.Statement (.ckStateCapture a unit) := Header.ofNone rfl

theorem Header.ckStateRestore (a : Acc) (unit : Fin 8) (hi : Bool) (value : Word32) : Header.Statement (.ckStateRestore a unit hi value) := Header.ofNone rfl

theorem Header.crcFeed (unit : Fin 8) : Header.Statement (.crcFeed unit) := Header.ofNone rfl

theorem Header.chkEccHiRead (a : Acc) : Header.Statement (.chkEccHiRead a) := Header.ofNone rfl

theorem Header.chkEccUe (memory : Fin 9) (index : Word32) (place : Nat × Nat) : Header.Statement (.chkEccUe memory index place) := Header.ofNone rfl

theorem Header.chkEccCe (memory : Fin 9) (index : Word32) : Header.Statement (.chkEccCe memory index) := Header.ofNone rfl

theorem Header.eventRouted (n : Nat) : Header.Statement (.eventRouted n) := Header.ofNone rfl

theorem Header.gpxEdge (pin : Fin 32) (high : Bool) : Header.Statement (.gpxEdge pin high) := Header.ofNone rfl

theorem Header.gpxPulseEnd (pin : Fin 32) : Header.Statement (.gpxPulseEnd pin) := Header.ofNone rfl

theorem Header.rnFire (a : Acc) (rein : Fin 256) (value : Word32) : Header.Statement (.rnFire a rein value) := Header.ofNone rfl

theorem Header.rgEnable (a : Acc) (mask : Word32) : Header.Statement (.rgEnable a mask) := Header.ofNone rfl

theorem Header.rgDisable (a : Acc) (mask : Word32) : Header.Statement (.rgDisable a mask) := Header.ofNone rfl

theorem Header.swFire (a : Acc) (value : Word32) : Header.Statement (.swFire a value) := Header.ofNone rfl

theorem Header.ccInputClear (input : Fin 40) : Header.Statement (.ccInputClear input) := Header.ofNone rfl

theorem Header.acWorldSet (a : Acc) (core : Fin 8) (machine : Bool) (value : Word32) : Header.Statement (.acWorldSet a core machine value) := Header.ofNone rfl

theorem Header.acIpWrite (a : Acc) (core : Fin 8) (value : Word32) : Header.Statement (.acIpWrite a core value) := Header.ofNone rfl

theorem Header.timerInterrupt (core : Fin 8) : Header.Statement (.timerInterrupt core) := Header.ofNone rfl

theorem Header.msip (a : Acc) (core : Fin 8) (value : Word32) : Header.Statement (.msip a core value) := Header.ofNone rfl

theorem Header.mtimeCapture (a : Acc) : Header.Statement (.mtimeCapture a) := Header.ofNone rfl

theorem Header.refuseInfoRead (a : Acc) : Header.Statement (.refuseInfoRead a) := Header.ofNone rfl

theorem Header.windowAccess (a : Acc) (write aligned : Bool) (addr : Nat) (value : Word32) : Header.Statement (.windowAccess a write aligned addr value) := Header.ofNone rfl

theorem Header.dramAccessRefused (a : Acc) (addr len : Nat) (write : Bool) : Header.Statement (.dramAccessRefused a addr len write) := Header.ofNone rfl

theorem Header.coreBoot (hdr : List Byte) : Header.Statement (.coreBoot hdr) := Header.ofNone rfl

theorem Header.coreLoaderDone (body : List Byte) (digest signature : Bool) : Header.Statement (.coreLoaderDone body digest signature) := Header.ofNone rfl

theorem Header.debugUnlock (request : List Byte) (good : Bool) : Header.Statement (.debugUnlock request good) := Header.ofNone rfl

theorem Header.go (a : Acc) (ch : Fin 8) (cmd : Word32) : Header.Statement (.go a ch cmd) := Header.ofNone rfl

theorem Header.twbClear (a : Acc) (ch : Fin 8) (cmd : Word32) : Header.Statement (.twbClear a ch cmd) := Header.ofNone rfl

theorem Header.twbReset (a : Acc) (ch : Fin 8) (cmd : Word32) : Header.Statement (.twbReset a ch cmd) := Header.ofNone rfl

theorem Header.twDone (ch : Fin 8) (result : Fin 3) (acked : Nat) (data : List Byte) : Header.Statement (.twDone ch result acked data) := Header.ofNone rfl

theorem Header.twArbLost (ch : Fin 8) (byte : Nat) : Header.Statement (.twArbLost ch byte) := Header.ofNone rfl

theorem Header.twTimeout (ch : Fin 8) (sda scl atStart : Bool) : Header.Statement (.twTimeout ch sda scl atStart) := Header.ofNone rfl

theorem Header.cureDone (ch : Fin 8) (freed : Bool) : Header.Statement (.cureDone ch freed) := Header.ofNone rfl

theorem Header.twAlert (ch : Fin 8) (low : Bool) (answer : Option (Fin 128)) : Header.Statement (.twAlert ch low answer) := Header.ofNone rfl

theorem Header.twAlertRead (a : Acc) (ch : Fin 8) : Header.Statement (.twAlertRead a ch) := Header.ofNone rfl

theorem Header.busFree (ch : Fin 8) : Header.Statement (.busFree ch) := Header.ofNone rfl

theorem Header.htAddress (addr : Fin 128) (reading again : Bool) : Header.Statement (.htAddress addr reading again) := Header.ofNone rfl

theorem Header.htWriteByte (value : Byte) : Header.Statement (.htWriteByte value) := Header.ofNone rfl

theorem Header.htAlertResponse (wins : Bool) : Header.Statement (.htAlertResponse wins) := Header.ofNone rfl

theorem Header.sensorReading (codes : List Int) : Header.Statement (.sensorReading codes) := Header.ofNone rfl

theorem Header.dramScrub (which : Option Nat) (flips : List (Fin 528)) : Header.Statement (.dramScrub which flips) := Header.ofNone rfl

theorem Header.sramScrub (corrected : Nat) (found : List (Fin 16 × Nat)) : Header.Statement (.sramScrub corrected found) := Header.ofNone rfl

theorem Header.eyeTracking (horizontal vertical : Nat) : Header.Statement (.eyeTracking horizontal vertical) := Header.ofNone rfl

theorem Header.retrainPeriod (ch : Option (Fin 16)) : Header.Statement (.retrainPeriod ch) := Header.ofNone rfl

theorem Header.gapWindowTest (unit inst : Nat) : Header.Statement (.gapWindowTest unit inst) := Header.ofNone rfl

theorem Header.testDone (unit inst : Nat) (outcome : Fin 3) (usecs detail measured : Nat) : Header.Statement (.testDone unit inst outcome usecs detail measured) := Header.ofNone rfl

theorem Header.storeBlockDone (good : Bool) : Header.Statement (.storeBlockDone good) := Header.ofNone rfl

theorem Header.pendingCompletion (item : Nat) : Header.Statement (.pendingCompletion item) := Header.ofNone rfl

theorem Header.porstNRelease (banks : Fin 4) : Header.Statement (.porstNRelease banks) := Header.ofNone rfl

theorem Header.synthesiserLock (clk : Fin 6) (m : Nat) : Header.Statement (.synthesiserLock clk m) := Header.ofNone rfl

theorem Header.bootRom (descA descB : List Byte) : Header.Statement (.bootRom descA descB) := Header.ofNone rfl

theorem Header.imageLoaded (hdr : List Byte) (good : Bool) : Header.Statement (.imageLoaded hdr good) := Header.ofNone rfl

theorem Header.trigPulseEnd (port : Fin 16) : Header.Statement (.trigPulseEnd port) := Header.ofNone rfl

theorem Header.ptpMessageDiscarded (port : Fin 3) : Header.Statement (.ptpMessageDiscarded port) := Header.ofNone rfl

theorem Header.claimConflictWindow (elapsed : Bool) : Header.Statement (.claimConflictWindow elapsed) := Header.ofNone rfl

theorem Header.shaeshMessageRejected (frame : List Byte) : Header.Statement (.shaeshMessageRejected frame) := Header.ofNone rfl

theorem Header.digestUnmatchedTimeout (e : DigestEntry) : Header.Statement (.digestUnmatchedTimeout e) := Header.ofNone rfl

theorem Header.joinAlignment (counts : List JoinCounts) : Header.Statement (.joinAlignment counts) := Header.ofNone rfl

theorem Header.joinCapture (stitched : Bool) : Header.Statement (.joinCapture stitched) := Header.ofNone rfl

theorem Header.elasticOverflow (f : SliceFill) : Header.Statement (.elasticOverflow f) := Header.ofNone rfl

theorem Header.retrainReadAheadFull (ch : Fin 16) : Header.Statement (.retrainReadAheadFull ch) := Header.ofNone rfl

theorem Header.retrainAbandoned (ch : Fin 16) : Header.Statement (.retrainAbandoned ch) := Header.ofNone rfl

theorem Header.l2EccError (cluster : Fin 2) (index line : Nat) (uncorr dirty : Bool) : Header.Statement (.l2EccError cluster index line uncorr dirty) := Header.ofNone rfl

theorem Header.restartDramHeld (good : Bool) : Header.Statement (.restartDramHeld good) := Header.ofNone rfl

theorem Header.htDoorbell : Header.Statement (.htDoorbell) := Header.ofNone rfl

theorem Header.htReplyConsumed : Header.Statement (.htReplyConsumed) := Header.ofNone rfl

theorem Header.cinchArmed : Header.Statement (.cinchArmed) := Header.ofNone rfl

theorem Header.cinchFire : Header.Statement (.cinchFire) := Header.ofNone rfl

theorem Header.cinchFinish : Header.Statement (.cinchFinish) := Header.ofNone rfl

theorem Header.cinchTimeLimit : Header.Statement (.cinchTimeLimit) := Header.ofNone rfl

theorem Header.logPersistPeriod : Header.Statement (.logPersistPeriod) := Header.ofNone rfl

theorem Header.logPersistRetry : Header.Statement (.logPersistRetry) := Header.ofNone rfl

theorem Header.recordFormed : Header.Statement (.recordFormed) := Header.ofNone rfl

theorem Header.patchCut : Header.Statement (.patchCut) := Header.ofNone rfl

theorem Header.engineTakesUnit : Header.Statement (.engineTakesUnit) := Header.ofNone rfl

theorem Header.timekeeperTick : Header.Statement (.timekeeperTick) := Header.ofNone rfl

theorem Header.claimSettleExpiry : Header.Statement (.claimSettleExpiry) := Header.ofNone rfl

theorem Header.claimTimerExpiry : Header.Statement (.claimTimerExpiry) := Header.ofNone rfl

theorem Header.claimRefresh : Header.Statement (.claimRefresh) := Header.ofNone rfl

theorem Header.shaeshLinkUp : Header.Statement (.shaeshLinkUp) := Header.ofNone rfl

theorem Header.shaeshLinkDown : Header.Statement (.shaeshLinkDown) := Header.ofNone rfl

theorem Header.heartbeatSend : Header.Statement (.heartbeatSend) := Header.ofNone rfl

theorem Header.replayTimeout : Header.Statement (.replayTimeout) := Header.ofNone rfl

theorem Header.mirrorAckTimeout : Header.Statement (.mirrorAckTimeout) := Header.ofNone rfl

theorem Header.joinRetry : Header.Statement (.joinRetry) := Header.ofNone rfl

theorem Header.twinHbLost : Header.Statement (.twinHbLost) := Header.ofNone rfl

theorem Header.takeover : Header.Statement (.takeover) := Header.ofNone rfl

theorem Header.zqLatch : Header.Statement (.zqLatch) := Header.ofNone rfl

theorem Header.dmaBurstDecision : Header.Statement (.dmaBurstDecision) := Header.ofNone rfl

theorem Header.htReadByte : Header.Statement (.htReadByte) := Header.ofNone rfl

theorem Header.htHostHold : Header.Statement (.htHostHold) := Header.ofNone rfl

theorem Header.riseWindow : Header.Statement (.riseWindow) := Header.ofNone rfl

theorem Header.siteCrossCheck : Header.Statement (.siteCrossCheck) := Header.ofNone rfl

theorem Header.thetaStepPeriod : Header.Statement (.thetaStepPeriod) := Header.ofNone rfl

theorem Header.thetaRecover : Header.Statement (.thetaRecover) := Header.ofNone rfl

theorem Header.powerEstimate : Header.Statement (.powerEstimate) := Header.ofNone rfl

theorem Header.orderlyStopStep : Header.Statement (.orderlyStopStep) := Header.ofNone rfl

theorem Header.quadBias : Header.Statement (.quadBias) := Header.ofNone rfl

theorem Header.stripUngate : Header.Statement (.stripUngate) := Header.ofNone rfl

theorem Header.wearLevelling : Header.Statement (.wearLevelling) := Header.ofNone rfl

theorem Header.teleSnap : Header.Statement (.teleSnap) := Header.ofNone rfl

theorem Header.porstNAssert : Header.Statement (.porstNAssert) := Header.ofNone rfl

theorem Header.powerDomainUp : Header.Statement (.powerDomainUp) := Header.ofNone rfl

theorem Header.bootFailed : Header.Statement (.bootFailed) := Header.ofNone rfl

theorem Header.storeMounted : Header.Statement (.storeMounted) := Header.ofNone rfl

theorem Header.dramInitialised : Header.Statement (.dramInitialised) := Header.ofNone rfl

theorem Header.bootSetCinch : Header.Statement (.bootSetCinch) := Header.ofNone rfl

theorem Header.joinAlignmentTimeout : Header.Statement (.joinAlignmentTimeout) := Header.ofNone rfl

end Sys2Proof.Laws
end

