-- ==== Sys2Proof/Tests/Slice0.lean ====
section
/-! SUPPORT. Tests/Slice0.lean: small tests of one step, the ill-formed terms that WellFormed refuses, and for each statement with
hypotheses a state and operands that meet them. -/
namespace Sys2Proof.Tests

-- one theorem after the other: each that evaluates in the kernel waits for those before it, and many waiting at once need much memory
set_option Elab.async false
open Sys2Proof Sys2Proof.Machine

/-- The state after reset with some applied values. -/
def withPrm (vs : Map Int) (s : State) : State := { s with sys.applied.vals := vs.foldl (fun m p => Map.insert m p.1 p.2) s.sys.applied.vals }

/-- An access by the supervisor. -/
def supAcc : Acc := { principal := .sup, source := 0 }

/-- Well-formed terms, from which the ill-formed ones differ in one place. -/
def gh : Hdr := { via := .ht, session := 5, seq := 1, tag := 1 }

def bh : Hdr := { gh with tag := 2 ^ 16 }

def gm : MsgHdr := ⟨1, 0⟩

def bm : MsgHdr := ⟨0, 0⟩

def gp : PtpHdr := {}

def bp : PtpHdr := { seqId := 2 ^ 16 }

def ga : AnnounceData := { priority1 := 0, clockClass := 0, accuracy := 0, variance := 0, priority2 := 0, identity := 0, stepsRemoved := 0, utcOffset := 0 }

def ba : AnnounceData := { ga with identity := 2 ^ 64 }

def gd : DigestEntry := ⟨0, 0, 0, 0, 0, 0, 0⟩

def bd : DigestEntry := { gd with flow := 2 ^ 16 }

def be : DisposedEntry := ⟨2 ^ 16, 0, 0⟩

def gb : Heartbeat := ⟨0, 0, false, false, 0, []⟩

def bb : Heartbeat := { gb with state := 8 }

def bs : Stamp := { port := 2 ^ 8 }

def bt : MemTxn := { req := 0, addr := 0xF80000000 }

def gr : Reply := { via := .shaesh, opcode := 4, tag := 1, session := 6, seq := 1, status := 0, epoch := 0, principal := 1, params := [] }

def acc : Acc := { principal := .sup }

/-- The terms that the checks accept. -/
theorem test_wf_accepts : gh.wf = true ∧ gm.wf = true ∧ gp.wf = true ∧ ga.wf = true ∧ gd.wf = true ∧ gb.wf = true ∧
    (DisposedEntry.wf ⟨0, 0, 0⟩) = true ∧ Stamp.wf {} = true ∧ MemTxn.wf { req := 0, addr := 64 } = true ∧
    ([.echo gh [], .stageWrite gh 3 [(2 ^ 32 - 1, 2 ^ 64 - 1)], .logMark gh [0], .sensorReading (List.replicate 24 0)] : List Instr).all Instr.wf = true := by
  decide

theorem test_wf_hdr : ([{ gh with via := .udp { mac := 2 ^ 48 } 0 0 }, { gh with via := .udp { ip := 2 ^ 128 } 0 0 }, { gh with via := .udp { port := 2 ^ 16 } 0 0 }, { gh with via := .udp {} (2 ^ 8) 0 }, { gh with via := .udp {} 0 (2 ^ 32) }, { gh with raw := some (List.replicate 4057 0) }, { gh with session := 2 ^ 32 }, { gh with seq := 2 ^ 32 }, { gh with tag := 2 ^ 16 }, { gh with epoch := 1 }, { gh with epochCheck := true, epoch := 2 ^ 32 }, { gh with mirrored := true }] : List Hdr).all (fun x => !x.wf) = true := by decide +kernel

theorem test_wf_msg : ([⟨0, 0⟩, ⟨2 ^ 32, 0⟩, ⟨1, 2 ^ 32⟩] : List MsgHdr).all (fun x => !x.wf) = true := by decide +kernel

theorem test_wf_stamp : ([{ port := 2 ^ 8 }, { lineInFrame := 2 ^ 24 }, { frame := 2 ^ 32 }, { epoch := 2 ^ 32 }, { globalLine := 2 ^ 48 }, { timeS := 2 ^ 48 }, { timeNs := 1000000000 }, { position := -2 ^ 47 - 1 }, { position := 2 ^ 47 }, { lineCheck := 2 ^ 32 }] : List Stamp).all (fun x => !x.wf) = true := by decide +kernel

theorem test_wf_digest_entry : ([{ gd with product := 2 ^ 8 }, { gd with source := 2 ^ 8 }, { gd with flow := 2 ^ 16 }, { gd with epoch := 2 ^ 32 }, { gd with firstId := 2 ^ 64 }, { gd with seq := 2 ^ 64 }, { gd with digest := 2 ^ 64 }] : List DigestEntry).all (fun x => !x.wf) = true := by decide +kernel

theorem test_wf_disposed_entry : ([⟨2 ^ 16, 0, 0⟩, ⟨0, 2 ^ 8, 0⟩, ⟨0, 0, 2 ^ 64⟩] : List DisposedEntry).all (fun x => !x.wf) = true := by decide +kernel

theorem test_wf_heartbeat : ([{ gb with state := 8 }, { gb with epoch := 2 ^ 32 }, { gb with slots := List.replicate 33 0 }] : List Heartbeat).all (fun x => !x.wf) = true := by decide +kernel

theorem test_wf_ptp_header : ([{ version := 16 }, { minorVersion := 16 }, { domain := 2 ^ 8 }, { sourcePort := 2 ^ 16 }, { seqId := 2 ^ 16 }] : List PtpHdr).all (fun x => !x.wf) = true := by decide +kernel

theorem test_wf_announce : ([{ ga with priority1 := 2 ^ 8 }, { ga with clockClass := 2 ^ 8 }, { ga with accuracy := 2 ^ 8 }, { ga with variance := 2 ^ 16 }, { ga with priority2 := 2 ^ 8 }, { ga with identity := 2 ^ 64 }, { ga with stepsRemoved := 2 ^ 16 }] : List AnnounceData).all (fun x => !x.wf) = true := by decide +kernel

theorem test_wf_mem_txn : ([{ req := 0, addr := 0xF80000000 }, { req := 0, addr := 0xF7FFFFFF0, len := 17 }, { req := 0, addr := 0, len := 0 }] : List MemTxn).all (fun x => !x.wf) = true := by decide +kernel

theorem test_wf_bad_packet : ([.packet (.udp { mac := 2 ^ 48 } 0 0) [], .packet .ht (List.replicate 4097 0), .datagram { mac := 2 ^ 48 } 0 [], .datagram {} (2 ^ 16) [], .datagram {} 0 (List.replicate 4137 0)] : List BadPacket).all (fun x => !x.wf) = true := by decide +kernel

theorem test_wf_command_1 : ([.sessionOpen bh 0 0,
    .sessionOpen gh (2 ^ 16) 0,
    .sessionOpen gh 0 (2 ^ 32),
    .sessionClose bh,
    .sessionResync bh,
    .echo bh [],
    .echo gh (List.replicate 4057 0),
    .deviceInfo bh,
    .reset bh 0,
    .reset gh (2 ^ 8),
    .cancel bh 0,
    .cancel gh (2 ^ 16),
    .detailRead bh 0,
    .detailRead gh (2 ^ 32),
    .stageOpen bh,
    .stageWrite bh 0 []] : List Instr).all (fun x => !x.wf) = true := by decide +kernel

theorem test_wf_command_2 : ([.stageWrite gh (2 ^ 8) [],
    .stageWrite gh 0 (List.replicate 254 (0, 0)),
    .stageRead bh 0 [],
    .stageRead gh (2 ^ 8) [],
    .stageRead gh 0 (List.replicate 1013 0),
    .stageRead gh 0 [2 ^ 32],
    .stageDiscard bh 0,
    .stageDiscard gh (2 ^ 8),
    .stageBlock bh 0 0 0 [],
    .stageBlock gh (2 ^ 8) 0 0 [],
    .stageBlock gh 0 (2 ^ 32) 0 [],
    .stageBlock gh 0 0 (2 ^ 32) [],
    .stageBlock gh 0 0 0 (List.replicate 4041 0),
    .stageBlockDma bh 0 0 0 0 0,
    .stageBlockDma gh (2 ^ 8) 0 0 0 0,
    .stageBlockDma gh 0 (2 ^ 32) 0 0 0] : List Instr).all (fun x => !x.wf) = true := by decide +kernel

theorem test_wf_command_3 : ([.stageBlockDma gh 0 0 (2 ^ 32) 0 0,
    .stageBlockDma gh 0 0 0 (2 ^ 32) 0,
    .stageBlockDma gh 0 0 0 0 (2 ^ 64),
    .stageLoadSaved bh 0 0,
    .stageLoadSaved gh (2 ^ 8) 0,
    .stageLoadSaved gh 0 (2 ^ 32),
    .stageSave bh 0,
    .stageSave gh (2 ^ 32),
    .cinch bh 0 0 0 0 0 0,
    .cinch gh (2 ^ 8) 0 0 0 0 0,
    .cinch gh 0 (2 ^ 8) 0 0 0 0,
    .cinch gh 0 0 (2 ^ 8) 0 0 0,
    .cinch gh 0 0 0 (2 ^ 16) 0 0,
    .cinch gh 0 0 0 0 (2 ^ 64) 0,
    .cinch gh 0 0 0 0 0 (2 ^ 32),
    .cinchCheck bh 0] : List Instr).all (fun x => !x.wf) = true := by decide +kernel

theorem test_wf_command_4 : ([.cinchCheck gh (2 ^ 8),
    .paramRead bh [],
    .paramRead gh (List.replicate 1014 0),
    .paramRead gh [2 ^ 32],
    .statusRead bh 0 0,
    .statusRead gh (2 ^ 8) 0,
    .statusRead gh 0 (2 ^ 8),
    .countersRead bh 0 0 0,
    .countersRead gh (2 ^ 8) 0 0,
    .countersRead gh 0 (2 ^ 8) 0,
    .countersRead gh 0 0 (2 ^ 8),
    .telemetryRead bh,
    .digestRead bh 0 0 0,
    .digestRead gh (2 ^ 16) 0 0,
    .digestRead gh 0 (2 ^ 64) 0,
    .digestRead gh 0 0 (2 ^ 32)] : List Instr).all (fun x => !x.wf) = true := by decide +kernel

theorem test_wf_command_5 : ([.logRead bh 0 0,
    .logRead gh (2 ^ 64) 0,
    .logRead gh 0 (2 ^ 32),
    .logMark bh [0],
    .logMark gh [],
    .logMark gh (List.replicate 49 0),
    .logPersist bh,
    .testRun bh 0 0 0 0,
    .testRun gh (2 ^ 16) 0 0 0,
    .testRun gh 0 (2 ^ 8) 0 0,
    .testRun gh 0 0 (2 ^ 8) 0,
    .testRun gh 0 0 0 (2 ^ 32),
    .calibrate bh 0 0 0 0,
    .calibrate gh (2 ^ 16) 0 0 0,
    .calibrate gh 0 (2 ^ 8) 0 0,
    .calibrate gh 0 0 (2 ^ 8) 0] : List Instr).all (fun x => !x.wf) = true := by decide +kernel

theorem test_wf_command_6 : ([.calibrate gh 0 0 0 (2 ^ 32),
    .prbsControl bh 0 0 0 0 0,
    .prbsControl gh (2 ^ 8) 0 0 0 0,
    .prbsControl gh 0 (2 ^ 8) 0 0 0,
    .prbsControl gh 0 0 (2 ^ 8) 0 0,
    .prbsControl gh 0 0 0 (2 ^ 8) 0,
    .prbsControl gh 0 0 0 0 (2 ^ 32),
    .eyeScan bh 0,
    .eyeScan gh (2 ^ 8),
    .camRead bh 0 0 0,
    .camRead gh (2 ^ 8) 0 0,
    .camRead gh 0 (2 ^ 32) 0,
    .camRead gh 0 0 (2 ^ 32),
    .camWrite bh 0 0 [],
    .camWrite gh (2 ^ 8) 0 [],
    .camWrite gh 0 (2 ^ 32) []] : List Instr).all (fun x => !x.wf) = true := by decide +kernel

theorem test_wf_command_7 : ([.camWrite gh 0 0 (List.replicate 4049 0),
    .camDiscover bh 0,
    .camDiscover gh (2 ^ 8),
    .jobCompress bh 0 0 0 0 0 0 0,
    .jobCompress gh (2 ^ 64) 0 0 0 0 0 0,
    .jobCompress gh 0 (2 ^ 32) 0 0 0 0 0,
    .jobCompress gh 0 0 (2 ^ 8) 0 0 0 0,
    .jobCompress gh 0 0 0 (2 ^ 8) 0 0 0,
    .jobCompress gh 0 0 0 0 (2 ^ 8) 0 0,
    .jobCompress gh 0 0 0 0 0 (2 ^ 64) 0,
    .jobCompress gh 0 0 0 0 0 0 (2 ^ 32),
    .jobDecompress bh 0 0 0 0,
    .jobDecompress gh (2 ^ 64) 0 0 0,
    .jobDecompress gh 0 (2 ^ 32) 0 0,
    .jobDecompress gh 0 0 (2 ^ 64) 0,
    .jobDecompress gh 0 0 0 (2 ^ 32)] : List Instr).all (fun x => !x.wf) = true := by decide +kernel

theorem test_wf_command_8 : ([.jobCrc bh 0 0 0 0,
    .jobCrc gh (2 ^ 8) 0 0 0,
    .jobCrc gh 0 (2 ^ 64) 0 0,
    .jobCrc gh 0 0 (2 ^ 32) 0,
    .jobCrc gh 0 0 0 (2 ^ 64),
    .twinStatus bh,
    .twinAttach bh,
    .twinDetach bh,
    .twinYield bh,
    .storeList bh 0 0,
    .storeList gh (2 ^ 32) 0,
    .storeList gh 0 (2 ^ 32),
    .storeRead bh 0 0 0,
    .storeRead gh (2 ^ 32) 0 0,
    .storeRead gh 0 (2 ^ 32) 0,
    .storeRead gh 0 0 (2 ^ 32)] : List Instr).all (fun x => !x.wf) = true := by decide +kernel

theorem test_wf_command_9 : ([.storeWrite bh 0 0 [],
    .storeWrite gh (2 ^ 32) 0 [],
    .storeWrite gh 0 (2 ^ 32) [],
    .storeWrite gh 0 0 (List.replicate 4049 0),
    .storeErase bh 0,
    .storeErase gh (2 ^ 32),
    .fwStage bh 0 [],
    .fwStage gh (2 ^ 32) [],
    .fwStage gh 0 (List.replicate 4049 0),
    .fwCommit bh 0,
    .fwCommit gh (2 ^ 32),
    .keyProvision bh 0 0 (List.replicate 32 0),
    .keyProvision gh (2 ^ 8) 0 (List.replicate 32 0),
    .keyProvision gh 0 (2 ^ 8) (List.replicate 32 0),
    .keyProvision gh 0 0 [],
    .keyRevoke bh 0] : List Instr).all (fun x => !x.wf) = true := by decide +kernel

theorem test_wf_command_10 : ([.keyRevoke gh (2 ^ 8),
    .powerStatus bh,
    .powerCapLimit bh 0,
    .powerCapLimit gh (2 ^ 8),
    .thermalRestart bh,
    .orderlyStop bh,
    .packetRejected (.packet (.udp { mac := 2 ^ 48 } 0 0) []),
    .udpAuthFailure (2 ^ 128),
    .seqHoldTimeout (2 ^ 32),
    .sessionIdleTimeout (2 ^ 32),
    .authBlockExpiry (2 ^ 128),
    .deferredTimeLimit (2 ^ 32) 0,
    .deferredTimeLimit 0 (2 ^ 32),
    .deferredCompletion (2 ^ 32) 0 { status := 0 },
    .deferredCompletion 0 (2 ^ 32) { status := 0 },
    .logRegisterWindowClose .sup (2 ^ 32)] : List Instr).all (fun x => !x.wf) = true := by decide +kernel

theorem test_wf_command_11 : ([.loggedRegisterWrite .sup (2 ^ 32) 0,
    .fullAdaptationDone 0 false (2 ^ 8) (List.replicate 5 0),
    .fullAdaptationDone 0 false 0 [],
    .streamDataPacket 0 [] false false { conn := 0, tag := 256 },
    .rectangularImageHeader 0 (2 ^ 24) 0 0 0,
    .rectangularImageHeader 0 0 (2 ^ 24) 0 0,
    .rectangularImageHeader 0 0 0 (2 ^ 8) 0,
    .rectangularImageHeader 0 0 0 0 (2 ^ 8),
    .controlAcknowledgement 0 (2 ^ 8) none false [],
    .rawLineSegment 0 0 { count := 2 ^ 24, wordCount := 0 },
    .controlReply 0 (2 ^ 8) 0 {},
    .controlReply 0 0 (2 ^ 8) {},
    .controlReply 0 0 0 { count := 2 ^ 24 },
    .rawEventSegment 0 { count := 2 ^ 24 },
    .portLineDelivered { port := 0, former := [(0, 256)] },
    .camAccessTimeout 0 (2 ^ 8)] : List Instr).all (fun x => !x.wf) = true := by decide +kernel

theorem test_wf_command_12 : ([.areaComposition [2 ^ 4] {},
    .jobTimeout (2 ^ 32) 0,
    .jobTimeout 0 (2 ^ 32),
    .arpRequest 0 false { addr := 2 ^ 128 },
    .icmpEchoRequest 0 false { addr := 0, data := List.replicate 9217 0 },
    .announce 0 bp ga,
    .announce 0 gp ba,
    .sync 0 bp false 0,
    .sync 0 gp false (2 ^ 48 * 1000000000),
    .followUp 0 bp 0,
    .followUp 0 gp (2 ^ 48 * 1000000000),
    .delayReq 0 bp,
    .delayResp 0 bp 0,
    .delayResp 0 gp (2 ^ 48 * 1000000000),
    .pdelayReq 0 bp,
    .pdelayResp 0 bp false false 0] : List Instr).all (fun x => !x.wf) = true := by decide +kernel

theorem test_wf_command_13 : ([.pdelayResp 0 gp false false (2 ^ 48 * 1000000000),
    .ptpMessageInterval 0 (2 ^ 4),
    .heartbeatReceived bb 0,
    .heartbeatReceived gb (2 ^ 32),
    .ack (2 ^ 32),
    .nak (2 ^ 32) 0,
    .nak 0 (2 ^ 32),
    .shaeshMessageRejected (List.replicate 8217 0),
    .command bm [],
    .command gm (List.replicate 4097 0),
    .armed bm 0,
    .armed gm (2 ^ 32),
    .windowWrite bm .sup 0 0,
    .windowWrite gm .sup (2 ^ 32) 0,
    .stamps bm 0 [],
    .stamps gm 0 [bs]] : List Instr).all (fun x => !x.wf) = true := by decide +kernel

theorem test_wf_command_14 : ([.adoptWaitExpiry 33,
    .event bm 0 0 0,
    .event gm (2 ^ 16) 0 0,
    .event gm 0 (2 ^ 16) 0,
    .event gm 0 0 (2 ^ 64),
    .digests bm [],
    .digests gm [bd],
    .digestUnmatchedTimeout bd,
    .disposed bm [],
    .disposed gm [be],
    .log bm [],
    .divergence bm gd 0,
    .divergence gm bd 0,
    .divergence gm gd (2 ^ 64),
    .yield bm,
    .detach bm] : List Instr).all (fun x => !x.wf) = true := by decide +kernel

theorem test_wf_command_15 : ([.joinReq bm,
    .joinData bm [],
    .joinDone bm 0 0,
    .joinDone gm (2 ^ 16) 0,
    .joinDone gm 0 (2 ^ 64),
    .memoryTransaction 0 [bt],
    .mr4Read 0 (2 ^ 8) false,
    .panicExit 0 [],
    .elasticOverflow { rtp := 0 },
    .unitQueuePush 0 [2 ^ 64],
    .windowAccess acc false false (2 ^ 37) 0,
    .dramAccessRefused acc (2 ^ 40) 0 false,
    .twDone 0 0 (2 ^ 8) [],
    .twDone 0 0 0 (List.replicate 256 0),
    .sensorReading [],
    .eyeTracking (2 ^ 8) 0] : List Instr).all (fun x => !x.wf) = true := by decide +kernel

theorem test_wf_command_16 : ([.eyeTracking 0 (2 ^ 8),
    .gapWindowTest (2 ^ 8) 0,
    .gapWindowTest 0 (2 ^ 8),
    .testDone (2 ^ 8) 0 0 0 0 0,
    .testDone 0 (2 ^ 8) 0 0 0 0,
    .testDone 0 0 0 (2 ^ 32) 0 0,
    .testDone 0 0 0 0 (2 ^ 32) 0,
    .testDone 0 0 0 0 0 (2 ^ 32),
    .pendingCompletion (2 ^ 32),
    .synthesiserLock 0 (2 ^ 16),
    .stageWrite gh 0 [(2 ^ 32, 0)],
    .stageWrite gh 0 [(0, 2 ^ 64)],
    .stageRead gh 0 [2 ^ 32],
    .deferredCompletion 0 0 { status := 2 ^ 16 },
    .rawLineSegment 0 0 { count := 2 ^ 24, wordCount := 0 },
    .rawLineSegment 0 0 { count := 0, wordCount := 2 ^ 32 }] : List Instr).all (fun x => !x.wf) = true := by decide +kernel

theorem test_wf_command_17 : ([.rawLineSegment 0 0 { count := 0, wordCount := 0, words := [2 ^ 32] },
    .rawLineSegment 0 0 { count := 0, wordCount := 0, crc := some (2 ^ 32) },
    .reply bm gr,
    .stitchedLine [(16, 0)] {},
    .stitchedLine [] { entry := [(16, 0, 0, 0)] },
    .stitchedLine [] { entry := [(0, 0, 0, 2 ^ 16)] },
    .stitchedLine [] { prof := [(0, 2 ^ 16)] },
    .stripLine 0 [] [] { entry := [(0, 256)] },
    .stripLine 0 [] [] { former := [(0, 2 ^ 16)] },
    .colourLine 0 { entry := [(0, 2 ^ 16)] },
    .colourLine 0 { prof := [(0, 2 ^ 16)] },
    .areaComposition [] { entry := [(16, 0, 0)] },
    .areaComposition [] { entry := [(0, 0, 2 ^ 16)] },
    .areaComposition [] { former := [(0, 2 ^ 16)] },
    .cntClear acc { block := 0, bits := 2 ^ 64 },
    .rawLineSegment 0 0 { count := 0, wordCount := 0, wire := [{ bits := 2 ^ 64 }] }] : List Instr).all (fun x => !x.wf) = true := by decide +kernel

theorem test_wf_command_18 : ([.rawEventSegment 0 { crc := some (2 ^ 32) },
    .dramScrub (some 0xF80000000) [],
    .ssiRead 0 (some (2 ^ 64)),
    .joinAlignment [{ port := 16, globalLine := 0, frame := 0, lineInFrame := 0, axis := 0, position := 0, ltgAcc := 0, timeDeltaNs := 0 }]] : List Instr).all (fun x => !x.wf) = true := by decide +kernel

/-! Small tests of one step. -/

/-- R406, the check column: each preset over the nine ASCII bytes "123456789". -/
theorem test_crc_presets : (List.range 4).map (fun k => crcOf (crcPreset k) [0x31, 0x32, 0x33, 0x34, 0x35, 0x36, 0x37, 0x38, 0x39]) =
    [0xCBF43926, 0xE3069283, 0x29B1, 0x995DC9BBDF1939FA] := by decide +kernel

/-- R18: the epoch after 0xFFFF_FFFF is 1. -/
theorem test_epoch_wraps : nextEpoch 0xFFFFFFFF = 1 := by decide

/-- R165: the largest sample with gain 1.0 and no offset is unchanged. -/
theorem test_calibrate_unity : calibrate 65536 0 65535 = 65535 := by decide +kernel

/-- R531: SW_FIRE of bit 7 puts source SW7 in flight. -/
theorem test_sw_fire : (match step { State.reset with pending := [.swFire supAcc 0x80] } with
    | .next t => t.evnt.inflight.map InFlight.src | _ => []) = [639] := by decide +kernel

/-- FIPS 180-4's example: the hash of the three bytes "abc" (R51). -/
theorem test_sha256_abc : sha256 [0x61, 0x62, 0x63] =
    [0xba, 0x78, 0x16, 0xbf, 0x8f, 0x01, 0xcf, 0xea, 0x41, 0x41, 0x40, 0xde, 0x5d, 0xae, 0x22, 0x23, 0xb0, 0x03, 0x61, 0xa3, 0x96, 0x17, 0x7a, 0x9c, 0xb4, 0x10, 0xff, 0x61, 0xf2, 0x00, 0x15, 0xad] := by decide +kernel

theorem wit_StepRunsFront : State.reset.pending = [] := rfl

theorem wit_ExecKeepsQueue : ∃ t, exec (.rgEnable supAcc 0) State.reset = .next t := ⟨_, rfl⟩

theorem wit_MemoryStaysCanonical : State.reset.memOk ∧ ∃ t, step State.reset = .next t := ⟨by unfold State.memOk; decide, _, rfl⟩

theorem wit_SecurityOfPrincipals : State.reset.core.unlocked = false ∧ ∃ h : Hdr, h.via = .shaesh ∧ h.mirrored = true :=
  ⟨rfl, { via := .shaesh, session := 6, seq := 0, tag := 0, mirrored := true }, rfl, rfl⟩

theorem wit_CalibrateStage : ((0 : Nat) : Int) * 2 ^ 16 + (-1 : Int) * 2 ^ 14 < 0 ∧ 0 ≤ ((65535 : Nat) : Int) * 2 ^ 16 + (0 : Int) * 2 ^ 14 := by decide

theorem wit_ReinWindow : State.reset.accessible supAcc ∧ systemRight supAcc.principal = true ∧
    writeRight supAcc.principal (prmN State.reset (P.EVNT_OWNER 255)) (prmB State.reset (P.EVNT_SECURE 255)) = true := by
  refine ⟨.inl (by decide), by decide, rfl⟩

theorem wit_EventInputs : (∃ (e : InFlight) (es : List InFlight) (r : Nat) (s : State), s.evnt.inflight = e :: es ∧ e.rein = some r ∧
      reinOn s.evnt.groups s r = true ∧ ∀ c, c < 384 → (selectors s c).1 ≠ r ∧ (selectors s c).2 ≠ r) ∧
    (∃ (e : InFlight) (es : List InFlight) (r : Nat) (s : State), s.evnt.inflight = e :: es ∧ e.rein = some r ∧ reinOn s.evnt.groups s r = false) ∧
    hasFlag State.reset.evnt.gpxLevel 31 = false := by
  refine ⟨⟨⟨0, 0, some 255⟩, [], 255, { State.reset with evnt.inflight := [⟨0, 0, some 255⟩] }, rfl, rfl, by decide +kernel, by decide +kernel⟩,
    ⟨⟨0, 0, some 255⟩, [], 255, { State.reset with evnt.inflight := [⟨0, 0, some 255⟩], evnt.groups := 0 }, rfl, rfl, by decide +kernel⟩, by decide⟩

theorem wit_TimekeeperTick : (∃ s : State, bitOf s.boot.clocks 1 = true ∧ time48 s + (tkInc s).toNat < 2 ^ 48 * 1000000000 * 2 ^ 48) ∧
    bitOf State.reset.boot.clocks 1 = false := by
  refine ⟨⟨{ State.reset with boot.clocks := 2 }, by decide, ?_⟩, by decide⟩
  decide +kernel

/-- A clock that runs PTP on port 2, its own parent being clock 7, port 1. -/
def ptpState (ports : Map PtpPort) (extra : Map Int) : State :=
  withPrm ([(P.TIME_RUN, 1), (P.TIMEP_PTP_EN 3, 1)] ++ extra) { State.reset with tk.parent := 3, tk.parentId := some (7, 1), tk.ports := ports }

/-- A message of that parent. -/
def ptpMsg (s : State) : PtpHdr :=
  { version := 2, minorVersion := 1, domain := prmN s P.TIME_DOMAIN, transport := prmN s (P.TIMEP_TRANSPORT 3), sourceId := 7, sourcePort := 1, seqId := 5, correction := 0 }

theorem wit_PtpReceived :
    (ptpOn (ptpState [] []) 2 = true ∧ ptpMatches (ptpState [] []) 2 (ptpMsg (ptpState [] [])) = true ∧ (ptpPort (ptpState [] []) 2).ds = none ∧
      fromParent (ptpState [] []) 2 (ptpMsg (ptpState [] [])) = true) ∧
    (ptpOn (ptpState [(2, { sync := some (5, 3, 0), role := 3, req := some (5, 1), lastSync := some 2 })] [(P.TIME_PROFILE, 0)]) 2 = true ∧
      prm (ptpState [(2, { sync := some (5, 3, 0), role := 3, req := some (5, 1), lastSync := some 2 })] [(P.TIME_PROFILE, 0)]) P.TIME_PROFILE = 0) ∧
    (prm (ptpState [(2, { req := some (5, 1) })] [(P.TIME_PROFILE, 1), (P.TIME_TWO_STEP, 0)]) P.TIME_PROFILE = 1 ∧
      prmB (ptpState [(2, { req := some (5, 1) })] [(P.TIME_PROFILE, 1), (P.TIME_TWO_STEP, 0)]) P.TIME_TWO_STEP = false ∧
      ptpOn (ptpState [(2, { req := some (5, 1) })] [(P.TIME_PROFILE, 1), (P.TIME_TWO_STEP, 0)]) 2 = true) := by
  refine ⟨⟨?_, ?_, rfl, ?_⟩, ⟨?_, ?_⟩, ?_, ?_, ?_⟩ <;> decide +kernel

theorem wit_PtpTimers : ∃ s : State, ptpOn s 2 = true ∧ (ptpPort s 2).role = 3 := by
  refine ⟨withPrm [(P.TIME_RUN, 1), (P.TIMEP_PTP_EN 3, 1)] { State.reset with
    tk.ports := [(2, { role := 3, ds := some ⟨⟨1, 2, 3, 4, 5, 6, 7, 0⟩, 7, 1⟩ })] }, ?_, rfl⟩
  decide +kernel

theorem wit_LaneStates : (∃ s : State, (lane s 63).state = 0 ∧ prmB s (P.LANE_RUN 63) = true ∧ quadOn s 3 = true) ∧
    (∃ s : State, (lane s 63).state = 5) ∧ (∃ s : State, (lane s 63).state = 1) ∧ (∃ s : State, (lane s 63).state = 2 ∧ prmB s (P.LANE_IDLE_EN 63) = true) ∧
    (∃ s : State, (lane s 63).state = 2 ∧ prmB s (P.LANE_IDLE_EN 63) = false) ∧ (∃ s : State, (lane s 63).state = 3) ∧ (∃ s : State, (lane s 63).state = 4) := by
  refine ⟨⟨withPrm [(P.LANE_RUN 63, 1)] { State.reset with thrm.biased := [3] }, rfl, ?_, ?_⟩, ⟨{ State.reset with lanes := [(63, { state := 5 })] }, rfl⟩,
    ⟨{ State.reset with lanes := [(63, { state := 1 })] }, rfl⟩, ⟨withPrm [(P.LANE_IDLE_EN 63, 1)] { State.reset with lanes := [(63, { state := 2 })] }, rfl, ?_⟩,
    ⟨withPrm [(P.LANE_IDLE_EN 63, 0)] { State.reset with lanes := [(63, { state := 2 })] }, rfl, ?_⟩,
    ⟨{ State.reset with lanes := [(63, { state := 3 })] }, rfl⟩, ⟨{ State.reset with lanes := [(63, { state := 4 })] }, rfl⟩⟩ <;> decide +kernel

theorem wit_LaneWords :
    (∃ s : State, (lane s 63).state = 2 ∧ prmB s (P.LANE_ADAPT 63) = false ∧ prm s (P.LANE_WORD_MODE 63) ≠ 2 ∧ (lane s 63).aligned = true ∧
      s.accessible supAcc ∧ laneRight s supAcc 63 = true ∧ (lane s 63).prbsSync = true ∧ (lane s 63).errs + (1 + injected (lane s 63) 1) < 2 ^ 48 ∧ (lane s 63).bits + 1 < 2 ^ 48 ∧
      (lane s 63).prbsMode = 1) ∧
    (∃ s : State, (lane s 63).state = 2 ∧ prm s (P.LANE_WORD_MODE 63) = 2 ∧ lanePortStopped s 63 = true ∧ s.accessible supAcc ∧ laneRight s supAcc 63 = true) := by
  refine ⟨⟨withPrm [(P.LANE_ADAPT 63, 0), (P.LANE_WORD_MODE 63, 0)] { State.reset with lanes := [(63, { state := 2, aligned := true, prbsSync := true, prbsMode := 1 })] },
    rfl, ?_, ?_, rfl, .inl (by decide), rfl, rfl, by decide, by decide, rfl⟩,
    ⟨withPrm [(P.LANE_WORD_MODE 63, 2)] { State.reset with lanes := [(63, { state := 2 })] }, rfl, ?_, ?_, .inl (by decide), rfl⟩⟩ <;> decide +kernel

theorem wit_PortStates :
    (∃ s : State, (port s 15).state = 1 ∧ (prm s (P.PORT_PROTOCOL 15) ≠ 0 ∨ holdsClaim s = true) ∧ lanesReady s 15 = true) ∧
    (∃ s : State, (port s 15).state = 4 ∧ (port s 15).run = true) ∧ (∃ s : State, (port s 15).state = 3 ∧ laneGives s 60 = true ∧ (port s 15).state ≠ 0 ∧ (port s 15).state ≠ 4) ∧
    (∃ s : State, (port s 15).state = 2 ∧ prm s (P.PORT_PROTOCOL 15) = 0 ∧ prm s (P.PORT_HB_TIMEOUT 15) ≠ 0 ∧ hears s 15 = true ∧
      (port s 15).cur = some {}) := by
  refine ⟨⟨withPrm [(P.PORT_CONNECTIONS 15, 1)] { State.reset with ports := [(15, { state := 1 })], lanes := [(60, { state := 2, aligned := true })] }, rfl, .inr rfl, ?_⟩,
    ⟨{ State.reset with ports := [(15, { state := 4, run := true })] }, rfl, rfl⟩, ⟨withPrm [(P.LANE_QMODE 60, 0)] { State.reset with ports := [(15, { state := 3 })], lanes := [(60, { state := 2, aligned := true })] }, rfl, ?_, by decide, by decide⟩,
    ⟨withPrm [(P.PORT_PROTOCOL 15, 0), (P.PORT_HB_TIMEOUT 15, 100)] { State.reset with ports := [(15, { state := 2, cur := some {} })], lanes := [(60, { state := 2, aligned := true })] }, rfl, ?_, ?_, ?_, rfl⟩⟩ <;> decide +kernel

/-- Port 15 with every lane delivering and some applied values. -/
def hearing (x : Port) (vs : Map Int) : State :=
  withPrm vs { State.reset with ports := [(15, x)], lanes := [(60, { state := 2, aligned := true }), (63, { state := 2, aligned := true })] }

theorem wit_PortPackets :
    (∃ s : State, receives (port s 15) = true ∧ hears s 15 = true ∧ prm s (P.PORT_PROTOCOL 15) = 0 ∧ (port s 15).cur = some {} ∧ prm s (P.PORT_MODE 15) = 0 ∧
      (port s 15).ready = [] ∧ holdsClaim s = true ∧ prmN s (P.PORT_EVENT_QUEUE 15) = 0xFFFF ∧ 0 < prmN s (P.PORT_CONNECTIONS 15) ∧ (port s 15).conns = [] ∧
      (port s 15).turn = 0 ∧ (port s 15).tagNext = none) ∧
    (∃ s : State, receives (port s 15) = true ∧ prm s (P.PORT_PROTOCOL 15) = 1 ∧ 3 < prmN s (P.PORT_CONNECTIONS 15) ∧ (port s 15).segs = [] ∧ laneGives s 63 = true ∧
      segCrcBad s 15 { count := 0, words := [], wordCount := 0 } = false) ∧
    (∃ s : State, receives (port s 15) = true ∧ prm s (P.PORT_PROTOCOL 15) = 1 ∧ prmN s (P.PORT_CONNECTIONS 15) = 1 ∧ laneGives s 60 = true ∧ (port s 15).cur = none) := by
  refine ⟨⟨hearing { state := 2, cur := some {} } [(P.PORT_PROTOCOL 15, 0), (P.PORT_MODE 15, 0), (P.PORT_EVENT_QUEUE 15, 0xFFFF), (P.PORT_CONNECTIONS 15, 1)],
      rfl, ?_, ?_, rfl, ?_, rfl, rfl, ?_, ?_, rfl, rfl, rfl⟩,
    ⟨hearing { state := 2 } [(P.PORT_PROTOCOL 15, 1), (P.PORT_CONNECTIONS 15, 4), (P.PORT_RAW_CRC 15, 0)], rfl, ?_, ?_, rfl, ?_, ?_⟩,
    ⟨hearing { state := 2 } [(P.PORT_PROTOCOL 15, 1), (P.PORT_CONNECTIONS 15, 1)], rfl, ?_, ?_, ?_, rfl⟩⟩ <;> decide +kernel

/-- A running line-scan port 15. -/
def portState (x : Port) (vs : Map Int) : State := withPrm ([(P.PORT_RUN 15, 1), (P.PORT_MODE 15, 0)] ++ vs) { State.reset with ports := [(15, x)] }

theorem wit_PortLines :
    (∃ s : State, s.sys.cinch = none ∧ (port s 15).incoming = [({}, false)] ∧ linesDue (port s 15) = true ∧ prm s (P.PORT_TIMING 15) = 0 ∧ prm s (P.PORT_MODE 15) = 0 ∧
      (port s 15).due = [] ∧ prmAt s (port s 15).epoch (P.PORT_RUN 15) = 1) ∧
    (∃ s : State, linesDue (port s 15) = true ∧ prm s (P.PORT_TIMING 15) = 1 ∧ prm s (P.PORT_MODE 15) = 0) ∧
    (∃ s : State, s.sys.cinch = none ∧ isShadow s = false ∧ linesDue (port s 15) = true ∧ (port s 15).run = true ∧ prm s (P.PORT_MODE 15) = 0 ∧
      prmAt s (port s 15).epoch (P.PORT_RUN 15) = 1 ∧ (port s 15).ready = [{}] ∧ (port s 15).due = [⟨0, {}, false, none, 0, none⟩]) ∧
    (∃ s : State, (port s 15).out = [⟨⟨{}, []⟩, none, false⟩] ∧ adopts s = false ∧ dataPathHeld s = false ∧ (port s 15).hold = some ⟨⟨{}, []⟩, none, false⟩ ∧ (port s 15).due = []) := by
  refine ⟨⟨portState { run := true, everRun := true, incoming := [({}, false)] } [(P.PORT_TIMING 15, 0)], rfl, rfl, rfl, ?_, ?_, rfl, ?_⟩,
    ⟨portState { run := true, everRun := true } [(P.PORT_TIMING 15, 1)], rfl, ?_, ?_⟩,
    ⟨portState { run := true, everRun := true, ready := [{}], due := [⟨0, {}, false, none, 0, none⟩] } [], rfl, rfl, rfl, rfl, ?_, ?_, rfl, rfl⟩,
    ⟨portState { out := [⟨⟨{}, []⟩, none, false⟩], hold := some ⟨⟨{}, []⟩, none, false⟩ } [], rfl, rfl, ?_, rfl, rfl⟩⟩ <;> decide +kernel

theorem wit_CameraControl : ∃ s : State, sentAccess s 15 7 = some { tag := 7, kind := 2, addr := 0, sent := true } ∧
    (port s 15).access.find? (fun a => a.tag == 7) = some { tag := 7, kind := 2, addr := 0, sent := true } ∧ (port s 15).cam.failed = false ∧
    (port s 15).cam.entries ≠ [] ∧ camAcked (port s 15) = false ∧ (port s 15).state = 2 ∧ (port s 15).cam.sent = 0 ∧ holdsClaim s = true ∧ camDue (port s 15) = true ∧ hears s 15 = true := by
  refine ⟨hearing { state := 2, access := [{ tag := 7, kind := 2, addr := 0, sent := true }], cam := { entries := [(0, 0)] } } [],
    rfl, rfl, rfl, ?_, rfl, rfl, rfl, rfl, ?_, ?_⟩ <;> decide +kernel

/-- A device in stage 6. -/
def up : State := { State.reset with boot.stage := 6 }

/-- A header on the first mailbox of APP-S. -/
def mailHdr : Hdr := { via := .mailbox 0, session := 1, seq := 1, tag := 7 }

/-- A header on MGMT, of the session that `mgmtUp` has open. -/
def mgmtHdr : Hdr := { via := .udp { mac := 9, ip := 5, port := 7 } 1 3, session := 0x10000, seq := 1, tag := 7 }

/-- A device with one MGMT session, of the administrative role. -/
def mgmtUp : State := { up with sys.keys := [(1, ⟨2, []⟩)], sys.sessions := [(0x10000, { via := .udp { mac := 9, ip := 5, port := 7 } 1 3, role := 2, tokens := 1000000000 })] }

/-- A header on the Shaesh link. -/
def twinHdr : Hdr := { via := .shaesh, session := 6, seq := 1, tag := 7, mirrored := true }

/-- A command from the mailbox finds what it needs. -/
theorem ready_mail {s : State} {op : Nat} {h : Hdr} (hs : h = mailHdr) (h1 : accepting s = true) (h2 : sessionFits h s = some { via := .mailbox 0 })
    (h3 : op ≠ 1) (h5 : permit { op := op, h := h } 0 s = none) (h6 : stopRefuses op s = false) (h7 : heldCount s = 0) (h8 : s.sys.inbox = []) (h9 : replyWaits s = false)
    (h10 : ∀ p, mailReady p s = false) : s.Ready op h := by
  subst hs
  have e : s.sess mailHdr = { via := .mailbox 0 } := by unfold State.sess; rw [h2]; rfl
  refine ⟨h1, rfl, by rw [h2]; rfl, fun k => absurd k h3, .inr (by rw [e]; rfl), .inl (by decide), by rw [e]; exact h5, rfl, h6, fun k => by simp [mailHdr] at k, h7, h8, h9, h10⟩

/-- A command from an MGMT session of the administrative role finds what it needs. -/
theorem ready_mgmt {op : Nat} (h4 : (udpBad mgmtHdr op mgmtUp).isNone = true) (h5 : permit { op := op, h := mgmtHdr } 2 mgmtUp = none)
    (h6 : stopRefuses op mgmtUp = false) : mgmtUp.Ready op mgmtHdr :=
  ⟨by decide, h4, by decide +kernel, fun _ => by decide, .inr (by decide +kernel), .inr (by decide +kernel), h5, rfl, h6, fun k => by simp [mgmtHdr] at k, by decide +kernel, rfl, rfl,
    by decide +kernel⟩

theorem wit_SessionCommands : (∃ (h : Hdr) (peer : Peer) (size slot nonce : Nat) (s : State), accepting s = true ∧ h.via = .udp peer slot nonce ∧ h.session = 0 ∧ h.reserved = none ∧
      (s.sys.auth.get {} peer.ip).blocked = false ∧ (s.sys.keys.get {} slot).role ≠ 0 ∧ s.thrm.state < 2 ∧ (h.epochCheck = true → h.epoch = s.sys.epoch) ∧
      (size = 0 ∨ (128 ≤ size ∧ size ≤ 4096 ∧ size % 8 = 0)) ∧ (mgmtSessions s).length < 16 ∧ heldCount s = 0 ∧ s.sys.inbox = [] ∧ replyWaits s = false ∧ ∀ p, mailReady p s = false) ∧
    mgmtUp.Ready 2 mgmtHdr ∧ up.Ready 3 mailHdr ∧ up.Ready 4 mailHdr ∧ up.Ready 5 mailHdr ∧ up.Ready 8 mailHdr ∧
    (∃ (d : Deferred) (s : State), s.Ready 7 mailHdr ∧ s.sys.deferred.find? (fun d => d.session == mailHdr.session && d.tag == 9) = some d ∧ cancellable s d = true) := by
  refine ⟨⟨{ mgmtHdr with session := 0 }, { mac := 9, ip := 5, port := 7 }, 4096, 1, 3, mgmtUp, by decide +kernel, rfl, rfl, rfl, by decide +kernel, by decide +kernel, by decide +kernel, nofun, .inr (by decide), by decide +kernel, by decide +kernel, rfl, rfl, by decide +kernel⟩,
    ready_mgmt (by decide +kernel) (by decide +kernel) (by decide +kernel), ready_mail rfl (by decide) (by decide +kernel) (by decide) (by decide +kernel) (by decide) (by decide +kernel) rfl rfl (by decide +kernel),
    ready_mail rfl (by decide) (by decide +kernel) (by decide) (by decide +kernel) (by decide) (by decide +kernel) rfl rfl (by decide +kernel),
    ready_mail rfl (by decide) (by decide +kernel) (by decide) (by decide +kernel) (by decide) (by decide +kernel) rfl rfl (by decide +kernel),
    ready_mail rfl (by decide) (by decide +kernel) (by decide) (by decide +kernel) (by decide) (by decide +kernel) rfl rfl (by decide +kernel), ?_⟩
  exact ⟨{ via := .mailbox 0, principal := 2, role := 0, session := 1, seq := 1, tag := 9, opcode := 0x0703, trailer := 0, flags := 0, subject := 0, count := 0, digest := 0, quiet := false, timeS := 0, timeNs := 0, cmd := .jobCrc mailHdr 0 0 64 0, expect := none },
    { up with sys.deferred := [{ via := .mailbox 0, principal := 2, role := 0, session := 1, seq := 1, tag := 9, opcode := 0x0703, trailer := 0, flags := 0, subject := 0, count := 0, digest := 0, quiet := false, timeS := 0, timeNs := 0, cmd := .jobCrc mailHdr 0 0 64 0, expect := none }] },
    ready_mail rfl (by decide) (by decide +kernel) (by decide) (by decide +kernel) (by decide) (by decide +kernel) rfl rfl (by decide +kernel), by decide +kernel, by decide +kernel⟩

/-- A device with staging set 3 open for the first mailbox session. -/
def staged : State := { up with sys.stage := [(3, { state := 1, owner := 1 })] }

theorem wit_StagingCommands : (up.Ready 0x0101 mailHdr ∧ (stageSet up 0).state = 0) ∧
    (∃ r v, staged.Ready 0x0102 mailHdr ∧ (stageSet staged 3).state = 1 ∧ (stageSet staged 3).owner = mailHdr.session ∧ pidInst (P.PORT_WIDTH 15) ≠ 0xFF ∧
      paramRow (P.PORT_WIDTH 15) = some r ∧ decodeValue (P.PORT_WIDTH 15) r 32768 = some v ∧ mailHdr.via ≠ .shaesh ∧
      stageErr (staged.taken 0x0102 mailHdr) mailHdr.via.principal (staged.sess mailHdr).role (P.PORT_WIDTH 15) = none) ∧
    (staged.Ready 0x0103 mailHdr ∧ 16 ≤ (staged.sess mailHdr).pktSize - 40 ∧
      idErr (staged.taken 0x0103 mailHdr) mailHdr.via.principal (staged.sess mailHdr).role true (P.PORT_WIDTH 15) = none) ∧
    staged.Ready 0x0104 mailHdr ∧
    (∃ r, staged.Ready 0x0105 mailHdr ∧ tabRow P.FLOWS = some r ∧ 65528 + [(1 : Byte)].length ≤ r.size ∧
      stageErr (staged.taken 0x0105 mailHdr) mailHdr.via.principal (staged.sess mailHdr).role P.FLOWS = none ∧ areaFull 3 P.FLOWS 65528 [1] staged = false) := by
  refine ⟨⟨ready_mail rfl (by decide) (by decide +kernel) (by decide) (by decide +kernel) (by decide) (by decide +kernel) rfl rfl (by decide +kernel), rfl⟩,
    ⟨_, _, ready_mail rfl (by decide) (by decide +kernel) (by decide) (by decide +kernel) (by decide) (by decide +kernel) rfl rfl (by decide +kernel), rfl, rfl, by decide +kernel, by rfl, by rfl, by decide, by decide +kernel⟩,
    ⟨ready_mail rfl (by decide) (by decide +kernel) (by decide) (by decide +kernel) (by decide) (by decide +kernel) rfl rfl (by decide +kernel), by decide +kernel, by decide +kernel⟩,
    ready_mail rfl (by decide) (by decide +kernel) (by decide) (by decide +kernel) (by decide) (by decide +kernel) rfl rfl (by decide +kernel),
    ⟨_, ready_mail rfl (by decide) (by decide +kernel) (by decide) (by decide +kernel) (by decide) (by decide +kernel) rfl rfl (by decide +kernel), by rfl, by decide +kernel, by decide +kernel, by decide +kernel⟩⟩

/-- The same with a DRAM region of APP-S. -/
def regioned : State := { staged with sys.applied.vals := [(P.CORE_REGION_BASE 0, 0), (P.CORE_REGION_SIZE 0, 65536), (P.CORE_REGION_PRINCIPAL 0, 2)] }

theorem wit_DeferredStaging : (∃ r, regioned.Ready 0x0106 mailHdr ∧ regioned.mayDefer mailHdr ∧ tabRow P.FLOWS = some r ∧ 0 + 64 ≤ r.size ∧
      stageErr (regioned.taken 0x0106 mailHdr) mailHdr.via.principal (regioned.sess mailHdr).role P.FLOWS = none ∧
      inRegions (regioned.taken 0x0106 mailHdr) mailHdr.via.principal.code 65472 64 = true ∧ areaFull 3 P.FLOWS 0 (Memory.read regioned.mem 65472 64) regioned = false) ∧
    (staged.Ready 0x0107 mailHdr ∧ staged.mayDefer mailHdr ∧ storeReadOwn mailHdr 0x200 (staged.taken 0x0107 mailHdr) = []) ∧
    up.Ready 0x0108 mailHdr ∧ up.mayDefer mailHdr := by
  refine ⟨⟨_, ready_mail rfl (by decide) (by decide +kernel) (by decide) (by decide +kernel) (by decide) (by decide +kernel) rfl rfl (by decide +kernel), ⟨by decide +kernel, by decide +kernel⟩, by rfl,
      by decide +kernel, by decide +kernel, by decide +kernel, by decide +kernel⟩,
    ⟨ready_mail rfl (by decide) (by decide +kernel) (by decide) (by decide +kernel) (by decide) (by decide +kernel) rfl rfl (by decide +kernel), ⟨by decide +kernel, by decide +kernel⟩, by decide +kernel⟩,
    ready_mail rfl (by decide) (by decide +kernel) (by decide) (by decide +kernel) (by decide) (by decide +kernel) rfl rfl (by decide +kernel), by decide +kernel, by decide +kernel⟩

/-- A command from the mailbox to a started device. -/
theorem ready_up {op : Nat} (h5 : permit { op := op, h := mailHdr } 0 up = none) (h3 : op ≠ 1) : up.Ready op mailHdr :=
  ready_mail rfl (by decide) (by decide +kernel) h3 h5 (by unfold stopRefuses; rfl) (by decide +kernel) rfl rfl (by decide +kernel)

theorem wit_QueryCommands : (up.Ready 0x0301 mailHdr ∧ idErr (up.taken 0x0301 mailHdr) mailHdr.via.principal (up.sess mailHdr).role true (P.PORT_WIDTH 0) = none ∧
      16 ≤ (up.sess mailHdr).pktSize - 40) ∧
    (up.Ready 0x0302 mailHdr ∧ instExists 0x17 0 = true ∧ instExists 1 0 = true ∧ instExists 0x0E 0 = true ∧ (storeBlock (up.taken 0x0302 mailHdr)).length ≤ 4056) ∧
    (up.Ready 0x0303 mailHdr ∧ instExists 0x11 255 = true ∧ mailHdr.via.principal = .appS ∧
      itemErr up .appS (up.sess mailHdr).role (prmN up (P.EVNT_OWNER 255)) 0x11 false = none) ∧ up.Ready 0x0304 mailHdr ∧ up.Ready 0x0305 mailHdr ∧
    (∃ s : State, s.Ready 0x0401 mailHdr ∧ s.sys.log.entries.filter (fun e => decide (0 ≤ e.index)) = [{ kind := 1 }]) ∧
    up.Ready 0x0801 mailHdr ∧ up.Ready 0x0A01 mailHdr ∧ up.Ready 0x0901 mailHdr ∧
    (∃ (c : StoreCopy) (s : State), s.Ready 0x0902 mailHdr ∧ storeReadOwn mailHdr 0x20000 (s.taken 0x0902 mailHdr) = [] ∧
      newestCopy (storeItem s 0x20000) = some c ∧ 0 + 1 ≤ c.data.length) := by
  refine ⟨⟨ready_up (by decide +kernel) (by decide), by decide +kernel, by decide +kernel⟩,
    ⟨ready_up (by decide +kernel) (by decide), by decide +kernel, by decide +kernel, by decide +kernel, by decide +kernel⟩,
    ⟨ready_up (by decide +kernel) (by decide), by decide +kernel, by decide, by decide +kernel⟩, ready_up (by decide +kernel) (by decide), ready_up (by decide +kernel) (by decide),
    ⟨{ up with sys.log.entries := [{ kind := 1 }] }, ready_mail rfl (by decide) (by decide +kernel) (by decide) (by decide +kernel) (by decide) (by decide +kernel) rfl rfl (by decide +kernel), by decide +kernel⟩,
    ready_up (by decide +kernel) (by decide), ready_up (by decide +kernel) (by decide), ready_up (by decide +kernel) (by decide), ?_⟩
  exact ⟨{ gen := 1, data := [1], blocks := [0] }, { up with stor.items := [(0x20000, { copies := [{ gen := 1, data := [1], blocks := [0] }] })] },
    ready_mail rfl (by decide) (by decide +kernel) (by decide) (by decide +kernel) (by decide) (by decide +kernel) rfl rfl (by decide +kernel), by decide +kernel, by decide +kernel, by decide⟩

/-- A device in stage 5 with a set open for the first mailbox session. -/
def waiting5 : State := { staged with boot.stage := 5 }

theorem wit_CinchCommands : (waiting5.Ready 0x0201 mailHdr ∧ waiting5.mayDefer mailHdr ∧ (stageSet waiting5 3).state = 1 ∧ boundaryBad 2 0 0 = [] ∧ boundaryBad 3 0 (2 ^ 64 - 1) = [] ∧
      waiting5.twin.join = none) ∧
    (staged.Ready 0x0202 mailHdr ∧ runChecks (staged.taken 0x0202 mailHdr) (stageSet staged 3).dict none = []) ∧
    (∃ s : State, s.boot.stage = 6 ∧ s.boot.calm = false ∧ s.sys.cinch = none ∧ (stageSet s 0).state = 0 ∧ (storeItem s 0x100).copies = []) := by
  refine ⟨⟨ready_mail rfl (by decide) (by decide +kernel) (by decide) (by decide +kernel) (by decide) (by decide +kernel) rfl rfl (by decide +kernel), ⟨by decide +kernel, by decide +kernel⟩, rfl, by decide, by decide, rfl⟩,
    ⟨ready_mail rfl (by decide) (by decide +kernel) (by decide) (by decide +kernel) (by decide) (by decide +kernel) rfl rfl (by decide +kernel), by decide +kernel⟩, up, rfl, rfl, rfl, rfl, rfl⟩

theorem wit_CinchCommands_checked : ∃ t : State, exec (.cinch mailHdr 3 2 0 0 9 0) staged = .next t ∧ t.sys.cinch.map Cinch.phase = some 1 :=
  ⟨(match exec (.cinch mailHdr 3 2 0 0 9 0) staged with | .next t => t | _ => staged), by rfl, by decide +kernel⟩

/-- A boot set with one value: the width of port 0. -/
def bootSet : List Byte :=
  let head := leBytes 4 0x56455354 ++ leBytes 2 1 ++ leBytes 2 0 ++ leBytes 4 0 ++ leBytes 4 0 ++ leBytes 4 0 ++ leBytes 8 0
  head ++ leBytes 4 (crc32c head)

theorem wit_CinchCommands_boot : ∃ (x : SavedSet) (s : State), s.boot.stage = 6 ∧ s.boot.calm = false ∧ s.sys.cinch = none ∧ s.twin.join = none ∧ (stageSet s 0).state = 0 ∧
    (storeItem s 0x100).copies ≠ [] ∧ readSaved { s with boot.calm := true } .sup 0 0x100 = ([], x) ∧
    runChecks (stageSaved 0 x (setStage 0 { state := 1, owner := 0 } { s with boot.calm := true })) (stageSet (stageSaved 0 x (setStage 0 { state := 1, owner := 0 } { s with boot.calm := true })) 0).dict
      (some (2, 0, 0)) = [] :=
  ⟨⟨[], []⟩, { up with stor.items := [(0x100, { copies := [{ gen := 1, data := bootSet, blocks := [0] }] })] }, rfl, rfl, rfl, rfl, rfl, by decide +kernel, by decide +kernel, by decide +kernel⟩

/-- A pending Cinch of the first mailbox session, in a phase. -/
def pendingCinch (k st : Nat) : State :=
  { up with sys.cinch := some { set := 3, session := 1, seq := 1, btype := 0, axis := 0, mask := 0, value := 0, limitMs := 60000, phase := k }
            sys.stage := [(3, { state := st, owner := 1 })] }

theorem wit_CinchRun : (∃ c, (pendingCinch 1 2).sys.cinch = some c ∧ c.phase = 1 ∧ (stageSet (pendingCinch 1 2) c.set).state = 2 ∧ quadsToBias (pendingCinch 1 2) = [] ∧
      c.loads = [] ∧ (pendingCinch 1 2).thrm.ungateQ = [] ∧ c.session ≠ 0 ∧ boundaryPassed (pendingCinch 1 2) c = false) ∧
    (∃ c, (pendingCinch 1 3).sys.cinch = some c ∧ c.phase = 1 ∧ (stageSet (pendingCinch 1 3) c.set).state = 3 ∧ c.btype = 0 ∧ shadowArmed c (pendingCinch 1 3) = true) ∧
    (∃ c, (pendingCinch 2 3).sys.cinch = some c ∧ c.phase = 2 ∧ c.waiting = []) ∧ (∃ c, (pendingCinch 0 2).sys.cinch = some c ∧ c.phase < 2) := by
  refine ⟨⟨_, rfl, rfl, rfl, by decide +kernel, rfl, rfl, by decide, by decide +kernel⟩, ⟨_, rfl, rfl, rfl, rfl, by decide +kernel⟩, ⟨_, rfl, rfl, rfl⟩, ⟨_, rfl, by decide⟩⟩

/-- The blocks of a new device are free. -/
theorem free_up : (freeBlocks up).length = 3968 := by
  have e : freeBlocks up = List.range 3968 := by
    show ((List.range 3968 ++ []).filter (fun b => !([] : List Nat).contains b)).filter (fun b => !([] : List Nat).contains b) = _
    simp
  rw [e, List.length_range]

theorem pool_up (n : Nat) (hn : n ≤ 1984) (item : Nat) : poolGives n item up = true := by
  have e : storeItem up item = {} := rfl
  simp only [poolGives, e, free_up, newestCopy, decide_eq_true_eq]
  simp
  omega

/-- The store of a new device has blocks enough. -/
theorem take_up (n : Nat) (hn : n ≤ 3968) : ∃ bs, takeBlocks n up = some bs := by
  unfold takeBlocks
  simp only [List.length_insertionSort, free_up]
  rw [if_neg (by omega)]
  exact ⟨_, rfl⟩

theorem wit_LogCommands : up.Ready 0x0402 mailHdr ∧ (∃ s : State, s.stor.ops = [] ∧ storeInhibited s = false ∧ poolGives 32 Config.logItem s = true ∧ ∃ bs, takeBlocks 32 s = some bs) ∧ up.Ready 0x0403 mailHdr ∧ up.mayDefer mailHdr ∧
    (∃ (s : State) (w : RegWindow), s.sys.log.windows = [w] ∧ w.addr = 0x04001010 ∧ w.principal = Principal.appS.code ∧ monoNs s ≤ w.mono + 1000000) ∧
    (∀ w ∈ State.reset.sys.log.windows, w.addr ≠ 0x04001010) ∧ State.reset.sys.log.retry = false := by
  refine ⟨ready_up (by decide +kernel) (by decide), ⟨up, rfl, by decide +kernel, pool_up 32 (by decide) _, take_up 32 (by decide)⟩, ready_up (by decide +kernel) (by decide), ⟨by decide +kernel, by decide +kernel⟩,
    ⟨{ up with sys.log.windows := [⟨2, 0x04001010, 0, 0, 1, 5, 0⟩] }, _, rfl, rfl, rfl, by decide +kernel⟩, by simp [State.reset], rfl⟩

/-- A running margin test of lane 63, whose command has been deferred. -/
def laneTest : TestRun := { code := 3, unit := 2, inst := 63, arg := 0, session := 1, seq := 1, started := true, startNs := 0, forced := false }

/-- A deferred command of the first mailbox session. -/
def waitingCmd (op : Nat) (i : Instr) : Deferred :=
  { via := .mailbox 0, principal := 2, role := 0, session := 1, seq := 1, tag := 9, opcode := op, trailer := 0, flags := 0, subject := 0, count := 0, digest := 0, timeS := 0, timeNs := 0, cmd := i }

theorem wit_TestCommands : (∃ now out, up.Ready 0x0501 mailHdr ∧ up.Ready 0x0502 mailHdr ∧ up.mayDefer mailHdr ∧ (testClass 3).isSome = true ∧ testAdmits 3 2 63 = true ∧ resErr mailHdr 2 63 (up.taken 0x0501 mailHdr) = [] ∧
      (up.bkgd.tests.any (fun t => t.unit == 2 && t.inst == 63)) = false ∧ testStart mailHdr 3 2 63 (up.taken 0x0501 mailHdr) = (0, now, out)) ∧
    (up.Ready 0x0503 mailHdr ∧ prbsValues 63 4 2 3 1000 = [] ∧ prbsValues 79 4 3 0 0 = [] ∧ prbsFree up 63 = true ∧ prbsFree up 79 = true ∧
      resErr mailHdr 2 63 (up.taken 0x0503 mailHdr) = [] ∧ itemErr (up.taken 0x0503 mailHdr) mailHdr.via.principal (up.sess mailHdr).role 2 2 false = none) ∧
    (∃ s : State, s.Ready 0x0504 mailHdr ∧ s.mayDefer mailHdr ∧ resErr mailHdr 2 63 (s.taken 0x0504 mailHdr) = [] ∧ (lane s 63).state = 2) ∧ (gapOpen up 5 15 = true ∧ burnishSuspended up = false) ∧
    (∃ (d : Deferred) (s : State), s.bkgd.tests.find? (fun x => x.unit == laneTest.unit && x.inst == laneTest.inst) = some laneTest ∧ testRunning s laneTest = true ∧
      findDeferred (raise 561 3 { leaveTest laneTest { s with bkgd.tests := s.bkgd.tests.filter (· ≠ laneTest), bkgd.nTests := s.bkgd.nTests + 1 } with bkgd.nEyes := 1 }) 1 1 = some d) := by
  refine ⟨⟨_, _, ready_up (by decide +kernel) (by decide), ready_up (by decide +kernel) (by decide), ⟨by decide +kernel, by decide +kernel⟩, by decide, by decide, by decide +kernel, by decide, rfl⟩,
    ⟨ready_up (by decide +kernel) (by decide), by decide, by decide, by decide +kernel, by decide +kernel, by decide +kernel, by decide +kernel⟩,
    ⟨{ up with lanes := [(63, { state := 2 })] }, ready_mail rfl (by decide) (by decide +kernel) (by decide) (by decide +kernel) (by decide) (by decide +kernel) rfl rfl (by decide +kernel), ⟨by decide +kernel, by decide +kernel⟩, by decide +kernel, rfl⟩,
    ⟨by decide +kernel, by decide +kernel⟩,
    ⟨waitingCmd 0x0501 (.testRun mailHdr 3 2 63 0), { up with bkgd.tests := [laneTest], sys.deferred := [waitingCmd 0x0501 (.testRun mailHdr 3 2 63 0)] },
      by decide +kernel, by decide +kernel, by decide +kernel⟩⟩

/-- A device whose block 9 has been erased far more often than the others, and block 7 of which holds an item. -/
def wearUp : State := { up with stor.items := [(0x20000, { copies := [{ gen := 4, data := [1, 2, 3], blocks := [7] }] })], stor.wear := [(9, 100000)] }

/-- The choice of the block with the lowest count answers a block whose count none of the list is below. -/
theorem fold_low (e : Nat → Nat) (l : List Nat) (a0 : Nat) :
    ∃ a, l.foldl (fun m b => match m with | some a => if e b < e a then some b else m | none => some b) (some a0) = some a ∧ e a ≤ e a0 ∧ ∀ b ∈ l, e a ≤ e b := by
  induction l generalizing a0 with
  | nil => exact ⟨a0, rfl, le_refl _, by simp⟩
  | cons b l ih =>
    rw [List.foldl_cons]
    by_cases h : e b < e a0
    · obtain ⟨a, ha, h1, h2⟩ := ih b
      exact ⟨a, by simpa [h] using ha, by omega, by simpa [h1] using h2⟩
    · obtain ⟨a, ha, h1, h2⟩ := ih a0
      exact ⟨a, by simpa [h] using ha, h1, by simp; exact ⟨by omega, h2⟩⟩

/-- The choice of the block with the highest count answers one where it began with one. -/
theorem fold_high (e : Nat → Nat) (l : List Nat) (a0 : Nat) :
    ∃ a, l.foldl (fun m b => match m with | some a => if e a < e b then some b else m | none => some b) (some a0) = some a := by
  induction l generalizing a0 with
  | nil => exact ⟨a0, rfl⟩
  | cons b l ih =>
    rw [List.foldl_cons]
    by_cases h : e a0 < e b <;> simpa [h] using ih _

/-- No count of a list exceeds its highest. -/
theorem fold_max (e : Nat → Nat) (l : List Nat) (n b : Nat) (h : b ∈ l ∨ e b ≤ n) : e b ≤ l.foldl (fun m b => max m (e b)) n := by
  induction l generalizing n with
  | nil => simpa using h
  | cons c l ih =>
    apply ih
    rcases h with h | h
    · rcases List.mem_cons.1 h with rfl | h
      · exact .inr (le_max_right _ _)
      · exact .inl h
    · exact .inr (le_trans h (le_max_left _ _))

theorem user_block (b : Nat) (h : b < 3968) : b ∈ userBlocks wearUp := by
  show b ∈ (List.range 3968 ++ []).filter (fun b => !([] : List Nat).contains b)
  simpa using h

theorem wear_moves : ∃ src dst, wearMove wearUp = some (src, dst) := by
  have e7 : eraseCount wearUp 7 = 0 := by decide +kernel
  have e9 : eraseCount wearUp 9 = 100000 := by decide +kernel
  have sp : prmN wearUp P.STOR_WEAR_SPREAD < 100000 := by decide +kernel
  have m7 : 7 ∈ (userBlocks wearUp).filter (heldBlocks wearUp).contains := List.mem_filter.2 ⟨user_block 7 (by decide), by decide +kernel⟩
  have m0 : 0 ∈ freeBlocks wearUp := List.mem_filter.2 ⟨user_block 0 (by decide), by decide +kernel⟩
  have hi := fold_max (eraseCount wearUp) (userBlocks wearUp) 0 9 (.inl (user_block 9 (by decide)))
  have m := user_block 7 (by decide)
  unfold wearMove
  generalize userBlocks wearUp = us at *
  generalize freeBlocks wearUp = fs at *
  generalize heldBlocks wearUp = hs at *
  obtain ⟨u, us', rfl⟩ := List.exists_cons_of_ne_nil (List.ne_nil_of_mem m)
  obtain ⟨l, hl, h1, h2⟩ := fold_low (eraseCount wearUp) us' u
  obtain ⟨v, vs, hv⟩ := List.exists_cons_of_ne_nil (List.ne_nil_of_mem m7)
  obtain ⟨a, ha, -⟩ := fold_low (eraseCount wearUp) vs v
  obtain ⟨f, fs', rfl⟩ := List.exists_cons_of_ne_nil (List.ne_nil_of_mem m0)
  obtain ⟨b, hb⟩ := fold_high (eraseCount wearUp) fs' f
  refine ⟨a, b, ?_⟩
  have hl0 : eraseCount wearUp l = 0 := by
    rcases List.mem_cons.1 m with h | h
    · rw [← h, e7] at h1; omega
    · have := h2 7 h; omega
  have key : ∀ (A B C : Option Nat) (n : Nat), A = some l → B = some a → C = some b → 100000 ≤ n →
      (match A, B, C with
        | some l, some a, some b => if prmN wearUp P.STOR_WEAR_SPREAD < n - eraseCount wearUp l then some (a, b) else none
        | _, _, _ => none) = some (a, b) := by
    rintro _ _ _ n rfl rfl rfl hn
    exact if_pos (by omega)
  exact key _ _ _ _ hl (by rw [hv]; exact ha) hb (e9 ▸ hi)

theorem wit_BackgroundTasks : (∃ s : State, taskOn s 1 = true ∧ burnishSuspended s = false ∧ anyPanic s = false ∧ (memChan s (locOf s (s.bkgd.scrub / 64 * 64)).chan).state = 0 ∧
      chooseTxn s (locOf s (s.bkgd.scrub / 64 * 64)).chan ((memChan s (locOf s (s.bkgd.scrub / 64 * 64)).chan).queue.map (aged s)) = none ∧
      s.bkgd.scrub / 64 * 64 + 64 < dramEnd ∧ s.badBlocks.contains (s.bkgd.scrub / 64 * 64) = false) ∧
    (∃ s : State, taskOn s 4 = true ∧ burnishSuspended s = false ∧ nextEyeLane s = some 63) ∧
    (taskOn up 5 = true ∧ up.bkgd.wants = []) ∧ (taskOn up 6 = true ∧ up.stor.ops = []) ∧ (taskOn wearUp 6 = true ∧ burnishSuspended wearUp = false ∧ wearUp.stor.ops = [] ∧ storeInhibited wearUp = false ∧ ∃ src dst, wearMove wearUp = some (src, dst)) ∧
    (∃ s : State, arming s = true ∧ quadsToBias s = [3]) ∧ (∃ s : State, s.thrm.ungateQ = [15] ∧ stripDuty s < 16) ∧
    (∃ (x : StoreOp) (s : State), s.stor.ops = [x] ∧ x.begun = true ∧ x.todo = [3967] ∧ x.erased = false ∧ x.erase = false ∧ eraseCount s 3967 + 1 < prmN s P.STOR_WEAR_LIMIT ∧ storeInhibited s = false) ∧
    (∃ (y : StoreOp) (s : State), storeInhibited s = false ∧ itemState (storeItem s 0x100) = 2 ∧ s.stor.ops = [y] ∧ y.item ≠ 0x100 ∧ y.begun = true) := by
  refine ⟨⟨up, by decide +kernel, by decide +kernel, by decide +kernel, by decide +kernel, by decide +kernel, by decide +kernel, by decide⟩,
    ⟨{ up with lanes := [(63, { state := 2 })] }, by decide +kernel, by decide +kernel, by decide +kernel⟩, ⟨by decide +kernel, rfl⟩, ⟨by decide +kernel, rfl⟩, ⟨by decide +kernel, by decide +kernel, rfl, by decide +kernel, wear_moves⟩,
    ⟨{ pendingCinch 1 2 with sys.stage := [(3, { state := 2, owner := 1, dict := { vals := [(P.LANE_RUN 63, 1)] } })] }, by decide +kernel, by decide +kernel⟩,
    ⟨{ up with thrm.ungateQ := [15], thrm.measures := [(4, 0)] }, rfl, by decide +kernel⟩,
    ⟨{ why := .persist, item := 0x100, begun := true, todo := [3967] }, { up with stor.ops := [{ why := .persist, item := 0x100, begun := true, todo := [3967] }] }, rfl, rfl, rfl, rfl, rfl, by decide +kernel, by decide +kernel⟩,
    ⟨{ why := .persist, item := 0x200, begun := true },
      { up with stor.ops := [{ why := .persist, item := 0x200, begun := true }], stor.items := [(0x100, { copies := [{ gen := 2, data := [], blocks := [0] }, { gen := 1, data := [], blocks := [1] }] })] },
      by decide +kernel, by decide +kernel, rfl, by decide, rfl⟩⟩

theorem wit_ThermalEvents : (List.replicate 24 (1920 : Int)).length = 24 ∧ healthySites up = List.range 24 ∧ up.thrm.state ≠ 4 ∧
    (up.thrm.above = false ∧ 16 * (prmN up P.THRM_THROTTLE_TJ : Int) ≤ 16 * (prmN up P.THRM_ORDERLY_TJ : Int) - 1 ∧ 16 * (prmN up P.THRM_ORDERLY_TJ : Int) - 1 < 1920) ∧
    (∃ s : State, ∀ k, k < 24 → prmN s (P.THRM_RISE_LIMIT k) = 0) ∧
    (∃ s : State, (∀ j, j < 24 → (site s j).n = 0) ∧ (∀ j, j < 0 → prmN s (P.THRM_RISE_LIMIT j) = 0) ∧ prmN s (P.THRM_RISE_LIMIT 0) ≠ 0 ∧ (prmN s (P.THRM_RISE_LIMIT 0) : Rat) < (site s 0).rise ∧ s.thrm.lastRiseEv = none) ∧
    (∃ s : State, throttleHot s = true) ∧ (∃ s : State, recoverCool s = true ∧ 0 < s.thrm.theta) ∧
    (∃ s : State, s.thrm.state = 2 ∧ s.thrm.stopStep = 4) ∧ (∃ s : State, s.thrm.state = 2 ∧ s.thrm.stopStep = 5) := by
  refine ⟨by decide, by decide +kernel, by decide, ⟨rfl, by decide +kernel, by decide +kernel⟩,
    ⟨withPrm ((List.range 24).map (fun k => (P.THRM_RISE_LIMIT k, 0))) up, by decide +kernel⟩,
    ⟨withPrm [(P.THRM_RISE_LIMIT 0, 1)] { up with thrm.sites := [(0, { rise := 2 })] }, by decide +kernel, fun j h => absurd h (by omega), by decide +kernel, by decide +kernel, rfl⟩,
    ⟨{ up with thrm.sites := [(0, { reading := 1919 })] }, by decide +kernel⟩, ⟨{ up with thrm.theta := 7 }, by decide +kernel, by decide⟩,
    ⟨{ up with thrm.state := 2, thrm.stopStep := 4 }, rfl, rfl⟩, ⟨{ up with thrm.state := 2, thrm.stopStep := 5 }, rfl, rfl⟩⟩

theorem wit_ThermalEvents_power : (estimate up ≤ capMw up.thrm.cap ∧ up.thrm.measures = []) ∧ ∃ s : State, capMw s.thrm.cap < estimate s ∧ hasIncrement s 1 = true := by
  refine ⟨⟨by decide +kernel, rfl⟩, ?_⟩
  exact ⟨{ up with thrm.cap := 7, thrm.sites := [(0, { reading := 32000 })] }, by decide +kernel, by decide +kernel⟩

theorem wit_PowerCommands : up.Ready 0x0A02 mailHdr ∧ (mgmtUp.Ready 0x0A04 mgmtHdr ∧ mgmtUp.mayDefer mgmtHdr ∧ mgmtUp.sys.cinch = none) ∧
    (∃ s : State, s.Ready 0x0A03 mailHdr ∧ s.thrm.state = 4 ∧ s.thrm.rearmed = true) ∧ (∃ s : State, s.Ready 0x0A03 mailHdr ∧ s.thrm.state = 3 ∧ s.thrm.rearmed = true) ∧ mgmtUp.Ready 0x0006 mgmtHdr := by
  refine ⟨ready_up (by decide +kernel) (by decide), ⟨ready_mgmt (by decide +kernel) (by decide +kernel) (by decide +kernel), ⟨by decide +kernel, by decide +kernel⟩, rfl⟩,
    ⟨{ up with thrm.state := 4, thrm.rearmed := true }, ready_mail rfl (by decide) (by decide +kernel) (by decide) (by decide +kernel) (by decide) (by decide +kernel) rfl rfl (by decide +kernel), rfl, rfl⟩,
    ⟨{ up with thrm.state := 3, thrm.rearmed := true }, ready_mail rfl (by decide) (by decide +kernel) (by decide) (by decide +kernel) (by decide) (by decide +kernel) rfl rfl (by decide +kernel), rfl, rfl⟩,
    ready_mgmt (by decide +kernel) (by decide +kernel) (by decide +kernel)⟩

/-- A boot descriptor of a generation and preferred slot. -/
def bootDesc (g p : Nat) : List Byte :=
  let b := leBytes 4 0x44425954 ++ leBytes 4 g ++ leBytes 1 p ++ List.replicate 51 0
  b ++ leBytes 4 (crc32c b)

/-- The header of a supervisor image of version 7. -/
def imageHdr : List Byte :=
  leBytes 4 0x53555954 ++ leBytes 2 1 ++ leBytes 2 1 ++ leBytes 4 64 ++ leBytes 4 7 ++ leBytes 8 0 ++ leBytes 8 0 ++ List.replicate 96 0

theorem wit_StartUp : State.reset.boot.porst = true ∧ (∃ s : State, s.boot.porst = false ∧ 1 ≤ s.boot.domains ∧ bitOf s.boot.clocks 1 = false) ∧
    (∃ s : State, s.boot.porst = false ∧ s.thrm.state < 3 ∧ s.boot.stage = 1 ∧ s.boot.domains = 4 ∧ bitOf s.boot.clocks 2 = true) ∧
    (∃ s : State, s.boot.porst = false ∧ s.boot.stage = 0 ∧ s.boot.kind ≠ 1 ∧ s.boot.domains = 3 ∧ bitOf s.boot.clocks 0 = true) ∧
    (descriptor (bootDesc 1 0) = some (1, 0) ∧ descriptor (bootDesc 2 1) = some (2, 1)) ∧ (imageOk 7 imageHdr = true) ∧
    (∃ s : State, s.boot.stage = 2 ∧ s.boot.tries = [1] ∧ s.boot.rollback = 7) ∧ (∃ s : State, s.boot.stage = 3 ∧ s.boot.tries = []) ∧
    (∃ s : State, s.boot.stage = 4 ∧ s.boot.held = false ∧ s.thrm.trip = none) ∧ (∃ s : State, s.boot.stage = 5) ∧ (∃ s : State, s.boot.kind = 1 ∧ s.boot.stage = 0 ∧ s.boot.porst = false) := by
  refine ⟨rfl, ⟨{ State.reset with boot.porst := false, boot.domains := 1 }, rfl, by decide, by decide⟩,
    ⟨{ State.reset with boot.porst := false, boot.stage := 1, boot.domains := 4, boot.clocks := 4 }, rfl, by decide, rfl, rfl, by decide⟩,
    ⟨{ State.reset with boot.porst := false, boot.domains := 3, boot.clocks := 1 }, rfl, rfl, by decide, rfl, by decide⟩, ⟨by decide +kernel, by decide +kernel⟩, by decide +kernel,
    ⟨{ State.reset with boot.stage := 2, boot.tries := [1], boot.rollback := 7 }, rfl, rfl, rfl⟩, ⟨{ State.reset with boot.stage := 3 }, rfl, rfl⟩,
    ⟨{ State.reset with boot.stage := 4 }, rfl, rfl, rfl⟩, ⟨{ State.reset with boot.stage := 5 }, rfl⟩, ⟨{ State.reset with boot.kind := 1, boot.porst := false }, rfl, rfl, rfl⟩⟩

/-- A device whose store holds one item of three bytes. -/
def itemUp : State := { up with stor.items := [(0x20000, { copies := [{ gen := 4, data := [1, 2, 3], blocks := [7] }] })] }

/-- An idle store that holds items still has blocks. -/
theorem take_item : ∃ bs, takeBlocks (blocksFor (max 3 (3 + 1))) itemUp = some bs := by
  have h : 0 ∈ freeBlocks itemUp := by
    show 0 ∈ ((List.range 3968 ++ []).filter (fun b => !([] : List Nat).contains b)).filter (fun b => !([7] : List Nat).contains b)
    simp
  have p := List.length_pos_of_mem h
  have n1 : blocksFor (max 3 (3 + 1)) = 1 := by decide +kernel
  unfold takeBlocks
  simp only [List.length_insertionSort]
  rw [if_neg (by omega)]
  exact ⟨_, rfl⟩

/-- It has blocks for both copies of an item of one block. -/
theorem give_item : poolGives (blocksFor (max 3 (3 + 1))) 0x20000 itemUp = true := by
  have n1 : blocksFor (max 3 (3 + 1)) = 1 := by decide +kernel
  have h : ∀ b ∈ [0, 1], b ∈ freeBlocks itemUp := by
    show ∀ b ∈ [0, 1], b ∈ ((List.range 3968 ++ []).filter (fun b => !([] : List Nat).contains b)).filter (fun b => !([7] : List Nat).contains b)
    simp
  have p : [0, 1].length ≤ (freeBlocks itemUp).length := (List.subperm_of_subset (by decide) h).length_le
  have e : ((storeItem itemUp 0x20000).copies.flatMap StoreCopy.blocks).length = ((newestCopy (storeItem itemUp 0x20000)).toList.flatMap StoreCopy.blocks).length := by decide +kernel
  unfold poolGives
  simp only [n1, e]
  simp at p
  exact decide_eq_true (by omega)

theorem wit_StoreAndKeyCommands : (∃ c bs, itemUp.Ready 0x0903 mailHdr ∧ itemUp.mayDefer mailHdr ∧ storeOwn mailHdr 0x20000 (itemUp.taken 0x0903 mailHdr) = [] ∧ storeInhibited itemUp = false ∧
      newestCopy (storeItem itemUp 0x20000) = some c ∧ 3 ≤ c.data.length ∧ poolGives (blocksFor (max c.data.length (3 + [(9 : Byte)].length))) 0x20000 itemUp = true ∧ takeBlocks (blocksFor (max c.data.length (3 + [(9 : Byte)].length))) itemUp = some bs) ∧
    (itemUp.Ready 0x0904 mailHdr ∧ storeOwn mailHdr 0x20000 (itemUp.taken 0x0904 mailHdr) = [] ∧ (storeItem itemUp 0x20000).copies ≠ []) ∧
    (up.Ready 0x0905 mailHdr ∧ stagingSize - 1 + [(0 : Byte)].length ≤ stagingSize) ∧ (up.Ready 0x0906 mailHdr ∧ up.mayDefer mailHdr) ∧
    mgmtUp.Ready 0x0907 mgmtHdr ∧ mgmtUp.Ready 0x0908 mgmtHdr ∧ storeInhibited mgmtUp = false := by
  have r : itemUp.Ready 0x0903 mailHdr := ready_mail rfl (by decide) (by decide +kernel) (by decide) (by decide +kernel) (by decide) (by decide +kernel) rfl rfl (by decide +kernel)
  obtain ⟨bs, hb⟩ := take_item
  exact ⟨⟨{ gen := 4, data := [1, 2, 3], blocks := [7] }, bs, r, ⟨by decide +kernel, by decide +kernel⟩, by decide +kernel, by decide +kernel, by decide +kernel, by decide, give_item, hb⟩,
    ⟨ready_mail rfl (by decide) (by decide +kernel) (by decide) (by decide +kernel) (by decide) (by decide +kernel) rfl rfl (by decide +kernel), by decide +kernel, by decide +kernel⟩,
    ⟨ready_up (by decide +kernel) (by decide), by decide⟩, ⟨ready_up (by decide +kernel) (by decide), by decide +kernel, by decide +kernel⟩,
    ready_mgmt (by decide +kernel) (by decide +kernel) (by decide +kernel), ready_mgmt (by decide +kernel) (by decide +kernel) (by decide +kernel), by decide +kernel⟩

theorem wit_MemoryController : (∃ (t : MemTxn) (s : State), (locOf s t.addr).chan = 15 ∧ (memChan s 15).state = 0 ∧ (memChan s 15).train = 0 ∧
      (memChan s 15).queue = [] ∧ (memChan s 15).blocked = [] ∧ (memChan s 15).urgent = [] ∧ 0 < t.size ∧ t.addr % 64 + t.size ≤ 64 ∧ t.addr < dramEnd ∧
      (memChan s 15).steps.get 0 t.req = 0 ∧ anyPanic s = false ∧ t.flips = [] ∧ s.badBlocks.contains (t.addr / 64 * 64) = false) ∧
    (∃ s : State, (memChan s 15).state = 0 ∧ (memChan s 15).urgent = [.refresh 15]) ∧ State.reset.thrm.lastRise = none ∧ State.reset.accessible supAcc := by
  refine ⟨⟨{ req := 13, addr := 15 * 1024 * 2 ^ prmN State.reset P.MEMC_INTERLEAVE, write := true, data := [1] }, State.reset, ?_, rfl, rfl, rfl, rfl, rfl, ?_, ?_, ?_, rfl, ?_, rfl, rfl⟩, ⟨{ State.reset with memc.chans := [(15, { urgent := [.refresh 15] })] }, rfl, rfl⟩, rfl, .inl (by decide)⟩ <;> decide +kernel

/-- The state after reset with queue 7 of a size and content. -/
def queued (n : Nat) (x : Queue) : State := withPrm [(P.QUEUE_SIZE 7, n), (P.QUEUE_TIMEOUT 7, 1)] { State.reset with qdma.queues := [(7, x)] }

theorem wit_QueueCommands : ((queued 64 {}).accessible supAcc ∧ pushRight (queued 64 {}) supAcc.principal 7 = true ∧ producer (queued 64 {}) 7 = 0 ∧
      (queued 64 {}).sys.mailSkip.contains 7 = false ∧ (queue (queued 64 {}) 7).words.length < queueSize (queued 64 {}) 7) ∧
    (queueSize (queued 1 { words := [⟨1, true, false⟩] }) 7 ≠ 0 ∧ queueSize (queued 1 { words := [⟨1, true, false⟩] }) 7 ≤ (queue (queued 1 { words := [⟨1, true, false⟩] }) 7).words.length) ∧
    (popRight (queued 64 {}) supAcc.principal 7 = true ∧ consumerOf (queued 64 {}) 7 = 0 ∧ (queue (queued 64 {}) 7).words = []) ∧
    writeRight supAcc.principal (prmN (queued 64 {}) (P.QUEUE_OWNER 7)) (prmB (queued 64 {}) (P.QUEUE_SECURE 7)) = true ∧
    prm (queued 64 { words := [⟨1, true, false⟩] }) (P.QUEUE_TIMEOUT 7) ≠ 0 ∧
    (∃ (s : State) (b : Burst), (queue s 7).chanCons = none ∧ (queue s 7).chanProd = some 2 ∧ (chan s 2).dst % 1024 = 7 ∧ (chan s 2).bursts = b :: []) ∧
    (∃ (s : State) (b : Burst), (queue s 7).chanCons = some 2 ∧ (queue s 7).chanProd = none ∧ (chan s 2).bursts = [] ++ [b]) ∧
    (∃ s : State, producer s 7 = 2 ∧ (queue s 7).words.length + [1, 2].length ≤ queueSize s 7) ∧ ∃ s : State, producer s 7 = 2 ∧ queueSize s 7 < (queue s 7).words.length + [1, 2].length := by
  refine ⟨⟨.inl (by decide), by decide +kernel, by decide +kernel, rfl, by decide +kernel⟩, by decide +kernel, by decide +kernel, by decide +kernel, by decide +kernel,
    ⟨{ queued 64 { chanProd := some 2 } with qdma.chans := [(2, { dst := 7, bursts := [{ words := [], bytes := 0, keep := 0 }] })] }, _, rfl, rfl, rfl, rfl⟩,
    ⟨{ queued 64 { chanCons := some 2 } with qdma.chans := [(2, { bursts := [{ words := [], bytes := 0, keep := 0 }] })] }, _, rfl, rfl, rfl⟩,
    ⟨withPrm [(P.PORT_EVENT_QUEUE 0, 7)] (queued 64 {}), by decide +kernel, by decide +kernel⟩,
    ⟨withPrm [(P.PORT_EVENT_QUEUE 0, 7)] (queued 1 {}), by decide +kernel, by decide +kernel⟩⟩

/-- The state after reset with channel 63 as given. -/
def chanState (x : Chan) : State := { State.reset with qdma.chans := [(63, x)] }

/-- A running channel whose one burst is under way. -/
def doneChan : Chan := { state := 2, count := 64, remain := 64, issued := 64, bursts := [{ words := [⟨7, false, false⟩], bytes := 64, keep := 8 }] }

theorem wit_ChannelCommands : (State.reset.accessible supAcc ∧ writeRight supAcc.principal (prmN State.reset (P.QDMA_OWNER 63)) (prmB State.reset (P.QDMA_SECURE 63)) = true ∧
      startCheck (chanState { count := 64, dst := 64 }) 63 (ctrlFields 0 (chan (chanState { count := 64, dst := 64 }) 63)) = none) ∧
    (startCheck (chanState { src := 1 }) 63 (ctrlFields 0 (chan (chanState { src := 1 }) 63)) = some (1, 0)) ∧
    (chanBusy (chan (chanState { state := 1 }) 63) = true ∧ (chan (chanState { state := 1 }) 63).bursts = []) ∧
    (nextChan (fallBack (chanState { state := 1, count := 64, remain := 64 })) = some 63) ∧
    (nextChan (fallBack { chanState { state := 1, count := 64, remain := 64, srcKind := 1, startMark := 1 } with
      qdma.queues := [(0, { words := List.replicate 8 ⟨5, false, false⟩, chanCons := some 63 })] }) = some 63) ∧
    nextChan (fallBack State.reset) = none ∧ (chanBusy doneChan = true ∧ endless doneChan = false ∧ ∀ p ∈ placed doneChan [⟨7, false, false⟩], beyond (chanState doneChan) 63 doneChan.dstKind p.1 = false) := by
  refine ⟨⟨.inl (by decide), ?_, ?_⟩, ?_, ?_, ?_, ?_, ?_, ?_, ?_, ?_⟩ <;> decide +kernel

/-- The state after reset with CRC unit 7 as given. -/
def crcState (x : CrcUnit) : State := { State.reset with chk.units := [(7, x)] }

theorem wit_CrcUnitCommands : (State.reset.accessible supAcc ∧ crcRight State.reset supAcc.principal 7 = true ∧ crcBusy State.reset 7 = false) ∧
    crcBusy (chanState { state := 1, dstKind := 3, dst := 7 }) 7 = true ∧
    ((crcUnit (crcState { input := [⟨1, false, true⟩], limit := 8 }) 7).input = [⟨1, false, true⟩] ∧ (crcUnit (crcState { input := [⟨1, false, true⟩], limit := 8 }) 7).job = none ∧
      (crcState { input := [⟨1, false, true⟩], limit := 8 }).chk.jobs = []) ∧ (crcUnit (crcState { count := 64 }) 7).count % 64 = 0 ∧ (crcUnit State.reset 7).input = [] := by
  refine ⟨⟨.inl (by decide), ?_, ?_⟩, ?_, ⟨rfl, rfl, rfl⟩, rfl, rfl⟩ <;> decide +kernel

/-- An access of core 7 in the world of APP-N. -/
def appNAcc : Acc := { principal := .appN, source := 7 }

theorem wit_CoreWindow : (State.reset.accessible supAcc ∧ systemRight supAcc.principal = true) ∧ (State.reset.accessible appNAcc ∧ (systemRight appNAcc.principal || appNAcc.principal == .appN) = true) ∧
    writeRight supAcc.principal (prmN State.reset (P.QDMA_OWNER 63)) (prmB State.reset (P.QDMA_SECURE 63)) = true ∧ chanBusy (chan State.reset 63) = false ∧
    (writeRight appNAcc.principal (prmN State.reset (P.QDMA_OWNER 63)) (prmB State.reset (P.QDMA_SECURE 63)) = false ∧ prmB State.reset P.CORE_REFUSE_FAULT = false ∧ State.reset.core.refused.valid = false) ∧
    (dramEnd ≤ dramEnd ∧ dramEnd < 0x1001000000) := by
  refine ⟨⟨.inl (by decide), by decide⟩, ⟨.inl (by decide), by decide⟩, ?_, ?_, ⟨?_, ?_, ?_⟩, by decide, by decide⟩ <;> decide +kernel

/-- A loader of 64 bytes at address 0. -/
def loader : List Byte := leBytes 4 0x4C435954 ++ leBytes 2 1 ++ leBytes 2 0 ++ leBytes 4 64 ++ List.replicate 116 0

/-- A device that boots its cores from the flash without a signature. -/
def regions : State := withPrm [(P.CORE_BOOT_SRC, 0), (P.CORE_BOOT_VERIFY, 0)] up

theorem wit_CoreAccesses : (inRegions State.reset 2 (dramEnd - 64) 64 = false ∧ inRegions State.reset 3 0 64 = false) ∧ (inRegions regions 2 0 64 = true ∧ 0 + 64 ≤ dramEnd) ∧ (∃ s : State, inRegions s 2 0 64 = true ∧ touchesLost s 0 64 = true) ∧
    (∃ s : State, s.boot.clusterA = true) ∧ (up.core.unlocked = false ∧ (List.replicate 256 (0 : Byte)).length ≤ 256 ∧ accepting up = true) ∧
    (∃ s : State, s.core.boot = 1 ∧ prm s P.CORE_BOOT_SRC ≠ 1 ∧ loaderOk loader = true ∧ inRegions s 2 (leAt loader 16 8) (leAt loader 8 4) = true) ∧
    (∃ s : State, s.core.boot = 2 ∧ loaderFault s true false = none ∧ prm s P.CORE_BOOT_SRC ≠ 1 ∧ ((List.replicate 64 (0 : Byte)).take (leAt s.core.hdr 8 4)).length = leAt s.core.hdr 8 4) := by
  refine ⟨⟨by decide +kernel, by decide +kernel⟩, ⟨by decide +kernel, by decide⟩, ⟨{ regions with core.lost := [0] }, by decide +kernel, by decide +kernel⟩, ⟨{ up with boot.clusterA := true }, rfl⟩,
    ⟨rfl, by decide +kernel, rfl⟩, ⟨{ regions with core.boot := 1 }, rfl, by decide +kernel, by decide +kernel, by decide +kernel⟩,
    ⟨{ regions with core.boot := 2, core.hdr := loader }, rfl, by decide +kernel, by decide +kernel, by decide +kernel⟩⟩

/-- The state after reset with channel TW`n` as given. -/
def twState (n : Nat) (x : Twc) : State := { State.reset with twcs := [(n, x)] }

theorem wit_TwoWireCommands : (State.reset.accessible supAcc ∧ twRight State.reset supAcc.principal 7 = true) ∧
    ((twc (twState 1 { run := true }) 1).run = true ∧ (twc (twState 1 { run := true }) 1).act = 0 ∧ twQuiet (twState 1 { run := true }) 1 = false) ∧
    goRefused (twState 1 { run := true }) 1 (BitVec.ofNat 32 (2 ^ 29 + 2 * 8)) = false ∧ goRefused State.reset 1 0 = true ∧
    (twQuiet State.reset 7 = false ∧ (twc State.reset 7).act ≠ 1) ∧ ((twc (twState 7 { act := 1, begun := true }) 7).act = 1 ∧ (twc (twState 7 { act := 1, begun := true }) 7).begun = true) ∧
    (∃ s : State, (twc s 7).act = 1 ∧ (twc s 7).begun = true ∧ (twc s 7).tries + 1 ≤ prmN s (P.TWB_RETRY 7)) ∧
    (∃ s : State, (twc s 7).act ≤ 1 ∧ (twc s 7).begun = false ∧ (twc s 7).busBusy = false ∧ alertDue s 7 = true) ∧ (∃ s : State, (twc s 7).act = 1 ∧ (twc s 7).begun = true ∧ prmN s (P.TWB_RETRY 7) < (twc s 7).tries + 1) ∧
    ((twc (twState 7 { run := true, act := 1 }) 7).run = true ∧ (true || false) = true) ∧ 3 ≤ (twc (twState 7 { act := 3 }) 7).act ∧
    (∃ s : State, (twc s 7).run = true ∧ prmB s (P.TWB_ALERT_AUTO 7) = true ∧ (twc s 7).act ≤ 1 ∧ (twc s 7).begun = false ∧ (twc s 7).alertStop = false ∧ (twc s 7).busBusy = false ∧ twQuiet s 7 = false ∧ (twc s 7).fifo.length < 8) ∧
    (twc (twState 7 { fifo := [127] }) 7).fifo = [127] := by
  refine ⟨⟨.inl (by decide), by decide +kernel⟩, ⟨rfl, rfl, by decide +kernel⟩, by decide +kernel, by decide +kernel, ⟨by decide +kernel, by decide⟩, ⟨rfl, rfl⟩,
    ⟨withPrm [(P.TWB_RETRY 7, 1)] (twState 7 { act := 1, begun := true }), by decide +kernel, by decide +kernel, by decide +kernel⟩,
    ⟨withPrm [(P.TWB_ALERT_AUTO 7, 1)] (twState 7 { run := true, busBusy := false, alertPin := true }), by decide +kernel, by decide +kernel, by decide +kernel, by decide +kernel⟩,
    ⟨withPrm [(P.TWB_RETRY 7, 0)] (twState 7 { act := 1, begun := true }), by decide +kernel, by decide +kernel, by decide +kernel⟩,
    ⟨rfl, rfl⟩, by decide, ⟨withPrm [(P.TWB_ALERT_AUTO 7, 1)] (twState 7 { run := true, busBusy := false }), by decide +kernel⟩, rfl⟩

/-- An ECHO without data on HT. -/
def htHdr : Hdr := { via := .ht, session := 5, seq := 1, tag := 7 }

/-- A running device whose host has written that ECHO and its doorbell. -/
def rung : State := { up with
  ht.bell := some 1
  ht.cmd := (List.range 40).foldl (fun m i => m.set 0 i ((packetOf 0x0004 htHdr []).getD i 0)) [] }

theorem wit_HostPortCommands : (htRuns State.reset = false ∧ htRuns { up with boot.porst := false } = true ∧ htMatches up 0x5C = true) ∧
    (∃ s : State, s.ht.fn = some 0 ∧ s.ht.reading = false ∧ s.ht.have2 = 2 ∧ s.ht.ptrs.get 0 0 = 0xFFF ∧ 0xFFF < 0x1000) ∧
    (∃ s : State, htRuns s = true ∧ halertLow s = true) ∧ (∃ s : State, s.ht.reply ≠ [] ∧ s.ht.waiting = [] ∧ s.ht.state = 2) ∧
    (∃ s : State, s.ht.bell = some 1 ∧ accepting s = true ∧ s.ht.state = 1) ∧
    (rung.ht.bell = some 1 ∧ rung.ht.state = 0 ∧ rung.ht.reply = [] ∧ htPacket rung = packetOf 0x0004 htHdr [] ∧ htHdr = runInstr.hdrOf .ht (htPacket rung) ∧
      reservedFault .ht (htPacket rung) = none ∧ ackWaits rung 5 htHdr.seq = false) := by
  refine ⟨⟨by decide, by decide +kernel, by decide +kernel⟩, ⟨{ up with ht.fn := some 0, ht.have2 := 2, ht.ptrs := [(0, 0xFFF)] }, rfl, rfl, rfl, rfl, by decide⟩,
    ⟨{ up with boot.porst := false, ht.causes := 7 }, by decide +kernel, by decide +kernel⟩, ⟨{ up with ht.reply := [1], ht.state := 2 }, by decide, rfl, rfl⟩,
    ⟨{ up with ht.bell := some 1, ht.state := 1 }, rfl, rfl, rfl⟩, rfl, rfl, rfl, by decide +kernel, by decide +kernel, by decide +kernel, by decide +kernel⟩

theorem wit_HostPortCommands_doorbell :
    State.Ready { rung with ht.bell := none, ht.state := 1, ht.doorbells := 1, evnt.inflight := [⟨597, 0, none⟩] } 0x0004 htHdr where
  accepts := rfl
  heard := rfl
  session := rfl
  opened h := by cases h
  seq := by decide +kernel
  rate := by decide
  permits := by decide +kernel
  reserved := rfl
  runs := by decide +kernel
  epoch h := by cases h
  held := by decide +kernel
  alone := rfl
  idle := by decide +kernel
  mail := by decide +kernel

/-- A running device with axis 7 as given. -/
def axisUp (x : Axis) : State := { up with motn.axes := [(7, x)] }

/-- A running device with axis 7 as given, on an SSI encoder. -/
def ssiUp (x : Axis) : State := withPrm [(P.MOTN_AX_INPUT 7, 1), (P.MOTN_AX_SSI_CODE 7, 0), (P.MOTN_AX_HYSTERESIS 7, 0)] (axisUp x)

theorem wit_EncoderCommands : (prm (axisUp { run := true, p := posMax - 1 }) (P.MOTN_AX_INPUT 7) = 0 ∧
      (axis (axisUp { run := true, p := posMax - 1 }) 7).run = true ∧ (true != (axis (axisUp { run := true, p := posMax - 1 }) 7).a) ≠ (false != (axis (axisUp { run := true, p := posMax - 1 }) 7).b) ∧
      posMin ≤ posMax - 1 + 1 ∧ posMin ≤ posMax - 1 + -1) ∧
    ((axis (ssiUp { run := true }) 7).run = true ∧ prm (ssiUp { run := true }) (P.MOTN_AX_INPUT 7) = 1 ∧ prmB (ssiUp { run := true }) (P.MOTN_AX_SSI_CODE 7) = false ∧
      prmB (ssiUp { run := true }) (P.MOTN_AX_HYSTERESIS 7) = false) ∧
    (ofCode (prmN (ssiUp { run := true, ssiPrev := some 5 }) (P.MOTN_AX_SSI_BITS 7)) (6 + 2 ^ prmN (ssiUp { run := true, ssiPrev := some 5 }) (P.MOTN_AX_SSI_BITS 7) - 5)).natAbs ≤
      prmN (ssiUp { run := true, ssiPrev := some 5 }) (P.MOTN_AX_SSI_MAX_DELTA 7) ∧
    (∃ s : State, (axis s 7).run = true ∧ (axis s 7).same = 4 ∧ (axis s 7).clearNs + settleNs (prmN s (P.MOTN_AX_BANDWIDTH 7)) ≤ monoNs s) := by
  refine ⟨?_, ?_, ?_, ⟨{ axisUp { run := true, same := 4 } with tk.cycles := 10 ^ 9 }, rfl, rfl, ?_⟩⟩ <;> decide +kernel

/-- A running device with generator 15 and compare unit 7 as given. -/
def motionUp (x : Ltg) (y : Pc) (vs : Map Int) : State := withPrm vs { up with motn.ltgs := [(15, x)], motn.pcs := [(7, y)], tk.timer := 2 ^ 60, tk.cycles := 10 ^ 9 }

theorem wit_TriggerAndCompare : (∃ s : State, (ltg s 15).run = true ∧ prm s (P.MOTN_LTG_SOURCE 31) = 1 ∧ ((ltg s 15).timer + 1) * 2 ^ 49 ≤ s.tk.timer ∧
      (ltg s 15).acc + prm s (P.MOTN_LTG_DIV_M 31) < prm s (P.MOTN_LTG_DIV_N 31)) ∧
    (∃ s : State, (ltg s 15).run = true ∧ prm s (P.MOTN_LTG_SOURCE 31) = 1 ∧ ((ltg s 15).timer + 1) * 2 ^ 49 ≤ s.tk.timer ∧ prm s (P.MOTN_LTG_DIV_N 31) ≤ (ltg s 15).acc + prm s (P.MOTN_LTG_DIV_M 31) ∧ (ltg s 15).lastNs = none) ∧
    (∃ (s : State) (l : Latch) (ls : List Latch), (ltg s 15).held = l :: ls ∧ (ltg s 15).lastNs.getD 0 + prmN s (P.MOTN_LTG_MIN_PERIOD 31) ≤ monoNs s) ∧
    (∃ s : State, pcRight s supAcc 7 = true ∧ holdsClaim s = true ∧ (pc s 7).run = true ∧ ¬ ((windowEntry (pc s 7) 0).pos ≤ (axis s (prmN s (P.MOTN_PC_AXIS 39))).p ∧ (axis s (prmN s (P.MOTN_PC_AXIS 39))).d = 1)) ∧
    (∃ s : State, pcRight s supAcc 7 = true ∧ holdsClaim s = true ∧ (pc s 7).run = true ∧ (windowEntry (pc s 7) 0).pos ≤ (axis s (prmN s (P.MOTN_PC_AXIS 39))).p ∧ (axis s (prmN s (P.MOTN_PC_AXIS 39))).d = 1 ∧ (windowEntry (pc s 7) 0).late = false) ∧
    (∃ s : State, (pc s 7).pulseEnd = some 5 ∧ 5 ≤ monoNs s) ∧ ∃ s : State, (pc s 7).fired = [⟨1, true, true⟩] := by
  refine ⟨⟨motionUp { run := true, acc := -5 } {} [(P.MOTN_LTG_SOURCE 31, 1), (P.MOTN_LTG_DIV_N 31, 4), (P.MOTN_LTG_DIV_M 31, 1)], ?_⟩,
    ⟨motionUp { run := true, acc := 3 } {} [(P.MOTN_LTG_SOURCE 31, 1), (P.MOTN_LTG_DIV_N 31, 4), (P.MOTN_LTG_DIV_M 31, 1)], ?_⟩,
    ⟨motionUp { held := [{}] } {} [], {}, [], ?_⟩, ⟨motionUp {} { run := true, insLo := 1 } [], ?_⟩, ⟨motionUp {} { run := true } [], ?_⟩,
    ⟨motionUp {} { pulseEnd := some 5 } [], ?_⟩, ⟨motionUp {} { fired := [⟨1, true, true⟩] } [], ?_⟩⟩ <;> decide +kernel

/-- A line of port 15. -/
def portLine : OutLine := { line := { stamp := { port := 15, globalLine := 7 }, bytes := [1, 2] } }

theorem wit_PixelCommands : (∃ (s : State) (o : OutLine), (strip s 15).inq = [o] ∧ o.first = false ∧ ganged (dictAt s o.line.stamp.epoch) 15 = false ∧ dataPathHeld s = false ∧ waitsCapture s 15 7 = false ∧ waitsHeartbeat s 15 7 = false ∧
      calibLoaded s 15 0 = true ∧ gapHeld s 5 15 = false ∧ (strip s 15).preset = none) ∧
    (∃ (s : State) (j : ShadeJob), (strip s 15).job = some j) ∧ (up.sys.cinch = none ∧ (strip up 15).inq = []) ∧
    (∃ (s : State) (c : Line), (colr s 15).wait = [c] ∧ dictN (dictAt s c.stamp.epoch) (P.COLR_MODE 15) = 0 ∧ s.stch.run = true ∧ prmAtB s c.stamp.epoch (P.STCH_RUN 15) = true ∧
      prmAtB s c.stamp.epoch P.STCH_OUT_RUN = true) ∧
    (∃ (s : State) (c : Line), (colr s 15).wait = [c] ∧ dictN (dictAt s c.stamp.epoch) (P.COLR_MODE 15) = 1 ∧ mayEmit s 15 1 c [] = true ∧ s.stch.run = true ∧
      prmAtB s c.stamp.epoch (P.STCH_RUN 15) = true ∧ prmAtB s c.stamp.epoch P.STCH_OUT_RUN = true) := by
  refine ⟨⟨{ up with strips := [(15, { inq := [portLine] })] }, portLine, by decide +kernel⟩,
    ⟨{ up with strips := [(15, { job := some ⟨[], [], [1], 1, 1, 1, 1, 0, 0⟩ })] }, _, rfl⟩, ⟨rfl, rfl⟩,
    ⟨withPrm [(P.STCH_RUN 15, 1), (P.STCH_OUT_RUN, 1), (P.COLR_MODE 15, 0)] { up with colrs := [(15, { wait := [{ stamp := {}, comps := 1, px := [] }] })], stch.run := true }, { stamp := {}, comps := 1, px := [] }, by decide +kernel⟩,
    ⟨withPrm [(P.STCH_RUN 15, 1), (P.STCH_OUT_RUN, 1), (P.COLR_MODE 15, 1)] { up with colrs := [(15, { wait := [{ stamp := { flags := 0x4000 }, comps := 1, px := [] }] })], stch.run := true }, { stamp := { flags := 0x4000 }, comps := 1, px := [] }, by decide +kernel⟩⟩

/-- A running stitcher whose input 15 holds lines and a ring, with some values applied. -/
def stitching (x : StchIn) (vs : Map Int) : State := withPrm ([(P.STCH_RUN 15, 1), (P.STCH_OUT_RUN, 1), (P.STCH_OUT_REF_PORT, 15), (P.RECD_HIST_EN, 0), (P.SEGM_RUN, 0)] ++ vs) { up with stch.run := true, stch.ins := [(15, x)] }

/-- A line of one sample. -/
def oneLine (f : Word16) (frame : Nat) : Line := { stamp := { flags := f, frame := frame }, comps := 1, px := [5] }

theorem wit_StitchCommands : (areaMode (dictAt (stitching { inq := [oneLine 0 0] } []) 0) = false ∧ rtpHeld (stitching { inq := [oneLine 0 0] } []) 3 = false) ∧
    (areaMode (dictAt (stitching { inq := [oneLine 0x2000 0] } [(P.STCH_OUT_MODE, 1)]) 0) = true ∧ hasFlag (oneLine 0x2000 0).stamp.flags 13 = true) ∧
    (∃ (s : State) (d : Dict), d = dictAt s s.stch.epoch ∧ s.sys.cinch = none ∧ s.stch.run = true ∧ areaMode d = false ∧ dataPathHeld s = false ∧ waitsStitched s s.stch.globalLine = false ∧
      streamHeld s d = false ∧ contributors d = [15] ∧ (linePart s d s.stch.next 15).isSome = true ∧ dictVal d P.STCH_OUT_RUN ≠ 0) ∧
    (∃ (s : State) (d : Dict), d = dictAt s s.stch.epoch ∧ s.sys.cinch = none ∧ s.stch.run = true ∧ areaMode d = true ∧ dataPathHeld s = false ∧ waitsStitched s s.stch.globalLine = false ∧
      streamHeld s d = false ∧ contributors d = [15] ∧ (stchIn s 15).ended.contains s.stch.frame = true ∧ dictVal d P.STCH_OUT_RUN ≠ 0) ∧
    (∃ s : State, (stchIn s 15).inq = [] ++ oneLine 0 2 :: [oneLine 1 2] ∧ (stchIn s 15).base = some 0 ∧ tooFar s (((oneLine 0 2).stamp.frame + 2 ^ 32 - 0) % 2 ^ 32) = true ∧ areaMode (dictAt s s.stch.epoch) = true) := by
  refine ⟨⟨by decide +kernel, by decide +kernel⟩, ⟨by decide +kernel, by decide +kernel⟩,
    ⟨stitching { ring := [(0, 0, oneLine 0 0), (1, 0, oneLine 0 0)], base := some 0 } [], _, rfl, rfl, rfl, by decide +kernel, by decide +kernel, by decide +kernel, by decide +kernel, by decide +kernel, by decide +kernel, by decide +kernel⟩,
    ⟨stitching { ended := [0] } [(P.STCH_OUT_MODE, 1)], _, rfl, rfl, rfl, by decide +kernel, by decide +kernel, by decide +kernel, by decide +kernel, by decide +kernel, by decide +kernel, by decide +kernel⟩,
    ⟨stitching { inq := [oneLine 0 2, oneLine 1 2], base := some 0 } [(P.STCH_OUT_MODE, 1)], rfl, rfl, by decide +kernel, by decide +kernel⟩⟩

/-- An object of one pixel that has been handed over. -/
def handed : ClosedObj := { obj := { num := 3, chain := 3, set := 0, first := 0, last := 0, posFirst := 0, posLast := 0, lo := 0, area := 1 }, epoch := 0, h := 1, refNs := 0, rowZero := 0 }

theorem wit_ObjectCommands : (∃ (s : State) (l : Line), s.segm.inq = [(l, none)] ∧ dataPathHeld s = false ∧ waitsHeartbeat s 16 l.stamp.globalLine = false ∧ s.segm.run = true ∧ s.segm.stopping = false ∧
      dictVal (dictAt s l.stamp.epoch) P.SEGM_RUN = 1 ∧ forcedOut s 9 0 = false ∧ (latchSlot s 16).pending = []) ∧
    (∃ s : State, s.recd.inq = [handed] ∧ ¬ ((verdict (asRead s (dictAt s 0)) handed.obj).patch = true ∧ 256 ≤ s.recd.patches.length)) ∧
    (∃ (s : State) (q : PatchReq), s.recd.patches.find? (fun q => (!s.stch.run || s.stch.runNo != q.runNo) || (match histLast s q.runNo with | some n => decide (q.nCut ≤ n) | none => false)) = some q ∧
      rtpHeld s 7 = false ∧ s.recd.stopping = false) := by
  refine ⟨⟨withPrm [(P.SEGM_RUN, 1)] { up with segm.run := true, segm.inq := [({ stamp := {}, comps := 1, px := [] }, none)] }, { stamp := {}, comps := 1, px := [] }, rfl, ?_⟩,
    ⟨{ up with recd.inq := [handed] }, rfl, fun h => absurd h.2 (by decide)⟩,
    ⟨{ up with recd.patches := [⟨3, 0, 1, 0, 5, 0, 5, 6, false, false, false⟩] }, _, rfl, ?_, rfl⟩⟩ <;> decide +kernel

def asked3 : State := { State.reset with bkgd := { State.reset.bkgd with wants := [3] } }
def trained3 : State := setMemChan 3 { train := 3, state := 1 } asked3
def panicking : State := setRtp 7 { panic := some 4, lags := [(2, 90)] } State.reset
theorem wit_PanicAndRetraining : prmN State.reset (P.MEMC_PANIC_LEVEL 23) < 101 ∧ (rtp State.reset 7).panic = none ∧
    (rtp panicking 7).panic = some 4 ∧ (∀ l ∈ List.replicate 16 (1 : Nat), 2 * l < prmN panicking (P.MEMC_PANIC_LEVEL 23)) ∧
    asked3.bkgd.wants.contains 3 = true ∧ burnishSuspended asked3 = false ∧ anyPanic asked3 = false ∧ (∀ r < 8, ∀ p ∈ (rtp asked3 r).lags, p.2 < 25) ∧
    (∀ k < 16, (memChan asked3 k).train = 0) ∧ (memChan asked3 3).state = 0 ∧
    (memChan (setMemChan 3 { train := 1 } panicking) 3).train = 1 ∧ anyPanic (setMemChan 3 { train := 1 } panicking) = true ∧
    (memChan (setMemChan 3 { train := 1 } asked3) 3).train = 1 ∧ anyPanic (setMemChan 3 { train := 1 } asked3) = false ∧
    (memChan trained3 3).train = 3 ∧ State.reset.accessible supAcc := by
  refine ⟨by decide +kernel, rfl, rfl, by decide +kernel, rfl, by decide +kernel, by decide +kernel, by decide +kernel, by decide +kernel, rfl, rfl,
    by decide +kernel, rfl, by decide +kernel, rfl, .inl (by decide)⟩

/-- A flow entry of port 0 and queue 0, without coding. -/
def plainEntry : List Byte := List.replicate 64 0

/-- A flow entry of port 0 with coding. -/
def codedEntry : List Byte := List.replicate 7 0 ++ [1] ++ List.replicate 56 0

/-- A closed LOG unit. -/
def logUnit (entry : List Byte) : OpenUnit := { product := 10, source := 0, firstId := 1, epoch := 0, rows := 1, chunks := [.bytes [1]], entry := entry }

/-- Units of a flow that wait to be formed. -/
def formable (entry : List Byte) : State := setFlow 1023 { selected := true, closed := [logUnit entry], fill := some (logUnit entry) } up

/-- A unit with coding. -/
def codedPUnit : Machine.PUnit := formUnit 1023 1 0 0 (logUnit codedEntry)

/-- Engine 15 codes a unit. -/
def coding : State := setEngine 15 { state := 1, unit := some codedPUnit } up

/-- Engine 15 works on a compress job of capacity 0. -/
def jobbing : State := setEngine 15 { state := 2, job := some (1, 1) } { up with sys.deferred := [waitingCmd 0x0701 (.jobCompress mailHdr 0 64 2 0 0 64 0)] }

theorem wit_ProductUnits : (∃ pu t, (flow (formable codedEntry) 1023).closed = [logUnit codedEntry] ∧ attached (formable codedEntry) = false ∧ isShadow (formable codedEntry) = false ∧
      pu = formUnit 1023 (flow (formable codedEntry) 1023).nextSeq (prmN (formable codedEntry) P.CHK_DIGEST_SCOPE) (formable codedEntry).sys.epoch { logUnit codedEntry with launchRef := nowNs (formable codedEntry) } ∧
      t = setFlow 1023 { flow (formable codedEntry) 1023 with closed := [], nextSeq := 1, kept := [(pu.seq, pu.digest)] } (formable codedEntry) ∧ bitOf pu.uflags 0 = true ∧
      ((formable codedEntry).cmpr.backlog.map Machine.PUnit.bodyLen).sum + pu.bodyLen ≤ prmN (formable codedEntry) P.CMPR_BACKLOG * 2 ^ 20) ∧
    (∃ pu, pu = formUnit 1023 (flow (formable plainEntry) 1023).nextSeq (prmN (formable plainEntry) P.CHK_DIGEST_SCOPE) (formable plainEntry).sys.epoch { logUnit plainEntry with launchRef := nowNs (formable plainEntry) } ∧ bitOf pu.uflags 0 = false ∧ leAt plainEntry 3 1 ≠ 3 ∧
      (unitHeader pu pu.body ++ pu.body).length ≤ queueRoom (formable plainEntry) 0 0 20) ∧
    ((flow (formable plainEntry) 1023).fill = some (logUnit plainEntry) ∧ (flow (formable plainEntry) 1023).selected = true) ∧
    (∃ e, idleEngine { up with cmpr.backlog := [codedPUnit] } (prmN { up with cmpr.backlog := [codedPUnit] } P.CMPR_PRODUCT_ENGINES) = some e) ∧
    (∃ e, idleEngine (withPrm [(P.CMPR_JOB_ENGINES, 0x8000)] up) (prmN (withPrm [(P.CMPR_JOB_ENGINES, 0x8000)] up) P.CMPR_JOB_ENGINES) = some e) ∧
    [16, 17, 18, 19].find? (fun e => (engine up e).state == 0) = some 16 ∧
    ((engine coding 15).state = 1 ∧ (engine coding 15).unit = some codedPUnit ∧ leAt codedPUnit.entry 3 1 ≠ 3) ∧
    (∃ s, (engine s 15).state = 1 ∧ (engine s 15).unit = some codedPUnit ∧ unitRoom s 15 codedPUnit < (codedUnit (unitCoding s codedPUnit) codedPUnit.body).length) ∧
    ((engine jobbing 15).state = 2 ∧ (engine jobbing 15).job = some (1, 1) ∧ findDeferred jobbing 1 1 = some (waitingCmd 0x0701 (.jobCompress mailHdr 0 64 2 0 0 64 0)) ∧ anyBad jobbing 0 64 = false ∧
      0 < (codedUnit (codingOf jobbing.sys.applied 2 0 0 true false (jobbing.mem.read 0 64)) (jobbing.mem.read 0 64)).length) ∧
    (∃ s, (engine s 15).state = 3 ∧ (engine s 15).unit = some codedPUnit ∧ (codedUnit (unitCoding s codedPUnit) codedPUnit.body).length ≤ unitRoom s 15 codedPUnit) ∧
    (admitUnit 15 codedPUnit (codedUnit (unitCoding coding codedPUnit) codedPUnit.body) coding).1 = true ∧
    (∃ s, (engine s 15).state = 0 ∧ (engine s 15).leaving = true) := by
  refine ⟨⟨_, _, rfl, by decide +kernel, by decide +kernel, rfl, rfl, by decide +kernel, by decide +kernel⟩, ⟨_, rfl, by decide +kernel, by decide +kernel, by decide +kernel⟩, ⟨rfl, rfl⟩,
    ⟨0, by decide +kernel⟩, ⟨15, by decide +kernel⟩, by decide +kernel, ⟨rfl, rfl, by decide +kernel⟩,
    ⟨withPrm [(P.NETW_Q_BUF 0 0, 0)] coding, rfl, rfl, by decide +kernel⟩, ⟨rfl, rfl, by decide +kernel, by decide +kernel, by decide +kernel⟩,
    ⟨setEngine 15 { state := 3, unit := some codedPUnit } up, rfl, rfl, by decide +kernel⟩, by decide +kernel,
    ⟨setEngine 15 { leaving := true } up, rfl, rfl⟩⟩

/-- NET0 runs with link. -/
def linked : State := setNetPort 0 { linkUp := true } (withPrm [(P.NETW_RUN 0, 1)] up)

/-- A unit heads the highest queue of NET0. -/
def loaded : State := setNetPort 0 { linkUp := true, queues := [(7, { units := [{ flow := 0, product := 10, source := 0, seq := 1, coded := false, launch := 0, entry := List.replicate 64 1, bytes := [1, 2] }] })] } linked

theorem wit_NetworkPorts : (netPort up 2).linkUp = false ∧
    (∃ s : State, (netPort s 0).linkUp = true ∧ (netPort s 0).paused = false ∧ prmN s (P.NETW_RUN 0) ≠ 0 ∧ (txQueue (netPort s 0) 7).paused = false ∧
      (netPort s 0).urgent = [.frame (.arpReply 0 false [1])]) ∧
    (∃ x u, (netPort loaded 0).linkUp = true ∧ (netPort loaded 0).paused = false ∧ prmN loaded (P.NETW_RUN 0) ≠ 0 ∧ (netPort loaded 0).urgent = [] ∧
      x = forEach (List.range 8) (fun q x => setTxQueue x q (refill loaded 0 q (txQueue x q))) (netPort loaded 0) ∧
      ((List.range 8).reverse).find? (fun q => eligibleQueue (setNetPort 0 x loaded) 0 q (txQueue x q)) = some 7 ∧ (txQueue x 7).units = [u] ∧ lateBy loaded 0 7 u = none) := by
  refine ⟨rfl, ⟨setNetPort 0 { linkUp := true, urgent := [.frame (.arpReply 0 false [1])] } linked, rfl, rfl, by decide +kernel, rfl, rfl⟩,
    ⟨_, { flow := 0, product := 10, source := 0, seq := 1, coded := false, launch := 0, entry := List.replicate 64 1, bytes := [1, 2] }, rfl, rfl, by decide +kernel, rfl, rfl, by decide +kernel, by decide +kernel, by decide +kernel⟩⟩

/-- A region of 1 MiB at address 0 that APP-S may use, and two engines that take jobs. -/
def jobsUp : State := withPrm [(P.CMPR_JOB_ENGINES, 0x8001), (P.CMPR_RUN, 1), (P.CHK_OWNER 0, 0)] regioned

theorem wit_JobCommands : (jobsUp.Ready 0x0701 mailHdr ∧ jobsUp.Ready 0x0702 mailHdr ∧ jobsUp.Ready 0x0703 mailHdr ∧ jobsUp.mayDefer mailHdr) ∧
    jobGeometry 80 6 3 0 = [] ∧ jobValues mailHdr.via.principal 0 80 64 64 jobsUp = [] ∧ prmN jobsUp P.CMPR_JOB_ENGINES ≠ 0 ∧ prmN jobsUp P.CMPR_RUN ≠ 0 ∧
    crcJobValues mailHdr 3 0 64 (2 ^ 64 - 1) jobsUp = [] ∧ (∃ k < 8, prm jobsUp (P.CHK_OWNER k) = 0) := by
  refine ⟨⟨?_, ?_, ?_, ⟨by decide +kernel, by decide +kernel⟩⟩, by decide, by decide +kernel, by decide +kernel, by decide +kernel, by decide +kernel, ⟨0, by decide, by decide +kernel⟩⟩
  all_goals exact ready_mail rfl (by decide) (by decide +kernel) (by decide) (by decide +kernel) (by decide) (by decide +kernel) rfl rfl (by decide +kernel)

/-- Port 15 receives. -/
def camUp : State := { up with ports := [(15, { run := true, state := 2 })] }

/-- A Shadow in step. -/
def shadowUp : State := { up with twin := { up.twin with state := 5, link := 2 } }

/-- A paired Active. -/
def activeUp : State := { up with twin := { up.twin with state := 3, link := 2, driving := true } }

theorem wit_CameraAndPairCommands : (camUp.Ready 0x0601 mailHdr ∧ camUp.Ready 0x0602 mailHdr ∧ camUp.mayDefer mailHdr ∧ holdsClaim camUp = true ∧ camReady camUp 15 = true) ∧ (shadowUp.Ready 0x0601 mailHdr ∧ shadowUp.mayDefer mailHdr) ∧
    (shadowUp.Ready 0x0602 twinHdr ∧ shadowUp.Ready 0x0603 twinHdr ∧ shadowUp.mayDefer twinHdr) ∧ (up.Ready 0x0603 mailHdr ∧ up.mayDefer mailHdr ∧ (port up 15).run = false) ∧
    (∃ s : State, s.Ready 0x0802 mailHdr ∧ s.mayDefer mailHdr ∧ prmB s P.TWIN_RUN = true ∧ s.twin.lineHigh = true ∧ s.twin.driving = false) ∧
    (activeUp.Ready 0x0802 mailHdr ∧ activeUp.mayDefer mailHdr ∧ prmB activeUp P.TWIN_RUN = false ∧ activeUp.twin.link = 2 ∧ sameUnitId activeUp = false ∧ holdsClaim activeUp = true ∧ activeUp.sys.cinch = none) ∧
    (shadowUp.Ready 0x0802 mailHdr ∧ shadowUp.mayDefer mailHdr ∧ shadowUp.twin.link = 2 ∧ sameUnitId shadowUp = false ∧ holdsClaim shadowUp = false) ∧
    (up.Ready 0x0803 mailHdr) ∧ (activeUp.Ready 0x0804 mailHdr ∧ activeUp.twin.state = 3) := by
  have tw : ∀ op, op = 0x0602 ∨ op = 0x0603 → shadowUp.Ready op twinHdr := by
    rintro op (rfl | rfl) <;> exact ⟨by decide, rfl, by decide +kernel, fun k => absurd k (by decide), .inr (by decide +kernel), .inl (by decide), by decide +kernel, rfl, by decide +kernel, fun k => by simp [twinHdr] at k,
      by decide +kernel, rfl, rfl, by decide +kernel⟩
  refine ⟨⟨?_, ?_, ⟨by decide +kernel, by decide +kernel⟩, by decide +kernel, by decide +kernel⟩, ⟨?_, ⟨by decide +kernel, by decide +kernel⟩⟩, ⟨tw _ (.inl rfl), tw _ (.inr rfl), ⟨by decide +kernel, by decide +kernel⟩⟩, ⟨?_, ⟨by decide +kernel, by decide +kernel⟩, rfl⟩,
    ⟨withPrm [(P.TWIN_RUN, 1)] { up with twin := { up.twin with lineHigh := true } }, ?_, ⟨by decide +kernel, by decide +kernel⟩, by decide +kernel, rfl, rfl⟩,
    ⟨?_, ⟨by decide +kernel, by decide +kernel⟩, by decide +kernel, rfl, rfl, rfl, rfl⟩, ⟨?_, ⟨by decide +kernel, by decide +kernel⟩, rfl, rfl, rfl⟩, ?_, ⟨?_, rfl⟩⟩
  all_goals exact ready_mail rfl (by decide) (by decide +kernel) (by decide) (by decide +kernel) (by decide) (by decide +kernel) rfl rfl (by decide +kernel)

/-- A mailbox of APP-S whose first packet bears an error mark. -/
def markedUp : State := setQueue (mailQueue 3) { words := [{ val := 7, endm := true, err := true }] } up

/-- A device that waits for command `i`. -/
def waits (op : Nat) (i : Instr) (s : State) : State := { s with sys.deferred := [waitingCmd op i] }

/-- A saved set without entries. -/
def emptySet : List Byte := let h := leBytes 4 0x56455354 ++ leBytes 2 1 ++ leBytes 2 0 ++ leBytes 20 0; h ++ leBytes 4 (crc32c h)

theorem wit_PacketsAndTimeLimits : (accepting up = true ∧ 1 ≠ prmN up P.SYS_MGT_UDP_PORT) ∧
    (accepting markedUp = true ∧ markedUp.sys.inbox = [] ∧ heldCount markedUp = 0 ∧ replyWaits markedUp = false ∧ mailMarked 3 markedUp = true ∧ ((queue markedUp (mailQueue 3)).words.filter QWord.endm).length = 1 ∧ ∀ p, p ≠ 3 → mailReady p markedUp = false) ∧ (∀ p, mailReady p up = false) ∧
    (∃ bytes : List Byte, leAt bytes 0 2 = 0x5358 ∧ leAt bytes 3 1 = 0 ∧ leAt bytes 20 4 ≤ 4056 ∧ bytes.length = 40 + roundUp 8 (leAt bytes 20 4) ∧
      leAt bytes (32 + roundUp 8 (leAt bytes 20 4)) 4 ≠ crc32c (bytes.take (32 + roundUp 8 (leAt bytes 20 4)))) ∧
    (∃ s : State, 512 ≤ (queue s (mailQueue 0)).words.length ∧ ((queue s (mailQueue 0)).words.take 512).any QWord.endm = false ∧ (queue s (mailQueue 0)).words.any QWord.endm = true) ∧
    (∃ s : State, 512 ≤ (queue s (mailQueue 0)).words.length ∧ (queue s (mailQueue 0)).words.any QWord.endm = false) ∧
    (∀ e ∈ up.sys.auth, e.1 = 5 → e.2.blocked = false) ∧ (∃ s : State, s.sys.auth.find? 5 = some { blocked := true }) ∧
    (∃ (x : Session) (e : Held) (s : State), session s 1 = some x ∧ x.held = [e]) ∧ (mgmtUp.sys.sessions.find? 0x10000).isSome = true ∧
    findDeferred (waits 0x0906 (.fwCommit mailHdr 64) up) 1 1 = some (waitingCmd 0x0906 (.fwCommit mailHdr 64)) ∧
    findDeferred (waits 0x0501 (.testRun mailHdr 3 2 63 0) up) 1 1 = some (waitingCmd 0x0501 (.testRun mailHdr 3 2 63 0)) ∧
    (∃ s : State, setRefusal true 3 1 s = [] ∧ s.badBlocks.any (fun b => decide (b < 65472 + 64 ∧ 65472 < b + 64)) = false ∧
      areaFull 3 P.FLOWS 0 (Memory.read s.mem 65472 64) s = false) ∧
    stagedOk up 128 true = true ∧ (∃ (x : SavedSet) (s : State), setRefusal true 3 1 s = [] ∧ readSaved s .appS 0 0x20000 = ([], x)) := by
  refine ⟨⟨by decide, by decide +kernel⟩, ⟨by decide, rfl, by decide +kernel, rfl, by decide +kernel, by decide +kernel, by decide +kernel⟩, by decide +kernel,
    ⟨[0x58, 0x53, 1, 0] ++ List.replicate 36 0, by decide +kernel, by decide +kernel, by decide +kernel, by decide +kernel, by decide +kernel⟩,
    ⟨setQueue (mailQueue 0) { words := List.replicate 512 { val := 7 } ++ [{ val := 7, endm := true }] } up, by decide +kernel, by decide +kernel, by decide +kernel⟩,
    ⟨setQueue (mailQueue 0) { words := List.replicate 512 { val := 7 } } up, by decide +kernel, by decide +kernel⟩, by decide,
    ⟨{ up with sys := { up.sys with auth := [(5, { blocked := true })] } }, rfl⟩,
    ⟨_, ⟨.echo mailHdr [], { op := 4, h := mailHdr }, 0, 0⟩, setSession 1 { via := .mailbox 0, held := [⟨.echo mailHdr [], { op := 4, h := mailHdr }, 0, 0⟩] } up, rfl, rfl⟩, by decide +kernel, by decide +kernel, by decide +kernel,
    ⟨staged, by decide +kernel, by decide +kernel, by decide +kernel⟩, by decide +kernel,
    ⟨_, { staged with stor.items := [(0x20000, { copies := [{ gen := 4, data := emptySet, blocks := [7] }] })] }, by decide +kernel,
      show readSaved _ _ _ _ = ([], ⟨[], []⟩) by decide +kernel⟩⟩

/-- A device with TWIN running. -/
def twinRun : State := withPrm [(P.TWIN_RUN, 1), (P.TWIN_UNIT_ID, 1)] up

/-- The heartbeat of a peer that drives the line. -/
def drivingPeer : Heartbeat := ⟨2, 0, false, true, 0, []⟩

theorem wit_ClaimLine : (prmB twinRun P.TWIN_RUN = true ∧ twinRun.twin.state = 0) ∧ prmB up P.TWIN_RUN = false ∧
    (∃ s : State, s.twin.state = 1 ∧ s.twin.lineHigh = true) ∧ up.twin.peer = none ∧
    (∃ s : State, s.twin.peer = some drivingPeer ∧ s.twin.conflict = true ∧ s.twin.driving = true ∧ drivingPeer.driving = true ∧ prmN s P.TWIN_UNIT_ID = 1 ∧ drivingPeer.unitId ≠ 1) ∧
    (∃ s : State, prmB s P.TWIN_RUN = true ∧ s.twin.mayTake = true ∧ s.twin.driving = false ∧ takeoverPermits s = true ∧ prmN s (P.NETW_RUN 1) = 1) := by
  refine ⟨⟨by decide +kernel, rfl⟩, by decide +kernel, ⟨{ twinRun with twin := { twinRun.twin with state := 1, lineHigh := true } }, rfl, rfl⟩, rfl,
    ⟨{ twinRun with twin := { twinRun.twin with peer := some drivingPeer, conflict := true, driving := true } }, rfl, rfl, rfl, rfl, by decide +kernel, by decide⟩,
    ⟨withPrm [(P.NETW_RUN 1, 1)] { twinRun with twin := { twinRun.twin with state := 5, mayTake := true } }, by decide +kernel, rfl, rfl, by decide +kernel, by decide +kernel⟩⟩

/-- A paired Active with one message not acknowledged. -/
def sentUp : State := { activeUp with twin := { activeUp.twin with txNext := 6, replay := [⟨⟨0x11, 5, 0, []⟩, 1⟩], peer := some ⟨5, 1, false, false, 0, []⟩ } }

/-- Nothing waits for the peer. -/
theorem unwaited_of {s : State} (h : (s.twin.replay, s.twin.waiting, s.twin.mirrors, s.twin.yielding, s.sys.inbox, s.sys.sessions, s.qdma.queues) =
    (([], [], [], none, [], up.sys.sessions, up.qdma.queues) : _)) : s.unwaited := by
  simp only [Prod.mk.injEq] at h
  obtain ⟨h1, h2, h3, h4, h5, h6, h7⟩ := h
  refine ⟨h1, h2, h3, h4, h5, ?_, fun p => ?_⟩
  · simp only [heldCount, h6]; decide +kernel
  · simp only [mailReady, queue, h7]; revert p; decide +kernel

theorem wit_ShaeshLink : up.unwaited ∧ (prmB twinRun P.TWIN_RUN = true ∧ twinRun.twin.link ≠ 2 ∧ twinRun.twin.state ≠ 7) ∧
    (activeUp.twin.link = 2 ∧ activeUp.twin.state = 3 ∧ activeUp.twin.driving = true ∧ activeUp.twin.mirrors = [] ∧ activeUp.twin.join = none ∧ activeUp.sys.deferred = [] ∧ activeUp.unwaited) ∧
    (∃ s : State, s.twin.link = 2 ∧ s.unwaited ∧ s.twin.peer.isSome = true ∧ s.twin.conflict = false ∧ s.twin.joinDue = false) ∧
    (sentUp.twin.peer.isSome = true ∧ sentUp.twin.state = 3 ∧ sentUp.twin.driving = true ∧ sentUp.twin.mirrors = [] ∧ sentUp.sys.inbox = [] ∧ heldCount sentUp = 0 ∧ sentUp.twin.yielding = none ∧ sentUp.twin.waiting = [] ∧ ∀ p, mailReady p sentUp = false) ∧
    (∃ s : State, s.twin.peer.isSome = true ∧ s.twin.state = 5 ∧ s.twin.driving = false ∧ s.twin.join = none ∧ s.twin.lineHigh = false ∧ s.unwaited) ∧
    (∀ m ∈ sentUp.twin.replay, m.replays < 2 ∧ seqLe m.msg.mseq (5 + 2 ^ 32 - 1) = false ∧ seqLe 5 m.msg.mseq = true) ∧
    (sentUp.twin.replay = [⟨⟨0x11, 5, 0, []⟩, 1⟩]) ∧ (3 < leAt [0x10] 0 1 ∧ twinCrcOk [0x10] = false ∧ activeUp.twin.lastNak = none) := by
  refine ⟨unwaited_of rfl, ⟨by decide +kernel, by decide, by decide⟩, ⟨rfl, rfl, rfl, rfl, rfl, rfl, unwaited_of rfl⟩,
    ⟨{ sentUp with twin := { sentUp.twin with replay := [] } }, rfl, unwaited_of rfl, rfl, rfl, rfl⟩, ⟨rfl, rfl, rfl, rfl, rfl, by decide +kernel, rfl, rfl, by decide +kernel⟩,
    ⟨{ shadowUp with twin := { shadowUp.twin with lineHigh := false, peer := some ⟨2, 1, false, true, 0, []⟩ } }, rfl, rfl, rfl, rfl, rfl, unwaited_of rfl⟩, by decide +kernel, rfl,
    ⟨by decide +kernel, by decide +kernel, rfl⟩⟩

/-- The first message from a peer. -/
def firstMsg : MsgHdr := ⟨1, 0⟩

/-- An entry of a digest message. -/
def entry5 : DigestEntry := ⟨1, 0, 0, 0, 7, 1, 9⟩

/-- A Shadow that keeps the digest of a unit of its own. -/
def keptUp : State := { shadowUp with twin := { shadowUp.twin with own := [entry5] } }

theorem wit_TwinMessages : shadowUp.inOrder firstMsg ∧ shadowUp.twin.link = 2 ∧ 9 ≠ (processAck 0 shadowUp).twin.rxExpect ∧ isShadow (shadowUp.received firstMsg) = true ∧
    adopts (shadowUp.received firstMsg) = true ∧ (∃ (w : MirrorWait) (s : State), s.twin.mirrors.find? (fun w => !w.acked) = some w) ∧ (∀ w ∈ up.twin.mirrors, w.acked = true) ∧
    ((keptUp.received firstMsg).twin.excluded = [] ∧ (keptUp.received firstMsg).twin.state = 5 ∧ comparable (keptUp.received firstMsg) entry5 = true ∧ keptUp.inOrder firstMsg ∧
      (keptUp.received firstMsg).twin.own.find? (sameUnit entry5) = some entry5 ∧ (shadowUp.received firstMsg).twin.own.find? (sameUnit entry5) = none ∧ entry5 ∈ keptUp.twin.own) ∧
    (∃ s : State, (port s 15).out ≠ [] ∧ waitsStamp s 15 (nextDelivered s 15) = true) ∧
    (∃ (s : State) (g : Nat), (s.segm.inq.head?).map (fun x => x.1.stamp.globalLine) = some g ∧ waitsHeartbeat s 16 g = true) ∧
    (∃ (s : State) (g : Nat), (port s 15).out = [] ∧ ((strip s 15).inq.head?).map (fun o => o.line.stamp.globalLine) = some g ∧ waitsHeartbeat s 15 g = true) := by
  refine ⟨⟨rfl, by decide +kernel⟩, rfl, by decide +kernel, by decide +kernel, by decide +kernel,
    ⟨⟨1, 1, 1, 1, 3, 1, 0, 0, false, []⟩, { up with twin := { up.twin with mirrors := [⟨1, 1, 1, 1, 3, 1, 0, 0, false, []⟩] } }, rfl⟩, nofun,
    ⟨by decide +kernel, by decide +kernel, by decide +kernel, ⟨rfl, by decide +kernel⟩, by decide +kernel, by decide +kernel, .head _⟩,
    ⟨{ shadowUp with ports := [(15, { out := [{ line := { stamp := { globalLine := 3 }, bytes := [] } }] })] }, by decide +kernel, by decide +kernel⟩,
    ⟨{ shadowUp with segm := { shadowUp.segm with inq := [({ stamp := { globalLine := 3 }, comps := 1, px := [] }, none)] } }, 3, by decide +kernel, by decide +kernel⟩,
    ⟨{ shadowUp with strips := [(15, { inq := [{ line := { stamp := { globalLine := 3 }, bytes := [] } }] })] }, 3, by decide +kernel, by decide +kernel, by decide +kernel⟩⟩

/-- A device that joins, with its configuration applied. -/
def joining : State := { shadowUp with twin := { shadowUp.twin with state := 4, join := some { joiner := true, phase := 3 } }, tk := { shadowUp.tk with state := 2 } }

/-- An Active whose peer joins. -/
def serving : State := { activeUp with twin := { activeUp.twin with state := 2, join := some { joiner := false, phase := 2 } } }

theorem wit_JoiningThePair : shadowUp.inOrder firstMsg ∧ activeUp.inOrder firstMsg ∧ shadowUp.twin.link = 2 ∧ 9 ≠ (processAck 0 shadowUp).twin.rxExpect ∧
    (holdsClaim (activeUp.received firstMsg) = true ∧ (activeUp.received firstMsg).sys.cinch = none ∧ sameUnitId (activeUp.received firstMsg) = false) ∧
    (holdsClaim (shadowUp.received firstMsg) = false ∧ (shadowUp.received firstMsg).twin.state ≠ 8 ∧ (shadowUp.received firstMsg).twin.join = none) ∧
    (∃ j, joining.inOrder firstMsg ∧ (joining.received firstMsg).twin.join = some j ∧ j.joiner = true ∧ captureLate (joining.received firstMsg) j (prmN (joining.received firstMsg) (P.PROF_SRC 15)) = false ∧
      stitchedLate (joining.received firstMsg) j = false ∧ (joining.received firstMsg).sys.deferred = [] ∧ (joining.received firstMsg).twin.own = []) ∧
    (∃ c, ∃ s : State, s.inOrder firstMsg ∧ holdsClaim (s.received firstMsg) = true ∧ (s.received firstMsg).sys.cinch = some c ∧ sameUnitId (s.received firstMsg) = false) ∧
    (∃ j, serving.twin.join = some j ∧ j.joiner = false ∧ serving.tk.state ≠ 2) ∧ (∃ (j : Join) (s : State), s.twin.join = some j ∧ j.joiner = false ∧ s.tk.state = 2) ∧
    (∃ (j : Join) (s : State), s.inOrder firstMsg ∧ (s.received firstMsg).twin.join = some j ∧ j.joiner = true ∧ j.phase < 3) ∧
    (∃ j, serving.inOrder firstMsg ∧ (serving.received firstMsg).twin.join = some j ∧ j.joiner = false ∧ holdsClaim (serving.received firstMsg) = true ∧ serving.twin.join = some j) ∧
    (∃ j, joining.twin.join = some j ∧ j.joiner = true ∧ j.phase = 3 ∧ joining.tk.state = 2 ∧ (∀ p < 16, (port joining p).run = true → False) ∧ joining.sys.deferred = [] ∧ holdsClaim joining = false) ∧
    (∃ s : State, s.twin.retry = true ∧ prmB s P.TWIN_AUTO_REJOIN = true ∧ holdsClaim s = false ∧ s.twin.state ≠ 8 ∧ s.twin.link = 2 ∧ s.twin.peer.isSome = true ∧ sameUnitId s = false) := by
  refine ⟨⟨rfl, by decide +kernel⟩, ⟨rfl, by decide +kernel⟩, rfl, by decide +kernel, ⟨by decide +kernel, rfl, by decide +kernel⟩, ⟨by decide +kernel, by decide +kernel, by decide +kernel⟩,
    ⟨_, ⟨rfl, by decide +kernel⟩, rfl, rfl, by decide +kernel, by decide +kernel, rfl, rfl⟩,
    ⟨{ set := 3, session := 1, seq := 1, btype := 0, axis := 0, mask := 0, value := 0, limitMs := 0 },
      { activeUp with sys.cinch := some { set := 3, session := 1, seq := 1, btype := 0, axis := 0, mask := 0, value := 0, limitMs := 0 } }, ⟨rfl, by decide +kernel⟩, by decide +kernel, rfl, by decide +kernel⟩,
    ⟨_, rfl, rfl, by decide⟩, ⟨_, { serving with tk.state := 2 }, rfl, rfl, rfl⟩,
    ⟨_, { joining with twin := { joining.twin with join := some { joiner := true } } }, ⟨rfl, by decide +kernel⟩, rfl, rfl, by decide⟩,
    ⟨_, ⟨rfl, by decide +kernel⟩, rfl, rfl, by decide +kernel, rfl⟩, ⟨_, rfl, rfl, rfl, rfl, by decide +kernel, rfl, by decide +kernel⟩,
    ⟨withPrm [(P.TWIN_AUTO_REJOIN, 1)] { shadowUp with twin := { shadowUp.twin with state := 6, retry := true, peer := some ⟨2, 1, false, true, 0, []⟩ } }, rfl, by decide +kernel, by decide +kernel, by decide, rfl, rfl, by decide +kernel⟩⟩

/-- A device whose cores boot from item 0x20000, which holds the loader and its body. -/
def storeBoot : State := withPrm [(P.CORE_BOOT_SRC, 1), (P.CORE_BOOT_ITEM, 0x20000), (P.CORE_BOOT_VERIFY, 0)]
  { up with stor.items := [(0x20000, { copies := [{ gen := 4, data := loader ++ List.replicate 64 1, blocks := [7] }] })], core.boot := 1 }

theorem wit_CoreRowsComplete : (0 + 64 ≤ dramEnd ∧ inRegions State.reset 3 0 64 = false ∧ State.reset.core.refused.valid = false) ∧ (∃ s : State, s.boot.clusterB = true) ∧
    (up.core.unlocked = false ∧ (List.replicate 256 (0 : Byte)).length ≤ 256 ∧ accepting up = true) ∧
    (∃ s : State, s.core.boot = 1 ∧ prm s P.CORE_BOOT_SRC = 0 ∧ loaderOk loader = true ∧ inRegions s 2 (leAt loader 16 8) (leAt loader 8 4) = true) ∧
    (storeBoot.core.boot = 1 ∧ prm storeBoot P.CORE_BOOT_SRC = 1 ∧ itemFault storeBoot (prmN storeBoot P.CORE_BOOT_ITEM) = none ∧
      loaderOk ((itemData storeBoot (prmN storeBoot P.CORE_BOOT_ITEM)).take 128) = true ∧ inRegions storeBoot 2 0 64 = true) ∧
    (∃ s : State, s.core.boot = 2 ∧ prmB s P.CORE_BOOT_VERIFY = false ∧ bitOf (leAt s.core.hdr 6 2) 0 = false ∧ leAt s.core.hdr 8 4 = 64) ∧
    (taskOn wearUp 6 = true ∧ burnishSuspended wearUp = false ∧ wearUp.stor.ops = [] ∧ storeInhibited wearUp = false ∧ ∃ src dst, wearMove wearUp = some (src, dst)) := by
  refine ⟨⟨by decide, by decide +kernel, rfl⟩, ⟨{ up with boot.clusterB := true }, rfl⟩, ⟨rfl, by decide +kernel, rfl⟩,
    ⟨{ regions with core.boot := 1 }, rfl, by decide +kernel, by decide +kernel, by decide +kernel⟩,
    ⟨rfl, by decide +kernel, by decide +kernel, by decide +kernel, by decide +kernel⟩,
    ⟨{ regions with core.boot := 2, core.hdr := loader }, rfl, by decide +kernel, by decide +kernel, by decide +kernel⟩,
    ⟨by decide +kernel, by decide +kernel, rfl, by decide +kernel, wear_moves⟩⟩

end Sys2Proof.Tests
end

section
/-! PROOFS. Register windows (R434) and the registers of the application cores (R431, R436, R437, R442). -/
namespace Sys2Proof.Machine
open Sys2Proof

/-! ### What an access with access to the windows does (R434, R438) -/

/-- R438: an accessible window is not barred by the debug lock. -/
theorem State.accessible.not_locked {s : State} {a : Acc} (h : s.accessible a) : ¬ (a.principal = .dbg ∧ s.core.unlocked = false) := by
  rintro ⟨hp, hu⟩
  rcases h with h | h
  · exact h hp
  · simp [hu] at h

/-- A write with its right to a register without a log entry has its effect and no other. -/
theorem windowWrite_unlogged {a : Acc} {s : State} (h : s.accessible a) (unit off v : Nat) (act : State → State) :
    windowWrite a true false unit off v act s = act s := by
  simp [windowWrite, h.not_locked]

/-- A write without its right is refused, whatever its effect would have been. -/
theorem windowWrite_withoutRight {a : Acc} {s : State} (h : s.accessible a) (logged : Bool) (unit off v : Nat) (act : State → State) :
    windowWrite a false logged unit off v act s = refuseWindow true a unit off s := by
  simp [windowWrite, h.not_locked]

/-- A permitted read returns the value and then has its effect. -/
theorem windowRead_permitted {a : Acc} {s : State} (h : s.accessible a) (unit off : Nat) (value : State → Nat) (act : State → State) :
    windowRead a true unit off value act s = act { s with core.rdata := value s % 2 ^ 32 } := by
  simp [windowRead, h.not_locked]

/-- R434: the first refusal since the last read is recorded; without REFUSE_FAULT nothing else changes. -/
theorem refuseWindow_first {s : State} (hf : prmB s P.CORE_REFUSE_FAULT = false) (hv : s.core.refused.valid = false) (write : Bool) (a : Acc) (unit off : Nat) :
    refuseWindow write a unit off s = { s with core.refused := ⟨true, true, write, a.principal.code, a.source, winAddr unit off⟩ } := by
  simp [refuseWindow, recordRefusal, hf, hv]

/-! ### From an address to its register (R5, R432) -/

/-- Addresses below the scratch SRAM do not lie in it. -/
theorem inScratch_of_lt {addr : Nat} (h : addr < scratchBase) (n : Nat) : inScratch addr n = false := by
  simp only [inScratch, Bool.and_eq_false_imp, decide_eq_true_eq]; omega

/-- R432, R434 steps 1 and 2: below the scratch SRAM and above DRAM, an access outside the windows of units 0x01 to 0x17 or one that is not an aligned word ends with
a bus error. -/
theorem execWindowAccess_reserved (a : Acc) (w al : Bool) (addr : Nat) (v : Word32) (s : State) (hd : dramEnd ≤ addr) (hs : addr < scratchBase)
    (hr : addr < 0x1001000000 ∨ 0x1018000000 ≤ addr ∨ al = false ∨ addr % 4 ≠ 0) : execWindowAccess a w al addr v s = .next (busError s) := by
  rw [execWindowAccess, if_neg (Nat.not_lt.mpr hd), if_neg (by simp [inScratch_of_lt hs]), if_pos hr]

/-- R5: an aligned access at the address of an offset in a unit's window is a read or a write of that offset. -/
theorem execWindowAccess_winAddr (a : Acc) (w : Bool) (v : Word32) (s : State) {unit off : Nat} (hu : 1 ≤ unit) (hu' : unit ≤ 0x17) (ho : off < 0x1000000) (h4 : off % 4 = 0) :
    execWindowAccess a w true (winAddr unit off) v s = .next (if w then writeWindow a unit off v s else readWindow a unit off s) := by
  have hwin : ¬ (winAddr unit off < 0x1001000000 ∨ 0x1018000000 ≤ winAddr unit off ∨ true = false ∨ winAddr unit off % 4 ≠ 0) := by
    simp only [winAddr, Bool.true_eq_false, false_or]; omega
  have hdram : ¬ winAddr unit off < dramEnd := by simp only [winAddr, dramEnd]; omega
  have hscr : winAddr unit off < scratchBase := by simp only [winAddr, scratchBase]; omega
  have hunit : (winAddr unit off - 0x1000000000) / 0x1000000 = unit := by simp only [winAddr]; omega
  have hoff : winAddr unit off % 0x1000000 = off := by simp only [winAddr]; omega
  simp only [execWindowAccess, if_neg hdram, inScratch_of_lt hscr, Bool.false_eq_true, if_false, if_neg hwin, hunit, hoff]

/-- R434 step 4: a read of a listed register without a command of its own. -/
theorem readWindow_listed {a : Acc} {s : State} {unit off : Nat} {r : RegRead} (ho : ownRead unit off = false) (hr : regRead s a unit off = some r) :
    readWindow a unit off s = windowRead a r.open_ unit off (fun _ => r.value) r.act s := by
  simp [readWindow, ho, hr]

/-- R434 step 7: a write of a listed register of a unit whose writes all go through its list. -/
theorem writeWindow_listed {a : Acc} {s : State} {unit off : Nat} {v : Word32} {w : RegWrite} (hc : unit ≠ 0x16) (hm : unit ≠ 0x04)
    (hw : regWrite s a unit off v = some w) : writeWindow a unit off v s = windowWrite a w.right w.logged unit off v.toNat w.act s := by
  simp [writeWindow, hc, hm, hw]

/-! ### DC_COUNT (R385, R393) -/

/-- R393: the offset of register `r` of channel `c` in the QDMA window. -/
def chanOff (c r : Nat) : Nat := 0x10000 + c * 0x40 + r

theorem chanOff_channel (c : Nat) {r : Nat} (hr : r < 0x40) : (chanOff c r - 0x10000) / 0x40 = c := by simp only [chanOff]; omega

theorem chanOff_register (c : Nat) {r : Nat} (hr : r < 0x40) : chanOff c r % 0x40 = r := by simp only [chanOff]; omega

theorem le_chanOff (c r : Nat) : 0x10000 ≤ chanOff c r := by simp only [chanOff]; omega

theorem chanOff_lt (c : Fin 64) {r : Nat} (hr : r < 0x40) : chanOff c.val r < 0x11000 := by simp only [chanOff]; omega

/-- A read of a channel's block is one of its registers. -/
theorem regRead_chanOff (s : State) (a : Acc) (c : Fin 64) {r : Nat} (hr : r < 0x40) : regRead s a 0x10 (chanOff c.val r) = chanRead s c.val r := by
  change qdmaRead s a (chanOff c.val r) = _
  rw [qdmaRead, if_neg (Nat.not_lt.mpr (le_chanOff ..)), if_pos (chanOff_lt c hr), chanOff_channel _ hr, chanOff_register _ hr]

/-- A write to a channel's block is one to its registers. -/
theorem regWrite_chanOff (s : State) (a : Acc) (c : Fin 64) {r : Nat} (hr : r < 0x40) (v : Word32) :
    regWrite s a 0x10 (chanOff c.val r) v = chanWrite s a c.val r v := by
  change qdmaWrite s a (chanOff c.val r) v = _
  rw [qdmaWrite, if_neg (Nat.not_lt.mpr (le_chanOff ..)), if_pos (chanOff_lt c hr), chanOff_channel _ hr, chanOff_register _ hr]

/-- No register of a channel has a read of its own. -/
theorem ownRead_chanOff (c r : Nat) : ownRead 0x10 (chanOff c r) = false := by
  simp [ownRead, le_chanOff]

theorem winAddr_chanCount (c : Nat) : winAddr 0x10 (chanOff c 0x10) = 0x1010010010 + c * 0x40 := by
  simp only [winAddr, chanOff]; omega

/-- R434: the write right of a channel, by its owner and its SECURE parameter. -/
def chanRight (s : State) (p : Principal) (c : Nat) : Bool := writeRight p (prmN s (P.QDMA_OWNER c)) (prmB s (P.QDMA_SECURE c))

/-- A write of DC_COUNT takes the channel's right, has no log entry, and sets the count of the descriptor. -/
theorem writeWindow_chanCount (a : Acc) (c : Fin 64) (v : Word32) (s : State) : writeWindow a 0x10 (chanOff c.val 0x10) v s =
    windowWrite a (chanRight s a.principal c.val) false 0x10 (chanOff c.val 0x10) v.toNat (descWrite c.val (fun x => { x with count := v.toNat })) s :=
  writeWindow_listed (unit := 0x10) (by decide) (by decide) (regWrite_chanOff s a c (r := 0x10) (by decide) v)

/-- R386: a descriptor register of a channel that is neither WAITING nor ACTIVE takes what is written. -/
theorem descWrite_idle {s : State} {c : Nat} (h : chanBusy (chan s c) = false) (f : Chan → Chan) : descWrite c f s = setChan c (f (chan s c)) s := by
  simp [descWrite, h]

/-- R5, R393: an aligned access to DC_COUNT. -/
theorem exec_windowAccess_chanCount (a : Acc) (w : Bool) (c : Fin 64) (v : Word32) (s : State) :
    exec (.windowAccess a w true (0x1010010010 + c.val * 0x40) v) s =
      .next (if w then writeWindow a 0x10 (chanOff c.val 0x10) v s else readWindow a 0x10 (chanOff c.val 0x10) s) := by
  rw [← winAddr_chanCount]
  exact execWindowAccess_winAddr a w v s (by decide) (by decide) (by simp only [chanOff]; omega) (by simp only [chanOff]; omega)

/-- A read of DC_COUNT returns the channel's count and changes nothing else. -/
theorem exec_readChanCount {a : Acc} {s : State} (h : s.accessible a) (c : Fin 64) (v : Word32) :
    exec (.windowAccess a false true (0x1010010010 + c.val * 0x40) v) s = .next { s with core.rdata := (chan s c.val).count % 2 ^ 32 } := by
  rw [exec_windowAccess_chanCount]
  have hread : readWindow a 0x10 (chanOff c.val 0x10) s = windowRead a true 0x10 (chanOff c.val 0x10) (fun _ => (chan s c.val).count) id s :=
    readWindow_listed (ownRead_chanOff ..) (regRead_chanOff s a c (r := 0x10) (by decide))
  simp only [Bool.false_eq_true, if_false, hread, windowRead_permitted h, id]

/-- A write of DC_COUNT with the channel's right sets the count of an idle channel. -/
theorem exec_writeChanCount {a : Acc} {s : State} (h : s.accessible a) (c : Fin 64) (v : Word32) (hr : chanRight s a.principal c.val = true)
    (hb : chanBusy (chan s c.val) = false) :
    exec (.windowAccess a true true (0x1010010010 + c.val * 0x40) v) s = .next (setChan c.val { chan s c.val with count := v.toNat } s) := by
  rw [exec_windowAccess_chanCount, if_pos rfl, writeWindow_chanCount, hr, windowWrite_unlogged h, descWrite_idle hb]

/-- A write of DC_COUNT without the channel's right is refused; where no refusal stands it is recorded. -/
theorem exec_writeChanCount_refused {a : Acc} {s : State} (h : s.accessible a) (c : Fin 64) (v : Word32) (hr : chanRight s a.principal c.val = false)
    (hf : prmB s P.CORE_REFUSE_FAULT = false) (hv : s.core.refused.valid = false) :
    exec (.windowAccess a true true (0x1010010010 + c.val * 0x40) v) s =
      .next { s with core.refused := ⟨true, true, true, a.principal.code, a.source, 0x1010010010 + c.val * 0x40⟩ } := by
  rw [exec_windowAccess_chanCount, if_pos rfl, writeWindow_chanCount, hr, windowWrite_withoutRight h, refuseWindow_first hf hv, winAddr_chanCount]

/-! ### RN_COUNT (R417, R425) -/

/-- R425: the offset of RN_COUNT of Rein `n` in the EVNT window. -/
def reinCountOff (n : Nat) : Nat := n * 0x10 + 4

theorem winAddr_reinCount (n : Nat) : winAddr 0x11 (reinCountOff n) = 0x1011000004 + n * 0x10 := by
  simp only [winAddr, reinCountOff]; omega

/-- A read of RN_COUNT returns the events passed and clears them. -/
theorem regRead_reinCount (s : State) (a : Acc) (n : Fin 256) : regRead s a 0x11 (reinCountOff n.val) =
    some { value := (rein s n.val).count, act := fun s => setRein n.val { rein s n.val with count := 0 } s } := by
  have hlt : reinCountOff n.val < 0x1000 := by simp only [reinCountOff]; omega
  have hn : reinCountOff n.val / 0x10 = n.val := by simp only [reinCountOff]; omega
  have hr : reinCountOff n.val % 0x10 = 4 := by simp only [reinCountOff]; omega
  change evntRead s (reinCountOff n.val) = _
  rw [evntRead, if_pos hlt, hn, hr]
  rfl

/-- A read of RN_COUNT returns the Rein's count and clears it. -/
theorem exec_readReinCount {a : Acc} {s : State} (h : s.accessible a) (n : Fin 256) (v : Word32) :
    exec (.windowAccess a false true (0x1011000004 + n.val * 0x10) v) s =
      .next (setRein n.val { rein s n.val with count := 0 } { s with core.rdata := (rein s n.val).count % 2 ^ 32 }) := by
  rw [← winAddr_reinCount]
  have hread := readWindow_listed (unit := 0x11) rfl (regRead_reinCount s a n)
  have hexec := execWindowAccess_winAddr a false v s (unit := 0x11) (off := reinCountOff n.val) (by decide) (by decide)
    (by simp only [reinCountOff]; omega) (by simp only [reinCountOff]; omega)
  rw [hread, windowRead_permitted h] at hexec
  exact hexec

/-! ### Registers of a core (R431, R436, R437, R442) -/

/-- R431: a core in machine mode and the secure world selects its own world; any other writer with access changes nothing. -/
theorem exec_acWorldSet {a : Acc} {s : State} (h : s.accessible a) (hr : systemRight a.principal = true) (k : Fin 8) (m : Bool) (v : Word32) :
    exec (.acWorldSet a k m v) s =
      .next (if a.source = k.val ∧ a.principal = .appS ∧ m = true ∧ (appCore s k.val).running = true ∧ (appCore s k.val).world = false
        then setAppCore k.val { appCore s k.val with world := hasFlag v 0 } s else s) := by
  change execAcWorldSet a k m v s = _
  rw [execAcWorldSet, hr, windowWrite_unlogged h]

/-- R436: the inputs that a writer with the right of AC_IP may change: all of them, or those of the normal world. -/
theorem inputMask_of_right (s : State) {p : Principal} (h : inputRight p = true) (k : Nat) :
    inputMask s p k = if systemRight p = true then 0xFFFF#16 else ~~~(BitVec.ofNat 16 (prmN s (P.CORE_INT_WORLD k))) := by
  unfold inputMask
  split
  · rfl
  · next hs =>
    have hp : p = .appN := by simpa [inputRight, hs] using h
    rw [if_pos hp]

/-- R436: a write of AC_IP clears the pending inputs written as 1 that the writer may change. -/
theorem exec_acIpWrite {a : Acc} {s : State} (h : s.accessible a) (hr : inputRight a.principal = true) (k : Fin 8) (v : Word32) :
    exec (.acIpWrite a k v) s = .next (setAppCore k.val { appCore s k.val with ip := w1c (appCore s k.val).ip (v.truncate 16 &&& inputMask s a.principal k.val) } s) := by
  change execAcIpWrite a k v s = _
  rw [execAcIpWrite, hr, windowWrite_unlogged h]

/-- R437: the machine software interrupt follows bit 0 of AC_SWI. -/
theorem exec_msip {a : Acc} {s : State} (h : s.accessible a) (hr : systemRight a.principal = true) (k : Fin 8) (v : Word32) :
    exec (.msip a k v) s = .next (setAppCore k.val { appCore s k.val with msip := hasFlag v 0, swiRsv := v.toNat / 2 } s) := by
  change execMsip a k v s = _
  rw [execMsip, hr, windowWrite_unlogged h]

/-- R442: a read of MTIME_LO returns the low half of MTIME and captures both. -/
theorem exec_mtimeCapture {a : Acc} {s : State} (h : s.accessible a) :
    exec (.mtimeCapture a) s = .next { s with core.rdata := mtime s % 2 ^ 32, core.mtimeCap := mtime s } :=
  congrArg Host.Outcome.next (windowRead_permitted h ..)

/-- R434, R442: a read of REFUSE_INFO returns the recorded refusal and clears all of it but the address. -/
theorem exec_refuseInfoRead {a : Acc} {s : State} (h : s.accessible a) :
    exec (.refuseInfoRead a) s = .next { s with core.rdata := refuseInfo s.core.refused % 2 ^ 32, core.refused := { addr := s.core.refused.addr } } :=
  congrArg Host.Outcome.next (windowRead_permitted h ..)

/-- Settles O37: each access passes the check of R434 and has the effect of its register; an access outside the windows has none but the bus error. -/
theorem coreWindow : Obligations.CoreWindow := by
  unfold Obligations.CoreWindow
  refine ⟨?world, ?pending, ?software, ?timer, ?mtime, ?refusal, ?chanCount, ?reinCount, ?reserved⟩
  case world => exact fun a k m v s h hr => exec_acWorldSet h hr k m v
  case pending =>
    intro a k v s h hr
    rw [exec_acIpWrite h hr, inputMask_of_right s hr]
  case software => exact fun a k v s h hr => exec_msip h hr k v
  case timer => exact fun _ _ => rfl
  case mtime => exact fun a s h => exec_mtimeCapture h
  case refusal => exact fun a s h => exec_refuseInfoRead h
  case chanCount => exact fun a c v s h => ⟨exec_readChanCount h c v, exec_writeChanCount h c v, exec_writeChanCount_refused h c v⟩
  case reinCount => exact fun a n v s h => exec_readReinCount h n v
  case reserved => exact fun a w al addr v s hd hs hr => execWindowAccess_reserved a w al addr v s hd hs hr

end Sys2Proof.Machine
end

section
/-! PROOFS. The run of a Cinch (R84) while values wait for the stop of RECD (R78). -/
namespace Sys2Proof.Machine

/-- R84 step 4: an armed immediate Cinch whose twin has armed fires at the present time. -/
theorem exec_cinchFire_immediate {c : Cinch} {s : State} (hc : s.sys.cinch = some c) (hp : c.phase = 1) (hs : (stageSet s c.set).state = 3)
    (hb : c.btype = 0) (ha : shadowArmed c s = true) : exec .cinchFire s = .next (fire c (nowNs s) s) := by
  have hArmed : ¬ (c.phase ≠ 1 ∨ (stageSet s c.set).state ≠ 3) := by simp [hp, hs]
  have hTime : fireTime? s c = some (nowNs s) := if_pos hb
  have hWaits : ¬ (decide (c.btype = 0) && !shadowArmed c s) = true := by simp [ha]
  change execCinchFire s = _
  simp only [execCinchFire, hc, if_neg hArmed, hTime, if_neg hWaits]

/-- An armed immediate Cinch whose set is empty. -/
def emptyCinch : Cinch := { set := 3, session := 1, seq := 1, btype := 0, axis := 0, mask := 0, value := 0, limitMs := 60000, phase := 1 }

/-- A device on which that Cinch is armed while SEGM and RECD still run behind a stitched stream that has ended, and a value of RECD waits for RECD's stop. -/
def recdValueWaits : State :=
  { State.reset with
    sys.cinch := some emptyCinch
    sys.stage := [(emptyCinch.set, { state := 3, owner := 1 })]
    sys.recdLater := some { vals := [(P.RECD_HIST_DEPTH, 8192)] }
    segm.run := true
    recd.run := true }

/-- R78, R83: the fire stops SEGM and with it RECD, so that the value that waited for RECD's stop is applied, though the fired set does not hold it. -/
theorem fire_recdValueWaits_histDepth : prm (fire emptyCinch (nowNs recdValueWaits) recdValueWaits) P.RECD_HIST_DEPTH = 8192 := by decide +kernel

/-- Laid over the old values, an empty set leaves the value of RECD at its default. -/
theorem overlay_recdValueWaits_histDepth (f : Nat → Bool) :
    dictVal (overlay recdValueWaits.sys.applied (partOf f (cinchDict recdValueWaits emptyCinch))) P.RECD_HIST_DEPTH = paramDefault P.RECD_HIST_DEPTH := rfl

/-- Refutes O25: where the fire of an immediate Cinch stops RECD, the values of an earlier set that waited for that stop (R78) are applied with it, so that the
applied values are not those of the fired set over the old ones alone. -/
theorem not_cinchRun : ¬ Obligations.CinchRun := by
  unfold Obligations.CinchRun
  rintro ⟨-, hFire, -, -⟩
  have hArmed : shadowArmed emptyCinch recdValueWaits = true := by decide
  obtain ⟨t, -, hNext, -, hApplied, -⟩ := hFire emptyCinch recdValueWaits rfl rfl rfl rfl hArmed
  have hRun := exec_cinchFire_immediate (c := emptyCinch) (s := recdValueWaits) rfl rfl rfl rfl hArmed
  have hState : fire emptyCinch (nowNs recdValueWaits) recdValueWaits = t := Host.Outcome.next.inj (hRun.symm.trans hNext)
  have hDefault : paramDefault P.RECD_HIST_DEPTH = 8192 := calc
    paramDefault P.RECD_HIST_DEPTH = prm t P.RECD_HIST_DEPTH := by rw [prm, hApplied, overlay_recdValueWaits_histDepth]
    _ = 8192 := by rw [← hState, fire_recdValueWaits_histDepth]
  exact absurd hDefault (by decide +kernel)

end Sys2Proof.Machine
end

section
/-! PROOFS. Which principals are secure (R88) and what is open to DBG (R438). -/
namespace Sys2Proof.Machine

/-- R88: HOSTTW is secure exactly while HT_SECURE is 1. -/
theorem secureP_hosttw (s : State) (role : Nat) : secureP s .hosttw role = true ↔ prm s P.SYS_HT_SECURE = 1 := decide_eq_true_iff

/-- R65: a mirrored command of the twin is permitted. -/
theorem permit_mirrored {c : Cmd} (hw : c.who = .twin) (hm : c.h.mirrored = true) (role : Nat) (s : State) : permit c role s = none := by
  simp [permit, hw, hm]

/-- R438: nothing is open to DBG while it is locked. -/
theorem openTo_dbg_locked {s : State} (hl : s.core.unlocked = false) (role owner unit : Nat) : openTo s .dbg role owner unit = false := by
  simp [openTo, hl]

/-- R438: DBG has no access to the windows while it is locked. -/
theorem not_accessible_dbg {s : State} {a : Acc} (hp : a.principal = .dbg) (hl : s.core.unlocked = false) : ¬ s.accessible a :=
  fun h => h.not_locked ⟨hp, hl⟩

/-- R48, R88: no transport is DBG's. -/
theorem via_principal_ne_dbg : ∀ v : Via, v.principal ≠ .dbg
  | .mailbox p => by
    simp only [Via.principal]
    split <;> simp
  | .udp _ _ _ | .ht | .shaesh => nofun

/-- Settles O7: each principal by its line of R88; the checks of a mirrored command and of DBG's access rest on the lemmas above. -/
theorem securityOfPrincipals : Obligations.SecurityOfPrincipals := by
  unfold Obligations.SecurityOfPrincipals
  refine ⟨?secure, ?mirrored, ?item, ?locked, ?access, via_principal_ne_dbg⟩
  case secure => exact fun s role => ⟨rfl, rfl, rfl, rfl, rfl, rfl, secureP_hosttw s role, Iff.rfl⟩
  case mirrored => exact fun op h role s hv hm => permit_mirrored (c := { op := op, h := h }) (congrArg Via.principal hv) hm role s
  case item => exact fun _ _ _ _ => rfl
  case locked => exact fun s role owner unit hl => openTo_dbg_locked hl role owner unit
  case access => exact fun s a hp hl => not_accessible_dbg hp hl

end Sys2Proof.Machine
end

section
/-! PROOFS. The change log: its marks, its register windows (R92 to R95) and its persistence (R97). -/
namespace Sys2Proof.Machine

/-! ### Register windows (R95) -/

/-- Where no open entry is selected, none is committed. -/
theorem closeWindows_none {p : RegWindow → Bool} {s : State} (h : ∀ w ∈ s.sys.log.windows, p w = false) : closeWindows p s = s := by
  have hsel : s.sys.log.windows.filter p = [] := List.filter_eq_nil_iff.mpr fun w hw => by simp [h w hw]
  have hrest : s.sys.log.windows.filter (fun w => !p w) = s.sys.log.windows := List.filter_eq_self.mpr fun w hw => by simp [h w hw]
  simp only [closeWindows, hsel, hrest]
  rfl

/-- The only open entry, where it is selected, is committed. -/
theorem closeWindows_only_open {p : RegWindow → Bool} {w : RegWindow} {s : State} (hs : s.sys.log.windows = [w]) (hp : p w = true) :
    closeWindows p s = logCommit (regEntry w s) { s with sys.log.windows := [] } := by
  have hsel : s.sys.log.windows.filter p = [w] := by simp [hs, hp]
  have hrest : s.sys.log.windows.filter (fun w => !p w) = [] := by simp [hs, hp]
  simp only [closeWindows, hsel, hrest]
  rfl

/-- A write to a register with no open entry opens one. -/
theorem logRegister_opens {addr : Nat} {s : State} (h : ∀ w ∈ s.sys.log.windows, w.addr ≠ addr) (p : Principal) (v : Nat) :
    logRegister p addr v s = { s with sys.log.windows := s.sys.log.windows ++ [⟨p.code, addr, s.tk.secs, s.tk.ns, 1, v, monoNs s⟩] } := by
  have hstays : ∀ w ∈ s.sys.log.windows, (w.addr == addr && (w.principal != p.code || decide (w.mono + 1000000 < monoNs s))) = false :=
    fun w hw => by simp [h w hw]
  have hfind : s.sys.log.windows.find? (fun w => w.addr == addr && w.principal == p.code) = none :=
    List.find?_eq_none.mpr fun w hw => by simp [h w hw]
  simp only [logRegister, closeWindows_none hstays, hfind]

/-- A further write by the principal of the open entry, within its 1 ms, is counted in it and replaces its value. -/
theorem logRegister_counts {p : Principal} {w : RegWindow} {s : State} (hs : s.sys.log.windows = [w]) (hp : w.principal = p.code)
    (ht : monoNs s ≤ w.mono + 1000000) (v : Nat) :
    logRegister p w.addr v s = { s with sys.log.windows := [{ w with count := w.count + 1, value := v }] } := by
  have hstays : ∀ x ∈ s.sys.log.windows, (x.addr == w.addr && (x.principal != p.code || decide (x.mono + 1000000 < monoNs s))) = false := by
    simp [hs, hp, ht]
  have hfind : s.sys.log.windows.find? (fun x => x.addr == w.addr && x.principal == p.code) = some w := by simp [hs, hp]
  simp only [logRegister, closeWindows_none hstays, hfind]
  simp [hs, hp]

/-! ### LOG_MARK (R92, R94) -/

/-- R93: taking a command does not change when it was received. -/
@[simp] theorem receivedAt_taken (s : State) (op : Nat) (h : Hdr) : receivedAt (s.taken op h) = receivedAt s := by
  obtain ⟨p, t, ss, hu⟩ := taken_only s op h
  rw [hu]
  rfl

/-- R92: nor the flags of its log entry. -/
@[simp] theorem cmdFlags_taken (s : State) (op : Nat) (h : Hdr) : cmdFlags h (s.taken op h) = cmdFlags h s := by
  obtain ⟨p, t, ss, hu⟩ := taken_only s op h
  rw [hu]
  rfl

@[simp] theorem taken_epoch (s : State) (op : Nat) (h : Hdr) : (s.taken op h).sys.epoch = s.sys.epoch := by
  obtain ⟨p, t, ss, hu⟩ := taken_only s op h
  rw [hu]

@[simp] theorem taken_log (s : State) (op : Nat) (h : Hdr) : (s.taken op h).sys.log = s.sys.log := by
  obtain ⟨p, t, ss, hu⟩ := taken_only s op h
  rw [hu]

@[simp] theorem taken_stor (s : State) (op : Nat) (h : Hdr) : (s.taken op h).stor = s.stor := by
  obtain ⟨p, t, ss, hu⟩ := taken_only s op h
  rw [hu]

@[simp] theorem taken_thrm (s : State) (op : Nat) (h : Hdr) : (s.taken op h).thrm = s.thrm := by
  obtain ⟨p, t, ss, hu⟩ := taken_only s op h
  rw [hu]

/-- R92, R94: the MARK entry of a LOG_MARK. -/
def markEntry (h : Hdr) (text : List Byte) (s : State) : LogEntry :=
  { kind := 5, principal := h.via.principal.code, transport := h.via.code, timeS := (receivedAt s).1, timeNs := (receivedAt s).2, flags := cmdFlags h s,
    opcode := 0x0402, tag := h.tag, epoch := s.sys.epoch, count := text.length, session := h.session, digest := crc64 text }

theorem markEntry_taken (h : Hdr) (text : List Byte) (s : State) (op : Nat) : markEntry h text (s.taken op h) = markEntry h text s := by
  simp [markEntry]

/-- LOG_MARK with a text of 1 to 48 bytes enters its two entries and returns the index of the first. -/
theorem exec_logMark {h : Hdr} {text : List Byte} {s : State} (r : s.Ready 0x0402 h) (h1 : 1 ≤ text.length) (h48 : text.length ≤ 48) :
    exec (.logMark h text) s = .next ((logCommit { kind := 6, text := text } (logCommit (markEntry h text s) (s.taken 0x0402 h))).answer
      { op := 0x0402, h := h, params := text, count := text.length } (leBytes 8 s.sys.log.next) false 0) := by
  have hlen : ¬ (text = [] ∨ 48 < text.length) := by
    rintro (rfl | hlong)
    · exact absurd h1 (by simp)
    · omega
  change Host.Outcome.next (accept h.via (.logMark h text) s) = _
  rw [accept_alone r (by simp)]
  change Host.Outcome.next (doLogMark h text _) = _
  unfold doLogMark
  simp only [if_neg hlen]
  rw [xesil_taken r _ _ _ _ _ _ rfl rfl, runCmd_taken r _ false _ _ _ _ rfl rfl rfl rfl rfl (by simp), ← taken_log s 0x0402 h, ← markEntry_taken h text s 0x0402]
  rfl

/-! ### The store apart from the replies (R59, R97) -/

/-- An operation that neither reads nor changes the store and the thermal unit. -/
def StoreApart (f : State → State) : Prop := ∀ st th s, f { s with stor := st, thrm := th } = { f s with stor := st, thrm := th }

theorem StoreApart.keepsThrm {f : State → State} (hf : StoreApart f) (s : State) : (f s).thrm = s.thrm :=
  (congrArg State.thrm (hf s.stor s.thrm s)).trans rfl

theorem StoreApart.keepsStor {f : State → State} (hf : StoreApart f) (s : State) : (f s).stor = s.stor :=
  (congrArg State.stor (hf s.stor s.thrm s)).trans rfl

/-- Such an operation may change places with a change of the queue of store operations. -/
theorem StoreApart.setOps {f : State → State} (hf : StoreApart f) (xs : List StoreOp) (s : State) :
    f { s with stor.ops := xs } = { f s with stor.ops := xs } :=
  (hf { s.stor with ops := xs } s.thrm s).trans (by rw [← hf.keepsStor s, ← hf.keepsThrm s])

theorem StoreApart.ite {c : State → Prop} [DecidablePred c] {f g : State → State} (hc : ∀ st th s, c { s with stor := st, thrm := th } ↔ c s)
    (hf : StoreApart f) (hg : StoreApart g) : StoreApart (fun s => if c s then f s else g s) := by
  intro st th s
  by_cases h : c s
  · simp only [if_pos h, if_pos ((hc st th s).mpr h), hf st th s]
  · simp only [if_neg h, if_neg (mt (hc st th s).mp h), hg st th s]

theorem readyCheck_storeApart (q old : Nat) : StoreApart (readyCheck q old) :=
  .ite (fun _ _ _ => Iff.rfl) (fun _ _ _ => rfl) (fun _ _ _ => rfl)

theorem queueAppend_storeApart (q : Nat) (ws : List QWord) : StoreApart (queueAppend q ws) :=
  fun st th s => readyCheck_storeApart q (queue s q).words.length st th
    (setQueue q { queue s q with words := (queue s q).words ++ ws, pushed := (queue s q).pushed + ws.length } s)

/-- R381: what a unit's push leaves. -/
theorem unitPush_snd (q : Nat) (vals : List Nat) (s : State) : (unitPush q vals s).2 =
    if queueSize s q < (queue s q).words.length + vals.length then setQueue q { queue s q with dropped := (queue s q).dropped + 1 } s
    else queueAppend q (vals.mapIdx (fun i v => ⟨v, i + 1 == vals.length, false⟩)) s :=
  apply_ite Prod.snd _ _ _

theorem unitPush_storeApart (q : Nat) (vals : List Nat) : StoreApart (fun s => (unitPush q vals s).2) := by
  simp only [unitPush_snd]
  exact .ite (fun _ _ _ => Iff.rfl) (fun _ _ _ => rfl) (queueAppend_storeApart q _)

theorem sendSeq_storeApart (typ : Nat) (p : List Byte) : StoreApart (sendSeq typ p) :=
  .ite (fun _ _ _ => Iff.rfl) (.ite (fun _ _ _ => Iff.rfl) (fun _ _ _ => rfl) (fun _ _ _ => rfl)) (fun _ _ _ => rfl)

theorem htReply_storeApart (bs : List Byte) : StoreApart (htReply bs) :=
  .ite (fun _ _ _ => Iff.rfl) (fun _ _ _ => rfl) (fun _ _ _ => rfl)

/-- R48: no transport of a reply touches the store. -/
theorem emit_storeApart (r : Reply) : StoreApart (emit r) := by
  intro st th s
  unfold emit
  cases r.via with
  | mailbox p => exact unitPush_storeApart _ _ st th { s with sys.outbox := s.sys.outbox ++ [r] }
  | udp peer slot nonce => rfl
  | ht => exact htReply_storeApart _ st th { s with sys.outbox := s.sys.outbox ++ [r] }
  | shaesh => exact sendSeq_storeApart _ _ st th { s with sys.outbox := s.sys.outbox ++ [r] }

theorem sendReply_storeApart (r : Reply) : StoreApart (sendReply r) :=
  .ite (fun _ _ _ => Iff.rfl) (fun _ _ _ => rfl) (emit_storeApart r)

/-- R59: the deferral of a command does not touch the store. -/
theorem deferCmd_storeApart (i : Instr) (c : Cmd) (role : Nat) : StoreApart (deferCmd i c role) := by
  intro st th s
  unfold deferCmd
  exact sendReply_storeApart _ st th { s with sys.deferred := _ }

/-! ### The transfer that moves the entries (R392) -/

/-- Only the queues and DMA channels and the events in flight differ. -/
def ChannelsOnly (s t : State) : Prop := ∃ q e, t = { s with qdma := q, evnt.inflight := e }

theorem ChannelsOnly.refl (s : State) : ChannelsOnly s s := ⟨s.qdma, s.evnt.inflight, rfl⟩

theorem ChannelsOnly.trans {a b c : State} : ChannelsOnly a b → ChannelsOnly b c → ChannelsOnly a c := by
  rintro ⟨_, _, rfl⟩ ⟨q, e, rfl⟩; exact ⟨q, e, rfl⟩

/-- R392: the supervisor's transfers change only the channel and raise its events. -/
theorem supPump_only (s : State) : ChannelsOnly s (supPump s) := by
  unfold supPump
  split
  · exact .refl s
  · have hstart : ChannelsOnly s { s with qdma.sup := [] } := ⟨_, s.evnt.inflight, rfl⟩
    exact hstart.trans (forEach_rel ChannelsOnly.refl (fun h k => ChannelsOnly.trans h k) _ _ (fun _ _ => ⟨_, _, rfl⟩) _)

theorem supMove_only (src dst len : Nat) (s : State) : ChannelsOnly s (supMove src dst len s) :=
  ChannelsOnly.trans ⟨_, s.evnt.inflight, rfl⟩ (supPump_only _)

/-! ### A persistence begins (R97, R490) -/

/-- R97: the operation that a persistence queues. -/
def persistOp (why : StoreWhy) (es : List LogEntry) : StoreOp :=
  { why := why, item := Config.logItem, data := es.flatMap logBytes, whole := true, need := 32, last := es }

/-- R490: that operation once it has begun to write its first copy, of generation `gen`, to the blocks `bs`. -/
def persistBegun (why : StoreWhy) (es : List LogEntry) (gen : Nat) (bs : List Nat) : StoreOp :=
  { persistOp why es with begun := true, full := es.flatMap logBytes, gen := gen, blocks := bs, todo := bs }

theorem queuePersist_eq (why : StoreWhy) (s : State) : queuePersist why s = { s with stor.ops := s.stor.ops ++ [persistOp why (newestEntries s)] } := rfl

/-- R471, R490: the store may write, and the pool gives the blocks `bs` of a copy of the log. -/
structure State.TakesLog (s : State) (bs : List Nat) : Prop where
  free     : s.stor.ops = []
  permits  : storeInhibited s = false
  gives    : poolGives 32 Config.logItem s = true
  takes    : takeBlocks 32 s = some bs

/-- The store's part in a persistence is the same where store and thermal unit are. -/
theorem State.TakesLog.of_eq {s u : State} {bs : List Nat} (h : s.TakesLog bs) (hst : u.stor = s.stor) (hth : u.thrm = s.thrm) : u.TakesLog bs := by
  cases s
  cases u
  simp only at hst hth
  subst hst hth
  exact ⟨h.free, h.permits, h.gives, h.takes⟩

/-- R490: the generation of an item's new version. -/
def nextGen (item : Nat) (s : State) : Nat := match newestCopy (storeItem s item) with | some c => c.gen + 1 | none => 1

theorem nextGen_of_stor {s u : State} (h : u.stor = s.stor) : nextGen Config.logItem u = nextGen Config.logItem s := by
  simp only [nextGen, storeItem, h]

/-- R490 step 1: a write that the pool gives its blocks begins its first copy. -/
theorem beginOp_writes {x : StoreOp} {s v : State} {full : List Byte} {bs : List Nat} (hinh : storeInhibited s = false) (he : x.erase = false)
    (hwear : x.why ≠ .wear) (hpending : x.why ≠ .pending) (hneed : x.need ≠ 0)
    (hv : newVersion x (if x.last ≠ [] then supMove (supAddr 1) (supAddr 2) x.data.length s else s) = (full, v))
    (hgives : poolGives x.need x.item v = true) (htakes : takeBlocks x.need v = some bs) :
    beginOp x s = setHead { x with begun := true, full := full, gen := nextGen x.item v, blocks := bs, todo := bs } v := by
  unfold beginOp
  rw [if_neg (by simp [hinh]), if_neg (by simp [he])]
  split
  · contradiction
  · contradiction
  · rw [hv]
    simp only [if_neg hneed, hgives, htakes, Bool.true_eq_false, if_false]
    rfl

/-- R97, R490: where nothing else is in the store, a persistence that it takes begins at once; its transfer changes the channels. -/
theorem pumpStore_persist {s : State} {bs : List Nat} (hs : s.TakesLog bs) {why : StoreWhy} (hwear : why ≠ .wear) (hpending : why ≠ .pending) (es : List LogEntry) :
    ChannelsOnly { s with stor.ops := [persistBegun why es (nextGen Config.logItem s) bs] } (pumpStore { s with stor.ops := [persistOp why es] }) := by
  generalize hu : { s with stor.ops := [persistOp why es] } = u
  have hmove : ChannelsOnly u (if (persistOp why es).last ≠ [] then supMove (supAddr 1) (supAddr 2) (persistOp why es).data.length u else u) := by
    split
    · exact supMove_only ..
    · exact .refl u
  subst hu
  obtain ⟨q, e, hv⟩ := hmove
  have hbegin := beginOp_writes (x := persistOp why es) (s := { s with stor.ops := [persistOp why es] }) hs.permits rfl hwear hpending
    (Nat.succ_ne_zero 31) (congrArg (newVersion (persistOp why es)) hv) hs.gives hs.takes
  refine ⟨q, e, ?_⟩
  change pumpStoreN 1 (beginOp (persistOp why es) { s with stor.ops := [persistOp why es] }) = _
  rw [hbegin]
  rfl

/-- LOG_PERSIST_PERIOD and a retry of a refused persistence begin to write the newest entries. -/
theorem pumpStore_queuePersist {s : State} {bs : List Nat} (hs : s.TakesLog bs) :
    ChannelsOnly { s with stor.ops := [persistBegun .persist (newestEntries s) (nextGen Config.logItem s) bs] } (pumpStore (queuePersist .persist s)) := by
  rw [queuePersist_eq, hs.free]
  exact pumpStore_persist hs (by simp) (by simp) _

/-! ### LOG_PERSIST (R97, R59) -/

@[simp] theorem newestEntries_taken (s : State) (op : Nat) (h : Hdr) : newestEntries (s.taken op h) = newestEntries s := by
  simp [newestEntries]

/-- R53: an opcode that is not mirrored sends the Shadow nothing. -/
theorem mirrorCmd_unmirrored {c : Cmd} (hc : isMirrored c.op c.h = false) (status epoch : Nat) (packets : List (Nat × List Byte)) (s : State) :
    mirrorCmd c status epoch packets s = s := by
  simp [mirrorCmd, hc]

/-- The LOG_PERSIST of a header. -/
def persistCmd (h : Hdr) : Cmd := { op := 0x0403, h := h, count := 1 }

/-- R59: a LOG_PERSIST is taken, deferred with its persistence in the queue, and the store goes on. -/
theorem exec_logPersist {h : Hdr} {s : State} (r : s.Ready 0x0403 h) (hd : s.mayDefer h) : exec (.logPersist h) s =
    .next (pumpStore ((queuePersist (.command h.session h.seq) (s.taken 0x0403 h)).defers (.logPersist h) (persistCmd h) (s.sess h).role)) := by
  change Host.Outcome.next (accept h.via (.logPersist h) s) = _
  rw [accept_alone r (by simp)]
  change Host.Outcome.next (doLogPersist h _) = _
  unfold doLogPersist
  rw [xesil_taken r _ _ _ _ _ _ rfl rfl, runCmd_taken r _ true _ _ _ _ rfl rfl rfl rfl rfl (fun _ => hd)]
  rfl

/-- R59: the deferral of a LOG_PERSIST does not touch the store. -/
theorem defers_logPersist_storeApart (h : Hdr) (role : Nat) : StoreApart (fun s => s.defers (.logPersist h) (persistCmd h) role) := by
  intro st th s
  simp only [State.defers, mirrorCmd_unmirrored (c := persistCmd h) rfl]
  exact deferCmd_storeApart ..

/-- LOG_PERSIST is deferred and begins to write the newest entries. -/
theorem exec_logPersist_begins {h : Hdr} {s : State} {bs : List Nat} (r : s.Ready 0x0403 h) (hd : s.mayDefer h) (hs : s.TakesLog bs) :
    ∃ t, exec (.logPersist h) s = .next t ∧ ChannelsOnly { (s.taken 0x0403 h).defers (.logPersist h) (persistCmd h) (s.sess h).role with
      stor.ops := [persistBegun (.command h.session h.seq) (newestEntries s) (nextGen Config.logItem s) bs] } t := by
  have hapart := defers_logPersist_storeApart h (s.sess h).role
  have htaken : (s.taken 0x0403 h).TakesLog bs := hs.of_eq (taken_stor ..) (taken_thrm ..)
  have hbegins := pumpStore_persist (htaken.of_eq (hapart.keepsStor _) (hapart.keepsThrm _)) (why := .command h.session h.seq) (by simp) (by simp) (newestEntries s)
  have hgen := nextGen_of_stor ((hapart.keepsStor (s.taken 0x0403 h)).trans (taken_stor ..))
  rw [hgen] at hbegins
  refine ⟨_, exec_logPersist r hd, ?_⟩
  rw [queuePersist_eq, htaken.free, newestEntries_taken, List.nil_append]
  generalize newestEntries s = es at hbegins ⊢
  have hmoved := congrArg pumpStore (hapart.setOps [persistOp (.command h.session h.seq) es] (s.taken 0x0403 h))
  exact (congrArg (ChannelsOnly _) hmoved).mpr hbegins

/-- Settles O26: the register windows, the mark and the persistence, each by its lemma above. -/
theorem logCommands : Obligations.LogCommands := by
  unfold Obligations.LogCommands
  refine ⟨?mark, ?opens, ?counts, ?closes, ?persists, ?noRetry, ?command⟩
  case mark => exact fun h text s r h1 h48 => ⟨markEntry h text s, rfl, exec_logMark r h1 h48⟩
  case opens => exact fun p addr v s h => congrArg Host.Outcome.next (logRegister_opens h p v.toNat)
  case counts =>
    rintro p _ v w s hs rfl hp ht
    exact congrArg Host.Outcome.next (logRegister_counts hs hp ht v.toNat)
  case closes =>
    rintro p addr w s hs ha hp
    exact congrArg Host.Outcome.next (closeWindows_only_open hs (by simp [ha, hp]))
  case persists =>
    intro bs s hfree hinh hgives htakes
    obtain ⟨q, e, ht⟩ := pumpStore_queuePersist ⟨hfree, hinh, hgives, htakes⟩
    generalize newestEntries s = es at ht ⊢
    exact ⟨persistBegun .persist es (nextGen Config.logItem s) bs, rfl, rfl, rfl, rfl, rfl, rfl, rfl, ⟨_, congrArg Host.Outcome.next ht, rfl⟩,
      fun hretry => ⟨_, congrArg Host.Outcome.next ((if_pos hretry).trans ht), rfl⟩⟩
  case noRetry => exact fun s h => congrArg Host.Outcome.next (if_neg (by simp [h]))
  case command =>
    intro h bs s r hd hfree hinh hgives htakes
    obtain ⟨t, hrun, q, e, rfl⟩ := exec_logPersist_begins r hd ⟨hfree, hinh, hgives, htakes⟩
    generalize newestEntries s = es at hrun ⊢
    exact ⟨persistBegun (.command h.session h.seq) es (nextGen Config.logItem s) bs, rfl, rfl, rfl, rfl, rfl, rfl, rfl, _, hrun, rfl⟩

end Sys2Proof.Machine
end

section
/-! PROOFS. The states of a lane (R102 to R107), and what the end of its eye scans (R112) leaves of it. -/
namespace Sys2Proof.Machine
open Sys2Proof

/-! ### What replies, log entries and messages to the peer leave -/

/-- The lanes, and what their transitions read besides: the temperature sites, the elapsed time and the applied dictionary, are as they were. -/
structure KeepsLanes (s t : State) : Prop where
  lanes   : t.lanes = s.lanes
  thrm    : t.thrm = s.thrm
  tk      : t.tk = s.tk
  applied : t.sys.applied = s.sys.applied

namespace KeepsLanes

theorem refl (s : State) : KeepsLanes s s := ⟨rfl, rfl, rfl, rfl⟩

theorem trans {a b c : State} (h : KeepsLanes a b) (k : KeepsLanes b c) : KeepsLanes a c :=
  ⟨k.lanes.trans h.lanes, k.thrm.trans h.thrm, k.tk.trans h.tk, k.applied.trans h.applied⟩

/-- What is kept from a state with the same lanes, sites, time and dictionary. -/
theorem after {a b c : State} (h : KeepsLanes b c) (hl : b.lanes = a.lanes := by rfl) (hth : b.thrm = a.thrm := by rfl) (htk : b.tk = a.tk := by rfl)
    (hd : b.sys.applied = a.sys.applied := by rfl) : KeepsLanes a c :=
  trans ⟨hl, hth, htk, hd⟩ h

theorem ite {s t u : State} {c : Prop} [Decidable c] (ht : KeepsLanes s t) (hu : KeepsLanes s u) : KeepsLanes s (if c then t else u) := by
  split
  · exact ht
  · exact hu

theorem ofLog {s t : State} : LogOnly s t → KeepsLanes s t := by
  rintro ⟨_, _, _, _, _, _, rfl⟩; exact ⟨rfl, rfl, rfl, rfl⟩

theorem ofSent {s t : State} (h : SentOnly s t) : KeepsLanes s t := ofLog h.log

theorem lane {s t : State} (h : KeepsLanes s t) (n : Nat) : Machine.lane t n = Machine.lane s n := by
  rw [Machine.lane, h.lanes, Machine.lane]

theorem siteReading {s t : State} (h : KeepsLanes s t) (k : Nat) : Machine.siteReading t k = Machine.siteReading s k := by
  rw [Machine.siteReading, h.thrm, Machine.siteReading]

theorem monoNs {s t : State} (h : KeepsLanes s t) : Machine.monoNs t = Machine.monoNs s := by
  rw [Machine.monoNs, h.tk, Machine.monoNs]

theorem prmB {s t : State} (h : KeepsLanes s t) (id : Nat) : Machine.prmB t id = Machine.prmB s id := by
  rw [Machine.prmB, prm, h.applied, Machine.prmB, prm]

end KeepsLanes

theorem setSession_keepsLanes (n : Nat) (x : Session) (s : State) : KeepsLanes s (setSession n x s) := ⟨rfl, rfl, rfl, rfl⟩

theorem setQueue_keepsLanes (q : Nat) (x : Queue) (s : State) : KeepsLanes s (setQueue q x s) := ⟨rfl, rfl, rfl, rfl⟩

theorem queueAppend_keepsLanes (q : Nat) (ws : List QWord) (s : State) : KeepsLanes s (queueAppend q ws s) := by
  have hput := setQueue_keepsLanes q { queue s q with words := (queue s q).words ++ ws, pushed := (queue s q).pushed + ws.length } s
  exact hput.trans (.ite ⟨rfl, rfl, rfl, rfl⟩ (.refl _))

theorem unitPush_keepsLanes (q : Nat) (vals : List Nat) (s : State) : KeepsLanes s (unitPush q vals s).2 := by
  rw [unitPush_snd]
  exact .ite (setQueue_keepsLanes ..) (queueAppend_keepsLanes ..)

theorem htReply_keepsLanes (bs : List Byte) (s : State) : KeepsLanes s (htReply bs s) := .ite ⟨rfl, rfl, rfl, rfl⟩ ⟨rfl, rfl, rfl, rfl⟩

/-- R48: no transport of a reply touches the lanes. -/
theorem emit_keepsLanes (r : Reply) (s : State) : KeepsLanes s (emit r s) := by
  have hput : KeepsLanes s { s with sys.outbox := s.sys.outbox ++ [r] } := ⟨rfl, rfl, rfl, rfl⟩
  unfold emit
  cases r.via with
  | mailbox p => exact hput.trans (unitPush_keepsLanes ..)
  | udp peer slot nonce => exact ⟨rfl, rfl, rfl, rfl⟩
  | ht => exact hput.trans (htReply_keepsLanes ..)
  | shaesh => exact hput.trans (.ofSent (sendSeq_only ..))

theorem sendReply_keepsLanes (r : Reply) (s : State) : KeepsLanes s (sendReply r s) := .ite ⟨rfl, rfl, rfl, rfl⟩ (emit_keepsLanes r s)

theorem cacheReply_keepsLanes (n : Nat) (x : Cached) (s : State) : KeepsLanes s (cacheReply n x s) := by
  unfold cacheReply
  split
  · exact setSession_keepsLanes ..
  · exact .refl s

/-- R352: a device that begins to join keeps its lanes. -/
theorem startJoin_keepsLanes (s : State) : KeepsLanes s (startJoin s) :=
  .ite (.refl s) (.ite ⟨rfl, rfl, rfl, rfl⟩ (KeepsLanes.ofSent (sendSeq_only ..)).after)

theorem shadowDiverge_keepsLanes (s : State) : KeepsLanes s (shadowDiverge s) := by
  have hleaves : KeepsLanes s { s with twin.state := 6 } := ⟨rfl, rfl, rfl, rfl⟩
  exact .ite (.ite (hleaves.trans (startJoin_keepsLanes _)) hleaves) (.refl s)

theorem raiseOpen_keepsLanes (src : Nat) (s : State) : KeepsLanes s (raiseOpen src s) := ⟨rfl, rfl, rfl, rfl⟩

/-- R345: a divergence found by a reply is logged and raised; the lanes stay. -/
theorem replyDiverge_keepsLanes (s : State) : KeepsLanes s (replyDiverge s) :=
  (((KeepsLanes.ofLog (logDevice_only ..)).trans (raiseOpen_keepsLanes ..)).trans (shadowDiverge_keepsLanes _)).after

/-- R56, R59: nor does a reply that enters the cache and, unless it is quiet, leaves. -/
theorem cachedReply_keepsLanes (quiet : Bool) (n : Nat) (x : Cached) (r : Reply) (s : State) :
    KeepsLanes s (if quiet then cacheReply n x s else sendReply r (cacheReply n x s)) :=
  .ite (cacheReply_keepsLanes ..) ((cacheReply_keepsLanes ..).trans (sendReply_keepsLanes ..))

/-- R59: the final reply of a deferred command touches no lane. -/
theorem replyDeferred_keepsLanes (d : Deferred) (status : Nat) (params : List Byte) (more : Bool) (s : State) :
    KeepsLanes s (replyDeferred d status params more s) := by
  unfold replyDeferred
  dsimp only
  split
  · exact ⟨rfl, rfl, rfl, rfl⟩
  · exact .ite ((cachedReply_keepsLanes ..).trans (replyDiverge_keepsLanes _)).after (cachedReply_keepsLanes ..).after

theorem endDeferred_keepsLanes (d : Deferred) (status : Nat) (params : List Byte) (more : Bool) (value : Nat) (s : State) :
    KeepsLanes s (endDeferred d status params more value s) :=
  KeepsLanes.trans (.ite (.ofLog (logCommit_only ..)) (.refl s)) (replyDeferred_keepsLanes ..)

theorem failDeferred_keepsLanes (d : Deferred) (ds : List Detail) (s : State) : KeepsLanes s (failDeferred d ds s) := by
  refine .trans ?_ (endDeferred_keepsLanes ..)
  split
  · exact setSession_keepsLanes ..
  · exact .refl s

/-- R112: a lane that leaves LOCKED ends its eye scans, which changes no lane. -/
theorem endEyeScans_keepsLanes (n : Nat) (s : State) : KeepsLanes s (endEyeScans n s) :=
  forEach_rel .refl .trans _ _ (fun d s => failDeferred_keepsLanes d _ s) s

/-! ### Flags of a lane (R107, R118) -/

/-- A flag of LN_FLAGS is the only change that it makes to its lane; LOS and LOL set none outside QMODE 0. -/
theorem lane_laneFlag (n k : Nat) (s : State) :
    lane (laneFlag n k s) n = if k < 2 ∧ prmB s (P.LANE_QMODE n) then lane s n else { lane s n with flags := setFlag (lane s n).flags k } := by
  unfold laneFlag
  split
  · rfl
  · exact lane_setLane_self ..

/-- From the third flag on the quality mode plays no part. -/
theorem lane_laneFlag_event {k : Nat} (hk : 2 ≤ k) (n : Nat) (s : State) :
    lane (laneFlag n k s) n = { lane s n with flags := setFlag (lane s n).flags k } := by
  rw [lane_laneFlag, if_neg (by omega)]

/-! ### The transitions (R104) -/

theorem exec_laneBiasSettled {n : Fin 64} {s : State} (hoff : (lane s n.val).state = 0) (hrun : prmB s (P.LANE_RUN n.val) = true)
    (hquad : quadOn s (n.val / 16) = true) : exec (.laneBiasSettled n) s = .next (setLane n.val { toNoSignal (lane s n.val) with los := true } s) :=
  congrArg Host.Outcome.next (if_pos ⟨hoff, hrun, hquad⟩)

theorem exec_laneSignalDetect_noSignal {n : Fin 64} {s : State} (h : (lane s n.val).state = 5) :
    exec (.laneSignalDetect n) s = .next (setLane n.val (startAcquire { lane s n.val with los := false }) s) :=
  if_pos h

theorem exec_fullAdaptationDone_open {n : Fin 64} {ctle : Nat} {dfe : List Int} {s : State} (h : (lane s n.val).state = 1) (hc : ctle < 256) (hd : dfe.length = 5) :
    exec (.fullAdaptationDone n true ctle dfe) s = .next (setLane n.val { lane s n.val with state := 2, cdrLock := true, ctle := ctle, dfe := dfe } s) := by
  change execFullAdaptationDone n true ctle dfe s = _
  rw [execFullAdaptationDone, if_neg (not_not.mpr h), if_pos rfl, Nat.mod_eq_of_lt hc, ← hd, List.take_length]

theorem exec_fullAdaptationDone_closed {n : Fin 64} {s : State} (h : (lane s n.val).state = 1) (ctle : Nat) (dfe : List Int) :
    exec (.fullAdaptationDone n false ctle dfe) s = .next (setLane n.val { startAcquire (lane s n.val) with retries := (lane s n.val).retries + 1 } s) :=
  (if_neg (not_not.mpr h)).trans (if_neg Bool.false_ne_true)

/-- R105: with IDLE_EN the loss of signal leaves what the exit from IDLE needs. -/
theorem exec_laneSignalLoss_idle {n : Fin 64} {s : State} (h : (lane s n.val).state = 2) (hidle : prmB s (P.LANE_IDLE_EN n.val) = true) :
    exec (.laneSignalLoss n) s = .next (setLane n.val { lane s n.val with
      state := 3, los := true, aligned := false, heldAligned := (lane s n.val).aligned, cdrLock := false, idleNs := monoNs s, idleTemp := siteReading s (n.val / 16) }
      (endEyeScans n.val s)) := by
  have hends := endEyeScans_keepsLanes n.val s
  change execLaneSignalLoss n s = _
  rw [execLaneSignalLoss, if_neg (by simp [h]), if_neg (not_not.mpr h), if_pos (by rw [hends.prmB, hidle]), hends.monoNs, hends.siteReading]

theorem exec_laneSignalLoss_noIdle {n : Fin 64} {s : State} (h : (lane s n.val).state = 2) (hidle : prmB s (P.LANE_IDLE_EN n.val) = false) :
    exec (.laneSignalLoss n) s = .next (laneFlag n.val 0 (setLane n.val { toNoSignal (lane s n.val) with los := true } (endEyeScans n.val s))) := by
  have hends := endEyeScans_keepsLanes n.val s
  change execLaneSignalLoss n s = _
  rw [execLaneSignalLoss, if_neg (by simp [h]), if_neg (not_not.mpr h), if_neg (by rw [hends.prmB, hidle]; exact Bool.false_ne_true)]

/-- R105: what the loss of signal leaves of a LOCKED lane. -/
theorem lane_signalLoss {n : Fin 64} {s : State} (h : (lane s n.val).state = 2) :
    ∃ t, exec (.laneSignalLoss n) s = .next t ∧ (lane t n.val).los = true ∧ (lane t n.val).aligned = false ∧
      (if prmB s (P.LANE_IDLE_EN n.val) then (lane t n.val).state = 3 ∧ (lane t n.val).heldAligned = (lane s n.val).aligned ∧
          (lane t n.val).idleNs = monoNs s ∧ (lane t n.val).idleTemp = siteReading s (n.val / 16)
        else (lane t n.val).state = 5) := by
  cases hidle : prmB s (P.LANE_IDLE_EN n.val) with
  | true =>
    refine ⟨_, exec_laneSignalLoss_idle h hidle, ?_⟩
    simp
  | false =>
    refine ⟨_, exec_laneSignalLoss_noIdle h hidle, ?_⟩
    rw [lane_laneFlag]
    split <;> simp [toNoSignal]

theorem exec_laneLossOfLock {n : Fin 64} {s : State} (h : (lane s n.val).state = 2) :
    exec (.laneLossOfLock n) s = .next (laneFlag n.val 1 (endEyeScans n.val (setLane n.val { toNoSignal (lane s n.val) with lol := true } s))) :=
  if_neg (not_not.mpr h)

/-- R107: in QMODE 0 a loss of lock sets its flag besides. -/
theorem lane_lossOfLock (n : Nat) (s : State) :
    lane (laneFlag n 1 (endEyeScans n (setLane n { toNoSignal (lane s n) with lol := true } s))) n =
      { toNoSignal (lane s n) with lol := true, flags := if prmB s (P.LANE_QMODE n) then (lane s n).flags else setFlag (lane s n).flags 1 } := by
  have hends := endEyeScans_keepsLanes n (setLane n { toNoSignal (lane s n) with lol := true } s)
  have hq : prmB (setLane n { toNoSignal (lane s n) with lol := true } s) (P.LANE_QMODE n) = prmB s (P.LANE_QMODE n) := rfl
  rw [lane_laneFlag, hends.prmB, hends.lane, lane_setLane_self, hq]
  cases prmB s (P.LANE_QMODE n) <;> rfl

theorem exec_laneIdleMax {n : Fin 64} {s : State} (h : (lane s n.val).state = 3) :
    exec (.laneIdleMax n) s = .next (laneFlag n.val 2 (laneFlag n.val 0 (setLane n.val { toNoSignal (lane s n.val) with los := true } s))) :=
  if_neg (not_not.mpr h)

theorem lane_idleMax (n : Nat) (x : Lane) (s : State) :
    (lane (laneFlag n 2 (laneFlag n 0 (setLane n x s))) n).state = x.state ∧ (lane (laneFlag n 2 (laneFlag n 0 (setLane n x s))) n).los = x.los := by
  rw [lane_laneFlag_event le_rfl, lane_laneFlag]
  split <;> simp

theorem exec_relockDone_confirmed {n : Fin 64} {s : State} (h : (lane s n.val).state = 4) :
    exec (.relockDone n true) s = .next (setLane n.val { lane s n.val with state := 2, cdrLock := true, aligned := (lane s n.val).heldAligned } s) :=
  (if_neg (not_not.mpr h)).trans (if_pos rfl)

/-- Settles O14: each transition by its lemma above. -/
theorem laneStates : Obligations.LaneStates := by
  unfold Obligations.LaneStates
  refine ⟨?bias, ?detect, ?adapted, ?loss, ?lock, ?idleMax, ?relock⟩
  case bias => exact fun n s hoff hrun hquad => exec_laneBiasSettled hoff hrun hquad
  case detect => exact fun n s h => exec_laneSignalDetect_noSignal h
  case adapted =>
    intro n ctle dfe s h hc hd
    refine ⟨exec_fullAdaptationDone_open h hc hd, _, exec_fullAdaptationDone_closed h ctle dfe, ?_⟩
    simp [startAcquire]
  case loss => exact fun n s h => lane_signalLoss h
  case lock =>
    intro n s h
    refine ⟨_, exec_laneLossOfLock h, ?_⟩
    rw [lane_lossOfLock]
    exact ⟨rfl, rfl, rfl, rfl⟩
  case idleMax => exact fun n s h => ⟨_, exec_laneIdleMax h, lane_idleMax n.val _ s⟩
  case relock => exact fun n s h => exec_relockDone_confirmed h

end Sys2Proof.Machine
end

section
/-! PROOFS. Adaptation, alignment, the comparator, LN_CONTROL and the PRBS counters of a lane (R103, R108, R111, R113, R118). -/
namespace Sys2Proof.Machine
open Sys2Proof

/-! ### Only the lanes and the events in flight -/

/-- Only the lanes and the events in flight differ. -/
def LanesOnly (s t : State) : Prop := t = { s with lanes := t.lanes, evnt.inflight := t.evnt.inflight }

theorem LanesOnly.refl (s : State) : LanesOnly s s := rfl

theorem LanesOnly.trans {a b c : State} (h : LanesOnly a b) (k : LanesOnly b c) : LanesOnly a c := by
  unfold LanesOnly at h k ⊢
  rw [k, h]

theorem LanesOnly.ite {s t u : State} {c : Prop} [Decidable c] (ht : LanesOnly s t) (hu : LanesOnly s u) : LanesOnly s (if c then t else u) := by
  split
  · exact ht
  · exact hu

theorem setLane_lanesOnly (n : Nat) (x : Lane) (s : State) : LanesOnly s (setLane n x s) := rfl

theorem laneFlag_lanesOnly (n k : Nat) (s : State) : LanesOnly s (laneFlag n k s) := .ite rfl rfl

theorem countPrbs_lanesOnly (n errs bits : Nat) (s : State) : LanesOnly s (countPrbs n errs bits s) :=
  .ite (.refl s) (.ite ((setLane_lanesOnly ..).trans (laneFlag_lanesOnly ..)) (setLane_lanesOnly ..))

theorem slipLane_lanesOnly (n : Nat) (s : State) : LanesOnly s (slipLane n s) := .ite rfl (laneFlag_lanesOnly ..)

/-! ### Adaptation and alignment (R103, R108) -/

theorem exec_adaptationStep {n : Fin 64} {s : State} (hl : (lane s n.val).state = 2) (ha : prmB s (P.LANE_ADAPT n.val) = false) (dc : Int) (tap : Fin 5) (dt : Int) :
    exec (.adaptationStep n dc tap dt) s = .next (setLane n.val { lane s n.val with
      ctle := satU ((lane s n.val).ctle + stepOf dc) 8
      dfe := (lane s n.val).dfe.set tap.val (satS (((lane s n.val).dfe[tap.val]?).getD 0 + stepOf dt) 8) } s) :=
  if_pos ⟨hl, by simp [ha]⟩

theorem exec_wordAlignmentGained {n : Fin 64} {s : State} (hl : (lane s n.val).state = 2) (hm : prm s (P.LANE_WORD_MODE n.val) ≠ 2) :
    exec (.wordAlignmentGained n) s = .next (setLane n.val { lane s n.val with aligned := true } s) :=
  congrArg Host.Outcome.next (if_pos ⟨hl, hm⟩)

/-- From the third flag on, a flag is set and raises the event of its quad. -/
theorem laneFlag_event {k : Nat} (hk : 2 ≤ k) (n : Nat) (s : State) :
    laneFlag n k s = raise (8 * (n / 16) + k) n (setLane n { lane s n with flags := setFlag (lane s n).flags k } s) :=
  if_neg (by omega)

theorem exec_alignLost {n : Fin 64} {s : State} (hl : (lane s n.val).state = 2) (ha : (lane s n.val).aligned = true) :
    exec (.alignLost n) s = .next (laneFlag n.val 4 (setLane n.val { lane s n.val with aligned := false } s)) :=
  congrArg Host.Outcome.next (if_pos ⟨hl, ha⟩)

theorem exec_comparatorWindowEnd {n : Fin 64} {x y h i : Nat} {s : State} (hl : (lane s n.val).state = 2) (hm : prm s (P.LANE_WORD_MODE n.val) = 2)
    (hpins : (x, y) = (if prmB s (P.LANE_INVERT n.val) then (i, h) else (h, i))) :
    exec (.comparatorWindowEnd n x y) s = .next (setLane n.val { lane s n.val with
      valid := true, seen := decide (h = prmN s (P.LANE_CMP_WINDOW n.val)), invSeen := decide (i = prmN s (P.LANE_CMP_WINDOW n.val)), hits := h % 65536
      aligned := (lane s n.val).aligned || decide (h = prmN s (P.LANE_CMP_WINDOW n.val)) } s) := by
  have hwords : (if prmB s (P.LANE_INVERT n.val) then (y, x) else (x, y)) = (h, i) := by
    cases hinv : prmB s (P.LANE_INVERT n.val) <;> rw [hinv] at hpins <;> cases hpins <;> rfl
  change execComparatorWindowEnd n x y s = _
  simp only [execComparatorWindowEnd, hwords, hl, hm, and_self, if_true]

/-! ### The checker and its counters (R111) -/

/-- R111: a lane after `errs` errors and `bits` bits, which fit in its counters, have been counted. -/
def counted (errs bits : Nat) (x : Lane) : Lane :=
  { x with
    errs := x.errs + (errs + injected x bits), bits := x.bits + bits, inject := x.inject - bits, prbsPos := x.prbsPos + bits, prbsLeft := false
    gen := if x.prbsMode = 2 then prbsGo x.prbsPattern x.gen bits else x.gen }

theorem countPrbs_fits {n errs bits : Nat} {s : State} (hs : (lane s n).prbsSync = true)
    (he : (lane s n).errs + (errs + injected (lane s n) bits) < 2 ^ 48) (hb : (lane s n).bits + bits < 2 ^ 48) :
    countPrbs n errs bits s = setLane n (counted errs bits (lane s n)) s := by
  have hin : ¬ ((!(lane s n).prbsSync && !(lane s n).prbsLeft) = true) := by simp [hs]
  have hnosat : ¬ ((decide (2 ^ 48 - 1 < (lane s n).errs + (errs + injected (lane s n) bits)) || decide (2 ^ 48 - 1 < (lane s n).bits + bits)) = true) := by
    simp only [Bool.or_eq_true, decide_eq_true_eq]; omega
  rw [countPrbs]
  dsimp only
  rw [if_neg hin, if_neg hnosat, Nat.min_eq_right (by omega), Nat.min_eq_right (by omega)]
  rfl

/-- R111: counting changes a lane's counters, the place of its generator and CNT_SAT. -/
theorem lane_countPrbs (n errs bits : Nat) (s : State) : ∃ e b i p l g f, (f = (lane s n).flags ∨ f = setFlag (lane s n).flags 7) ∧
    lane (countPrbs n errs bits s) n = { lane s n with errs := e, bits := b, inject := i, prbsPos := p, prbsLeft := l, gen := g, flags := f } := by
  unfold countPrbs
  dsimp only
  split
  · exact ⟨_, _, _, _, _, _, _, .inl rfl, rfl⟩
  · split
    · rw [lane_laneFlag_event (by decide), lane_setLane_self]
      exact ⟨_, _, _, _, _, _, _, .inr rfl, rfl⟩
    · rw [lane_setLane_self]
      exact ⟨_, _, _, _, _, _, _, .inl rfl, rfl⟩

theorem exec_prbsSyncLoss {n : Fin 64} {errs bits : Nat} {s : State} (hs : (lane s n.val).prbsSync = true)
    (he : (lane s n.val).errs + (errs + injected (lane s n.val) bits) < 2 ^ 48) (hb : (lane s n.val).bits + bits < 2 ^ 48) :
    exec (.prbsSyncLoss n errs bits) s = .next (laneFlag n.val 6 (setLane n.val { counted errs bits (lane s n.val) with prbsSync := false }
      (setLane n.val (counted errs bits (lane s n.val)) s))) := by
  change execPrbsSyncLoss n errs bits s = _
  rw [execPrbsSyncLoss]
  dsimp only
  rw [if_pos hs, countPrbs_fits hs he hb, lane_setLane_self]

theorem exec_prbsSyncGained {n : Fin 64} {s : State} (h : (lane s n.val).prbsMode = 1 ∨ (lane s n.val).prbsMode = 2) :
    exec (.prbsSyncGained n) s = .next (setLane n.val { lane s n.val with prbsSync := true } s) :=
  congrArg Host.Outcome.next (if_pos h)

/-! ### LN_CONTROL (R118) -/

theorem lnControl_right {a : Acc} {n : Nat} {s : State} (ha : s.accessible a) (hr : laneRight s a n = true) (v : Word32) (errs bits : Nat) :
    lnControl a n v errs bits s =
      (let s := if hasFlag v 1 || hasFlag v 2 then countPrbs n errs bits s else s
       let s := if hasFlag v 1 then snapLane n s else s
       let s := if hasFlag v 2 then clearLane n s else s
       if hasFlag v 0 then slipLane n s else s) := by
  rw [lnControl, hr, windowWrite_unlogged ha]

theorem exec_bitslip {a : Acc} {n : Fin 64} {s : State} (ha : s.accessible a) (hr : laneRight s a n.val = true) :
    exec (.bitslip a n) s = .next (slipLane n.val s) :=
  congrArg Host.Outcome.next ((lnControl_right ha hr 1 0 0).trans rfl)

theorem slipLane_slips {n : Nat} {s : State} (hm : prm s (P.LANE_WORD_MODE n) = 2) (hstop : lanePortStopped s n = true) :
    slipLane n s = setLane n { lane s n with slip := ((lane s n).slip + 1) % 32, valid := false, aligned := false } s :=
  if_pos ⟨hm, .inl hstop⟩

theorem slipLane_refused {n : Nat} {s : State} (hm : prm s (P.LANE_WORD_MODE n) ≠ 2) : slipLane n s = laneFlag n 5 s :=
  if_neg fun h => hm h.1

/-! SNAP, CNT_CLEAR and BITSLIP of one write, in this order. -/

/-- SNAP, and CNT_CLEAR where the write sets it. -/
def snapClear (v : Word32) (n : Nat) (s : State) : State := if hasFlag v 2 then clearLane n (snapLane n s) else snapLane n s

/-- Then BITSLIP where the write sets it. -/
def snapClearSlip (v : Word32) (n : Nat) (s : State) : State := if hasFlag v 0 then slipLane n (snapClear v n s) else snapClear v n s

/-- LN_ERR and LN_BITS: the live counters and their copies. -/
def prbsCounters (x : Lane) : (Nat × Nat) × (Nat × Nat) := ((x.errs, x.bits), (x.snapErrs, x.snapBits))

theorem snapClear_lanesOnly (v : Word32) (n : Nat) (s : State) : LanesOnly s (snapClear v n s) := .ite rfl rfl

theorem snapClearSlip_lanesOnly (v : Word32) (n : Nat) (s : State) : LanesOnly s (snapClearSlip v n s) :=
  .ite ((snapClear_lanesOnly ..).trans (slipLane_lanesOnly ..)) (snapClear_lanesOnly ..)

theorem prbsCounters_slipLane (n : Nat) (s : State) : prbsCounters (lane (slipLane n s) n) = prbsCounters (lane s n) := by
  unfold slipLane
  dsimp only
  split
  · rw [lane_setLane_self]; rfl
  · rw [lane_laneFlag_event (by decide)]; rfl

theorem prbsCounters_snapClear (v : Word32) (n : Nat) (s : State) : prbsCounters (lane (snapClear v n s) n) =
    (if hasFlag v 2 then (0, 0) else ((lane s n).errs, (lane s n).bits), ((lane s n).errs, (lane s n).bits)) := by
  cases h : hasFlag v 2 <;> simp [snapClear, h, prbsCounters, snapLane, clearLane]

/-- R118: SNAP copies the live counters before a CNT_CLEAR of the same write clears them. -/
theorem prbsCounters_snapClearSlip (v : Word32) (n : Nat) (s : State) : prbsCounters (lane (snapClearSlip v n s) n) =
    (if hasFlag v 2 then (0, 0) else ((lane s n).errs, (lane s n).bits), ((lane s n).errs, (lane s n).bits)) := by
  unfold snapClearSlip
  split
  · rw [prbsCounters_slipLane, prbsCounters_snapClear]
  · exact prbsCounters_snapClear v n s

theorem hasFlag_setFlag_one (v : Word32) (k : Nat) : hasFlag (setFlag v 1) k = (hasFlag v k || decide (k = 1)) := by
  rw [hasFlag, setFlag, BitVec.getLsbD_or, BitVec.getLsbD_ofNat, Nat.testBit_two_pow, hasFlag]
  by_cases hk : k = 1 <;> simp [hk, eq_comm]

theorem exec_snap {a : Acc} {n : Fin 64} {v : Word32} {errs bits : Nat} {s : State} (ha : s.accessible a) (hr : laneRight s a n.val = true) :
    exec (.snap a ⟨n, v⟩ errs bits) s = .next (snapClearSlip v n.val (countPrbs n.val errs bits s)) := by
  refine congrArg Host.Outcome.next ((lnControl_right ha hr (setFlag v 1) errs bits).trans ?_)
  simp [hasFlag_setFlag_one, snapClearSlip, snapClear]

theorem exec_cntClear {a : Acc} {n : Fin 64} {s : State} (ha : s.accessible a) (hr : laneRight s a n.val = true) (bits : Nat) :
    exec (.cntClear a ⟨n, 0, bits⟩) s = .next (clearLane n.val (countPrbs n.val 0 bits s)) := by
  have halone : setFlagIf (hasFlag (0 : Word32) 0) (4 : Word32) 0 = 4 := by decide
  have hclears : hasFlag (4 : Word32) 2 = true := by decide
  have hsnap : hasFlag (4 : Word32) 1 = false := by decide
  have hslip : hasFlag (4 : Word32) 0 = false := by decide
  refine congrArg Host.Outcome.next ((lnControl_right ha hr (setFlagIf (hasFlag (0 : Word32) 0) 4 0) 0 bits).trans ?_)
  simp only [halone, hclears, hsnap, hslip, Bool.or_true, Bool.false_eq_true, if_true, if_false]

/-- R118: CNT_CLEAR ends CNT_SAT, whether it was set before or by what was still to be counted. -/
theorem w1c_setFlag_cntSat (f : Word32) : w1c (setFlag f 7) 0x80 = w1c f 0x80 := by
  have hbit : BitVec.ofNat 32 (2 ^ 7) &&& ~~~(0x80 : Word32) = 0#32 := by decide
  rw [w1c, setFlag, BitVec.and_or_distrib_right, hbit, BitVec.or_zero, w1c]

theorem lane_clear_count (n bits : Nat) (s : State) : lane (clearLane n (countPrbs n 0 bits s)) n = { lane s n with
    errs := 0, bits := 0, prbsLeft := false, flags := w1c (lane s n).flags 0x80
    inject := (lane (clearLane n (countPrbs n 0 bits s)) n).inject, prbsPos := (lane (clearLane n (countPrbs n 0 bits s)) n).prbsPos
    gen := (lane (clearLane n (countPrbs n 0 bits s)) n).gen } := by
  obtain ⟨e, b, i, p, l, g, f, hf, hx⟩ := lane_countPrbs n 0 bits s
  have hsat : w1c f 0x80 = w1c (lane s n).flags 0x80 := by
    rcases hf with rfl | rfl
    · rfl
    · exact w1c_setFlag_cntSat _
  simp only [clearLane, lane_setLane_self, hx, hsat]

end Sys2Proof.Machine

namespace Sys2Proof
open Sys2Proof.Machine

/-- Settles O15: each command and row by its lemma above. -/
theorem laneWords : Obligations.LaneWords := by
  unfold Obligations.LaneWords
  refine ⟨?adapts, ?gained, ?lost, ?slips, ?refused, ?snap, ?clear, ?window, ?syncLoss, ?syncGained⟩
  case adapts => exact fun n dc tap dt s hl ha => exec_adaptationStep hl ha dc tap dt
  case gained => exact fun n s hl hm => exec_wordAlignmentGained hl hm
  case lost =>
    intro n s hl ha
    refine ⟨_, exec_alignLost hl ha, ?_, ?_⟩
    · rw [laneFlag_event (by decide)]
      rfl
    · rw [lane_laneFlag_event (by decide), lane_setLane_self]
  case slips =>
    intro a n s ha hr hm hstop
    rw [exec_bitslip ha hr, slipLane_slips hm hstop]
  case refused =>
    intro a n s ha hr hm
    exact ⟨_, exec_bitslip ha hr, by rw [slipLane_refused hm, lane_laneFlag_event (by decide)]⟩
  case snap =>
    intro a n v e b s ha hr hs he hb
    have hlive : lane (countPrbs n.val e b s) n.val = counted e b (lane s n.val) := by rw [countPrbs_fits hs he hb, lane_setLane_self]
    have hcounters := prbsCounters_snapClearSlip v n.val (countPrbs n.val e b s)
    rw [hlive] at hcounters
    obtain ⟨hcleared, hcopied⟩ := Prod.ext_iff.mp hcounters
    obtain ⟨hcopiedErrs, hcopiedBits⟩ := Prod.ext_iff.mp hcopied
    refine ⟨_, exec_snap ha hr, hcopiedErrs, hcopiedBits, ?errs, ?bits, (countPrbs_lanesOnly ..).trans (snapClearSlip_lanesOnly ..)⟩
    case errs => exact (congrArg Prod.fst hcleared).trans ((apply_ite Prod.fst _ _ _).trans (by rw [← hcopiedErrs]; rfl))
    case bits => exact (congrArg Prod.snd hcleared).trans ((apply_ite Prod.snd _ _ _).trans (by rw [← hcopiedBits]; rfl))
  case clear =>
    intro a n b s ha hr
    exact ⟨_, exec_cntClear ha hr b, (countPrbs_lanesOnly ..).trans (setLane_lanesOnly ..), lane_clear_count n.val b s⟩
  case window => exact fun n x y h i s hl hm hpins => exec_comparatorWindowEnd hl hm hpins
  case syncLoss =>
    intro n e b s hs he hb
    refine ⟨_, exec_prbsSyncLoss hs he hb, ?_⟩
    rw [lane_laneFlag_event (by decide), lane_setLane_self]
    rfl
  case syncGained => exact fun n s h => exec_prbsSyncGained h

end Sys2Proof
end

section
/-! PROOFS. Tests of units (R486 to R488), PRBS_CONTROL (R110) and EYE_SCAN (R112). -/
namespace Sys2Proof.Machine
open Sys2Proof

/-! ### A command from its arrival to its reply (R57, R59, R63) -/

@[simp] theorem lane_taken (s : State) (op : Nat) (h : Hdr) (n : Nat) : lane (s.taken op h) n = lane s n := by
  obtain ⟨p, t, ss, hu⟩ := taken_only s op h
  rw [hu]
  rfl

@[simp] theorem taken_bkgd (s : State) (op : Nat) (h : Hdr) : (s.taken op h).bkgd = s.bkgd := by
  obtain ⟨p, t, ss, hu⟩ := taken_only s op h
  rw [hu]

@[simp] theorem monoNs_taken (s : State) (op : Nat) (h : Hdr) : monoNs (s.taken op h) = monoNs s := by
  obtain ⟨p, t, ss, hu⟩ := taken_only s op h
  rw [hu]
  rfl

@[simp] theorem prbsFree_taken (s : State) (op : Nat) (h : Hdr) (n : Nat) : prbsFree (s.taken op h) n = prbsFree s n := by
  obtain ⟨p, t, ss, hu⟩ := taken_only s op h
  rw [hu]
  rfl

/-- R55: a taken command runs with the role of its session. -/
@[simp] theorem roleOf_taken (s : State) (op : Nat) (h : Hdr) : roleOf (s.taken op h) h = (s.sess h).role := by
  obtain ⟨x, hx, hrole, -⟩ := session_taken s op h
  rw [roleOf, hx, Option.getD_some, hrole]

section
variable {s t : State} {op : Nat} {h : Hdr} {i : Instr} {c : Cmd} {mayDefer : Bool} {own values : State → List Detail} {run : Nat → State → Ran}

/-- R59, R63: a command that arrives alone, passes its checks and completes at once is answered. -/
theorem accept_answers (r : s.Ready op h) (hi : ∀ p, i ≠ .packetRejected p) (hrun : ∀ u, runInstr i u = xesil i c mayDefer own values run (fun _ => []) u)
    (hop : c.op = op) (hh : c.h = h) (hb : c.bad = none) (ho : own (s.taken op h) = []) (hv : values (s.taken op h) = []) (hd : mayDefer = true → s.mayDefer h)
    {ps : List Byte} {more : Bool} {v : Nat} (hran : run ((s.sess h).pktSize - 40) (s.taken op h) = .done ps more v t) : accept h.via i s = t.answer c ps more v := by
  rw [accept_alone r hi, hrun, xesil_taken r i mayDefer own values run _ hop hh, runCmd_taken r i mayDefer own values run _ hop hh hb ho hv hd, hran]
  rfl

/-- R59, R63: one that is deferred joins the deferred commands with its interim reply. -/
theorem accept_defers (r : s.Ready op h) (hi : ∀ p, i ≠ .packetRejected p) (hrun : ∀ u, runInstr i u = xesil i c mayDefer own values run (fun _ => []) u)
    (hop : c.op = op) (hh : c.h = h) (hb : c.bad = none) (ho : own (s.taken op h) = []) (hv : values (s.taken op h) = []) (hd : s.mayDefer h)
    (hcinch : op ≠ 0x0201) (hran : run ((s.sess h).pktSize - 40) (s.taken op h) = .defer t) : accept h.via i s = t.defers i c (s.sess h).role := by
  rw [accept_alone r hi, hrun, xesil_taken r i mayDefer own values run _ hop hh, runCmd_taken r i mayDefer own values run _ hop hh hb ho hv (fun _ => hd), hran]
  dsimp only
  rw [hop, if_neg hcinch]
  rfl

end

/-! ### TEST_RUN and CALIBRATE (R486, R487) -/

/-- The opcode of CALIBRATE or of TEST_RUN. -/
def testOp (cal : Bool) : Nat := if cal then 0x0502 else 0x0501

/-- CALIBRATE or TEST_RUN. -/
def testInstr (cal : Bool) (h : Hdr) (code unit inst arg : Nat) : Instr := if cal then .calibrate h code unit inst arg else .testRun h code unit inst arg

/-- The command of either. -/
def testCmd (cal : Bool) (h : Hdr) (code unit inst arg : Nat) : Cmd :=
  { op := testOp cal, h := h, params := leBytes 2 code ++ leBytes 1 unit ++ leBytes 1 inst ++ leBytes 4 arg, count := 1 }

/-- R487: the test that a command asks for, with the outcome for its class. -/
def askedTest (h : Hdr) (code unit inst arg : Nat) (now out : Bool) (s : State) : TestRun :=
  { code := code, unit := unit, inst := inst, arg := arg, session := h.session, seq := h.seq, started := now, startNs := monoNs s, forced := out }

/-- R486: a test joins those that wait or run, and starts where it may. -/
def joinTest (t : TestRun) (s : State) : State :=
  if t.started then beginTest t { s with bkgd.tests := s.bkgd.tests ++ [t] } else { s with bkgd.tests := s.bkgd.tests ++ [t] }

theorem exec_testInstr (cal : Bool) (h : Hdr) (code unit inst arg : Nat) (s : State) :
    exec (testInstr cal h code unit inst arg) s = .next (accept h.via (testInstr cal h code unit inst arg) s) := by
  cases cal <;> rfl

theorem runInstr_testInstr (cal : Bool) (h : Hdr) (code unit inst arg : Nat) (s : State) :
    runInstr (testInstr cal h code unit inst arg) s = doTest (testInstr cal h code unit inst arg) (testOp cal) h code unit inst arg s := by
  cases cal <;> rfl

/-- R486, R487: a test that its class lets run on a unit that has none is deferred, and starts where it may at once. -/
theorem exec_testInstr_deferred {cal : Bool} {h : Hdr} {code unit inst : Nat} {s : State} {now out : Bool} (arg : Nat) (r : s.Ready (testOp cal) h) (hd : s.mayDefer h)
    (hclass : (testClass code).isSome = true) (hadmits : testAdmits code unit inst = true)
    (hfree : s.bkgd.tests.any (fun t => t.unit == unit && t.inst == inst) = false) (hopen : resErr h unit inst (s.taken (testOp cal) h) = [])
    (hstart : testStart h code unit inst (s.taken (testOp cal) h) = (0, now, out)) :
    exec (testInstr cal h code unit inst arg) s = .next ((joinTest (askedTest h code unit inst arg now out s) (s.taken (testOp cal) h)).defers
      (testInstr cal h code unit inst arg) (testCmd cal h code unit inst arg) (s.sess h).role) := by
  have hknown : testClass code ≠ none := Option.isSome_iff_ne_none.mp hclass
  have hi : ∀ p, testInstr cal h code unit inst arg ≠ .packetRejected p := by cases cal <;> exact fun p => nofun
  have hcinch : testOp cal ≠ 0x0201 := by cases cal <;> decide
  have hnone : (s.taken (testOp cal) h).bkgd.tests.any (fun t => t.unit == unit && t.inst == inst) = false := by rw [taken_bkgd, hfree]
  rw [exec_testInstr]
  refine congrArg Host.Outcome.next (accept_defers (c := testCmd cal h code unit inst arg) r hi (runInstr_testInstr cal h code unit inst arg) rfl rfl rfl hopen ?_ hd hcinch ?_)
  · rw [if_neg hknown, if_pos hadmits]
  · simp only [hnone, hstart, monoNs_taken]
    rfl

/-! ### PRBS_CONTROL (R110) -/

/-- The command of a PRBS_CONTROL. -/
def prbsCmd (h : Hdr) (lane pattern mode injection rate : Nat) : Cmd :=
  { op := 0x0503, h := h, params := leBytes 1 lane ++ leBytes 1 pattern ++ leBytes 1 mode ++ leBytes 1 injection ++ leBytes 4 rate, count := 1 }

/-- R110, mode 0: the target returns to its use; an uplink that sent the pattern changes back. -/
def endPrbs (n : Nat) (s : State) : State :=
  (if (lane s n).prbsMode = 3 then uplinkPattern n none else id) (setLane n { stopPrbs (lane s n) with prbsMode := 0, forced := false } s)

/-- R110, modes 1 to 3: the target takes the pattern at its seed, with cleared counters; an uplink changes over to it. -/
def beginPrbs (n pattern mode injection rate : Nat) (s : State) : State :=
  uplinkPattern n (if mode = 3 then some (pattern, injection, rate) else none) (setLane n { lane s n with
    gen := prbsSeed pattern, prbsMode := mode, prbsPattern := pattern, injection := injection, prbsRate := rate, errs := 0, bits := 0, prbsSync := false
    prbsLeft := false, prbsPos := 0, inject := (if injection = 1 then 1 else if injection = 2 then rate else 0), forced := false } s)

/-- R110: a PRBS_CONTROL with valid fields, of a target that is open to its principal and needs no FORCE, is answered at once. -/
theorem exec_prbsControl {h : Hdr} {n pattern mode injection rate : Nat} {s : State} (r : s.Ready 0x0503 h) (hf : h.force = false)
    (hvalid : prbsValues n pattern mode injection rate = [])
    (hopen : if n < 64 then resErr h 2 n (s.taken 0x0503 h) = [] else itemErr (s.taken 0x0503 h) h.via.principal (s.sess h).role 2 2 false = none)
    (hmay : mode = 0 ∨ prbsFree s n = true) :
    exec (.prbsControl h n pattern mode injection rate) s =
      .next (State.answer (if mode = 0 then endPrbs n (s.taken 0x0503 h) else beginPrbs n pattern mode injection rate (s.taken 0x0503 h))
        (prbsCmd h n pattern mode injection rate) [] false 0) := by
  refine congrArg Host.Outcome.next (accept_answers (c := prbsCmd h n pattern mode injection rate) (values := fun _ => prbsValues n pattern mode injection rate) r (by simp) (fun u => rfl) rfl rfl rfl ?own hvalid (by simp) ?ran)
  case own =>
    by_cases hn : n < 64
    · rw [if_pos hn] at hopen
      simp [hf, hn, hopen]
    · rw [if_neg hn] at hopen
      simp [hf, hn, hopen]
  case ran =>
    by_cases hm : mode = 0
    · rw [if_pos hm, if_pos hm]
      rfl
    · have hfree := hmay.resolve_left hm
      simp only [if_neg hm, prbsFree_taken, hfree]
      rfl

/-! ### EYE_SCAN (R112) -/

theorem exec_eyeScan {h : Hdr} {n : Nat} {s : State} (r : s.Ready 0x0504 h) (hd : s.mayDefer h) (hn : n < 64) (hopen : resErr h 2 n (s.taken 0x0504 h) = [])
    (hlocked : (lane s n).state = 2) : exec (.eyeScan h n) s = .next ((s.taken 0x0504 h).defers (.eyeScan h n)
      { op := 0x0504, h := h, params := leBytes 1 n ++ leBytes 7 0 } (s.sess h).role) := by
  refine congrArg Host.Outcome.next (accept_defers (c := { op := 0x0504, h := h, params := leBytes 1 n ++ leBytes 7 0 }) r (by simp) (fun u => rfl)
    rfl rfl rfl hopen ?_ hd (by decide) ?_)
  · rw [if_neg (Nat.not_le.mpr hn)]
  · rw [if_pos (by rw [lane_taken, hlocked])]

/-! ### The run and the end of a test (R487, R488) -/

theorem exec_gapWindowTest {unit inst : Nat} {s : State} (hgap : gapOpen s unit inst = true) (hruns : burnishSuspended s = false) :
    exec (.gapWindowTest unit inst) s = .next { s with
      bkgd.tests := s.bkgd.tests.map (fun t => if t.unit = unit ∧ t.inst = inst ∧ testClass t.code = some 1 then { t with started := true, startNs := monoNs s } else t) } :=
  if_pos (by rw [hgap, hruns]; rfl)

/-- R488: a test leaves the tests and its unit, and is counted. -/
def endTest (t : TestRun) (s : State) : State := leaveTest t { s with bkgd.tests := s.bkgd.tests.filter (· ≠ t), bkgd.nTests := s.bkgd.nTests + 1 }

/-- R486, R488: EYE_NOW is an eye measurement too, and a test that ends raises TEST_PASS or TEST_FAIL. -/
def noteTestEnd (t : TestRun) (outcome : Fin 3) (s : State) : State :=
  raise (if outcome = 0 then 561 else 562) t.code (if t.code = 3 then { s with bkgd.nEyes := s.bkgd.nEyes + 1 } else s)

theorem exec_testDone {t : TestRun} {outcome : Fin 3} {d : Deferred} {s : State} (hfind : s.bkgd.tests.find? (fun x => x.unit == t.unit && x.inst == t.inst) = some t)
    (hruns : testRunning s t = true) (hended : outcome ≠ 2) (hd : findDeferred (noteTestEnd t outcome (endTest t s)) t.session t.seq = some d)
    (usecs detail measured : Nat) : exec (.testDone t.unit t.inst outcome usecs detail measured) s =
      .next (endDeferred d (if outcome = 0 then 0 else 0x070A) (resultBlock t outcome.val usecs detail measured) false 0 (noteTestEnd t outcome (endTest t s))) := by
  have hcounted : (t.code = 3 ∧ outcome ≠ 2) = (t.code = 3) := by simp [hended]
  change execTestDone t.unit t.inst outcome usecs detail measured s = _
  unfold execTestDone
  unfold noteTestEnd endTest at hd ⊢
  simp only [hfind, hruns, hended, hcounted, hd, false_and, if_false, Bool.not_true, Bool.false_eq_true]

/-- Settles O27: each command and row by its lemma above. -/
theorem testCommands : Obligations.TestCommands := by
  unfold Obligations.TestCommands
  refine ⟨?test, ?prbs, ?eye, ?gap, ?done⟩
  case test =>
    rintro h cal code unit inst arg s _ now out r hd hclass hadmits hfree rfl hopen hstart
    refine ⟨askedTest h code unit inst arg now out s, testInstr cal h code unit inst arg, rfl, rfl, ?_⟩
    have htests : (s.taken (testOp cal) h).bkgd.tests = s.bkgd.tests := by rw [taken_bkgd]
    rw [← htests]
    exact exec_testInstr_deferred arg r hd hclass hadmits hfree hopen hstart
  case prbs =>
    intro h n pattern mode injection rate s r hf hvalid hopen hmay
    rw [exec_prbsControl r hf hvalid hopen hmay, endPrbs, beginPrbs, lane_taken]
    rfl
  case eye => exact fun h n s r hd hn hopen hlocked => exec_eyeScan r hd hn hopen hlocked
  case gap => exact fun unit inst s hgap hruns => exec_gapWindowTest hgap hruns
  case done =>
    rintro t outcome usecs detail measured d s _ _ hfind hruns hended rfl rfl hd
    exact exec_testDone hfind hruns hended hd usecs detail measured

end Sys2Proof.Machine
end

section
/-! PROOFS. Camera ports: what an operation on one port changes, and the states of a port (R121, R122, R129, R135). -/
namespace Sys2Proof.Machine
open Sys2Proof

/-! ### A port and the events in flight -/

/-- From `s` to `t` port `p` has become `x` and the events in flight `q`; beside the ports and these events nothing differs. -/
structure PortBecomes (p : Nat) (x : Port) (q : List InFlight) (s t : State) : Prop where
  rest : t = { s with ports := t.ports, evnt.inflight := q }
  port : Machine.port t p = x

namespace PortBecomes

variable {p : Nat} {x : Port} {q : List InFlight} {s t : State}

theorem congr {y : Port} (h : PortBecomes p x q s t) (hxy : x = y) : PortBecomes p y q s t := hxy ▸ h

theorem refl (p : Nat) (s : State) : PortBecomes p (Machine.port s p) s.evnt.inflight s s := ⟨rfl, rfl⟩

theorem set (h : PortBecomes p x q s t) (y : Port) : PortBecomes p y q s (setPort p y t) :=
  ⟨congrArg (setPort p y) h.rest, port_setPort_self ..⟩

theorem mod (h : PortBecomes p x q s t) (f : Port → Port) : PortBecomes p (f x) q s (modPort p f t) :=
  h.port ▸ h.set (f (Machine.port t p))

/-- R414: an event of the port joins those in flight. -/
theorem event (h : PortBecomes p x q s t) (kind arg : Nat) : PortBecomes p x (q ++ [⟨32 + 10 * p + kind, arg, none⟩]) s (portEvent p kind arg t) := by
  have hq : t.evnt.inflight = q := congrArg (fun u => u.evnt.inflight) h.rest
  exact ⟨hq ▸ congrArg (portEvent p kind arg) h.rest, h.port⟩

theorem eventIf (h : PortBecomes p x q s t) (c : Prop) [Decidable c] (kind arg : Nat) :
    PortBecomes p x (q ++ if c then [⟨32 + 10 * p + kind, arg, none⟩] else []) s (if c then portEvent p kind arg t else t) := by
  split
  · exact h.event kind arg
  · rwa [List.append_nil]

/-- What reads neither ports nor events in flight reads the same. -/
theorem reads {α : Sort _} (h : PortBecomes p x q s t) (f : State → α)
    (hf : ∀ m q, f { s with ports := m, evnt.inflight := q } = f s := by intros; rfl) : f t = f s :=
  (congrArg f h.rest).trans (hf t.ports q)

theorem cinch (h : PortBecomes p x q s t) : t.sys.cinch = s.sys.cinch := h.reads (fun u => u.sys.cinch)

/-- A port whose state has not changed hears its camera as before. -/
theorem hears_eq (h : PortBecomes p x q s t) (hx : x.state = (Machine.port s p).state) : Machine.hears t p = Machine.hears s p := by
  simp only [Machine.hears, receives, h.port, hx, h.reads (fun u => laneGives u (4 * p))]

/-- R116: something leaves on the port's uplink. -/
theorem send (h : PortBecomes p x q s t) (u : UplOut) : PortBecomes p { x with uplink := x.uplink ++ [uplSent s p u] } q s (sendUplink p u t) := by
  have hsent : uplSent t p u = uplSent s p u := h.reads (fun v => uplSent v p u)
  rw [sendUplink, hsent]
  exact h.mod (fun y => { y with uplink := y.uplink ++ [uplSent s p u] })

theorem sendIf (h : PortBecomes p x q s t) (c : Bool) (u : UplOut) :
    PortBecomes p { x with uplink := x.uplink ++ if c then [uplSent s p u] else [] } q s (if c then sendUplink p u t else t) := by
  cases c with
  | true => exact h.send u
  | false => simpa using h

/-- R134: check-value errors that no line covers. -/
theorem stray (h : PortBecomes p x q s t) (n : Nat) :
    PortBecomes p { x with report.errs := x.report.errs + n } (q ++ if n = 0 then [] else [⟨32 + 10 * p + 4, 0, none⟩]) s (strayErrs p n t) := by
  unfold strayErrs
  by_cases hn : n = 0
  · subst hn
    simpa using h
  · simp only [if_neg hn]
    exact (h.mod (fun y => { y with report.errs := y.report.errs + n })).event 4 0

end PortBecomes

/-! ### The states of a port (R121, R135) -/

theorem exec_portLinkEstablishment_accepted {p : Fin 16} {s : State} (hlinking : (port s p.val).state = 1)
    (hclaim : prm s (P.PORT_PROTOCOL p.val) ≠ 0 ∨ holdsClaim s = true) (hlanes : lanesReady s p.val = true) :
    exec (.portLinkEstablishment p true) s = .next (setPort p.val { port s p.val with state := 2, everRun := true } s) := by
  change execPortLinkEstablishment p true s = _
  have hmay : ¬ (prm s (P.PORT_PROTOCOL p.val) = 0 ∧ ¬ holdsClaim s = true) := by tauto
  rw [execPortLinkEstablishment, if_neg (not_not.mpr hlinking), if_neg hmay, if_pos (by simp [hlanes])]

/-- R134: the check-value errors of the line in progress and of the segments that no line has taken. -/
def heldErrs (x : Port) : Nat := (match x.cur with | some g => g.errs | none => 0) + (x.segs.map RawSeg.errs).sum

/-- R121, R135: a port whose link has gone down. -/
def downPort (x : Port) : Port := { x with state := 4, cur := none, conns := [], turn := 0, tagNext := none, segs := [], due := unbegin x.due }

theorem exec_linkDown {p : Fin 16} {s : State} (hoff : (port s p.val).state ≠ 0) (hdown : (port s p.val).state ≠ 4) :
    exec (.linkDown p) s = .next (portEvent p.val 0 0 (strayErrs p.val (heldErrs (port s p.val)) (setPort p.val (downPort (port s p.val)) s))) :=
  if_neg (by simp [hoff, hdown])

theorem exec_linkRetry {p : Fin 16} {s : State} (hdown : (port s p.val).state = 4) (hrun : (port s p.val).run = true) :
    exec (.linkRetry p) s = .next (establish p.val (setPort p.val { port s p.val with state := 1 } s)) :=
  congrArg Host.Outcome.next (if_pos ⟨hdown, hrun⟩)

theorem exec_heartbeat_degraded {p : Fin 16} {s : State} (hdegraded : (port s p.val).state = 3) (hgives : laneGives s (4 * p.val) = true) :
    exec (.heartbeat p) s = .next (setPort p.val { port s p.val with state := 2 } s) :=
  congrArg Host.Outcome.next (if_pos ⟨hdegraded, hgives⟩)

theorem exec_heartbeatLost {p : Fin 16} {s : State} (hruns : (port s p.val).state = 2) (hcxp : prm s (P.PORT_PROTOCOL p.val) = 0)
    (hlimit : prm s (P.PORT_HB_TIMEOUT p.val) ≠ 0) : exec (.heartbeatLost p) s =
      .next (portEvent p.val 1 0 (setPort p.val { port s p.val with state := 3, counts.hbLost := (port s p.val).counts.hbLost + 1 } s)) :=
  if_pos ⟨hruns, hcxp, hlimit⟩

/-! ### Packets that only count or answer (R122, R129) -/

theorem exec_triggerPacketReceived {p : Fin 16} {s : State} (h : hears s p.val = true) :
    exec (.triggerPacketReceived p) s = .next (raise (32 + 10 * p.val + 8) 0 s) :=
  congrArg Host.Outcome.next (if_pos h)

theorem exec_triggerAcknowledgement {p : Fin 16} {s : State} (h : hears s p.val = true) : exec (.triggerAcknowledgement p) s =
    .next (setPort p.val (if (port s p.val).trigAcks < (port s p.val).trigSent then { port s p.val with trigAcks := (port s p.val).trigAcks + 1 }
      else { port s p.val with counts.dropped := (port s p.val).counts.dropped + 1 }) s) := by
  change execTriggerAcknowledgement p s = _
  rw [execTriggerAcknowledgement, if_neg (by simp [h])]
  split <;> rfl

theorem exec_testPacket {p : Fin 16} {s : State} (h : hears s p.val = true) :
    exec (.testPacket p) s = .next (setPort p.val { port s p.val with tests := (port s p.val).tests + 1 } s) :=
  congrArg Host.Outcome.next (if_pos h)

/-- R134: an error beside the packets of a line enters the line in progress. -/
theorem frameErr_inLine {p : Nat} {g : GotLine} {s : State} (hcur : (port s p).cur = some g) (f : PortCounts → PortCounts) :
    frameErr p f s = setPort p { port s p with counts := f (port s p).counts, cur := some { g with errs := g.errs + 1 } } s := by
  rw [frameErr, hcur]

theorem exec_unknownPacket_inLine {p : Fin 16} {g : GotLine} {s : State} (h : hears s p.val = true) (hcur : (port s p.val).cur = some g) :
    exec (.unknownPacket p) s = .next (setPort p.val
      { port s p.val with counts.header := (port s p.val).counts.header + 1, cur := some { g with errs := g.errs + 1 } } s) :=
  congrArg Host.Outcome.next ((if_pos h).trans (frameErr_inLine hcur _))

/-- Settles O16: each row by its lemma above; where the port is written more than once, by what the port becomes. -/
theorem portStates : Obligations.PortStates := by
  unfold Obligations.PortStates
  refine ⟨?established, ?down, ?retry, ?heartbeat, ?lost, ?trigger, ?trigAck, ?test, ?unknown, ?pulse⟩
  case established => exact fun p s hlinking hclaim hlanes => exec_portLinkEstablishment_accepted hlinking hclaim hlanes
  case down =>
    intro p s hoff hdown
    have hbecomes := (((PortBecomes.refl p.val s).set (downPort (port s p.val))).stray (heldErrs (port s p.val))).event 0 0
    exact ⟨_, exec_linkDown hoff hdown, hbecomes.rest, hbecomes.port⟩
  case retry =>
    intro p s hdown hrun
    have hbecomes := ((PortBecomes.refl p.val s).set { port s p.val with state := 1 }).sendIf (uplinkOn s p.val && prm s (P.PORT_PROTOCOL p.val) == 0) .establishment
    exact ⟨_, exec_linkRetry hdown hrun, hbecomes.rest, hbecomes.port⟩
  case heartbeat => exact fun p s hdegraded hgives => exec_heartbeat_degraded hdegraded hgives
  case lost =>
    intro p s hruns hcxp hlimit
    have hbecomes := ((PortBecomes.refl p.val s).set { port s p.val with state := 3, counts.hbLost := (port s p.val).counts.hbLost + 1 }).event 1 0
    exact ⟨_, exec_heartbeatLost hruns hcxp hlimit, hbecomes.rest, hbecomes.port⟩
  case trigger => exact fun p s h => exec_triggerPacketReceived h
  case trigAck => exact fun p s h => exec_triggerAcknowledgement h
  case test => exact fun p s h => exec_testPacket h
  case unknown => exact fun p g s h hcur => exec_unknownPacket_inLine h hcur
  case pulse => exact fun p s => rfl

end Sys2Proof.Machine
end

section
/-! PROOFS. Camera ports: the packets and segments that carry a line, and camera events (R122, R124 to R126, R134). -/
namespace Sys2Proof.Machine
open Sys2Proof

section
variable {p : Nat} {x : Port} {q : List InFlight} {s t : State}

/-! ### Commands that bring no fire (R81, R84) -/

theorem withFire_noCinch {s : State} (h : s.sys.cinch = none) (op : State → State) : withFire op s = op s := by
  have hfired : firedBefore op s = s := by
    unfold firedBefore
    rw [h]
  rw [withFire, hfired]

/-- An operation that leaves the Cinch as it was latches no anchor. -/
theorem withFire_sameCinch {s : State} {op : State → State} (h : (op s).sys.cinch = s.sys.cinch) : withFire op s = op s := by
  have hfired : firedBefore op s = s := by
    unfold firedBefore
    rw [h]
    cases s.sys.cinch with
    | none => rfl
    | some c => cases hc : c.tStar <;> simp only [hc]
  rw [withFire, hfired]

theorem anchorLine_noCinch {s : State} (h : s.sys.cinch = none) (p d : Nat) (l : Latch) : anchorLine p d l s = s := by
  simp only [anchorLine, anchorPort, h]

/-! ### Stream packets (R122) -/

theorem receives_not_linking {x : Port} (h : receives x = true) : x.state ≠ 1 := by
  rintro hx
  simp [receives, hx] at h

theorem dataPacket_received {p : Nat} {place : StreamPlace} {s : State} (hrec : receives (port s p) = true) (hcxp : prm s (P.PORT_PROTOCOL p) = 0)
    (hconn : place.conn.val < prmN s (P.PORT_CONNECTIONS p)) (hgives : laneGives s (4 * p + place.conn.val) = true) (k : StreamPacket) :
    dataPacket p place k s = mergePackets p (prmN s (P.PORT_CONNECTIONS p)) 1024 (setPort p { port s p with
      conns := (port s p).conns.set [] place.conn.val ((port s p).conns.get [] place.conn.val ++ [k]) } s) := by
  have hstate : ¬ ((port s p).state = 1 ∧ ¬ holdsClaim s = true ∧ lanesReady s p = true) := fun h => receives_not_linking hrec h.1
  have htakes : ¬ (!receives (port s p) || prm s (P.PORT_PROTOCOL p) != 0 || decide (prmN s (P.PORT_CONNECTIONS p) ≤ place.conn.val) ||
      !laneGives s (4 * p + place.conn.val)) = true := by simp [hrec, hcxp, hconn, hgives]
  unfold dataPacket
  simp only [if_neg hstate, if_neg htakes]

/-- R122, R134: a port whose line in progress `g` has taken the payload and the check errors of a packet. -/
def withPacket (g : GotLine) (k : StreamPacket) (x : Port) : Port :=
  { x with
    counts.crc := x.counts.crc + b2n (!k.crcOk), counts.code := x.counts.code + b2n (!k.codeOk)
    cur := some { g with bytes := g.bytes ++ k.payload, errs := g.errs + (b2n (!k.crcOk) + b2n (!k.codeOk)) } }

theorem PortBecomes.streamPacket {g : GotLine} (h : PortBecomes p x q s t) (hcur : x.cur = some g)
    (k : StreamPacket) : PortBecomes p (withPacket g k x) q s (takeStreamPacket p k false t) := by
  unfold takeStreamPacket
  simp only [h.port, hcur]
  exact ((h.set _).mod _).congr rfl

theorem mergePackets_idle {p : Nat} {s : State} (h : (port s p).conns.get [] (port s p).turn = []) (n fuel : Nat) : mergePackets p n fuel s = s := by
  cases fuel with
  | zero => rfl
  | succ fuel => simp only [mergePackets, h]

/-- R122: the packet of the connection that is next, with the tag that is next and no other waiting, is placed in the line. -/
theorem PortBecomes.mergeNext {k : StreamPacket} {g : GotLine} (h : PortBecomes p x q s t)
    (hnext : x.conns.get [] x.turn = [k]) (halone : x.conns.set [] x.turn [] = []) (htag : x.tagNext = none ∨ x.tagNext = some k.tag) (hcur : x.cur = some g)
    (n fuel : Nat) : PortBecomes p (withPacket g k { x with conns := [], turn := (x.turn + 1) % n, tagNext := some ((k.tag + 1) % 256) }) q s
      (mergePackets p n (fuel + 1) t) := by
  have hwant : x.tagNext.getD k.tag = k.tag := by rcases htag with h | h <;> rw [h] <;> rfl
  have htaken := ((h.set { x with conns := [], turn := (x.turn + 1) % n, tagNext := some ((k.tag + 1) % 256) }).streamPacket hcur k)
  rw [mergePackets]
  simp only [h.port, hnext, hwant, if_true, halone]
  rwa [mergePackets_idle (by rw [htaken.port]; rfl)]

theorem dataPacket_inOrder {p : Nat} {place : StreamPlace} {k : StreamPacket} {g : GotLine} {s : State} (hrec : receives (port s p) = true)
    (hcxp : prm s (P.PORT_PROTOCOL p) = 0) (hconn : place.conn.val < prmN s (P.PORT_CONNECTIONS p)) (hgives : laneGives s (4 * p + place.conn.val) = true)
    (hconns : (port s p).conns = []) (hturn : (port s p).turn = place.conn.val) (htag : (port s p).tagNext = none ∨ (port s p).tagNext = some k.tag)
    (hcur : (port s p).cur = some g) : PortBecomes p
      (withPacket g k { port s p with turn := (place.conn.val + 1) % prmN s (P.PORT_CONNECTIONS p), tagNext := some ((k.tag + 1) % 256) })
      s.evnt.inflight s (dataPacket p place k s) := by
  have hput : Map.set [] [] (port s p).turn [k] = [((port s p).turn, [k])] := rfl
  have hnext : Map.get [] [((port s p).turn, [k])] (port s p).turn = [k] := if_pos rfl
  have halone : Map.set [] [((port s p).turn, [k])] (port s p).turn [] = [] := by simp [Map.set, Map.erase]
  rw [dataPacket_received hrec hcxp hconn hgives, ← hturn, hconns, Map.get, List.nil_append, hput]
  exact (((PortBecomes.refl p s).set { port s p with conns := [((port s p).turn, [k])] }).mergeNext hnext halone htag hcur
    (prmN s (P.PORT_CONNECTIONS p)) 1023).congr (by simp only [hconns])

/-! ### Image headers and line markers (R122, R130) -/

theorem assembleAll_none {p : Nat} {s : State} (h : (port s p).ready = []) (n : Nat) : assembleAll p n s = s := by
  cases n with
  | zero => rfl
  | succ n => rw [assembleAll, if_pos (by simp [h])]

/-- R130: a header of a line-scan port that agrees with the geometry in force. -/
theorem headFrame_agrees {p y : Nat} {s : State} (hhears : hears s p = true) (hcxp : prm s (P.PORT_PROTOCOL p) = 0) (hline : prm s (P.PORT_MODE p) = 0)
    (hready : (port s p).ready = []) : headFrame p (prmAtN s (port s p).epoch (P.PORT_WIDTH p)) y (prmAtN s (port s p).epoch (P.PORT_BITS p))
      (prmAtN s (port s p).epoch (P.PORT_COMPONENTS p)) s = setPort p { port s p with debt := 0 } s := by
  have hhears' : ¬ (!hears s p || prm s (P.PORT_PROTOCOL p) != 0) = true := by simp [hhears, hcxp]
  have hline' : ¬ prm s (P.PORT_MODE p) = 1 := by simp [hline]
  unfold headFrame
  simp only [if_neg hhears', if_neg hline', assembleAll_none hready, prmAtN, prmAt, dictN, ne_eq, not_true, or_self, decide_false, Bool.or_false, Bool.false_eq_true, if_false]
  rfl

theorem exec_lineMarker_inLine {p : Fin 16} {g : GotLine} {s : State} (hhears : hears s p.val = true) (hcur : (port s p.val).cur = some g) :
    exec (.lineMarker p) s = .next (setPort p.val { port s p.val with cur := none, ready := (port s p.val).ready ++ [g] } s) := by
  change execLineMarker p s = _
  simp only [execLineMarker, hhears, hcur, if_true]

/-! ### Raw segments (R124, R126) -/

theorem laneSegment_read {p k : Nat} {g : RawSegment} {s : State} (hrec : receives (port s p) = true) (hraw : prm s (P.PORT_PROTOCOL p) = 1)
    (hlane : k < prmN s (P.PORT_CONNECTIONS p)) (hgives : laneGives s (4 * p + k) = true) (hwire : g.wire = []) :
    laneSegment p k g s = takeSegment p k g (idleErrs p g.idleErrs s) := by
  rw [laneSegment, if_neg (by simp [hrec, hraw, hlane, hgives]), if_pos hwire]

theorem idleErrs_becomes (p n : Nat) (s : State) : PortBecomes p { port s p with
    counts.code := (port s p).counts.code + n, report.errs := (port s p).report.errs + n }
    (s.evnt.inflight ++ if n = 0 then [] else [⟨32 + 10 * p + 4, 0, none⟩]) s (idleErrs p n s) :=
  ((PortBecomes.refl p s).mod (fun x => { x with counts.code := x.counts.code + n })).stray n

/-- R126: a line does not start before every lane has its header. -/
theorem rawStart_waits {p n c k : Nat} {s : State} (hk : k < n) (hnone : segOf (port s p) k c = none) : rawStart p n c s = s := by
  have hmissing : (List.range n).all (fun k => (segOf (port s p) k c).isSome) = false :=
    List.all_eq_false.mpr ⟨k, List.mem_range.mpr hk, by simp [hnone]⟩
  rw [rawStart, hmissing, if_pos (by simp)]

/-- R126: nor is it whole before every lane's segment is there. -/
theorem rawEnd_waits {p n k : Nat} {s : State} (hk : k < n) (hnone : ∀ c, segOf (port s p) k c = none) : rawEnd p n s = s := by
  unfold rawEnd
  cases hcur : (port s p).cur with
  | none => simp only [hcur]
  | some g =>
    have hfew : ((List.range n).filterMap (fun k => segOf (port s p) k g.count)).length < n := by
      have hlt := (List.length_filterMap_lt_length_iff_exists (f := fun k => segOf (port s p) k g.count)).mpr ⟨k, List.mem_range.mpr hk, hnone g.count⟩
      rwa [List.length_range] at hlt
    simp only [hcur, hfew, decide_true, Bool.true_or, if_true]

theorem segOf_single {x : Port} {e : RawSeg} (hsegs : x.segs = [e]) (k c : Nat) : segOf x k c = if e.lane = k ∧ e.count = c then some e else none := by
  by_cases h : e.lane = k ∧ e.count = c <;> simp [segOf, hsegs, h]

/-- A lane's first segment of a line, as it is kept. -/
def firstSeg (k : Nat) (bad : Bool) (g : RawSegment) : RawSeg :=
  { lane := k, count := g.count % 2 ^ 24, words := g.words, want := g.wordCount, errs := 0 + b2n bad + g.codeErrs + b2n g.skew, fs := g.fs, fe := g.fe, done := !g.header }

/-- R124, R134: a port that has counted the errors of a lane's first segment and keeps it. -/
def keepFirst (k : Nat) (bad : Bool) (g : RawSegment) (x : Port) : Port :=
  { x with
    counts.crc := x.counts.crc + b2n bad, counts.code := x.counts.code + g.codeErrs, counts.skew := x.counts.skew + b2n g.skew
    segs := [firstSeg k bad g] }

theorem takeSegment_first {k : Nat} {g : RawSegment} (h : PortBecomes p x q s t) (hsegs : x.segs = []) :
    takeSegment p k g t = rawEnd p (prmN s (P.PORT_CONNECTIONS p)) (rawStart p (prmN s (P.PORT_CONNECTIONS p)) (g.count % 2 ^ 24)
      (setPort p (keepFirst k (!g.header && segCrcBad s p g) g x) t)) := by
  have hcheck : segCrcBad t p g = segCrcBad s p g := h.reads (fun u => segCrcBad u p g)
  have hlanes : prmN t (P.PORT_CONNECTIONS p) = prmN s (P.PORT_CONNECTIONS p) := h.reads (fun u => prmN u (P.PORT_CONNECTIONS p))
  unfold takeSegment
  simp only [h.port, hcheck, hlanes, segOf, hsegs, List.find?_nil, Option.map_none, Option.isSome_none, Option.getD_none, Bool.false_eq_true, if_false, List.nil_append]
  rfl

/-- R126: on a port of several lanes the first segment waits for the others. -/
theorem takeSegment_waits {k : Nat} {g : RawSegment} (h : PortBecomes p x q s t)
    (hlanes : 2 ≤ prmN s (P.PORT_CONNECTIONS p)) (hsegs : x.segs = []) :
    PortBecomes p (keepFirst k (!g.header && segCrcBad s p g) g x) q s (takeSegment p k g t) := by
  obtain ⟨j, hj, hjk⟩ : ∃ j < prmN s (P.PORT_CONNECTIONS p), k ≠ j := by
    by_cases hk : k = 0
    · exact ⟨1, by omega, by omega⟩
    · exact ⟨0, by omega, hk⟩
  have hput := h.set (keepFirst k (!g.header && segCrcBad s p g) g x)
  have hnone : ∀ c, segOf (port (setPort p (keepFirst k (!g.header && segCrcBad s p g) g x) t) p) j c = none := by
    intro c
    rw [hput.port, segOf_single rfl, if_neg (fun h => hjk h.1)]
  rwa [takeSegment_first h hsegs, rawStart_waits hj (hnone _), rawEnd_waits hj hnone]

/-- Of a port only what is due differs: the due list, the number of the next trigger and the debt of R130. -/
def DueOnly (x y : Port) : Prop := y = { x with due := y.due, trigNum := y.trigNum, debt := y.debt }

theorem DueOnly.ready {x y : Port} (h : DueOnly x y) : y.ready = x.ready := by
  unfold DueOnly at h
  rw [h]

theorem DueOnly.segs {x y : Port} (h : DueOnly x y) : y.segs = x.segs := by
  unfold DueOnly at h
  rw [h]

/-- R129, R130: a line that begins keeps its LINE_COUNT and its latch; of its port only what is due changes. -/
theorem beginGot_becomes (h : PortBecomes p x q s t) (hcinch : s.sys.cinch = none) (g : GotLine) :
    (beginGot p g t).1.count = g.count ∧ (beginGot p g t).1.start = g.start ∧ ∃ y, PortBecomes p y q s (beginGot p g t).2 ∧ DueOnly x y := by
  have hnone := h.cinch.trans hcinch
  unfold beginGot
  simp only [modPort, h.port, anchorLine_noCinch hnone]
  split
  case isTrue area => exact ⟨rfl, rfl, _, h, rfl⟩
  case isFalse line =>
    split
    case isTrue freeRun => split <;> exact ⟨rfl, rfl, _, h.set _, rfl⟩
    case isFalse triggered =>
      split
      case isTrue raw =>
        split
        · exact ⟨rfl, rfl, _, h.set _, rfl⟩
        · exact ⟨rfl, rfl, _, h, rfl⟩
      case isFalse cxp =>
        split
        case isTrue inDebt => exact ⟨rfl, rfl, _, h.set _, rfl⟩
        case isFalse noDebt =>
          split
          · exact ⟨rfl, rfl, _, h.set _, rfl⟩
          · exact ⟨rfl, rfl, _, h, rfl⟩

theorem dropSegs_nothing (p : Nat) (s : State) : dropSegs p none [] s = s := rfl

/-- R126: on a port of one lane a line starts with its header. -/
theorem rawStart_single {e : RawSeg} (h : PortBecomes p x q s t) (hcinch : s.sys.cinch = none)
    (hcur : x.cur = none) (hsegs : x.segs = [e]) (hlane : e.lane = 0) : ∃ r y, r.count = e.count ∧ r.start = startLatch p s ∧
      PortBecomes p { y with cur := some r } q s (rawStart p 1 e.count t) ∧ DueOnly x y := by
  have hheader : segOf x 0 e.count = some e := by rw [segOf_single hsegs, if_pos ⟨hlane, rfl⟩]
  have hstarts : ¬ ((none : Option GotLine).any (fun g => g.count == e.count) || !(List.range 1).all (fun k => (segOf x k e.count).isSome)) = true := by
    simp [hheader]
  have hput : PortBecomes p x q s (setPort p { x with segs := [e], cur := none } t) := (h.set _).congr (by rw [← hcur, ← hsegs])
  obtain ⟨hcount, hstart, y, hbegun, hdue⟩ := beginGot_becomes hput hcinch
    { count := e.count, fs := e.fs, fe := e.fe, start := startLatch p (setPort p { x with segs := [e], cur := none } t), camOk := camAcked x }
  refine ⟨_, y, hcount, hstart.trans (hput.reads (startLatch p)), ?_, hdue⟩
  unfold rawStart
  simp only [h.port, hcur, if_neg hstarts, hheader, hsegs, List.filter_cons, bne_self_eq_false, Bool.false_and, Bool.false_eq_true, if_false, Bool.not_false, if_true,
    List.filter_nil, dropSegs_nothing, Option.isSome_none, Option.any_some]
  exact hbegun.mod (fun y => { y with cur := _ })

theorem segments_single {x : Port} {e : RawSeg} (hsegs : x.segs = [e]) (hlane : e.lane = 0) :
    (List.range 1).filterMap (fun k => segOf x k e.count) = [e] := by
  simp [segOf_single hsegs, hlane]

/-- R126: a header alone does not end its line. -/
theorem rawEnd_header {p : Nat} {s : State} {g : GotLine} {e : RawSeg} (hcur : (port s p).cur = some g) (hsegs : (port s p).segs = [e]) (hlane : e.lane = 0)
    (hcount : g.count = e.count) (hheader : e.done = false) : rawEnd p 1 s = s := by
  unfold rawEnd
  simp only [hcur, hcount, segments_single hsegs hlane, List.all_cons, hheader, Bool.false_and, Bool.not_false, Bool.or_true, if_true]

/-- R126: a whole segment ends its line, which then waits to be paired. -/
theorem rawEnd_whole {g : GotLine} {e : RawSeg} (h : PortBecomes p x q s t) (hcur : x.cur = some g)
    (hsegs : x.segs = [e]) (hlane : e.lane = 0) (hcount : g.count = e.count) (hwhole : e.done = true) : ∃ r y, PortBecomes p y q s (rawEnd p 1 t) ∧
      (y.ready = x.ready ++ [r] ∧ y.segs = [] ∧ y.cur = none) ∧ r.count = g.count ∧ r.start = g.start := by
  have hends : ¬ (decide ([e].length < 1) || !([e].all RawSeg.done)) = true := by simp [hwhole]
  have hdropped : [e].filter (fun e' => e'.count != e.count) = [] := by simp
  unfold rawEnd
  simp only [h.port, hcur, hcount, segments_single hsegs hlane, if_neg hends]
  rw [hsegs, hdropped]
  exact ⟨_, _, h.set _, ⟨rfl, rfl, rfl⟩, rfl, rfl⟩

/-- R126: on one lane the header of a segment starts a line, and the whole of it is one. -/
theorem takeSegment_single {g : RawSegment} (h : PortBecomes p x q s t) (hcinch : s.sys.cinch = none)
    (hlanes : prmN s (P.PORT_CONNECTIONS p) = 1) (hsegs : x.segs = []) (hcur : x.cur = none) : ∃ r y, r.count = g.count % 2 ^ 24 ∧ r.start = startLatch p s ∧
      PortBecomes p y q s (takeSegment p 0 g t) ∧
      (if g.header then y.cur = some r ∧ y.ready = x.ready else y.ready = x.ready ++ [r] ∧ y.segs = [] ∧ y.cur = none) := by
  have hkept := h.set (keepFirst 0 (!g.header && segCrcBad s p g) g x)
  obtain ⟨r, y, hrcount, hrstart, hstarted, hdue⟩ := rawStart_single hkept hcinch hcur rfl rfl
  rw [takeSegment_first h hsegs, hlanes]
  by_cases hheader : g.header = true
  · have hnotDone : (firstSeg 0 (!g.header && segCrcBad s p g) g).done = false := by simp [firstSeg, hheader]
    have hwaits := rawEnd_header (by rw [hstarted.port]) (by rw [hstarted.port]; exact hdue.segs) rfl hrcount hnotDone
    exact ⟨r, { y with cur := some r }, hrcount, hrstart, hwaits.symm ▸ hstarted, (if_pos hheader).mpr ⟨rfl, hdue.ready⟩⟩
  · obtain ⟨l, z, hended, ⟨hready, hsegs', hcur'⟩, hlcount, hlstart⟩ := rawEnd_whole hstarted rfl hdue.segs rfl hrcount (by simp [firstSeg, hheader])
    have hready' : z.ready = x.ready ++ [l] := hready.trans (congrArg (· ++ [l]) hdue.ready)
    exact ⟨l, z, hlcount.trans hrcount, hlstart.trans hrstart, hended, (if_neg hheader).mpr ⟨hready', hsegs', hcur'⟩⟩

/-- R126: of several lanes' segments the first, come without an error, is kept until the others are there. -/
theorem laneSegment_waits {p k : Nat} {g : RawSegment} {s : State} (hrec : receives (port s p) = true) (hraw : prm s (P.PORT_PROTOCOL p) = 1)
    (hlane : k < prmN s (P.PORT_CONNECTIONS p)) (hlanes : 2 ≤ prmN s (P.PORT_CONNECTIONS p)) (hgives : laneGives s (4 * p + k) = true) (hsegs : (port s p).segs = [])
    (hgood : g.header = true ∨ segCrcBad s p g = false) (hwire : g.wire = []) (hcode : g.codeErrs = 0) (hidle : g.idleErrs = 0) (hskew : g.skew = false) :
    PortBecomes p { port s p with segs := [⟨k, g.count % 2 ^ 24, g.words, g.wordCount, 0, g.fs, g.fe, !g.header⟩] } s.evnt.inflight s (laneSegment p k g s) := by
  have hbad : (!g.header && segCrcBad s p g) = false := by rcases hgood with h | h <;> simp [h]
  have hbegun : PortBecomes p (port s p) s.evnt.inflight s (idleErrs p 0 s) := (PortBecomes.refl p s).mod id
  have hkept := takeSegment_waits (k := k) (g := g) hbegun hlanes hsegs
  rw [hbad] at hkept
  rw [laneSegment_read hrec hraw hlane hgives hwire, hidle]
  refine hkept.congr ?_
  rw [keepFirst, firstSeg, hcode, hskew]
  rfl

theorem laneSegment_single {p : Nat} {g : RawSegment} {s : State} (hcinch : s.sys.cinch = none) (hwire : g.wire = []) (hrec : receives (port s p) = true)
    (hraw : prm s (P.PORT_PROTOCOL p) = 1) (hlanes : prmN s (P.PORT_CONNECTIONS p) = 1) (hgives : laneGives s (4 * p) = true) (hsegs : (port s p).segs = [])
    (hcur : (port s p).cur = none) : ∃ r, r.count = g.count % 2 ^ 24 ∧ r.start = startLatch p s ∧
      (if g.header then (port (laneSegment p 0 g s) p).cur = some r ∧ (port (laneSegment p 0 g s) p).ready = (port s p).ready
       else (port (laneSegment p 0 g s) p).ready = (port s p).ready ++ [r] ∧ (port (laneSegment p 0 g s) p).segs = [] ∧ (port (laneSegment p 0 g s) p).cur = none) := by
  obtain ⟨r, y, hcount, hstart, hbecomes, hline⟩ := takeSegment_single (g := g) (idleErrs_becomes p g.idleErrs s) hcinch hlanes hsegs hcur
  rw [laneSegment_read hrec hraw (by omega) hgives hwire, hbecomes.port]
  exact ⟨r, hcount, hstart, hline⟩

/-! ### Camera events (R122, R125) -/

/-- R122: an event with no queue named is raised, acknowledged on a driven uplink, and counted as dropped. -/
theorem PortBecomes.cameraEvent (h : PortBecomes p x q s t) (hhears : hears t p = true)
    (hqueue : prmN s (P.PORT_EVENT_QUEUE p) = 0xFFFF) (payload : List Byte) : PortBecomes p { x with
      eventsAcked := x.eventsAcked + b2n (uplinkOn s p), counts.dropped := x.counts.dropped + 1
      uplink := x.uplink ++ (if uplinkOn s p then [uplSent s p .eventAck] else []) } (q ++ [⟨32 + 10 * p + 7, 0, none⟩]) s (cameraEvent p payload t) := by
  have hheard : ¬ (!hears t p) = true := by simp [hhears]
  have hon : uplinkOn t p = uplinkOn s p := h.reads (fun u => uplinkOn u p)
  have hraised := (h.set { x with eventsAcked := x.eventsAcked + b2n (uplinkOn s p) }).event 7 0
  have hacked := hraised.sendIf (uplinkOn s p) .eventAck
  have hmay := hraised.reads (fun u => uplinkOn u p)
  have hdrops := (hacked.reads (fun u => prmN u (P.PORT_EVENT_QUEUE p))).trans hqueue
  unfold Machine.cameraEvent
  simp only [if_neg hheard, h.port, hon, hmay, hdrops, if_true]
  exact hacked.mod (fun y => { y with counts.dropped := y.counts.dropped + 1 })

/-- R126, R134: the check of a message and its code errors are counted. -/
theorem messageErrs_becomes {p kind : Nat} {words : List Nat} {m : RawMessage} {bad : Bool} {s : State}
    (hbad : bad = wordsCrcBad (prmB s (P.PORT_RAW_CRC p)) (segH1 kind false false m.crc.isSome false m.count) words.length words m.crc) : PortBecomes p { port s p with
      counts.crc := (port s p).counts.crc + b2n bad, counts.code := (port s p).counts.code + (m.codeErrs + m.idleErrs)
      report.errs := (port s p).report.errs + (b2n bad + (m.codeErrs + m.idleErrs)) }
      (s.evnt.inflight ++ if b2n bad + (m.codeErrs + m.idleErrs) = 0 then [] else [⟨32 + 10 * p + 4, 0, none⟩]) s (messageErrs p kind words m s) := by
  subst hbad
  exact ((PortBecomes.refl p s).mod (fun x => { x with counts.crc := x.counts.crc + b2n _, counts.code := x.counts.code + (m.codeErrs + m.idleErrs) })).stray _

end

/-- Settles O17: each row by its lemmas above. -/
theorem portPackets : Obligations.PortPackets := by
  unfold Obligations.PortPackets
  refine ⟨?stream, ?head, ?marker, ?waits, ?single, ?event, ?rawEvent⟩
  case stream =>
    intro p c k g s hrec hcxp hconn hgives hconns hturn htag hcur
    have hbecomes := dataPacket_inOrder (place := ⟨c, k.tag⟩) (k := { k with tag := k.tag % 256 }) hrec hcxp hconn hgives hconns hturn htag hcur
    exact ⟨_, congrArg Host.Outcome.next (withFire_sameCinch hbecomes.cinch), hbecomes.rest, hbecomes.port⟩
  case head =>
    rintro p _ y _ _ s hhears hcxp hline hready rfl rfl rfl
    have hagrees := headFrame_agrees (y := y) hhears hcxp hline hready
    exact congrArg Host.Outcome.next ((withFire_sameCinch (by rw [hagrees]; rfl)).trans hagrees)
  case marker => exact fun p g s hhears hcur => exec_lineMarker_inLine hhears hcur
  case waits =>
    intro p k g s hrec hraw hlane hlanes hgives hsegs hgood hwire hcode hidle hskew
    have hbecomes := laneSegment_waits hrec hraw hlane hlanes hgives hsegs hgood hwire hcode hidle hskew
    exact ⟨_, congrArg Host.Outcome.next (withFire_sameCinch hbecomes.cinch), hbecomes.rest, hbecomes.port⟩
  case single =>
    intro p g s hcinch hwire hrec hraw hlanes hgives hsegs hcur
    obtain ⟨r, hcount, hstart, hline⟩ := laneSegment_single hcinch hwire hrec hraw hlanes hgives hsegs hcur
    exact ⟨_, r, congrArg Host.Outcome.next (withFire_noCinch hcinch _), hcount, hstart, hline⟩
  case event =>
    intro p b s hhears hqueue
    have hbecomes := (PortBecomes.refl p.val s).cameraEvent hhears hqueue b
    exact ⟨_, rfl, hbecomes.rest, hbecomes.port⟩
  case rawEvent =>
    intro p m bad s hhears hqueue hbad
    have herrs := messageErrs_becomes hbad
    have hbecomes := herrs.cameraEvent ((herrs.hears_eq rfl).trans hhears) hqueue m.data
    exact ⟨_, congrArg Host.Outcome.next (if_pos hhears), hbecomes.rest, hbecomes.port⟩

end Sys2Proof.Machine
end

section
/-! PROOFS. Camera ports: lines due, their timeout, pairing and delivery (R8, R129 to R131, R133). -/
namespace Sys2Proof.Machine
open Sys2Proof

section
variable {p : Nat} {x : Port} {q : List InFlight} {s t : State}

/-! ### The stamp of a line (R9 to R16) -/

theorem switchEpoch_noCinch {s : State} (h : s.sys.cinch = none) (i e ns : Nat) (fs : Bool) : switchEpoch s i e ns fs = e := by
  unfold switchEpoch
  rw [h]

theorem hasFlag_setFlagIf_of_hasFlag {n i : Nat} {f : BitVec n} (h : hasFlag f i = true) (c : Bool) (k : Nat) : hasFlag (setFlagIf c f k) i = true := by
  unfold hasFlag at h ⊢
  cases c with
  | true => simp [setFlagIf, setFlag, h]
  | false => exact h

/-- R13: a line that a timeout has replaced is a LOSS line. -/
theorem hasFlag_replFlags_timeout {repl : Nat} (h : repl = 1) (f extra : Word16) : hasFlag (f ||| replFlags repl ||| extra) 0 = true := by
  simp [hasFlag, replFlags, h]

/-- R131: the full ingress buffer replaces only a line that was to be kept, and not as a timeout does. -/
theorem overflow_timeout (repl : Nat) (full : Bool) : (if (repl == 0 && full) = true then 2 else repl) = 1 ↔ repl = 1 := by
  by_cases h : repl = 0
  · cases full <;> simp [h]
  · simp [h]

/-- R10, R11: line `o`, whose latch is `l`, is the next to leave a port `x`, which so becomes `y`; `repl` as in replFlags. -/
structure Leaves (l : Latch) (repl : Nat) (o : OutLine) (x y : Port) : Prop where
  out         : y.out = x.out ++ [o]
  number      : o.line.stamp.globalLine = x.globalLine
  timeS       : o.line.stamp.timeS = l.timeS
  timeNs      : o.line.stamp.timeNs = l.timeNs
  loss        : repl = 1 → hasFlag o.line.stamp.flags 0 = true
  next        : y.globalLine = (x.globalLine + 1) % 2 ^ 48
  due         : y.due = x.due
  ready       : y.ready = x.ready
  received    : y.counts.received = x.counts.received
  lossTimeout : y.counts.lossTimeout = x.counts.lossTimeout + b2n (repl == 1)

/-- R9 to R16: on a running line-scan port, with no Cinch pending, the stamp of the next line is formed and the line passes to the ingress buffer. -/
theorem stampLine_leaves (h : PortBecomes p x q s t) (hrun : x.run = true)
    (hline : prm s (P.PORT_MODE p) = 0) (hcinch : s.sys.cinch = none) (hactive : isShadow s = false) (hstays : prmAt s x.epoch (P.PORT_RUN p) = 1)
    (l : Latch) (repl : Nat) (extra : Word16) (bytes : Option (List Byte)) (errs : Nat) (camOk fs fe : Bool) :
    ∃ y q', PortBecomes p y q' s (stampLine p l repl extra bytes errs camOk fs fe false t) ∧ ∃ o, Leaves l repl o x y := by
  have hruns : ¬ (!x.run) = true := by simp [hrun]
  have hmode : ¬ prm t (P.PORT_MODE p) = 1 := by rw [h.reads (fun u => prm u (P.PORT_MODE p)), hline]; decide
  have hshadow : isShadow t = false := (h.reads isShadow).trans hactive
  have hgoes : ¬ dictVal (dictAt t x.epoch) (P.PORT_RUN p) = 0 := by
    rw [h.reads (fun u => dictVal (dictAt u x.epoch) (P.PORT_RUN p)), ← prmAt, hstays]
    decide
  unfold stampLine
  simp only [h.port, if_neg hruns, if_neg hmode, hshadow, switchEpoch_noCinch (h.cinch.trans hcinch), if_neg hgoes, Bool.false_eq_true, if_false]
  have htimeout := overflow_timeout repl (decide (262144 < ingressBytes x + lineBytes (dictAt t x.epoch) p))
  generalize (if (repl == 0 && decide (262144 < ingressBytes x + lineBytes (dictAt t x.epoch) p)) = true then 2 else repl) = replaced at htimeout ⊢
  generalize (x.lineInFrame + 1 == if (x.lineInFrame == 0) = true then dictN (dictAt t x.epoch) (P.PORT_FRAME_LENGTH p) else x.frameLen) = endsFrame
  have hcount : (replaced == 1) = (repl == 1) := by simp only [beq_eq_decide, htimeout]
  cases endsFrame
  all_goals
    refine ⟨_, _, (h.eventIf _ 4 _).set _, ?_⟩
    refine ⟨_, rfl, rfl, rfl, rfl, fun hloss => ?_, rfl, rfl, rfl, rfl, congrArg (x.counts.lossTimeout + b2n ·) hcount⟩
    dsimp only
    iterate 6 refine hasFlag_setFlagIf_of_hasFlag ?_ _ _
    exact hasFlag_replFlags_timeout (htimeout.mpr hloss) _ _

/-! ### Lines that are due (R129, R130) -/

theorem flushDue_none {p : Nat} {s : State} (h : (port s p).due = []) (n : Nat) : flushDue p n s = s := by
  cases n with
  | zero => rfl
  | succ n => simp only [flushDue, h]

theorem flushDue_waiting {p : Nat} {s : State} {u : Due} {us : List Due} (h : (port s p).due = u :: us) (hrepl : u.repl = 0) (hgot : u.got = none) (n : Nat) :
    flushDue p n s = s := by
  cases n with
  | zero => rfl
  | succ n => simp only [flushDue, h, hrepl, hgot, ne_eq, not_true, if_false]

theorem lostFrames_none {p : Nat} {s : State} (h : (port s p).due = []) (n : Nat) : lostFrames p n s = s := by
  cases n with
  | zero => rfl
  | succ n => simp only [lostFrames, h]

/-- R129: a line-scan port with nothing pending that has seen a trigger with latch `l`, before the camera is told. -/
def triggered (s : State) (p : Nat) (l : Latch) (rest : List (Latch × Bool)) (x : Port) : Port :=
  { x with
    incoming := rest, due := [{ num := x.trigNum, latch := l, count := some (x.sendNum % 2 ^ 24) }]
    trigNum := x.trigNum + 1, sendNum := x.sendNum + 1, lostCounts := x.lostCounts.filter (fun k => k != x.sendNum % 2 ^ 24)
    trigSent := x.trigSent + b2n (uplinkOn s p && prm s (P.PORT_TRIG_PATH p) == 0)
    trigPulse := x.trigPulse || (holdsClaim s && prm s (P.PORT_TRIG_PATH p) == 1) }

/-- R129: what TRIG_PATH sends on the uplink for a trigger with latch `l`. -/
def trigOut (s : State) (p : Nat) (l : Latch) : List UplSent :=
  if uplinkOn s p && prm s (P.PORT_TRIG_PATH p) == 0 then [uplSent s p (.trigger (nowNs s - latchNs l))]
  else if uplinkOn s p && prm s (P.PORT_TRIG_PATH p) == 2 then [uplSent s p .rawTrigger] else []

theorem PortBecomes.sendTrigger (h : PortBecomes p x q s t) (l : Latch) :
    PortBecomes p { x with uplink := x.uplink ++ trigOut s p l } q s
      (if (uplinkOn s p && prm s (P.PORT_TRIG_PATH p) == 0) = true then sendUplink p (.trigger (nowNs t - latchNs l)) t
       else if (uplinkOn s p && prm s (P.PORT_TRIG_PATH p) == 2) = true then sendUplink p .rawTrigger t else t) := by
  unfold trigOut
  rw [h.reads nowNs]
  split
  · exact h.send _
  · exact h.sendIf _ _

theorem seeTrigger_becomes {p : Nat} {l : Latch} {rest : List (Latch × Bool)} {s : State} (hcinch : s.sys.cinch = none)
    (hincoming : (port s p).incoming = (l, false) :: rest) (hdue : linesDue (port s p) = true) (htriggered : prm s (P.PORT_TIMING p) = 0)
    (hline : prm s (P.PORT_MODE p) = 0) (hnone : (port s p).due = []) (hstays : prmAt s (port s p).epoch (P.PORT_RUN p) = 1) :
    PortBecomes p
      { triggered s p l rest (port s p) with uplink := (port s p).uplink ++ trigOut s p l } s.evnt.inflight s (seeTrigger p s) := by
  have hsees : ¬ (!linesDue (port s p) || prm s (P.PORT_TIMING p) != 0) = true := by simp [hdue, htriggered]
  have hmode : ¬ prm s (P.PORT_MODE p) = 1 := by simp [hline]
  have htaken := (PortBecomes.refl p s).set { port s p with incoming := rest }
  unfold seeTrigger
  simp only [hincoming]
  generalize setPort p { port s p with incoming := rest } s = t at htaken ⊢
  have hprm : ∀ id, prm t id = prm s id := fun id => htaken.reads (fun u => prm u id)
  have hstays' : (prmAt t (port s p).epoch (P.PORT_RUN p) == 0) = false := by
    rw [htaken.reads (fun u => prmAt u (port s p).epoch (P.PORT_RUN p)), hstays]
    rfl
  have hon : uplinkOn t p = uplinkOn s p := htaken.reads (fun u => uplinkOn u p)
  have hclaim : holdsClaim t = holdsClaim s := htaken.reads holdsClaim
  simp only [hprm, if_neg hsees, if_neg hmode, anchorLine_noCinch (htaken.cinch.trans hcinch), htaken.port, switchEpoch_noCinch (htaken.cinch.trans hcinch), hstays',
    hnone, hon, hclaim, Bool.and_false, Bool.or_false, Bool.not_false, Bool.true_and, Bool.and_true, List.find?_nil, ite_self, Option.bind_none, Bool.false_eq_true,
    if_false, List.nil_append, List.length_nil]
  have hsent := (htaken.set (triggered s p l rest (port s p))).sendTrigger l
  have hwaits := flushDue_waiting (us := []) (by rw [hsent.port]; rfl) rfl rfl 1
  exact hwaits.symm ▸ hsent

theorem linesDue_run {x : Port} (h : linesDue x = true) : x.run = true := (Bool.and_eq_true_iff.mp h).1

theorem exec_freeRunDue_line {p : Fin 16} {s : State} (hdue : linesDue (port s p.val) = true) (hfree : prm s (P.PORT_TIMING p.val) = 1)
    (hline : prm s (P.PORT_MODE p.val) = 0) : exec (.freeRunDue p) s = .next (setPort p.val { port s p.val with
      due := (port s p.val).due ++ [{ num := (port s p.val).trigNum, latch := startLatch p.val s }], trigNum := (port s p.val).trigNum + 1 } s) := by
  have hfalls : ¬ (!linesDue (port s p.val) || prm s (P.PORT_TIMING p.val) != 1) = true := by simp [hdue, hfree]
  change execFreeRunDue p s = _
  rw [execFreeRunDue, if_neg hfalls, if_neg (by simp [hline])]

section
variable {u : Due} (h : PortBecomes p x q s t) (hone : x.due = [u]) (hrun : x.run = true)
  (hline : prm s (P.PORT_MODE p) = 0) (hcinch : s.sys.cinch = none) (hactive : isShadow s = false) (hstays : prmAt s x.epoch (P.PORT_RUN p) = 1)
include h hone hrun hline hcinch hactive hstays

/-- R131: the only line that is due leaves as a LOSS line, and nothing is left to leave behind it. -/
theorem timedOut_leaves (camOk : Bool) (n : Nat) : ∃ y q', PortBecomes p y q' s
    (flushDue p n (stampLine p u.latch 1 0 none 0 camOk false false false (modPort p (fun y => { y with due := y.due.drop 1 }) t))) ∧ y.due = [] ∧
      ∃ o, Leaves u.latch 1 o { x with due := [] } y := by
  have hdropped : PortBecomes p { x with due := [] } q s (modPort p (fun y => { y with due := y.due.drop 1 }) t) := (h.mod _).congr (by rw [hone]; rfl)
  obtain ⟨y, q', hleft, o, hleaves⟩ := stampLine_leaves hdropped hrun hline hcinch hactive hstays u.latch 1 0 none 0 camOk false false
  exact ⟨y, q', by rwa [flushDue_none (by rw [hleft.port, hleaves.due])], hleaves.due, o, hleaves⟩

/-- R130: the only line that is due leaves with the line received for it. -/
theorem answered_leaves {g : GotLine} (hnum : u.num = g.num) (hrepl : u.repl = 0) (n : Nat) : ∃ y q', PortBecomes p y q' s
    (flushDue p (n + 1) (modPort p (fun y => { y with due := setDue g.num (fun u => { u with got := some g }) y.due }) t)) ∧ y.due = [] ∧
      ∃ o, Leaves u.latch 0 o { x with due := [] } y := by
  have hpaired : PortBecomes p { x with due := [{ u with got := some g }] } q s
      (modPort p (fun y => { y with due := setDue g.num (fun u => { u with got := some g }) y.due }) t) := (h.mod _).congr (by simp [hone, setDue, hnum])
  have htaken := hpaired.set { x with due := [] }
  obtain ⟨y, q', hleft, o, hleaves⟩ := stampLine_leaves htaken hrun hline hcinch hactive hstays u.latch 0 0 (some g.bytes) g.errs g.camOk false false
  refine ⟨y, q', ?_, hleaves.due, o, hleaves⟩
  rw [flushDue]
  simp only [hpaired.port, hrepl, ne_eq, not_true, if_false]
  rwa [flushDue_none (by rw [hleft.port, hleaves.due])]

end

/-- R130, R131: the one line that is due, and has not begun, leaves as a LOSS line when its time has passed. -/
theorem timeOutLine_single {p : Nat} {u : Due} {s : State} (hcinch : s.sys.cinch = none) (hactive : isShadow s = false) (hdue : linesDue (port s p) = true)
    (hline : prm s (P.PORT_MODE p) = 0) (hstays : prmAt s (port s p).epoch (P.PORT_RUN p) = 1) (hone : (port s p).due = [u]) (hbegun : u.begun = false)
    (hrepl : u.repl = 0) : ∃ debt gone y q, PortBecomes p y q s (timeOutLine p s) ∧ y.due = [] ∧
      ∃ o, Leaves u.latch 1 o { port s p with debt := debt, lostCounts := gone, due := [] } y := by
  have hoverdue : (!u.begun && u.repl == 0) = true := by simp [hbegun, hrepl]
  have hmode : ¬ prm s (P.PORT_MODE p) = 1 := by simp [hline]
  have hlatches : ∀ (x : Port) (k a d : Nat) (l : Latch), anchorLine p d l (portEvent p k a (setPort p x s)) = portEvent p k a (setPort p x s) :=
    fun x k a _ _ => anchorLine_noCinch (s := portEvent p k a (setPort p x s)) hcinch ..
  have hleaves := fun x (hx : x.due = [u]) (hrun : x.run = true) (hstays : prmAt s x.epoch (P.PORT_RUN p) = 1) =>
    timedOut_leaves (((PortBecomes.refl p s).set x).event 5 ((port s p).globalLine + duePlace (port s p) u.num)) hx hrun hline hcinch hactive hstays
      (camAcked (port s p)) 1
  unfold timeOutLine
  simp only [hdue, hone, if_neg hmode, Bool.not_true, Bool.false_eq_true, if_false, List.find?_cons, hoverdue, List.head?_cons, Option.map_some, if_true, hlatches,
    ite_self]
  exact ⟨_, _, hleaves _ rfl (linesDue_run hdue) hstays⟩

/-- R130: the one line that is due leaves, once its line has been received, with the latch of its trigger. -/
theorem assemble_single {p : Nat} {g : GotLine} {gs : List GotLine} {u : Due} {s : State} (hcinch : s.sys.cinch = none) (hactive : isShadow s = false)
    (hrun : (port s p).run = true) (hline : prm s (P.PORT_MODE p) = 0) (hstays : prmAt s (port s p).epoch (P.PORT_RUN p) = 1) (hready : (port s p).ready = g :: gs)
    (hfate : g.fate = 0) (hone : (port s p).due = [u]) (hnum : u.num = g.num) (hrepl : u.repl = 0) : ∃ y q, PortBecomes p y q s (assemble p s) ∧ y.due = [] ∧
      ∃ o, Leaves u.latch 0 o { port s p with ready := gs, due := [], counts.received := (port s p).counts.received + 1 } y := by
  have hmode : ∀ x, ¬ prm (setPort p x s) (P.PORT_MODE p) = 1 := fun x => by
    change ¬ prm s (P.PORT_MODE p) = 1
    simp [hline]
  have hleaves := fun x (hx : x.due = [u]) (hrun : x.run = true) (hstays : prmAt s x.epoch (P.PORT_RUN p) = 1) =>
    answered_leaves ((PortBecomes.refl p s).set x) hx hrun hline hcinch hactive hstays hnum hrepl 1
  unfold assemble
  simp only [hready, hfate, hone, if_neg (hmode _), ne_eq, not_true, if_false, List.length_singleton]
  exact hleaves _ rfl hrun hstays

/-- R133, R139: a held last line of a frame leaves with its frame report. -/
theorem releaseHold_held {p : Nat} {o : OutLine} {s : State} (hhold : (port s p).hold = some o) : ∃ r, releaseHold p false s =
    setPort p { port s p with hold := none, report := {}, mismatch := false, out := (port s p).out ++ [⟨o.line, some r, o.first⟩] } s := by
  unfold releaseHold
  simp only [hhold]
  exact ⟨_, rfl⟩

end

/-! ### What the passage of a line leaves (R8, R37, R82, R104, R298, R402) -/

/-- Neither ports nor strips differ, nor anything else but what replies, events, messages to the peer, flows, lanes, checks and the end of a Cinch change. -/
def LinesKept (s t : State) : Prop :=
  t = { s with freeCtr := t.freeCtr, sys := t.sys, evnt := t.evnt, netw := t.netw, twin := t.twin, qdma := t.qdma, ht := t.ht, lanes := t.lanes, chk := t.chk }

namespace LinesKept

theorem refl (s : State) : LinesKept s s := rfl

theorem trans {a b c : State} (h : LinesKept a b) (k : LinesKept b c) : LinesKept a c := by
  unfold LinesKept at h k ⊢
  rw [k, h]

theorem ite {s t u : State} {c : Prop} [Decidable c] (ht : LinesKept s t) (hu : LinesKept s u) : LinesKept s (if c then t else u) := by
  split
  · exact ht
  · exact hu

/-- What is kept from a state that keeps it. -/
theorem after {a b c : State} (h : LinesKept b c) (hb : LinesKept a b := by rfl) : LinesKept a c := trans hb h

theorem ofLog {s t : State} : LogOnly s t → LinesKept s t := by
  rintro ⟨_, _, _, _, _, _, rfl⟩
  rfl

theorem ofSent {s t : State} (h : SentOnly s t) : LinesKept s t := ofLog h.log

theorem ofFlows {s t : State} (h : FlowsOnly s t) : LinesKept s t := ofLog h.log

theorem ports {s t : State} (h : LinesKept s t) (p : Nat) : port t p = port s p := by
  unfold LinesKept at h
  rw [h]
  rfl

theorem strips {s t : State} (h : LinesKept s t) (i : Nat) : strip t i = strip s i := by
  unfold LinesKept at h
  rw [h]
  rfl

end LinesKept

theorem raise_linesKept (src arg : Nat) (s : State) : LinesKept s (raise src arg s) := rfl

theorem raiseOpen_linesKept (src : Nat) (s : State) : LinesKept s (raiseOpen src s) := rfl

theorem queueAppend_linesKept (q : Nat) (ws : List QWord) (s : State) : LinesKept s (queueAppend q ws s) := by
  have hput : LinesKept s (setQueue q { queue s q with words := (queue s q).words ++ ws, pushed := (queue s q).pushed + ws.length } s) := rfl
  exact hput.trans (.ite rfl (.refl _))

theorem unitPush_linesKept (q : Nat) (vals : List Nat) (s : State) : LinesKept s (unitPush q vals s).2 := by
  rw [unitPush_snd]
  exact .ite rfl (queueAppend_linesKept ..)

/-- R48: no transport of a reply touches ports or strips. -/
theorem emit_linesKept (r : Reply) (s : State) : LinesKept s (emit r s) := by
  have hput : LinesKept s { s with sys.outbox := s.sys.outbox ++ [r] } := rfl
  unfold emit
  cases r.via with
  | mailbox p => exact hput.trans (unitPush_linesKept ..)
  | udp peer slot nonce => rfl
  | ht => exact hput.trans (.ite rfl rfl)
  | shaesh => exact hput.trans (.ofSent (sendSeq_only ..))

theorem cacheReply_linesKept (n : Nat) (x : Cached) (s : State) : LinesKept s (cacheReply n x s) := by
  unfold cacheReply
  split <;> rfl

theorem startJoin_linesKept (s : State) : LinesKept s (startJoin s) :=
  .ite (.refl s) (.ite rfl (LinesKept.ofSent (sendSeq_only ..)).after)

theorem shadowDiverge_linesKept (s : State) : LinesKept s (shadowDiverge s) :=
  .ite (.ite (startJoin_linesKept _).after rfl) (.refl s)

/-- R345: nor does a divergence found by a reply. -/
theorem replyDiverge_linesKept (s : State) : LinesKept s (replyDiverge s) :=
  (((LinesKept.ofLog (logDevice_only ..)).trans (raiseOpen_linesKept ..)).trans (shadowDiverge_linesKept _)).after

theorem sendReply_linesKept (r : Reply) (s : State) : LinesKept s (sendReply r s) := .ite rfl (emit_linesKept r s)

theorem cachedReply_linesKept (quiet : Bool) (n : Nat) (x : Cached) (r : Reply) (s : State) :
    LinesKept s (if quiet then cacheReply n x s else sendReply r (cacheReply n x s)) :=
  .ite (cacheReply_linesKept ..) ((cacheReply_linesKept ..).trans (sendReply_linesKept ..))

/-- R59: nor does the end of a deferred command. -/
theorem replyDeferred_linesKept (d : Deferred) (status : Nat) (params : List Byte) (more : Bool) (s : State) :
    LinesKept s (replyDeferred d status params more s) := by
  unfold replyDeferred
  dsimp only
  split
  · rfl
  · exact .ite ((cachedReply_linesKept ..).trans (replyDiverge_linesKept _)).after (cachedReply_linesKept ..).after

theorem failDeferred_linesKept (d : Deferred) (ds : List Detail) (s : State) : LinesKept s (failDeferred d ds s) := by
  refine .trans ?_ (LinesKept.trans (.ite (.ofLog (logCommit_only ..)) (.refl _)) (replyDeferred_linesKept ..))
  split <;> rfl

/-- R104: the lanes of a port that are off from its switch line on. -/
theorem dropLanes_linesKept (p : Nat) (s : State) : LinesKept s (dropLanes p s) := by
  have hends : ∀ n u, LinesKept u (endEyeScans n u) := fun n u => forEach_rel .refl .trans _ _ (fun d v => failDeferred_linesKept d _ v) u
  exact forEach_rel .refl .trans _ _ (fun n u => .ite (.refl u) (.ite (.refl u) (hends ..).after)) s

/-- R78, R84 step 6: a stream that passes its switch line. -/
theorem passSwitch_linesKept (i : Nat) (s : State) : LinesKept s (passSwitch i s) := by
  have hlater : ∀ u, LinesKept u (applyLater i u) := by
    intro u
    unfold applyLater
    split
    · split <;> rfl
    · rfl
  unfold passSwitch
  split
  · exact .ite (.ite ((hlater _).trans (dropLanes_linesKept ..)).after (hlater _).after) (.refl s)
  · exact .refl s

/-- R402: a check of a consumer that fails. -/
theorem chkStage_linesKept (unit g : Nat) (s : State) : LinesKept s (chkStage unit g s) := by
  have hcounts : ∀ x, LinesKept s (if unit = 8 then { s with chk.prof := x } else if unit = 9 then { s with chk.segm := x } else { s with chk.former := x }) :=
    fun x => .ite rfl (.ite rfl rfl)
  unfold chkStage
  dsimp only
  split
  · exact ((hcounts _).trans (raise_linesKept ..)).trans (.ofLog (logDeviceN_only ..))
  · exact (hcounts _).trans (raise_linesKept ..)

theorem feedLine_linesKept (unit g : Nat) (ok : Bool) (i : Item) (s : State) : LinesKept s (feedLine unit g ok i s) :=
  LinesKept.trans (.ite (.refl s) (chkStage_linesKept ..)) (.ofFlows (feed_only ..))

/-! ### Delivery (R8) -/

/-- What a line `o` does as it leaves port `p`, beside the port and its strip: a switch line ends the wait for its stream (R84), FRAME_START raises an event, a Shadow
hears its stamp (R37), the first line of a run closes the units of the run before (R10), and the flows take it (R298), whose body is read with the upsets `ups`. -/
def passLine (p : Nat) (o : OutLine) (ups : List (Nat × Nat)) (s : State) : State :=
  let t := o.line.stamp
  let bytes := upsetBytes ups o.line.bytes
  let s := if t.epoch = s.sys.epoch then passSwitch p s else s
  let s := if hasFlag t.flags 13 then portEvent p 9 t.globalLine s else s
  let s := if attached s then sendSeq 0x20 (leBytes 1 p ++ leBytes 3 0 ++ leBytes 4 1 ++ stampBytes t) s else s
  let s := if o.first then closeProduct 1 p s else s
  feedLine 3 t.globalLine (crc32c bytes == t.lineCheck) (rawItem p o.line bytes) (switchFlows 1 p t.epoch s)

theorem passLine_linesKept (p : Nat) (o : OutLine) (ups : List (Nat × Nat)) (s : State) : LinesKept s (passLine p o ups s) := by
  have hswitch : LinesKept s (if o.line.stamp.epoch = s.sys.epoch then passSwitch p s else s) := .ite (passSwitch_linesKept ..) (.refl s)
  have hevent : ∀ u, LinesKept u (if hasFlag o.line.stamp.flags 13 then portEvent p 9 o.line.stamp.globalLine u else u) := fun u => .ite rfl (.refl u)
  have hstamp : ∀ b u, LinesKept u (if attached u then sendSeq 0x20 b u else u) := fun b u => .ite (.ofSent (sendSeq_only ..)) (.refl u)
  have hfirst : ∀ u, LinesKept u (if o.first then closeProduct 1 p u else u) := fun u => .ite (.ofFlows (closeProduct_only ..)) (.refl u)
  exact ((((hswitch.trans (hevent _)).trans (hstamp ..)).trans (hfirst _)).trans (.ofFlows (switchFlows_only ..))).trans (feedLine_linesKept ..)

/-- R8: a port from which a stamped line has left, with `rest` still to leave. -/
def delivers (o : OutLine) (rest : List OutLine) (x : Port) : Port :=
  { x with out := rest, delivered := true, seen := seeLine o.line.stamp x.seen, counts.delivered := x.counts.delivered + 1 }

/-- R8: a strip that a line has reached. -/
def reaches (o : OutLine) (st : Strip) : Strip := { st with inq := st.inq ++ [{ line := o.line, report := o.report, first := o.first }] }

/-- R8: with its own stamp a line passes, reaches its strip, and the last of a stopped port closes the units of its flows. -/
theorem exec_portLineDelivered_own {p : Fin 16} {o : OutLine} {rest : List OutLine} {s : State} (hout : (port s p.val).out = o :: rest) (hown : adopts s = false)
    (hheld : dataPathHeld s = false) (ups : List (Nat × Nat)) : ∃ u, u = passLine p.val o ups (setPort p.val (delivers o rest (port s p.val)) s) ∧
      exec (.portLineDelivered ⟨p, ups⟩) s = .next (if rest.isEmpty && !(port s p.val).run then closeProduct 1 p.val (setStrip p.val (reaches o (strip u p.val)) u)
        else setStrip p.val (reaches o (strip u p.val)) u) := by
  have hleaves : ¬ (waitsStamp s p.val o.line.stamp.globalLine || dataPathHeld s) = true := by simp [waitsStamp, hown, hheld]
  refine ⟨_, rfl, ?_⟩
  change execPortLineDelivered ⟨p, ups⟩ s = _
  unfold execPortLineDelivered
  simp only [hout, if_neg hleaves, hown, Bool.false_eq_true, if_false, Option.isSome_none]
  rfl

/-- Settles O18: each row by its lemmas above. -/
theorem portLines : Obligations.PortLines := by
  unfold Obligations.PortLines
  refine ⟨?trigger, ?freeRun, ?timeout, ?assembled, ?delivered, ?held⟩
  case trigger =>
    intro p l rest s hcinch hincoming hdue htriggered hline hnone hstays
    have hbecomes := seeTrigger_becomes hcinch hincoming hdue htriggered hline hnone hstays
    exact ⟨_, congrArg Host.Outcome.next (withFire_noCinch hcinch _), hbecomes.rest, hbecomes.port⟩
  case freeRun => exact fun p s hdue hfree hline => exec_freeRunDue_line hdue hfree hline
  case timeout =>
    intro p u s hcinch hactive hdue hline hstays hone hbegun hrepl
    obtain ⟨debt, gone, y, q, hbecomes, hempty, o, hleaves⟩ := timeOutLine_single hcinch hactive hdue hline hstays hone hbegun hrepl
    refine ⟨_, o, congrArg Host.Outcome.next (withFire_noCinch hcinch _), ?_⟩
    rw [hbecomes.port]
    exact ⟨hempty, hleaves.out, hleaves.loss rfl, hleaves.number, hleaves.timeNs, hleaves.next, hleaves.lossTimeout⟩
  case assembled =>
    intro p g gs u s hcinch hactive hrun hline hstays hready hfate hone hnum hrepl
    obtain ⟨y, q, hbecomes, hempty, o, hleaves⟩ := assemble_single hcinch hactive hrun hline hstays hready hfate hone hnum hrepl
    refine ⟨_, o, congrArg Host.Outcome.next (withFire_noCinch hcinch _), ?_⟩
    rw [hbecomes.port]
    exact ⟨hleaves.ready, hempty, hleaves.out, hleaves.number, hleaves.timeS, hleaves.timeNs, hleaves.next, hleaves.received⟩
  case delivered =>
    intro p o rest s hout hown hheld ups
    obtain ⟨u, hu, hexec⟩ := exec_portLineDelivered_own hout hown hheld ups
    have hpassed : LinesKept (setPort p.val (delivers o rest (port s p.val)) s) u := hu ▸ passLine_linesKept ..
    have hend := LinesKept.ite (c := (rest.isEmpty && !(port s p.val).run) = true)
      (.ofFlows (closeProduct_only 1 p.val (setStrip p.val (reaches o (strip u p.val)) u))) (.refl (setStrip p.val (reaches o (strip u p.val)) u))
    have hport := (hend.ports p.val).trans ((hpassed.ports p.val).trans (port_setPort_self ..))
    have hstrip := (hend.strips p.val).trans (strip_setStrip_self ..)
    refine ⟨_, hexec, ?_⟩
    rw [hport, hstrip, hpassed.strips]
    exact ⟨rfl, rfl, rfl⟩
  case held =>
    intro p o s hhold hnone
    obtain ⟨r, hreleased⟩ := releaseHold_held hhold
    have hleft := lostFrames_none (p := p.val) (s := releaseHold p.val false s) (by rw [hreleased, port_setPort_self]; exact hnone) 64
    refine ⟨_, r, congrArg Host.Outcome.next (hleft.trans hreleased), ?_⟩
    rw [port_setPort_self]
    exact ⟨rfl, rfl⟩

end Sys2Proof.Machine
end

section
/-! PROOFS. Axes: counts and their hysteresis, illegal transitions, SSI words, the observer and VALID (R143 to R150), and the capture of the read-out (R158). -/
namespace Sys2Proof.Machine
open Sys2Proof

/-! ### A value written twice -/

theorem Map.insert_insert {α : Type} (n : Nat) (v w : α) : ∀ m : Map α, Map.insert (Map.insert m n w) n v = Map.insert m n v
  | [] => by simp [Map.insert]
  | (k, u) :: m => by
    have ih := Map.insert_insert n v w m
    by_cases hlt : n < k
    · simp [Map.insert, hlt]
    · by_cases heq : n = k
      · simp [Map.insert, heq]
      · simp [Map.insert, hlt, heq, ih]

theorem Map.erase_insert {α : Type} (n : Nat) (w : α) : ∀ m : Map α, Map.erase (Map.insert m n w) n = Map.erase m n
  | [] => by simp [Map.insert, Map.erase]
  | (k, u) :: m => by
    have ih := Map.erase_insert n w m
    by_cases hlt : n < k
    · simp [Map.insert, Map.erase, hlt]
    · by_cases heq : n = k
      · simp [Map.insert, Map.erase, heq]
      · simpa [Map.insert, Map.erase, hlt, heq, Ne.symm heq] using ih

/-- A value is replaced without a trace, but for one written over the reset value, whose place in an unordered table would be lost. -/
theorem Map.set_set {α : Type} [DecidableEq α] {d w : α} (hw : w ≠ d) (v : α) (m : Map α) (n : Nat) : Map.set d (Map.set d m n w) n v = Map.set d m n v := by
  have hinner : Map.set d m n w = Map.insert m n w := if_neg hw
  rw [hinner]
  by_cases hv : v = d
  · simp only [Map.set, if_pos hv, Map.erase_insert]
  · simp only [Map.set, if_neg hv, Map.insert_insert]

theorem setAxis_setAxis {y : Axis} (hrun : y.run = true) (a : Nat) (x : Axis) (s : State) : setAxis a x (setAxis a y s) = setAxis a x s := by
  have hne : y ≠ {} := by rintro rfl; cases hrun
  unfold setAxis
  rw [Map.set_set hne]

@[simp] theorem monoNs_setAxis (a : Nat) (x : Axis) (s : State) : monoNs (setAxis a x s) = monoNs s := rfl

@[simp] theorem prmB_setAxis (a : Nat) (x : Axis) (s : State) (id : Nat) : prmB (setAxis a x s) id = prmB s id := rfl

/-! ### What an axis feeds (R81, R129, R151, R155) -/

/-- Nothing differs but what the steps of an axis reach: the armed Cinch, generators, ports, compare units, silent firings and events. -/
def FeedsOnly (s t : State) : Prop :=
  t = { s with sys.cinch := t.sys.cinch, motn.ltgs := t.motn.ltgs, motn.pcs := t.motn.pcs, ports := t.ports, twin.silent := t.twin.silent, evnt := t.evnt }

namespace FeedsOnly

theorem refl (s : State) : FeedsOnly s s := rfl

theorem trans {a b c : State} (h : FeedsOnly a b) (k : FeedsOnly b c) : FeedsOnly a c := by
  unfold FeedsOnly at h k ⊢
  rw [k, h]

theorem ite {s t u : State} {c : Prop} [Decidable c] (ht : FeedsOnly s t) (hu : FeedsOnly s u) : FeedsOnly s (if c then t else u) := by
  split
  · exact ht
  · exact hu

end FeedsOnly

theorem raise_feedsOnly (src arg : Nat) (s : State) : FeedsOnly s (raise src arg s) := rfl

theorem raiseIf_feedsOnly (c : Bool) (src arg : Nat) (s : State) : FeedsOnly s (raiseIf c src arg s) := .ite (raise_feedsOnly ..) (.refl s)

theorem setLtg_feedsOnly (k : Nat) (x : Ltg) (s : State) : FeedsOnly s (setLtg k x s) := rfl

theorem setPc_feedsOnly (n : Nat) (x : Pc) (s : State) : FeedsOnly s (setPc n x s) := rfl

theorem issueTrigger_feedsOnly (k : Nat) (l : Latch) (s : State) : FeedsOnly s (issueTrigger k l s) := rfl

theorem takeTrigger_feedsOnly (k : Nat) (l : Latch) (s : State) : FeedsOnly s (takeTrigger k l s) :=
  .ite (issueTrigger_feedsOnly ..) (.ite (setLtg_feedsOnly ..) rfl)

theorem ltgStep_feedsOnly (k : Nat) (up : Bool) (s : State) : FeedsOnly s (ltgStep k up s) :=
  .ite (.refl s) (.ite ((setLtg_feedsOnly ..).trans (takeTrigger_feedsOnly ..)) (.ite ((setLtg_feedsOnly ..).trans (takeTrigger_feedsOnly ..)) (setLtg_feedsOnly ..)))

theorem axisSteps_feedsOnly (a : Nat) (up : Bool) (n : Nat) (s : State) : FeedsOnly s (axisSteps a up n s) := by
  induction n generalizing s with
  | zero => exact .refl s
  | succ n ih => exact (forEach_rel FeedsOnly.refl .trans _ _ (fun k u => .ite (ltgStep_feedsOnly k up u) (.refl u)) s).trans (ih _)

theorem firePc_feedsOnly (n : Nat) (es : List (PcEntry × Bool × Bool)) (s : State) : FeedsOnly s (firePc n es s) := by
  cases es with
  | nil => exact .refl s
  | cons e es =>
    have hsilent : FeedsOnly s (if holdsClaim s then s else { s with twin.silent := s.twin.silent + (e :: es).length }) := .ite (.refl s) rfl
    exact (hsilent.trans (setPc_feedsOnly ..)).trans (raise_feedsOnly ..)

theorem passPc_feedsOnly (a : Nat) (old new : Int) (n : Nat) (s : State) : FeedsOnly s (passPc a old new n s) :=
  .ite (.refl s) ((setPc_feedsOnly ..).trans (firePc_feedsOnly ..))

/-- R155: an axis that moves reaches every compare unit. -/
theorem passPcs_feedsOnly (a : Nat) (old new : Int) (s : State) : FeedsOnly s (forEach (List.range 8) (passPc a old new) s) :=
  forEach_rel .refl .trans _ _ (passPc_feedsOnly a old new) s

theorem noteCinchPos_feedsOnly (a : Nat) (old new : Int) (s : State) : FeedsOnly s (noteCinchPos a old new s) := by
  unfold noteCinchPos
  split
  · exact .ite rfl (.refl s)
  · exact .refl s

/-! ### What an axis becomes -/

/-- From `s` to `t` axis `a` has become `x`; the other axes, memory and the applied dictionary are as they were. -/
structure AxisBecomes (a : Nat) (x : Axis) (s t : State) : Prop where
  self    : axis t a = x
  others  : ∀ j, j ≠ a → axis t j = axis s j
  mem     : t.mem = s.mem
  applied : t.sys.applied = s.sys.applied

namespace AxisBecomes

variable {a : Nat} {x : Axis} {s t : State}

theorem refl (a : Nat) (s : State) : AxisBecomes a (axis s a) s s := ⟨rfl, fun _ _ => rfl, rfl, rfl⟩

theorem set (h : AxisBecomes a x s t) (y : Axis) : AxisBecomes a y s (setAxis a y t) where
  self := axis_setAxis_self ..
  others j hj := by rw [axis_setAxis, if_neg hj, h.others j hj]
  mem := h.mem
  applied := h.applied

theorem feeds {u : State} (h : AxisBecomes a x s t) (k : FeedsOnly t u) : AxisBecomes a x s u := by
  have haxes : ∀ j, axis u j = axis t j := fun j => (congrArg (axis · j) k).trans rfl
  exact ⟨(haxes a).trans h.self, fun j hj => (haxes j).trans (h.others j hj), (congrArg State.mem k).trans h.mem, (congrArg (·.sys.applied) k).trans h.applied⟩

theorem prmB (h : AxisBecomes a x s t) (id : Nat) : Machine.prmB t id = Machine.prmB s id := by
  rw [Machine.prmB, prm, h.applied, Machine.prmB, prm]

end AxisBecomes

/-! ### A count on its way to P (R145, R147, R149, R150) -/

/-- R145, R147, R149, R150: an axis to whose P a count of size `c` has been applied at a time. -/
def appliedCount (now : Nat) (c : Int) (x : Axis) : Axis :=
  let sign : Int := if 0 < c then 1 else -1
  let p := max posMin (min posMax (x.p + c))
  { x with
    p := p, d := sign, illegal := false, still := false, flags := setFlagIf (decide (p ≠ x.p + c)) x.flags 3, valid := x.valid && !x.still
    clearNs := if x.still then now else x.clearNs, same := if x.still || x.sign != sign then 1 else min 4 (x.same + 1), sign := sign, ssiBig := x.ssiBig && !x.still }

theorem AxisBecomes.count {a : Nat} {x : Axis} {s t : State} (h : AxisBecomes a x s t) (c : Int) :
    AxisBecomes a (appliedCount (monoNs t) c x) s (applyCount a c t) := by
  rw [← h.self]
  have hset := h.set (appliedCount (monoNs t) c (axis t a))
  exact ((((hset.feeds (raiseIf_feedsOnly ..)).feeds (raiseIf_feedsOnly ..)).feeds (noteCinchPos_feedsOnly ..)).feeds (axisSteps_feedsOnly ..)).feeds (passPcs_feedsOnly ..)

/-- R145: what the hysteresis leaves of a count. -/
def countTaken (hy : Bool) (c : Int) (x : Axis) : Int :=
  if hy = false then c else if x.pend = false then (if c = x.d then c else 0) else (if c = x.d then 0 else 2 * c)

theorem countTaken_sizes (hy : Bool) (c : Int) (x : Axis) : countTaken hy c x = 0 ∨ countTaken hy c x = c ∨ countTaken hy c x = 2 * c := by
  unfold countTaken
  split_ifs <;> simp

/-- R145: whether a count stands absorbed after another one. -/
def pendAfter (hy : Bool) (c : Int) (x : Axis) : Bool := if hy = true then !x.pend && decide (c ≠ x.d) else x.pend

/-- R145: an axis after a count at a time, by what the hysteresis leaves of it. -/
def filteredCount (hy : Bool) (now : Nat) (c : Int) (x : Axis) : Axis :=
  let y := { x with pend := pendAfter hy c x }
  if countTaken hy c x = 0 then { y with nAbsorbed := x.nAbsorbed + b2n y.pend } else appliedCount now (countTaken hy c x) y

theorem AxisBecomes.filtered {a : Nat} {x : Axis} {s t : State} (h : AxisBecomes a x s t) {c : Int} (hc : c ≠ 0) :
    AxisBecomes a (filteredCount (Machine.prmB s (P.MOTN_AX_HYSTERESIS a)) (monoNs t) c x) s (countAxis a c t) := by
  have hpend : ∀ b, x.pend = b → { x with pend := b } = x := fun b hb => hb ▸ rfl
  unfold countAxis
  rw [h.self, h.prmB]
  cases Machine.prmB s (P.MOTN_AX_HYSTERESIS a) with
  | false => simpa [filteredCount, countTaken, pendAfter, hc] using h.count c
  | true =>
    by_cases hd : c = x.d <;> cases hx : x.pend
    · simpa [filteredCount, countTaken, pendAfter, hc, hd ▸ hc, hd, hx, hpend _ hx] using h.count c
    · simpa [filteredCount, countTaken, pendAfter, hd, hx, b2n] using h.set { x with pend := false }
    · simpa [filteredCount, countTaken, pendAfter, hd, hx, b2n] using h.set { x with pend := true, nAbsorbed := x.nAbsorbed + 1 }
    · simpa [filteredCount, countTaken, pendAfter, hc, hd, hx] using (h.set { x with pend := false }).count (2 * c)

section
variable {hy : Bool} {now : Nat} {c : Int} {x : Axis}

theorem filteredCount_p (hlo : posMin ≤ x.p + countTaken hy c x) (hhi : x.p + countTaken hy c x ≤ posMax) : (filteredCount hy now c x).p = x.p + countTaken hy c x := by
  unfold filteredCount
  dsimp only
  split
  · next h0 => simp [h0]
  · simp [appliedCount, hlo, hhi]

theorem filteredCount_d (hc : c = 1 ∨ c = -1) : (filteredCount hy now c x).d = if countTaken hy c x = 0 then x.d else c := by
  have hsizes := countTaken_sizes hy c x
  unfold filteredCount
  dsimp only
  split
  · rfl
  · have hsign : (if 0 < countTaken hy c x then (1 : Int) else -1) = c := by split <;> omega
    exact hsign

theorem filteredCount_pend : (filteredCount hy now c x).pend = pendAfter hy c x := by
  unfold filteredCount
  dsimp only
  split <;> rfl

/-- A count changes neither the reference levels nor the last SSI word. -/
theorem filteredCount_inputs : (filteredCount hy now c x).a = x.a ∧ (filteredCount hy now c x).b = x.b ∧ (filteredCount hy now c x).ssiPrev = x.ssiPrev := by
  unfold filteredCount
  dsimp only
  split <;> exact ⟨rfl, rfl, rfl⟩

/-- R144, R149: an applied count ends a standstill and the mark of an illegal transition. -/
theorem filteredCount_moves (h : countTaken hy c x ≠ 0) : (filteredCount hy now c x).still = false ∧ (filteredCount hy now c x).illegal = false := by
  unfold filteredCount
  dsimp only
  rw [if_neg h]
  exact ⟨rfl, rfl⟩

end

/-! ### Quadrature (R143, R144, R147) -/

/-- R143: the count of a single changed level. -/
def edgeCount (x : Axis) (na nb invert : Bool) : Int := if (if (na != x.a) = true then na != nb else nb == na) = invert then -1 else 1

theorem edgeCount_unit (x : Axis) (na nb invert : Bool) : edgeCount x na nb invert = 1 ∨ edgeCount x na nb invert = -1 :=
  (ite_eq_or_eq ..).symm

/-- R143: one changed level on a running quadrature axis is a count that reaches the hysteresis, the levels being followed. -/
theorem decodeEdge_count {a : Nat} {na nb : Bool} {s : State} (hrun : (axis s a).run = true) (hquad : prm s (P.MOTN_AX_INPUT a) = 0)
    (hone : (na != (axis s a).a) ≠ (nb != (axis s a).b)) :
    decodeEdge a na nb s = countAxis a (edgeCount (axis s a) na nb (prmB s (P.MOTN_AX_INVERT a))) (setAxis a { axis s a with a := na, b := nb } s) := by
  have hboth : ¬ (((na != (axis s a).a) && (nb != (axis s a).b)) = true) := by
    intro h; simp only [Bool.and_eq_true] at h; exact hone (h.1.trans h.2.symm)
  have hnone : ¬ ((!(na != (axis s a).a) && !(nb != (axis s a).b)) = true) := by
    intro h; simp only [Bool.and_eq_true, Bool.not_eq_true'] at h; exact hone (h.1.trans h.2.symm)
  unfold decodeEdge
  simp only [hrun, hquad, if_neg hboth, if_neg hnone, prmB_setAxis, Bool.not_true, bne_self_eq_false, Bool.or_false, Bool.false_eq_true, if_false]
  congr 1
  unfold edgeCount
  simp only [bne_iff_ne, ne_eq, ite_not]

/-- R143: on any other axis the levels are only followed. -/
theorem decodeEdge_follows {a : Nat} {s : State} (h : (axis s a).run = false ∨ prm s (P.MOTN_AX_INPUT a) ≠ 0) (na nb : Bool) :
    decodeEdge a na nb s = setAxis a { axis s a with a := na, b := nb } s := by
  refine if_pos ?_
  rcases h with h | h <;> simp [h]

/-- R144, R150: an axis after an illegal transition at a time. -/
def afterIllegal (now : Nat) (x : Axis) : Axis :=
  { x with flags := setFlag x.flags 0, nIllegal := x.nIllegal + 1, illegal := true, illegals := x.illegals + 1, valid := false, clearNs := now, same := 0, ssiBig := false }

theorem illegalAxis_setAxis {y : Axis} (hrun : y.run = true) (a : Nat) (s : State) :
    illegalAxis a (setAxis a y s) = raise (192 + 4 * a) (argOf y.p) (setAxis a (afterIllegal (monoNs s) y) s) := by
  unfold illegalAxis
  simp only [axis_setAxis_self, setAxis_setAxis hrun]
  rfl

/-- R144: a change of both levels of a running quadrature axis is illegal. -/
theorem decodeEdge_illegal {a : Nat} {s : State} (hrun : (axis s a).run = true) (hquad : prm s (P.MOTN_AX_INPUT a) = 0) :
    decodeEdge a (!(axis s a).a) (!(axis s a).b) s = raise (192 + 4 * a) (argOf (axis s a).p)
      (setAxis a (afterIllegal (monoNs s) { axis s a with a := !(axis s a).a, b := !(axis s a).b }) s) := by
  unfold decodeEdge
  simp only [hrun, hquad, Bool.not_true, bne_self_eq_false, Bool.or_false, Bool.false_eq_true, if_false, Bool.not_bne_self, Bool.and_self, if_true]
  exact illegalAxis_setAxis rfl ..

theorem exec_encIndex {ax : Fin 8} {s : State} (hrun : (axis s ax.val).run = true) (hquad : prm s (P.MOTN_AX_INPUT ax.val) = 0) : exec (.encIndex ax) s =
    .next (raise (193 + 4 * ax.val) (argOf (axis s ax.val).p) (setAxis ax.val { axis s ax.val with index := (axis s ax.val).p, flags := setFlag (axis s ax.val).flags 2 } s)) := by
  have hruns : ¬ ((!(axis s ax.val).run || prm s (P.MOTN_AX_INPUT ax.val) != 0) = true) := by simp [hrun, hquad]
  have hsrc : 192 + 4 * ax.val + 1 = 193 + 4 * ax.val := by omega
  exact (if_neg hruns).trans (by rw [hsrc])

/-! ### SSI words (R146) -/

/-- R146: the position code of a word as read. -/
def ssiWord (s : State) (a raw : Nat) : Nat :=
  if prmB s (P.MOTN_AX_SSI_CODE a) = true then grayToBin (prmN s (P.MOTN_AX_SSI_BITS a)) (raw % 2 ^ prmN s (P.MOTN_AX_SSI_BITS a)) else raw % 2 ^ prmN s (P.MOTN_AX_SSI_BITS a)

section
variable {ax : Fin 8} {s : State} (hrun : (axis s ax.val).run = true) (hssi : prm s (P.MOTN_AX_INPUT ax.val) = 1)
include hrun hssi

/-- R144, R146: a read that fails the line checks is discarded and illegal. -/
theorem exec_ssiRead_bad : exec (.ssiRead ax none) s = .next (raise (192 + 4 * ax.val) (argOf (axis s ax.val).p)
    (setAxis ax.val (afterIllegal (monoNs s) { axis s ax.val with flags := setFlag (axis s ax.val).flags 1, nSsiErr := (axis s ax.val).nSsiErr + 1 }) s)) := by
  have hruns : ¬ ((!(axis s ax.val).run || prm s (P.MOTN_AX_INPUT ax.val) != 1) = true) := by simp [hrun, hssi]
  change execSsiRead ax none s = _
  unfold execSsiRead
  simp only [if_neg hruns]
  exact congrArg Host.Outcome.next (illegalAxis_setAxis (y := { axis s ax.val with flags := setFlag (axis s ax.val).flags 1, nSsiErr := (axis s ax.val).nSsiErr + 1 }) hrun ..)

/-- R146: the first word after the start gives P. -/
theorem exec_ssiRead_first {raw : Nat} (hfirst : (axis s ax.val).ssiPrev = none) : ∃ t, exec (.ssiRead ax (some raw)) s = .next t ∧ AxisBecomes ax.val
    { axis s ax.val with ssiPrev := some (ssiWord s ax.val raw), p := max posMin (min posMax (ssiWord s ax.val raw + prm s (P.MOTN_AX_PRESET ax.val))) } s t := by
  have hruns : ¬ ((!(axis s ax.val).run || prm s (P.MOTN_AX_INPUT ax.val) != 1) = true) := by simp [hrun, hssi]
  change ∃ t, execSsiRead ax (some raw) s = .next t ∧ _
  unfold execSsiRead
  simp only [if_neg hruns, hfirst]
  exact ⟨_, rfl, (((AxisBecomes.refl ax.val s).set _).feeds (noteCinchPos_feedsOnly ..)).feeds (passPcs_feedsOnly ..)⟩

/-- R146: a later word whose difference from the last is not above SSI_MAX_DELTA is as many counts of its sign. -/
theorem exec_ssiRead_later {raw prev : Nat} {d : Int} (hlater : (axis s ax.val).ssiPrev = some prev)
    (hd : d = ofCode (prmN s (P.MOTN_AX_SSI_BITS ax.val)) (ssiWord s ax.val raw + 2 ^ prmN s (P.MOTN_AX_SSI_BITS ax.val) - prev))
    (hmax : d.natAbs ≤ prmN s (P.MOTN_AX_SSI_MAX_DELTA ax.val)) :
    ∃ t u, exec (.ssiRead ax (some raw)) s = .next t ∧
      u = countMany ax.val (if 0 < d then 1 else -1) d.natAbs (setAxis ax.val { axis s ax.val with ssiPrev := some (ssiWord s ax.val raw) } s) ∧
      t = if 4 ≤ d.natAbs then setAxis ax.val { axis u ax.val with ssiBig := true } u else u := by
  have hruns : ¬ ((!(axis s ax.val).run || prm s (P.MOTN_AX_INPUT ax.val) != 1) = true) := by simp [hrun, hssi]
  have hfits : ¬ ((prmN s (P.MOTN_AX_SSI_MAX_DELTA ax.val) : Int) < d.natAbs) := by omega
  refine ⟨_, _, ?_, rfl, rfl⟩
  change execSsiRead ax (some raw) s = _
  subst hd
  unfold execSsiRead
  simp only [if_neg hruns, hlater]
  exact if_neg hfits

end

/-- R146: counts of one sign with the hysteresis off move P by as many, where neither end of the range lies between. -/
theorem AxisBecomes.countMany {a : Nat} {s : State} {c : Int} (hhy : Machine.prmB s (P.MOTN_AX_HYSTERESIS a) = false) (hc : c = 1 ∨ c = -1) (n : Nat) {x : Axis} {t : State}
    (h : AxisBecomes a x s t) (hlo : posMin ≤ x.p) (hhi : x.p ≤ posMax) (hlo' : posMin ≤ x.p + n * c) (hhi' : x.p + n * c ≤ posMax) :
    ∃ y, AxisBecomes a y s (Machine.countMany a c n t) ∧ y.p = x.p + n * c ∧ y.ssiPrev = x.ssiPrev := by
  induction n generalizing x t with
  | zero => exact ⟨x, h, by simp, rfl⟩
  | succ n ih =>
    have hnext := h.filtered (c := c) (by omega)
    rw [hhy] at hnext
    have hbetween : posMin ≤ x.p + c ∧ x.p + c ≤ posMax := by
      rcases hc with rfl | rfl <;> constructor <;> push_cast at hlo' hhi' <;> omega
    have hp : (filteredCount false (monoNs t) c x).p = x.p + c := filteredCount_p (hy := false) hbetween.1 hbetween.2
    have hsum : x.p + c + n * c = x.p + (n + 1 : Nat) * c := by push_cast; ring
    obtain ⟨y, hy, hyp, hprev⟩ := ih hnext (hp ▸ hbetween.1) (hp ▸ hbetween.2) (by rwa [hp, hsum]) (by rwa [hp, hsum])
    exact ⟨y, hy, by rw [hyp, hp, hsum], hprev.trans filteredCount_inputs.2.2⟩

/-- R146: a later word moves P by the signed difference where the hysteresis is off. -/
theorem exec_ssiRead_moves {ax : Fin 8} {raw prev : Nat} {d : Int} {s : State} (hrun : (axis s ax.val).run = true) (hssi : prm s (P.MOTN_AX_INPUT ax.val) = 1)
    (hlater : (axis s ax.val).ssiPrev = some prev)
    (hd : d = ofCode (prmN s (P.MOTN_AX_SSI_BITS ax.val)) (ssiWord s ax.val raw + 2 ^ prmN s (P.MOTN_AX_SSI_BITS ax.val) - prev))
    (hmax : d.natAbs ≤ prmN s (P.MOTN_AX_SSI_MAX_DELTA ax.val)) (hhy : prmB s (P.MOTN_AX_HYSTERESIS ax.val) = false)
    (hlo : posMin ≤ (axis s ax.val).p) (hhi : (axis s ax.val).p ≤ posMax) (hlo' : posMin ≤ (axis s ax.val).p + d) (hhi' : (axis s ax.val).p + d ≤ posMax) :
    ∃ t y, exec (.ssiRead ax (some raw)) s = .next t ∧ AxisBecomes ax.val y s t ∧ y.p = (axis s ax.val).p + d ∧ y.ssiPrev = some (ssiWord s ax.val raw) := by
  obtain ⟨t, u, hexec, hu, ht⟩ := exec_ssiRead_later hrun hssi hlater hd hmax
  have hsign : (d.natAbs : Int) * (if 0 < d then 1 else -1) = d := by split <;> omega
  obtain ⟨y, hy, hp, hprev⟩ := AxisBecomes.countMany hhy (c := if 0 < d then 1 else -1) (by split <;> simp) d.natAbs
    ((AxisBecomes.refl ax.val s).set { axis s ax.val with ssiPrev := some (ssiWord s ax.val raw) }) hlo hhi (by rwa [hsign]) (by rwa [hsign])
  rw [← hu] at hy
  rw [hsign] at hp
  by_cases hbig : 4 ≤ d.natAbs
  · exact ⟨t, { y with ssiBig := true }, hexec, by rw [ht, if_pos hbig, hy.self]; exact hy.set _, hp, hprev⟩
  · exact ⟨t, y, hexec, by rwa [ht, if_neg hbig], hp, hprev⟩

/-! ### Standstill and VALID (R149, R150) -/

theorem exec_encStill {ax : Fin 8} {s : State} (hrun : (axis s ax.val).run = true) (hmoves : (axis s ax.val).still = false) : exec (.encStill ax) s =
    .next (raise (194 + 4 * ax.val) (argOf (axis s ax.val).p)
      (setAxis ax.val { axis s ax.val with still := true, xh := (axis s ax.val).p * 2 ^ 32, vt := 0, ah := 0, v := 0, nStill := (axis s ax.val).nStill + 1 } s)) := by
  have hruns : ¬ ((!(axis s ax.val).run || (axis s ax.val).still) = true) := by simp [hrun, hmoves]
  have hsrc : 192 + 4 * ax.val + 2 = 194 + 4 * ax.val := by omega
  exact (if_neg hruns).trans (by rw [hsrc])

/-- Settles O41: each command by its lemmas above. -/
theorem encoderCommands : Obligations.EncoderCommands := by
  unfold Obligations.EncoderCommands
  refine ⟨?edge, ?follows, ?illegal, ?index, ?first, ?later, ?bad, ?observer, ?still, ?valid, ?capture⟩
  case edge =>
    rintro ax na nb _ _ _ _ s rfl hrun hquad rfl hone rfl rfl hlo hhi
    have hunit := edgeCount_unit (axis s ax.val) na nb (prmB s (P.MOTN_AX_INVERT ax.val))
    have hcounted := ((AxisBecomes.refl ax.val s).set { axis s ax.val with a := na, b := nb }).filtered
      (c := edgeCount (axis s ax.val) na nb (prmB s (P.MOTN_AX_INVERT ax.val))) (by omega)
    rw [← decodeEdge_count hrun hquad hone] at hcounted
    obtain ⟨ha, hb, -⟩ := filteredCount_inputs (hy := prmB s (P.MOTN_AX_HYSTERESIS ax.val)) (now := monoNs s)
      (c := edgeCount (axis s ax.val) na nb (prmB s (P.MOTN_AX_INVERT ax.val))) (x := { axis s ax.val with a := na, b := nb })
    refine ⟨_, rfl, ?_⟩
    rw [hcounted.self]
    exact ⟨filteredCount_p hlo hhi, filteredCount_d hunit, ha, hb, filteredCount_pend, fun he => filteredCount_moves he, hcounted.others, hcounted.mem, hcounted.applied⟩
  case follows => exact fun ax na nb s h => congrArg Host.Outcome.next (decodeEdge_follows h na nb)
  case illegal =>
    rintro ax _ s rfl hrun hquad
    exact congrArg Host.Outcome.next (decodeEdge_illegal hrun hquad)
  case index =>
    rintro ax _ s rfl hrun hquad
    exact exec_encIndex hrun hquad
  case first =>
    rintro ax raw _ _ s rfl hrun hssi hfirst rfl
    obtain ⟨t, hexec, hbecomes⟩ := exec_ssiRead_first hrun hssi (raw := raw) hfirst
    exact ⟨t, hexec, hbecomes.self, hbecomes.others, hbecomes.mem⟩
  case later =>
    rintro ax raw _ prev d _ s rfl hrun hssi hlater rfl hd hmax hhy hlo hhi hlo' hhi'
    obtain ⟨t, y, hexec, hbecomes, hp, hprev⟩ := exec_ssiRead_moves hrun hssi hlater hd hmax hhy hlo hhi hlo' hhi'
    exact ⟨t, hexec, by rw [hbecomes.self, hp], by rw [hbecomes.self, hprev]; rfl, hbecomes.others⟩
  case bad =>
    rintro ax _ s rfl hrun hssi
    exact exec_ssiRead_bad hrun hssi
  case observer =>
    rintro ax _ y ⟨g1, g2, g3⟩ _ _ s rfl hrun hmoves hg rfl rfl hxh hvt hv hah hdir
    have hruns : ¬ ((!(axis s ax.val).run || (axis s ax.val).still) = true) := by simp [hrun, hmoves]
    change execObserverUpdate ax s = _
    unfold execObserverUpdate
    simp only [if_neg hruns, ← hg]
    rw [hdir, hah, hv, hvt, hxh]
  case still =>
    rintro ax _ s rfl hrun hmoves
    exact exec_encStill hrun hmoves
  case valid =>
    rintro ax _ s rfl hrun hcounts hsettled
    exact congrArg Host.Outcome.next (if_pos ⟨hrun, hcounts, hsettled⟩)
  case capture =>
    rintro a ax _ s h rfl
    exact congrArg Host.Outcome.next (windowRead_permitted h ..)

end Sys2Proof.Machine
end

section
/-! PROOFS. Line-trigger generators (R151 to R153) and the windows and pulses of the compare units (R154 to R158). -/
namespace Sys2Proof.Machine
open Sys2Proof

/-! ### The trigger of a generator (R151 to R153) -/

theorem setLtg_setLtg {y : Ltg} (hrun : y.run = true) (k : Nat) (x : Ltg) (s : State) : setLtg k x (setLtg k y s) = setLtg k x s := by
  have hne : y ≠ {} := by rintro rfl; cases hrun
  unfold setLtg
  rw [Map.set_set hne]

/-- R153: an issued trigger changes its generator, its port and the events in flight. -/
theorem issueTrigger_eq (k : Nat) (l : Latch) (s : State) : issueTrigger k l s = raise (224 + 2 * k) (argOf l.pos)
    (setPort k { port s k with incoming := (port s k).incoming ++ [(l, false)] } (setLtg k { ltg s k with issued := (ltg s k).issued + 1, lastNs := some (monoNs s) } s)) := rfl

theorem ltg_issueTrigger (k : Nat) (l : Latch) (s : State) :
    ltg (issueTrigger k l s) k = { ltg s k with issued := (ltg s k).issued + 1, lastNs := some (monoNs s) } := by
  rw [issueTrigger_eq]
  exact ltg_setLtg_self ..

theorem port_issueTrigger (k : Nat) (l : Latch) (s : State) :
    port (issueTrigger k l s) k = { port s k with incoming := (port s k).incoming ++ [(l, false)] } := by
  rw [issueTrigger_eq]
  exact port_setPort_self ..

theorem issueTrigger_others {j k : Nat} (hj : j ≠ k) (l : Latch) (s : State) : ltg (issueTrigger k l s) j = ltg s j ∧ port (issueTrigger k l s) j = port s j := by
  rw [issueTrigger_eq]
  exact ⟨(ltg_setLtg k j _ s).trans (if_neg hj), (port_setPort k j _ s).trans (if_neg hj)⟩

theorem issueTrigger_only (k : Nat) (l : Latch) (s : State) : issueTrigger k l s = { s with
    motn.ltgs := (issueTrigger k l s).motn.ltgs, ports := (issueTrigger k l s).ports, evnt.inflight := s.evnt.inflight ++ [⟨224 + 2 * k, argOf l.pos, none⟩] } := rfl

/-- R153: the first trigger of a generator is issued at once. -/
theorem takeTrigger_first {k : Nat} {s : State} (h : (ltg s k).lastNs = none) (l : Latch) : takeTrigger k l s = issueTrigger k l s := by
  simp [takeTrigger, h]

section
variable {k : Nat} {s : State} (hrun : (ltg s k).run = true)
include hrun

/-- R151: a step that leaves the accumulator below DIV_N gives no trigger. -/
theorem ltgStep_below (h : (ltg s k).acc + prm s (P.MOTN_LTG_DIV_M (16 + k)) < prm s (P.MOTN_LTG_DIV_N (16 + k))) :
    ltgStep k true s = setLtg k { ltg s k with acc := (ltg s k).acc + prm s (P.MOTN_LTG_DIV_M (16 + k)) } s := by
  simp [ltgStep, hrun, Int.not_le.mpr h]

/-- R151: a step that brings the accumulator to DIV_N takes DIV_N from it and gives a trigger. -/
theorem ltgStep_wraps (h : prm s (P.MOTN_LTG_DIV_N (16 + k)) ≤ (ltg s k).acc + prm s (P.MOTN_LTG_DIV_M (16 + k))) : ltgStep k true s = takeTrigger k (ltgLatch s k)
    (setLtg k { ltg s k with acc := (ltg s k).acc + prm s (P.MOTN_LTG_DIV_M (16 + k)) - prm s (P.MOTN_LTG_DIV_N (16 + k)) } s) := by
  simp [ltgStep, hrun, h]

end

/-- R152: a generator in timer mode latches the time of its step. -/
theorem ltgLatch_timer {s : State} {k : Nat} (h : prm s (P.MOTN_LTG_SOURCE (16 + k)) = 1) : ltgLatch s k = latchAt s (prmN s (P.MOTN_LTG_AXIS (16 + k))) 0 := by
  simp [ltgLatch, h]

section
variable {k : Fin 16} {s : State} (hrun : (ltg s k.val).run = true) (htimer : prm s (P.MOTN_LTG_SOURCE (16 + k.val)) = 1)
  (hbehind : ((ltg s k.val).timer + 1) * 2 ^ 49 ≤ s.tk.timer)
include hrun htimer hbehind

/-- R151, R326: a running generator in timer mode takes a step of the 2 ns that it is behind. -/
theorem exec_ltgTimerStep : exec (.ltgTimerStep k) s = .next (ltgStep k.val true (setLtg k.val { ltg s k.val with timer := (ltg s k.val).timer + 1 } s)) :=
  if_pos ⟨hrun, htimer, hbehind⟩

theorem exec_ltgTimerStep_below (h : (ltg s k.val).acc + prm s (P.MOTN_LTG_DIV_M (16 + k.val)) < prm s (P.MOTN_LTG_DIV_N (16 + k.val))) : exec (.ltgTimerStep k) s =
    .next (setLtg k.val { ltg s k.val with timer := (ltg s k.val).timer + 1, acc := (ltg s k.val).acc + prm s (P.MOTN_LTG_DIV_M (16 + k.val)) } s) := by
  have hbelow := ltgStep_below (k := k.val) (s := setLtg k.val { ltg s k.val with timer := (ltg s k.val).timer + 1 } s)
  simp only [ltg_setLtg_self, setLtg_setLtg (y := { ltg s k.val with timer := (ltg s k.val).timer + 1 }) hrun] at hbelow
  rw [exec_ltgTimerStep hrun htimer hbehind, hbelow hrun h]
  rfl

/-- R151 to R153: the first trigger of a generator in timer mode is issued in the step that brings its accumulator to DIV_N. -/
theorem exec_ltgTimerStep_wraps (h : prm s (P.MOTN_LTG_DIV_N (16 + k.val)) ≤ (ltg s k.val).acc + prm s (P.MOTN_LTG_DIV_M (16 + k.val))) (hfirst : (ltg s k.val).lastNs = none) :
    exec (.ltgTimerStep k) s = .next (issueTrigger k.val (latchAt s (prmN s (P.MOTN_LTG_AXIS (16 + k.val))) 0) (setLtg k.val { ltg s k.val with
      timer := (ltg s k.val).timer + 1, acc := (ltg s k.val).acc + prm s (P.MOTN_LTG_DIV_M (16 + k.val)) - prm s (P.MOTN_LTG_DIV_N (16 + k.val)) } s)) := by
  have hwraps := ltgStep_wraps (k := k.val) (s := setLtg k.val { ltg s k.val with timer := (ltg s k.val).timer + 1 } s)
  have hlatch := ltgLatch_timer (s := setLtg k.val { ltg s k.val with timer := (ltg s k.val).timer + 1 } s) (k := k.val) htimer
  simp only [ltg_setLtg_self, setLtg_setLtg (y := { ltg s k.val with timer := (ltg s k.val).timer + 1 }) hrun] at hwraps
  rw [exec_ltgTimerStep hrun htimer hbehind, hwraps hrun h, takeTrigger_first (by rw [ltg_setLtg_self]; exact hfirst), hlatch]
  rfl

end

/-- R153: the oldest held trigger is issued once MIN_PERIOD has passed since the last one. -/
theorem exec_ltgHeldIssue {k : Fin 16} {l : Latch} {ls : List Latch} {s : State} (hheld : (ltg s k.val).held = l :: ls)
    (hpassed : (ltg s k.val).lastNs.getD 0 + prmN s (P.MOTN_LTG_MIN_PERIOD (16 + k.val)) ≤ monoNs s) :
    exec (.ltgHeldIssue k) s = .next (issueTrigger k.val l (setLtg k.val { ltg s k.val with held := ls } s)) := by
  change execLtgHeldIssue k s = _
  unfold execLtgHeldIssue
  simp only [hheld, if_neg (Nat.not_lt.mpr hpassed)]

/-! ### Writes of a compare unit's window (R154, R156, R158, R340, R434) -/

theorem setPc_setPc {y : Pc} (hrun : y.run = true) (n : Nat) (x : Pc) (s : State) : setPc n x (setPc n y s) = setPc n x s := by
  have hne : y ≠ {} := by rintro rfl; cases hrun
  unfold setPc
  rw [Map.set_set hne]

theorem forwardWrite_only (a : Acc) (off : Nat) (v : Word32) (s : State) : SentOnly s (forwardWrite a off v s) := by
  unfold forwardWrite
  split
  · exact sendSeq_only ..
  · exact .refl s

/-- R340, R434: a write with its right on a device with the claim has its effect `f`, but for the register log and the messages that forward it. -/
theorem pcWrite_does {a : Acc} {n : Nat} {s : State} (haccess : s.accessible a) (hright : pcRight s a n = true) (hclaim : holdsClaim s = true) {r : Nat} {v : Word32}
    {f : State → State} (hact : ∀ u, LogOnly s u → pcAct n r v u = f u) (hkeeps : ∀ u t, LogOnly s u → SentOnly (f u) t → t = f (s.logged t)) :
    pcWrite a n r v s = f (s.logged (pcWrite a n r v s)) := by
  obtain ⟨u, hlog, hwrite⟩ := windowWrite_right a (r == 0x10 || r == 0x14) 4 (0x1000 + n * 0x100 + r) v.toNat
    (fun s => forwardWrite a (0x1000 + n * 0x100 + r) v (pcAct n r v s)) s haccess
  refine hkeeps u _ hlog ?_
  have hpc : pcWrite a n r v s = forwardWrite a (0x1000 + n * 0x100 + r) v (pcAct n r v u) := by
    simpa [pcWrite, hright, hclaim] using hwrite
  rw [hpc, hact u hlog]
  exact forwardWrite_only ..

/-- A write whose effect is on the compare unit alone. -/
theorem pcWrite_sets {a : Acc} {n : Nat} {s : State} (haccess : s.accessible a) (hright : pcRight s a n = true) (hclaim : holdsClaim s = true) {r : Nat} {v : Word32}
    {x : Pc} (hact : ∀ u, LogOnly s u → pcAct n r v u = setPc n x u) :
    pcWrite a n r v s = setPc n x (s.logged (pcWrite a n r v s)) := by
  refine pcWrite_does haccess hright hclaim hact ?_
  rintro _ _ ⟨_, _, _, _, _, _, rfl⟩ ⟨_, _, _, _, rfl⟩
  rfl

/-- R158: a write of PC_INS_CMD inserts the entry of the window and keeps the result. -/
theorem pcAct_insCmd (n : Nat) (v : Word32) (s : State) : pcAct n 0x10 v s =
    setPc n { pc (insertPc n (windowEntry (pc s n) v) s).2 n with result := (insertPc n (windowEntry (pc s n) v) s).1 } (insertPc n (windowEntry (pc s n) v) s).2 := rfl

/-- R154: an entry ahead of the axis goes into a list with room. -/
theorem pcAct_inserts {n : Nat} {v : Word32} {s : State} (hrun : (pc s n).run = true)
    (hahead : ¬ ((windowEntry (pc s n) v).pos ≤ (axis s (prmN s (P.MOTN_PC_AXIS (32 + n)))).p ∧ (axis s (prmN s (P.MOTN_PC_AXIS (32 + n)))).d = 1))
    (hroom : (pc s n).list.length < 4096) :
    pcAct n 0x10 v s = setPc n { pc s n with list := insertEntry (windowEntry (pc s n) v) (pc s n).list, result := 1 } s := by
  have hinsert : insertPc n (windowEntry (pc s n) v) s = (1, setPc n { pc s n with list := insertEntry (windowEntry (pc s n) v) (pc s n).list } s) := by
    simp only [insertPc, hrun, if_neg hahead, if_neg (Nat.not_le.mpr hroom), Bool.not_true, Bool.false_eq_true, if_false]
  rw [pcAct_insCmd, hinsert]
  simp only [pc_setPc_self]
  exact setPc_setPc (y := { pc s n with list := insertEntry (windowEntry (pc s n) v) (pc s n).list }) hrun ..

/-- R156: a compare unit that has missed an entry. -/
def missing (tag : Nat) (x : Pc) : Pc := { x with flags := setFlag x.flags 0, missed := some tag, nMissed := x.nMissed + 1 }

/-- R156: an entry behind the axis without LATE_FIRE is missed. -/
theorem pcAct_misses {n : Nat} {v : Word32} {s : State} (hrun : (pc s n).run = true)
    (hbehind : (windowEntry (pc s n) v).pos ≤ (axis s (prmN s (P.MOTN_PC_AXIS (32 + n)))).p) (hforward : (axis s (prmN s (P.MOTN_PC_AXIS (32 + n)))).d = 1)
    (hlate : (windowEntry (pc s n) v).late = false) : pcAct n 0x10 v s =
      raise (256 + 3 * n + 2) (windowEntry (pc s n) v).tag (setPc n { missing (windowEntry (pc s n) v).tag (pc s n) with result := 3 } s) := by
  have hinsert : insertPc n (windowEntry (pc s n) v) s =
      (3, raise (256 + 3 * n + 2) (windowEntry (pc s n) v).tag (setPc n (missing (windowEntry (pc s n) v).tag (pc s n)) s)) := by
    simp only [insertPc, hrun, hbehind, hforward, hlate, Bool.not_true, Bool.false_eq_true, if_false, and_self, if_true, missing]
  have hpc : ∀ y, pc (raise (256 + 3 * n + 2) (windowEntry (pc s n) v).tag (setPc n y s)) n = y := fun y => pc_setPc_self n y s
  rw [pcAct_insCmd, hinsert, hpc]
  exact congrArg (raise (256 + 3 * n + 2) (windowEntry (pc s n) v).tag) (setPc_setPc (y := missing (windowEntry (pc s n) v).tag (pc s n)) hrun ..)

/-- R158: PC_CONTROL.CLEAR. -/
theorem pcAct_clears (n : Nat) (s : State) : pcAct n 0x14 0x20000 s = setPc n { pc s n with list := [], result := 1 } s := rfl

/-- R158: the word of PC_CONTROL that deletes the entries of a tag. -/
def deleteWord (tag : Word16) : Word32 := BitVec.ofNat 32 (0x10000 + tag.toNat)

theorem deleteWord_toNat (tag : Word16) : (deleteWord tag).toNat = 0x10000 + tag.toNat := by
  have htag := tag.isLt
  simp only [deleteWord, BitVec.toNat_ofNat]
  omega

theorem deleteWord_tag (tag : Word16) : (deleteWord tag).toNat % 65536 = tag.toNat := by
  have htag := tag.isLt
  rw [deleteWord_toNat]
  omega

theorem deleteWord_delete (tag : Word16) : hasFlag (deleteWord tag) 16 = true := by
  have htag := tag.isLt
  rw [hasFlag, BitVec.getLsbD, deleteWord_toNat, Nat.testBit_eq_decide_div_mod_eq, decide_eq_true_eq]
  omega

theorem deleteWord_clear (tag : Word16) : hasFlag (deleteWord tag) 17 = false := by
  have htag := tag.isLt
  rw [hasFlag, BitVec.getLsbD, deleteWord_toNat, Nat.testBit_eq_decide_div_mod_eq, decide_eq_false_iff_not]
  omega

/-- R158: PC_CONTROL.DELETE. -/
theorem pcAct_deletes {n : Nat} {tag : Word16} {left : List PcEntry} {s : State} (hleft : left = (pc s n).list.filter (fun e => e.tag != tag.toNat)) :
    pcAct n 0x14 (deleteWord tag) s = setPc n { pc s n with list := left, result := if left.length = (pc s n).list.length then 5 else 1 } s := by
  subst hleft
  simp [pcAct, deleteWord_clear, deleteWord_delete, deleteWord_tag]

/-! ### Pulses and read-outs (R155, R157, R158) -/

theorem exec_pcPulseEnd {n : Fin 8} {e : Nat} {s : State} (hpulse : (pc s n.val).pulseEnd = some e) (hover : e ≤ monoNs s) :
    exec (.pcPulseEnd n) s = .next (setPc n.val { pc s n.val with pulseEnd := none } s) := by
  change execPcPulseEnd n s = _
  unfold execPcPulseEnd
  simp only [hpulse, if_pos hover]

theorem exec_pcFiredRead {a : Acc} {n : Fin 8} {f : PcFired} {fs : List PcFired} {s : State} (haccess : s.accessible a) (hfired : (pc s n.val).fired = f :: fs) :
    exec (.pcFiredRead a n) s = .next (setPc n.val { pc s n.val with fired := fs }
      { s with core.rdata := (f.tag % 2 ^ 16 + 2 ^ 29 * b2n f.reverse + 2 ^ 30 * b2n f.late + 2 ^ 31) % 2 ^ 32 }) := by
  change execPcFiredRead a n s = _
  unfold execPcFiredRead
  simp only [windowRead_permitted haccess, hfired, List.drop_succ_cons, List.drop_zero]

/-- Settles O42: each command by its lemmas above. -/
theorem triggerAndCompare : Obligations.TriggerAndCompare := by
  unfold Obligations.TriggerAndCompare
  refine ⟨?below, ?wraps, ?held, ?inserts, ?misses, ?clears, ?deletes, ?pulse, ?fired, ?missed⟩
  case below =>
    rintro k _ s rfl hrun htimer hbehind hbelow
    exact exec_ltgTimerStep_below hrun htimer hbehind hbelow
  case wraps =>
    rintro k _ _ s rfl hrun htimer hbehind hwraps hfirst rfl
    refine ⟨_, exec_ltgTimerStep_wraps hrun htimer hbehind hwraps hfirst, ?_, ?_, rfl⟩
    · rw [ltg_issueTrigger, ltg_setLtg_self]
      rfl
    · exact port_issueTrigger ..
  case held =>
    rintro k _ l ls s rfl hheld hpassed
    refine ⟨_, exec_ltgHeldIssue hheld hpassed, ?_, ?_, fun j hj => ?_, ?_⟩
    · rw [ltg_issueTrigger, ltg_setLtg_self]
      rfl
    · exact port_issueTrigger ..
    · obtain ⟨hltg, hport⟩ := issueTrigger_others hj l (setLtg k.val { ltg s k.val with held := ls } s)
      exact ⟨hltg.trans ((ltg_setLtg k.val j _ s).trans (if_neg hj)), hport⟩
    · exact issueTrigger_only ..
  case inserts =>
    rintro a n v _ _ _ s haccess hright hclaim rfl hrun rfl rfl hahead hroom
    refine ⟨_, rfl, pcWrite_sets haccess hright hclaim ?_⟩
    rintro _ ⟨_, _, _, _, _, _, rfl⟩
    exact pcAct_inserts hrun hahead hroom
  case misses =>
    rintro a n v _ _ _ s haccess hright hclaim rfl hrun rfl rfl hbehind hforward hlate
    refine ⟨_, rfl, pcWrite_does haccess hright hclaim (f := fun u => raise (256 + 3 * n.val + 2) (windowEntry (pc s n.val) v).tag
      (setPc n.val { missing (windowEntry (pc s n.val) v).tag (pc s n.val) with result := 3 } u)) ?_ ?_⟩
    · rintro _ ⟨_, _, _, _, _, _, rfl⟩
      exact pcAct_misses hrun hbehind hforward hlate
    · rintro _ _ ⟨_, _, _, _, _, _, rfl⟩ ⟨_, _, _, _, rfl⟩
      rfl
  case clears =>
    intro a n s haccess hright hclaim
    refine ⟨_, rfl, pcWrite_sets haccess hright hclaim ?_⟩
    rintro _ ⟨_, _, _, _, _, _, rfl⟩
    exact pcAct_clears ..
  case deletes =>
    intro a n tag left s haccess hright hclaim hleft
    refine ⟨_, rfl, pcWrite_sets haccess hright hclaim ?_⟩
    rintro _ ⟨_, _, _, _, _, _, rfl⟩
    exact pcAct_deletes hleft
  case pulse => exact fun n e s hpulse hover => exec_pcPulseEnd hpulse hover
  case fired => exact fun a n f fs s haccess hfired => exec_pcFiredRead haccess hfired
  case missed => exact fun a n s haccess => congrArg Host.Outcome.next (windowRead_permitted haccess ..)

end Sys2Proof.Machine
end

section
/-! PROOFS. The calibrate stage (R165), what a line that passes the strips leaves as it was, STRIP_LINE and CALIB_LOAD (R160 to R179). -/
namespace Sys2Proof.Machine
open Sys2Proof

/-! ### The calibrate stage (R25, R165) -/

theorem satU_nonpos {x : Int} (h : x ≤ 0) (b : Nat) : satU x b = 0 := by
  have hmax : (1 : Int) ≤ 2 ^ b := one_le_pow₀ (by decide)
  unfold satU
  split
  · rfl
  · split <;> omega

theorem satU_nonneg {x : Int} (h : 0 ≤ x) (b : Nat) : (satU x b : Int) = min (2 ^ b - 1) x := by
  have hmax : 1 ≤ 2 ^ b := Nat.one_le_two_pow
  unfold satU
  rw [if_neg (not_lt.mpr h)]
  split
  · next habove => rw [min_eq_left habove.le, Nat.cast_sub hmax, Nat.cast_pow]; rfl
  · next hfits => rw [min_eq_right (not_lt.mp hfits), Int.toNat_of_nonneg h]

theorem rnd_eq_ediv {n : Nat} (h : n ≠ 0) (x : Int) : rnd x n = (x + 2 ^ (n - 1)) / 2 ^ n := by
  rw [rnd, if_neg h, Int.fdiv_eq_ediv_of_nonneg _ (by positivity)]

theorem calibrate_negative {l : Nat} {offset : Int} (h : (l : Int) * 2 ^ 16 + offset * 2 ^ 14 < 0) (gain : Nat) : calibrate gain offset l = 0 := by
  have hproduct : ((l : Int) * 2 ^ 16 + offset * 2 ^ 14) * gain ≤ 0 := mul_nonpos_of_nonpos_of_nonneg h.le gain.cast_nonneg
  refine satU_nonpos ?_ 16
  rw [rnd_eq_ediv (by decide)]
  omega

theorem calibrate_nonneg {l : Nat} {offset : Int} (h : 0 ≤ (l : Int) * 2 ^ 16 + offset * 2 ^ 14) (gain : Nat) :
    (calibrate gain offset l : Int) = min 65535 ((((l : Int) * 2 ^ 16 + offset * 2 ^ 14) * gain + 2 ^ 31) / 2 ^ 32) := by
  have hproduct : 0 ≤ ((l : Int) * 2 ^ 16 + offset * 2 ^ 14) * gain := mul_nonneg h gain.cast_nonneg
  have hround := rnd_eq_ediv (n := 32) (by decide) (((l : Int) * 2 ^ 16 + offset * 2 ^ 14) * gain)
  exact (satU_nonneg (by rw [hround]; positivity) 16).trans (by rw [hround]; norm_num)

/-- Settles O8: a negative v has no positive product; any other is rounded and saturated as `satU_nonneg` says. -/
theorem calibrateStage : Obligations.CalibrateStage := by
  unfold Obligations.CalibrateStage
  exact fun gain l offset => ⟨fun h => calibrate_negative h gain, fun h => calibrate_nonneg h gain⟩

/-! ### What the passage of a corrected line leaves (R218, R298, R396, R420) -/

/-- Nothing differs but the profile channels, the log, events, flows, messages to the peer and the counts of failed checks. -/
def PixelsKept (s t : State) : Prop :=
  t = { s with
    sys.log := t.sys.log, evnt := t.evnt, netw := t.netw, twin := t.twin, profs := t.profs, chk.strip := t.chk.strip, chk.colour := t.chk.colour
    chk.prof := t.chk.prof, chk.segm := t.chk.segm, chk.former := t.chk.former }

namespace PixelsKept

theorem refl (s : State) : PixelsKept s s := rfl

theorem trans {a b c : State} (h : PixelsKept a b) (k : PixelsKept b c) : PixelsKept a c := by
  unfold PixelsKept at h k ⊢
  rw [k, h]

theorem ite {s t u : State} {c : Prop} [Decidable c] (ht : PixelsKept s t) (hu : PixelsKept s u) : PixelsKept s (if c then t else u) := by
  split
  · exact ht
  · exact hu

theorem ofLog {s t : State} : LogOnly s t → PixelsKept s t := by
  rintro ⟨_, _, _, _, _, _, rfl⟩
  rfl

theorem ofSent {s t : State} (h : SentOnly s t) : PixelsKept s t := ofLog h.log

theorem ofFlows {s t : State} (h : FlowsOnly s t) : PixelsKept s t := ofLog h.log

theorem forEach {α : Type} (xs : List α) {f : α → State → State} (h : ∀ a s, PixelsKept s (f a s)) (s : State) : PixelsKept s (Machine.forEach xs f s) :=
  forEach_rel refl trans xs f h s

theorem strips {s t : State} (h : PixelsKept s t) (i : Nat) : strip t i = strip s i := (congrArg (strip · i) h).trans rfl

theorem colrs {s t : State} (h : PixelsKept s t) : t.colrs = s.colrs := (congrArg State.colrs h).trans rfl

theorem stch {s t : State} (h : PixelsKept s t) : t.stch = s.stch := (congrArg State.stch h).trans rfl

theorem copies {s t : State} (h : PixelsKept s t) : t.chk.copies = s.chk.copies := (congrArg (·.chk.copies) h).trans rfl

theorem prmAtB {s t : State} (h : PixelsKept s t) (epoch id : Nat) : Machine.prmAtB t epoch id = Machine.prmAtB s epoch id :=
  (congrArg (Machine.prmAtB · epoch id) h).trans rfl

end PixelsKept

theorem raise_pixelsKept (src arg : Nat) (s : State) : PixelsKept s (raise src arg s) := rfl

theorem raiseIf_pixelsKept (c : Bool) (src arg : Nat) (s : State) : PixelsKept s (raiseIf c src arg s) := .ite (raise_pixelsKept ..) (.refl s)

theorem setProf_pixelsKept (c : Nat) (x : Prof) (s : State) : PixelsKept s (setProf c x s) := rfl

/-- R402: a check of a consumer that fails. -/
theorem chkStage_pixelsKept (unit g : Nat) (s : State) : PixelsKept s (chkStage unit g s) := by
  have hcounts : ∀ x, PixelsKept s (if unit = 8 then { s with chk.prof := x } else if unit = 9 then { s with chk.segm := x } else { s with chk.former := x }) :=
    fun x => .ite rfl (.ite rfl rfl)
  unfold chkStage
  dsimp only
  split
  · exact ((hcounts _).trans (raise_pixelsKept ..)).trans (.ofLog (logDeviceN_only ..))
  · exact (hcounts _).trans (raise_pixelsKept ..)

theorem verifyLine_pixelsKept (unit : Nat) (t : Stamp) (px : List Nat) (s : State) : PixelsKept s (verifyLine unit t px s) :=
  .ite (.refl s) (chkStage_pixelsKept ..)

theorem feedLine_pixelsKept (unit g : Nat) (ok : Bool) (i : Item) (s : State) : PixelsKept s (feedLine unit g ok i s) :=
  PixelsKept.trans (.ite (.refl s) (chkStage_pixelsKept ..)) (.ofFlows (feed_only ..))

/-- R420: the events of a line act at a consumer. -/
theorem beginLine_pixelsKept (i g : Nat) (s : State) : PixelsKept s (beginLine i g s).2 := by
  have hlatch : ∀ x, PixelsKept s (setLatchSlot i x s) := fun _ => rfl
  exact (hlatch _).trans (.ite (.forEach _ (fun _ u => .ofSent (sendSeq_only ..)) _) (.refl _))

/-! ### Profile channels (R218 to R229) -/

theorem emitProf_pixelsKept (c : Nat) (h : Option (Stamp × List Byte × Nat)) (s : State) : PixelsKept s (emitProf c h s) := by
  cases h with
  | none => exact .refl s
  | some h => exact .ofFlows (feed_only ..)

theorem closeGroup_pixelsKept (c : Nat) (latched : Bool) (s : State) : PixelsKept s (closeGroup c latched s) := by
  unfold closeGroup
  dsimp only
  split
  · exact .refl s
  · exact (setProf_pixelsKept ..).trans (.forEach _ (emitProf_pixelsKept c) _)

theorem stopProf_pixelsKept (c : Nat) (s : State) : PixelsKept s (stopProf c s) :=
  .ite (.refl s) ((((closeGroup_pixelsKept ..).trans (.forEach _ (emitProf_pixelsKept c) _)).trans (setProf_pixelsKept ..)).trans (.ofFlows (closeProduct_only ..)))

theorem profSwitch_pixelsKept (c epoch : Nat) (s : State) : PixelsKept s (profSwitch c epoch s) :=
  .ite (.refl s) ((closeGroup_pixelsKept ..).trans (.ite (stopProf_pixelsKept ..) (setProf_pixelsKept ..)))

theorem profLine_pixelsKept (c comps : Nat) (t : Stamp) (px : List Nat) (s : State) : PixelsKept s (profLine c comps t px s) := by
  have hlatch : ∀ u, PixelsKept u (latchProf c t.frame u) := fun u => rfl
  exact (setProf_pixelsKept ..).trans (PixelsKept.trans (.ite (closeGroup_pixelsKept ..) (.refl _)) (.ite (hlatch _) (.refl _)))

theorem switchProfiles_pixelsKept (stream epoch : Nat) (s : State) : PixelsKept s (switchProfiles stream epoch s) := by
  refine .forEach _ (fun c u => ?_) s
  exact PixelsKept.trans (.ite ((profSwitch_pixelsKept ..).trans (.ofFlows (switchFlows_only ..))) (.refl u)) (.ite (setProf_pixelsKept ..) (.refl _))

theorem feedProfiles_pixelsKept (stream comps : Nat) (t : Stamp) (px : List Nat) (s : State) : PixelsKept s (feedProfiles stream comps t px s) := by
  have hlines : ∀ cs u, PixelsKept u (forEach cs (fun c => profLine c comps t px) (verifyLine 8 t px u)) :=
    fun cs u => (verifyLine_pixelsKept ..).trans (.forEach cs (fun c v => profLine_pixelsKept c comps t px v) _)
  unfold feedProfiles
  exact (switchProfiles_pixelsKept ..).trans (.ite (.refl _) (hlines ..))

/-- R83: the stop of the channels that read a stopped port's strip. -/
theorem endProfiles_pixelsKept (i : Nat) (s : State) : PixelsKept s (endProfiles i s) :=
  .ite (.refl s) (.forEach _ (fun c u => .ite (stopProf_pixelsKept c u) (.refl u)) s)

/-! ### A line through a strip (R160 to R179) -/

/-- What waits at strip `i`, its counts of lines and the colour units do not differ. -/
structure LinesCounted (i : Nat) (s t : State) : Prop where
  inq   : (strip t i).inq = (strip s i).inq
  lines : (strip t i).counts.lines = (strip s i).counts.lines
  lost  : (strip t i).counts.lost = (strip s i).counts.lost
  colrs : t.colrs = s.colrs

namespace LinesCounted

variable {i : Nat} {s t : State}

theorem refl (i : Nat) (s : State) : LinesCounted i s s := ⟨rfl, rfl, rfl, rfl⟩

theorem trans {u : State} (h : LinesCounted i s t) (k : LinesCounted i t u) : LinesCounted i s u :=
  ⟨k.inq.trans h.inq, k.lines.trans h.lines, k.lost.trans h.lost, k.colrs.trans h.colrs⟩

theorem ite {u : State} {c : Prop} [Decidable c] (ht : LinesCounted i s t) (hu : LinesCounted i s u) : LinesCounted i s (if c then t else u) := by
  split
  · exact ht
  · exact hu

theorem ofPixels (h : PixelsKept s t) (i : Nat) : LinesCounted i s t := by
  constructor
  case colrs => exact h.colrs
  all_goals rw [h.strips]

theorem ofStrip {x : Strip} (hinq : x.inq = (strip s i).inq) (hlines : x.counts.lines = (strip s i).counts.lines) (hlost : x.counts.lost = (strip s i).counts.lost) :
    LinesCounted i s (setStrip i x s) := by
  constructor
  case colrs => rfl
  all_goals rwa [strip_setStrip_self]

theorem ofOther {j : Nat} (h : i ≠ j) (x : Strip) (s : State) : LinesCounted i s (setStrip j x s) := by
  constructor
  case colrs => rfl
  all_goals rw [strip_setStrip, if_neg h]

end LinesCounted

/-- R173: an update that ends replaces the set of the next frame. -/
theorem runShade_job {i : Nat} {j : ShadeJob} {s : State} (h : (strip s i).job = some j) : runShade i s =
    setStrip i { strip s i with job := none, m1 := (List.range j.ref.length).map (newMul j), counts.updates := (strip s i).counts.updates + 1 } s := by
  unfold runShade
  simp only [h]

theorem runShade_linesCounted (i : Nat) (s : State) : LinesCounted i s (runShade i s) := by
  cases h : (strip s i).job with
  | none => simp only [runShade, h]; exact .refl i s
  | some j => rw [runShade_job h]; exact .ofStrip rfl rfl rfl

/-- R171, R176: the end of a frame. -/
theorem endFrame_linesCounted (i : Nat) (t : Stamp) (report : List Byte) (s : State) : LinesCounted i s (endFrame i t report s) := by
  unfold endFrame
  refine (runShade_linesCounted i s).trans (.trans (.ofStrip ?_ ?_ ?_) (.ofPixels (((raiseIf_pixelsKept ..).trans (raise_pixelsKept ..)).trans (.ofFlows (feed_only ..))) i)) <;> rfl

/-- R171: the frame whose last line has passed ends, where its report came with that line. -/
def endReported (i : Nat) (report : Option (List Byte)) (last : Bool) (t : Stamp) (s : State) : State :=
  match report with
  | some r => if last then endFrame i t r s else s
  | none => s

theorem endReported_linesCounted (i : Nat) (report : Option (List Byte)) (last : Bool) (t : Stamp) (s : State) : LinesCounted i s (endReported i report last t s) := by
  cases report with
  | none => exact .refl i s
  | some r => exact .ite (endFrame_linesCounted i t r s) (.refl i s)

/-- R218: the channels that read a strip have its line. -/
theorem strip_stripOut (i comps : Nat) (first : Bool) (t : Stamp) (px : List Nat) (ups : List (Nat × Nat)) (s : State) (j : Nat) :
    strip (stripOut i comps first t px ups s) j = strip s j := by
  unfold stripOut
  dsimp only
  rw [strip, setColr_strips, ← strip, (feedProfiles_pixelsKept ..).strips]

/-- R160: a corrected line waits at the colour unit. -/
theorem wait_stripOut (i comps : Nat) (first : Bool) (t : Stamp) (px : List Nat) (ups : List (Nat × Nat)) (s : State) :
    (colr (stripOut i comps first t px ups s) i).wait = (colr s i).wait ++ [{ stamp := t, comps := comps, px := px, first := first }] := by
  have hfed := (feedProfiles_pixelsKept i comps t (upsetPx ups px) s).colrs
  unfold stripOut
  dsimp only
  rw [colr_setColr_self, colr, hfed, ← colr]

/-- R174: the first line of a run leaves colour units alone. -/
theorem freshLine_colrs (i : Nat) (d : Dict) (s : State) : (freshLine i d s).colrs = s.colrs := by
  unfold freshLine
  dsimp only
  split <;> rfl

/-- Colour units and the working copies of tables do not differ. -/
structure ColoursKept (s t : State) : Prop where
  colrs  : t.colrs = s.colrs
  copies : t.chk.copies = s.chk.copies

namespace ColoursKept

variable {s t : State}

theorem trans {u : State} (h : ColoursKept s t) (k : ColoursKept t u) : ColoursKept s u := ⟨k.colrs.trans h.colrs, k.copies.trans h.copies⟩

theorem ofPixels (h : PixelsKept s t) : ColoursKept s t := ⟨h.colrs, h.copies⟩

theorem asRead (h : ColoursKept s t) (d : Dict) : Machine.asRead t d = Machine.asRead s d := by
  unfold Machine.asRead
  rw [h.copies]

end ColoursKept

/-- R34, R420: the events of a line act on strips alone. -/
theorem beginStrip_coloursKept (i g : Nat) (s : State) : ColoursKept s (beginStrip i g s).2 :=
  have hline := beginLine_pixelsKept i g s
  ⟨hline.colrs, hline.copies⟩

/-- R128: so do those of the second strip of a ganged port. -/
theorem beginSecond_coloursKept (gang : Bool) (i g : Nat) (s : State) : ColoursKept s (if gang = true then beginStrip i g s else (false, s)).2 := by
  split
  · exact beginStrip_coloursKept i g s
  · exact ⟨rfl, rfl⟩

/-- R160, R161: the samples of a line of stamp `t` after stages 1 to 6 on `bytes`, with the calibration entries `hard` newly uncorrectable. -/
def stripPx (u : State) (d : Dict) (i : Nat) (hard : List Nat) (t : Stamp) (bytes : List Byte) : List Nat :=
  if stampLost t = true then List.replicate (lineSamples d i) (dictN d (P.PORT_FILL_VALUE i))
  else (correctLine (asRead u d) i (lineSamples d i) ((strip u i).bad ++ hard.filter (· < lineSamples d i)).dedup (prevLine d i t (strip u i))
    (if dictVal d (P.STRP_SHADE_EN i) = 1 ∧ (strip u i).shadeOn = false then [] else (strip u i).m0) bytes).map Px.o

/-- R160, R161, R179: strip `i` has taken a line of stamp `t`. -/
structure StripTakes (i : Nat) (rest : List OutLine) (t : Stamp) (u v : State) : Prop where
  inq   : (strip v i).inq = rest
  lines : (strip v i).counts.lines = (strip u i).counts.lines + b2n (!stampLost t)
  lost  : (strip v i).counts.lost = (strip u i).counts.lost + b2n (stampLost t)
  colrs : v.colrs = u.colrs

theorem StripTakes.counted {i : Nat} {rest : List OutLine} {t : Stamp} {u v w : State} (h : StripTakes i rest t u v) (k : LinesCounted i v w) :
    StripTakes i rest t u w :=
  ⟨k.inq.trans h.inq, k.lines.trans h.lines, k.lost.trans h.lost, k.colrs.trans h.colrs⟩

/-- R160 to R179: a strip that nothing holds hands over its next line with a new check. Every `let` of the model has a name below: up to the state `s5`, in
which the line is corrected, tables read as they did (`ColoursKept`); from `s6` on, which holds the strip that took the line, only `LinesCounted` steps follow. -/
theorem exec_stripLine {i : Fin 16} {soft hard : List Nat} {ups : LineUpset (Nat × Nat)} {o : OutLine} {rest : List OutLine} {t0 : Stamp} {d : Dict} {s u : State}
    (hinq : (strip s i.val).inq = o :: rest) (hu : u = if o.first = true then freshLine i.val (dictAt s o.line.stamp.epoch) s else s)
    (ht : t0 = { o.line.stamp with flags := setFlagIf (forcedOut u 5 i.val) o.line.stamp.flags 0 }) (hd : d = dictAt u t0.epoch)
    (hpath : dataPathHeld u = false) (hcapture : waitsCapture u i.val t0.globalLine = false) (hbeat : waitsHeartbeat u i.val t0.globalLine = false)
    (hgang : ganged d i.val = true → waitsHeartbeat u (i.val + 1) t0.globalLine = false) (hcal : calibLoaded u i.val t0.epoch = true) (hgap : gapHeld u 5 i.val = false)
    (hpreset : (strip u i.val).preset = none) :
    ∃ v fl px t', px = stripPx u d i.val hard t0 (upsetBytes ups.entry o.line.bytes) ∧ t' = { t0 with flags := fl, lineCheck := lineCheck px } ∧ StripTakes i.val rest t0 u v ∧
      exec (.stripLine i soft hard ups) s = .next (endProfiles i.val (endReported i.val o.report (hasFlag t0.flags 14) t'
        (stripOut i.val (dictN d (P.PORT_COMPONENTS i.val)) o.first t' px ups.prof v))) := by
  have hgo : ¬ (dataPathHeld u || waitsCapture u i.val t0.globalLine || waitsHeartbeat u i.val t0.globalLine ||
      (ganged d i.val && waitsHeartbeat u (i.val + 1) t0.globalLine) || !calibLoaded u i.val t0.epoch || gapHeld u 5 i.val) = true := by
    have hsecond : (ganged d i.val && waitsHeartbeat u (i.val + 1) t0.globalLine) = false := by
      cases hg : ganged d i.val with
      | false => rfl
      | true => exact hgang hg
    simp [hpath, hcapture, hbeat, hsecond, hcal, hgap]
  change ∃ v fl px t', _ ∧ _ ∧ _ ∧ execStripLine i soft hard ups s = _
  generalize hr : execStripLine i soft hard ups s = r
  unfold execStripLine at hr
  extract_lets k x at hr
  split at hr
  · next hnone => exact absurd (hinq.symm.trans hnone) (List.cons_ne_nil _ _)
  next o' rest' hsome =>
  obtain ⟨rfl, rfl⟩ := List.cons.inj (hinq.symm.trans hsome)
  extract_lets s1 x1 src t d1 s2 w comps g bytes shade restarts bad softs now x2 restart lost stage ue hi lo at hr
  obtain rfl : u = s1 := hu
  obtain rfl : t0 = t := ht
  obtain rfl : d = d1 := hd
  rw [if_neg hgo] at hr
  have hbegins := beginStrip_coloursKept k t.globalLine s2
  rcases hb : beginStrip k t.globalLine s2 with ⟨frozen, s3⟩
  have hothers := beginSecond_coloursKept g (k + 1) t.globalLine s3
  rcases ho : (if g = true then beginStrip (k + 1) t.globalLine s3 else (false, s3)) with ⟨other, s4⟩
  simp -zeta only [hb, ho] at hr hbegins hothers
  extract_lets x3 chk s5 slow ueHere fl lines px t' both c0 c1 c2 stats0 stats s6 y s7 s8 s9 at hr
  have hx2 : x2 = x1 := by simp only [x2, x1, k, hpreset]
  have hnow : now = false := by simp only [now, x1, k, hpreset]
  have hstage : ColoursKept s4 s5 := by
    simp only [s5]
    split <;> exact ⟨rfl, rfl⟩
  have hbefore : ColoursKept s1 s5 := (((ColoursKept.ofPixels (.ofFlows (switchFlows_only ..))).trans hbegins).trans hothers).trans hstage
  have hsets : x3.m0 = if dictVal d1 (P.STRP_SHADE_EN k) = 1 ∧ x1.shadeOn = false then [] else x1.m0 := by
    simp [x3, restart, restarts, shade, hnow, hx2]
  have hpx : px = stripPx s1 d1 k hard t bytes := by
    have hprev : prevLine d1 k t x3 = prevLine d1 k t x2 := rfl
    simp only [px, lines, stripPx, lost]
    split
    · rfl
    · rw [hprev, hx2, hsets, hbefore.asRead]
  have htakes : StripTakes k rest t s1 s6 := by
    have hcounts : x2.counts = x1.counts := by rw [hx2]
    constructor
    case colrs => exact hbefore.colrs
    case inq => rw [strip_setStrip_self]
    case lines => rw [strip_setStrip_self]; exact congrArg (·.lines + b2n !lost) hcounts
    case lost => rw [strip_setStrip_self]; exact congrArg (·.lost + b2n lost) hcounts
  have hother : LinesCounted k s6 s7 := .ite (.ofOther (Nat.ne_of_lt k.lt_succ_self) _ s6) (.refl k s6)
  have hraised : LinesCounted k s7 s8 := .ite (.refl k s7) (.ofPixels (.forEach ue (fun _ _ => raise_pixelsKept ..) s7) k)
  exact ⟨s8, fl, px, t', hpx, rfl, htakes.counted (hother.trans hraised), hr.symm⟩

/-! ### CALIB_LOAD (R177) -/

theorem exec_calibLoad_line {i : Fin 16} {o : OutLine} {rest : List OutLine} {s : State} (hcinch : s.sys.cinch = none) (hinq : (strip s i.val).inq = o :: rest) :
    exec (.calibLoad i) s = .next (loadCalib i.val (dictAt s o.line.stamp.epoch) s) := by
  change execCalibLoad i s = _
  simp only [execCalibLoad, hcinch, hinq]

theorem exec_calibLoad_idle {i : Fin 16} {s : State} (hcinch : s.sys.cinch = none) (hinq : (strip s i.val).inq = []) :
    exec (.calibLoad i) s = .next (loadCalib i.val s.sys.applied s) := by
  change execCalibLoad i s = _
  simp only [execCalibLoad, hcinch, hinq]

end Sys2Proof.Machine
end

section
/-! PROOFS. Colour units (R181 to R193), and the way of their rows to the stitcher (R195). -/
namespace Sys2Proof.Machine
open Sys2Proof

/-! ### A line through a colour unit (R181 to R195) -/

/-- R181 to R190: the samples of row `c`, as read, by the mode of the unit. -/
def colourPx (d : Dict) (i mode cut : Nat) (c : Line) (px : List Nat) (past rest : List Line) : List Nat :=
  if mode = 1 ∨ mode = 2 then (mosaicLine d i mode cut { c with px := px } past rest).1
  else if mode = 3 ∧ stampLost c.stamp = false then (matrixLine d i ((triples px).take cut)).1 ++ (matrixLine d i ((triples px).drop cut)).1
  else px

/-- R185, R193: a row has left colour unit `i`, behind which `rest` wait, and is counted. -/
structure RowLeaves (i : Nat) (rest : List Line) (s v : State) : Prop where
  wait   : (colr v i).wait = rest
  lines  : (colr v i).lines = (colr s i).lines + 1
  stch   : v.stch = s.stch
  prmAtB : ∀ epoch id, Machine.prmAtB v epoch id = Machine.prmAtB s epoch id

/-- R181 to R193: a row that may leave does so, by the mode of its unit and with a new check but in mode 0. -/
theorem exec_colourLine {i : Fin 16} {ups : LineUpset (Nat × Nat)} {c : Line} {rest past : List Line} {d : Dict} {mode cut : Nat} {s : State}
    (hwait : (colr s i.val).wait = c :: rest) (hd : d = dictAt s c.stamp.epoch) (hmode : mode = dictN d (P.COLR_MODE i.val))
    (hemit : mode = 1 ∨ mode = 2 → mayEmit s i.val mode c rest = true) (hpast : past = if c.first = true then [] else (colr s i.val).past)
    (hcut : cut = dictN d (P.PORT_WIDTH i.val) / (if ganged d i.val = true then 2 else 1)) :
    ∃ v fl px l t, px = colourPx d i.val mode cut c (upsetPx ups.entry c.px) past rest ∧
      l = { stamp := { c.stamp with flags := fl, lineCheck := if mode = 0 then c.stamp.lineCheck else lineCheck px }, comps := compsOf d i.val, px := px, first := c.first } ∧
      RowLeaves i.val rest s v ∧ PixelsKept (colourOut i.val l ups.former v) t ∧ exec (.colourLine i ups) s = .next t := by
  have hgo : ¬ ((mode == 1 || mode == 2) && !mayEmit s i.val mode c rest) = true := by
    intro hstays
    simp only [Bool.and_eq_true, Bool.or_eq_true, beq_iff_eq, Bool.not_eq_true'] at hstays
    obtain ⟨hmosaic, hwaits⟩ := hstays
    exact Bool.false_ne_true (hwaits.symm.trans (hemit hmosaic))
  change ∃ v fl px l t, _ ∧ _ ∧ _ ∧ _ ∧ execColourLine i ups s = _
  generalize hr : execColourLine i ups s = r
  unfold execColourLine at hr
  extract_lets k x at hr
  split at hr
  · next hnone => exact absurd (hwait.symm.trans hnone) (List.cons_ne_nil _ _)
  next c' rest' hsome =>
  obtain ⟨rfl, rfl⟩ := List.cons.inj (hwait.symm.trans hsome)
  extract_lets d1 mode1 mosaic s1 past1 g cut1 read bad chk s2 src at hr
  obtain rfl : d = d1 := hd
  obtain rfl : mode = mode1 := hmode
  obtain rfl : past = past1 := hpast
  obtain rfl : cut = cut1 := hcut
  rw [if_neg hgo] at hr
  split at hr
  next px n hrow =>
  extract_lets check l s3 s4 s5 at hr
  have hbefore : PixelsKept s s2 := PixelsKept.trans (.ite (.ofFlows (closeProduct_only ..)) (.refl s)) (.ite rfl (.refl s1))
  have hpx : px = colourPx d1 k mode1 cut1 c (upsetPx ups.entry c.px) past1 rest := by
    have hsamples := (congrArg Prod.fst hrow).symm
    simpa only [colourPx, mosaic, Bool.or_eq_true, beq_iff_eq, Bool.not_eq_true, apply_ite Prod.fst] using hsamples
  have hsecond : colr s4 k = colr s3 k := by
    simp only [s4]
    split
    · rw [colr_setColr, if_neg (Nat.ne_of_lt k.lt_succ_self)]
    · rfl
  have hrest : s4.stch = s2.stch ∧ ∀ epoch id, prmAtB s4 epoch id = prmAtB s2 epoch id := by
    simp only [s4]
    split <;> exact ⟨rfl, fun _ _ => rfl⟩
  have hleaves : RowLeaves k rest s s4 := by
    constructor
    case wait => rw [hsecond, colr_setColr_self]; rfl
    case lines => rw [hsecond, colr_setColr_self]; rfl
    case stch => exact hrest.1.trans hbefore.stch
    case prmAtB => exact fun epoch id => (hrest.2 epoch id).trans (hbefore.prmAtB epoch id)
  exact ⟨s4, _, px, l, _, hpx, rfl, hleaves, .ite (.ofFlows (closeProduct_only 2 k s5)) (.refl s5), hr.symm⟩

/-- R195: the stitcher takes a row of a port that it reads. -/
theorem colourOut_taken {i : Nat} {l : Line} {s : State} (hrun : s.stch.run = true) (hport : prmAtB s l.stamp.epoch (P.STCH_RUN i) = true)
    (hout : prmAtB s l.stamp.epoch P.STCH_OUT_RUN = true) (ups : List (Nat × Nat)) :
    ∃ u, PixelsKept s u ∧ colourOut i l ups s = setStchIn i { stchIn u i with inq := (stchIn u i).inq ++ [l] } u := by
  unfold colourOut
  extract_lets px u x begun
  have hkept : PixelsKept s u := (PixelsKept.ofFlows (switchFlows_only ..)).trans (feedLine_pixelsKept ..)
  have htakes : (u.stch.run && (begun || (prmAtB u l.stamp.epoch (P.STCH_RUN i) && prmAtB u l.stamp.epoch P.STCH_OUT_RUN))) = true := by
    rw [hkept.stch, hkept.prmAtB, hkept.prmAtB, hrun, hport, hout, Bool.and_self, Bool.or_true, Bool.and_self]
  exact ⟨u, hkept, if_pos htakes⟩

/-- Settles O43: each clause by the lemma of its command above, and by what the rest of the command keeps. -/
theorem pixelCommands : Obligations.PixelCommands := by
  unfold Obligations.PixelCommands
  refine ⟨?strip, ?shade, ?calib, ?calibIdle, ?colour⟩
  case strip =>
    intro i soft hard ups o rest t0 d s u hinq hu ht hd hpath hcapture hbeat hgang hcal hgap hpreset
    obtain ⟨v, fl, px, t', hpx, ht', htakes, hexec⟩ := exec_stripLine (soft := soft) (hard := hard) (ups := ups)
      hinq hu ht hd hpath hcapture hbeat hgang hcal hgap hpreset
    have hends : ∀ w, LinesCounted i.val w (endProfiles i.val (endReported i.val o.report (hasFlag t0.flags 14) t' w)) :=
      fun w => (endReported_linesCounted ..).trans (.ofPixels (endProfiles_pixelsKept ..) i.val)
    have hcolr : colr v i.val = colr s i.val := by
      have hfresh : u.colrs = s.colrs := by
        rw [hu]
        split
        · exact freshLine_colrs ..
        · rfl
      rw [colr, htakes.colrs, hfresh, ← colr]
    refine ⟨_, { stamp := t', comps := dictN d (P.PORT_COMPONENTS i.val), px := px, first := o.first }, hexec, ?_, ?_, ?_, ?_, ?_, rfl, ?_, ?_, hpx⟩
    · rw [(hends _).inq, strip_stripOut, htakes.inq]
    · rw [colr, (hends _).colrs, ← colr, wait_stripOut, hcolr]
    · rw [ht']
    · rw [ht']
    · rw [ht']
    · rw [(hends _).lines, strip_stripOut, htakes.lines]
    · rw [(hends _).lost, strip_stripOut, htakes.lost]
  case shade => exact fun i j s hjob => congrArg Host.Outcome.next (runShade_job hjob)
  case calib => exact fun i o rest s hcinch hinq => exec_calibLoad_line hcinch hinq
  case calibIdle => exact fun i s hcinch hinq => exec_calibLoad_idle hcinch hinq
  case colour =>
    intro i ups c rest past d mode cut s hwait hd hmode hemit hpast hcut hrun hport hout
    obtain ⟨v, fl, px, l, t, hpx, hl, hleaves, hkept, hexec⟩ := exec_colourLine (ups := ups) hwait hd hmode hemit hpast hcut
    have hepoch : l.stamp.epoch = c.stamp.epoch := by rw [hl]
    obtain ⟨w, hfed, htaken⟩ := colourOut_taken (s := v) (l := l) (i := i.val) (by rw [hleaves.stch, hrun]) (by rw [hleaves.prmAtB, hepoch, hport])
      (by rw [hleaves.prmAtB, hepoch, hout]) ups.former
    have hcolr : colr t i.val = colr v i.val := by rw [colr, colr, hkept.colrs, htaken, ← hfed.colrs]; rfl
    have hstitch : stchIn t i.val = { stchIn s i.val with inq := (stchIn s i.val).inq ++ [l] } := by
      rw [stchIn, hkept.stch, ← stchIn, htaken, stchIn_setStchIn_self, stchIn, hfed.stch, hleaves.stch, ← stchIn]
    refine ⟨t, l, hexec, ?_, ?_, ?_, ?_, ?_, ?_, ?_⟩
    · rw [hcolr, hleaves.wait]
    · rw [hcolr, hleaves.lines]
    · rw [hstitch]
    all_goals rw [hl]
    exact hpx

end Sys2Proof.Machine
end

section
/-! PROOFS. Inputs of the stitcher: STCH_DELAY_WRITE and COMPOSE_LATE (R197 to R200, R211, R212). -/
namespace Sys2Proof.Machine
open Sys2Proof

/-! ### A line that is written (R197, R199, R200, R211) -/

/-- Nothing differs but the record of mispaired lines, with its events and their arguments. -/
def MispairedOnly (s t : State) : Prop :=
  t = { s with freeCtr := t.freeCtr, evnt := t.evnt, stch.mispaired := t.stch.mispaired, stch.nMispaired := t.stch.nMispaired }

theorem MispairedOnly.trans {a b c : State} (h : MispairedOnly a b) (k : MispairedOnly b c) : MispairedOnly a c := by
  unfold MispairedOnly at h k ⊢
  rw [k, h]

theorem MispairedOnly.stchIn {s t : State} (h : MispairedOnly s t) (q : Nat) : stchIn t q = stchIn s q := (congrArg (Machine.stchIn · q) h).trans rfl

theorem MispairedOnly.discarded {s t : State} (h : MispairedOnly s t) : t.stch.discarded = s.stch.discarded := (congrArg (·.stch.discarded) h).trans rfl

/-- R197: the comparison of TIME never changes a value. -/
theorem raiseMispaired_only (miss : List Nat) (s : State) : MispairedOnly s
    (forEach miss (fun _ s => raiseOpen 328 { s with stch.mispaired := true, stch.nMispaired := s.stch.nMispaired + 1 }) s) := by
  refine forEach_rel (R := MispairedOnly) (fun _ => rfl) .trans miss _ (fun _ u => ?_) s
  rfl

/-- R199, R211: a line of index `idx` of input `p` may be read. -/
def isRead (d : Dict) (p idx : Nat) : Bool := areaMode d || decide (dMax d - dictN d (P.STCH_MD_DELAY p) - 1 ≤ idx)

/-- R197, R200, R211: input `x`, of port `p`, once its oldest line `l` is written. -/
def written (d : Dict) (p idx row : Nat) (l : Line) (x : StchIn) : StchIn :=
  { x with
    inq := x.inq.drop 1, ring := if isRead d p idx then x.ring ++ [(idx, row, l)] else x.ring
    ended := if areaMode d && hasFlag l.stamp.flags 14 then x.ended ++ [idx] else x.ended
    times := (Map.insert x.times idx (stampNs l.stamp)).filter (fun t => decide (idx < t.1 + 65538)) }

/-- R197, R199: a written line changes its input and the count of lines that are never read, but for the record of mispaired lines. -/
theorem storeLine_only (p idx row : Nat) (l : Line) (s : State) : ∃ u, MispairedOnly u (storeLine p idx row l s) ∧
    u.stch.ins = (setStchIn p (written (dictAt s s.stch.epoch) p idx row l (stchIn s p)) s).stch.ins ∧
    u.stch.discarded = s.stch.discarded + b2n (!isRead (dictAt s s.stch.epoch) p idx) := by
  unfold storeLine
  extract_lets d x area new rows keep ended s1 src s2 r miss
  refine ⟨s2, raiseMispaired_only miss s2, ?ins, ?discarded⟩
  case ins =>
    simp only [s2]
    split <;> rfl
  case discarded =>
    have hkeep : isRead (dictAt s s.stch.epoch) p idx = keep := rfl
    rw [hkeep]
    cases hk : keep <;> simp only [s2, hk] <;> rfl

theorem stchIn_storeLine (p idx row : Nat) (l : Line) (s : State) (q : Nat) :
    stchIn (storeLine p idx row l s) q = if q = p then written (dictAt s s.stch.epoch) p idx row l (stchIn s p) else stchIn s q := by
  obtain ⟨u, hmispaired, hins, _⟩ := storeLine_only p idx row l s
  rw [hmispaired.stchIn, stchIn, hins, ← stchIn, stchIn_setStchIn]

theorem discarded_storeLine (p idx row : Nat) (l : Line) (s : State) :
    (storeLine p idx row l s).stch.discarded = s.stch.discarded + b2n (!isRead (dictAt s s.stch.epoch) p idx) := by
  obtain ⟨u, hmispaired, _, hdiscarded⟩ := storeLine_only p idx row l s
  rw [hmispaired.discarded, hdiscarded]

/-- R197: what a written line, whose input counts from `b`, makes of the inputs. -/
theorem stchIn_storeCounted (p idx row : Nat) (l : Line) (b : Nat) (s : State) :
    stchIn (storeLine p idx row l (setStchIn p { stchIn s p with base := some b } s)) p = written (dictAt s s.stch.epoch) p idx row l { stchIn s p with base := some b } ∧
      ∀ q, q ≠ p → stchIn (storeLine p idx row l (setStchIn p { stchIn s p with base := some b } s)) q = stchIn s q := by
  constructor
  · rw [stchIn_storeLine, if_pos rfl, stchIn_setStchIn_self]
    rfl
  · intro q hq
    rw [stchIn_storeLine, if_neg hq, stchIn_setStchIn, if_neg hq]

section
variable {p : Fin 16} {l : Line} {rest : List Line} {b : Nat} {s : State} (hinq : (stchIn s p.val).inq = l :: rest) (hheld : rtpHeld s (p.val / 4) = false)
include hinq hheld

/-- R197, R200: in line mode the oldest line of an input with room in its ring is written at its index. -/
theorem exec_stchDelayWrite_line (hmode : areaMode (dictAt s s.stch.epoch) = false)
    (hroom : (stchIn s p.val).ring.length < dictN (dictAt s s.stch.epoch) (P.STCH_MD_DELAY p.val) + 2) (hb : b = (stchIn s p.val).base.getD l.stamp.globalLine) :
    exec (.stchDelayWrite p) s = .next (storeLine p.val ((l.stamp.globalLine + 2 ^ 48 - b) % 2 ^ 48) 0 l (setStchIn p.val { stchIn s p.val with base := some b } s)) := by
  have hfull : ringFull (dictAt s s.stch.epoch) p.val (stchIn s p.val) = false := by simp [ringFull, hroom]
  change execStchDelayWrite p s = _
  unfold execStchDelayWrite
  subst hb
  cases hbase : (stchIn s p.val).base <;>
    simp only [hinq, hheld, hfull, hmode, hbase, Bool.or_self, Bool.false_and, Bool.false_eq_true, if_false, Option.getD_some, Option.getD_none]

/-- R197, R211: in area mode the oldest row of an input is written at its frame, which begins the count where none had begun, unless that frame waits. -/
theorem exec_stchDelayWrite_row (hmode : areaMode (dictAt s s.stch.epoch) = true)
    (hb : (stchIn s p.val).base = some b ∨ ((stchIn s p.val).base = none ∧ hasFlag l.stamp.flags 13 = true ∧ b = l.stamp.frame))
    (hnear : tooFar s ((l.stamp.frame + 2 ^ 32 - b) % 2 ^ 32) = false) :
    exec (.stchDelayWrite p) s =
      .next (storeLine p.val ((l.stamp.frame + 2 ^ 32 - b) % 2 ^ 32) l.stamp.lineInFrame l (setStchIn p.val { stchIn s p.val with base := some b } s)) := by
  have hfull : ringFull (dictAt s s.stch.epoch) p.val (stchIn s p.val) = false := by simp [ringFull, hmode]
  change execStchDelayWrite p s = _
  unfold execStchDelayWrite
  rcases hb with hbase | ⟨hbase, hstart, rfl⟩
  · simp only [hinq, hheld, hfull, hmode, hbase, hnear, Bool.or_self, Bool.and_false, Bool.false_eq_true, if_false, if_true]
  · simp only [hinq, hheld, hfull, hmode, hbase, hstart, hnear, Bool.or_self, Bool.and_false, Bool.false_eq_true, if_false, if_true]

end

/-! ### A row that is lost (R8, R212) -/

/-- R212: of the rows that wait, `l` is the newest that is not yet lost. -/
theorem newestKept_append {as bs : List Line} {l : Line} (hl : hasFlag l.stamp.flags 0 = false) (hbs : ∀ m ∈ bs, hasFlag m.stamp.flags 0 = true) :
    firstIdx (fun k => decide (k < (as ++ l :: bs).length) && (((as ++ l :: bs).reverse[k]?).map (fun l => !hasFlag l.stamp.flags 0)).getD false) (as ++ l :: bs).length =
      some bs.length := by
  have hreverse : (as ++ l :: bs).reverse = bs.reverse ++ l :: as.reverse := by simp
  have hlength : bs.length < (as ++ l :: bs).length := by
    rw [List.length_append, List.length_cons]
    omega
  rw [firstIdx, List.find?_range_eq_some, hreverse]
  refine ⟨?newest, List.mem_range.mpr hlength, fun j hj => ?lost⟩
  case newest =>
    rw [List.getElem?_append_right (List.length_reverse (as := bs)).le, decide_eq_true hlength]
    simp [hl]
  case lost =>
    have hj' : j < bs.reverse.length := by rwa [List.length_reverse]
    have hlost := hbs _ (List.mem_reverse.mp (List.getElem_mem hj'))
    rw [List.getElem?_append_left hj', List.getElem?_eq_getElem hj', Option.map_some, Option.getD_some, hlost, Bool.not_true, Bool.and_false, Bool.not_false]

/-- R8, R212: the LOSS line that stands for row `l`. -/
def lostRow (fill : Nat) (l : Line) : Line :=
  { l with px := List.replicate l.px.length fill, stamp := { l.stamp with flags := setFlag l.stamp.flags 0, lineCheck := lineCheck (List.replicate l.px.length fill) } }

theorem exec_composeLate {p : Fin 16} {as bs : List Line} {l : Line} {b : Nat} {s : State} (hinq : (stchIn s p.val).inq = as ++ l :: bs)
    (hbase : (stchIn s p.val).base = some b) (hl : hasFlag l.stamp.flags 0 = false) (hbs : ∀ m ∈ bs, hasFlag m.stamp.flags 0 = true)
    (hfar : tooFar s ((l.stamp.frame + 2 ^ 32 - b) % 2 ^ 32) = true) (hmode : areaMode (dictAt s s.stch.epoch) = true) :
    exec (.composeLate p) s = .next (raiseOpen 329 (setStchIn p.val
      { stchIn s p.val with inq := as ++ lostRow (prmAtN s l.stamp.epoch (P.PORT_FILL_VALUE p.val)) l :: bs } { s with stch.rowsLost := s.stch.rowsLost + 1 })) := by
  have hplace : (as ++ l :: bs).length - 1 - bs.length = as.length := by simp
  have hrow : (as ++ l :: bs).getD as.length { stamp := {}, comps := 1, px := [] } = l := by simp [List.getD]
  have hset : ∀ m, (as ++ l :: bs).set as.length m = as ++ m :: bs := fun m => by simp
  change execComposeLate p s = _
  unfold execComposeLate
  simp only [hbase, hinq, newestKept_append hl hbs, hplace, hrow, hfar, hmode, hset, Bool.and_self, if_true, lostRow]

end Sys2Proof.Machine
end

section
/-! PROOFS. STITCHED_LINE and AREA_COMPOSITION (R198 to R211), and the way of their lines (R208, R213, R253). -/
namespace Sys2Proof.Machine
open Sys2Proof

/-! ### The row that is formed (R14, R206 to R208) -/

theorem hasFlag_setFlagIf {n j : Nat} (hj : j < n) (c : Bool) (f : BitVec n) (i : Nat) : hasFlag (setFlagIf c f i) j = (hasFlag f j || (c && decide (i = j))) := by
  cases c with
  | false => simp [setFlagIf]
  | true =>
    rw [setFlagIf, if_pos rfl, setFlag, hasFlag, BitVec.getLsbD_or, BitVec.getLsbD_ofNat, Nat.testBit_two_pow, decide_eq_true hj]
    rfl

/-- R14: the flags that a stitched line takes from the lines read and its reference line. -/
def takenFlags (parts : List PortPart) (ref : Stamp) : Word16 :=
  parts.foldl (fun f q => q.read.foldl (fun f r => f ||| (r.2.2.stamp.flags &&& orMask)) f) (ref.flags &&& refMask)

/-- R14: no flag outside the two masks is taken. -/
theorem takenFlags_unmasked {j : Nat} (hor : hasFlag orMask j = false) (href : hasFlag refMask j = false) (parts : List PortPart) (ref : Stamp) :
    hasFlag (takenFlags parts ref) j = false := by
  have hmasked : ∀ (f : Word16) {m : Word16}, hasFlag m j = false → hasFlag (f &&& m) j = false := by
    intro f m hm
    rw [hasFlag, BitVec.getLsbD_and, show m.getLsbD j = false from hm, Bool.and_false]
  have hunion : ∀ {f g : Word16}, hasFlag f j = false → hasFlag g j = false → hasFlag (f ||| g) j = false := by
    intro f g hf hg
    rw [hasFlag, BitVec.getLsbD_or, show f.getLsbD j = false from hf, show g.getLsbD j = false from hg, Bool.or_self]
  exact List.foldlRecOn (motive := fun f : Word16 => hasFlag f j = false) parts _ (hmasked _ href) fun _ hf q _ =>
    List.foldlRecOn (motive := fun f : Word16 => hasFlag f j = false) q.read _ hf fun _ hg _ _ => hunion hg (hmasked _ hor)

section
variable (d : Dict) (parts : List PortPart) (ref : Stamp) (epoch y row frame g : Nat) (fs fe bad : Bool)

theorem formRow_flags : ∃ gap lost, (formRow d parts ref epoch y row frame g fs fe bad).stamp.flags =
    setFlagIf gap (setFlagIf fe (setFlagIf fs (setFlagIf bad (setFlagIf lost (takenFlags parts ref) 0) 5) 13) 14) 15 := ⟨_, _, rfl⟩

/-- R15: FRAME_START. -/
theorem formRow_start : hasFlag (formRow d parts ref epoch y row frame g fs fe bad).stamp.flags 13 = fs := by
  obtain ⟨gap, lost, hflags⟩ := formRow_flags d parts ref epoch y row frame g fs fe bad
  have hnone : hasFlag (takenFlags parts ref) 13 = false := takenFlags_unmasked (by decide) (by decide) parts ref
  simp [hflags, hasFlag_setFlagIf, hnone]

/-- R15: FRAME_END. -/
theorem formRow_end : hasFlag (formRow d parts ref epoch y row frame g fs fe bad).stamp.flags 14 = fe := by
  obtain ⟨gap, lost, hflags⟩ := formRow_flags d parts ref epoch y row frame g fs fe bad
  have hnone : hasFlag (takenFlags parts ref) 14 = false := takenFlags_unmasked (by decide) (by decide) parts ref
  simp [hflags, hasFlag_setFlagIf, hnone]

theorem formRow_px : (formRow d parts ref epoch y row frame g fs fe bad).px = (List.range (dictN d P.STCH_OUT_WIDTH)).flatMap (fun x => (blend d parts x y).1) :=
  List.flatMap_map ..

theorem formRow_mask : (formRow d parts ref epoch y row frame g fs fe bad).mask = (List.range (dictN d P.STCH_OUT_WIDTH)).map (fun x => (blend d parts x y).2) :=
  List.map_map ..

end

/-! ### The way of a stitched line (R208, R213, R253) -/

theorem PixelsKept.segm {s t : State} (h : PixelsKept s t) : t.segm = s.segm := (congrArg State.segm h).trans rfl

theorem PixelsKept.recd {s t : State} (h : PixelsKept s t) : t.recd = s.recd := (congrArg State.recd h).trans rfl

/-- R213: the PREV product touches its row in progress and flows. -/
theorem previewRow_only (d : Dict) (l : Line) (s : State) : ∃ row fl, previewRow d l s = { s with stch.prevRow := row, netw.flows := fl } := by
  unfold previewRow
  extract_lets dx dy t n sums row src px src1 st src2
  split
  · split
    · exact ⟨s.stch.prevRow, s.netw.flows, rfl⟩
    · exact ⟨some row, s.netw.flows, rfl⟩
  · exact ⟨none, feed_only _ _⟩

theorem writeHistory_only (d : Dict) (l : Line) (s : State) : ∃ h, writeHistory d l s = { s with recd.hist := h } := by
  unfold writeHistory
  dsimp only
  split
  · exact ⟨_, rfl⟩
  · exact ⟨s.recd.hist, rfl⟩

/-- R253: the newest line of a history that holds any is the one just written. -/
theorem mem_writeHistory {d : Dict} (hon : dictVal d P.RECD_HIST_EN = 1) (hdepth : dictN d P.RECD_HIST_DEPTH ≠ 0) (l : Line) (s : State) :
    (s.stch.runNo, l) ∈ (writeHistory d l s).recd.hist := by
  unfold writeHistory
  extract_lets depth h
  rw [if_pos hon]
  have hlast : h.length - depth ≤ (s.recd.hist.filter (fun e => e.2.stamp.globalLine % depth != l.stamp.globalLine % depth)).length := by
    simp only [h, List.length_append, List.length_singleton]
    omega
  change _ ∈ h.drop (h.length - depth)
  rw [List.drop_append_of_le_length hlast]
  exact List.mem_append_right _ (List.mem_singleton_self _)

/-- R208: a stitched line is counted and has gone to SEGM and the line history. -/
structure Emitted (d : Dict) (l : Line) (s t : State) : Prop where
  stch : ∃ lost gaps row, t.stch = { s.stch with emitted := s.stch.emitted + 1, lost := lost, gaps := gaps, prevRow := row }
  segm : s.segm.run = true ∨ dictVal d P.SEGM_RUN = 1 → ∃ r, t.segm.inq = s.segm.inq ++ [(l, r)]
  hist : dictVal d P.RECD_HIST_EN = 1 → dictN d P.RECD_HIST_DEPTH ≠ 0 → (s.stch.runNo, l) ∈ t.recd.hist

/-- R208. The states of the model have their names below: `s3` has the products and the channels switched, `s4` is that of SEGM, `s5` that of PROF, `s6` that of
the line history; consumers of products follow. -/
theorem emitStitched_emitted (d : Dict) (l : Line) (profUps ups : List (Nat × Nat)) (s : State) : Emitted d l s (emitStitched d l profUps ups s) := by
  unfold emitStitched
  extract_lets t fs src s1 s2 s3 refs src1 s4 s5 s6 l2 body masked
  have hswitch : PixelsKept s1 s3 :=
    ((raiseIf_pixelsKept ..).trans (switchProfiles_pixelsKept ..)).trans (.forEach _ (fun _ _ => .ofFlows (switchFlows_only ..)) _)
  have hprof : PixelsKept s4 s5 := feedProfiles_pixelsKept ..
  obtain ⟨h, hhist⟩ : ∃ h, s6 = { s5 with recd.hist := h } := writeHistory_only d l s5
  have hfed : PixelsKept s6 (feedLine 7 t.globalLine (lineCheck l2.px == t.lineCheck) (lineItem (if areaMode d then 9 else 3) 0xFF l2 body masked) s6) :=
    feedLine_pixelsKept ..
  obtain ⟨row, fl, hpreview⟩ := previewRow_only d l2
    (feedLine 7 t.globalLine (lineCheck l2.px == t.lineCheck) (lineItem (if areaMode d then 9 else 3) 0xFF l2 body masked) s6)
  have hstch4 : s4.stch = s1.stch := by
    rw [← hswitch.stch]
    simp only [s4]
    split <;> rfl
  have hstch5 : s5.stch = s1.stch := hprof.stch.trans hstch4
  rw [hpreview]
  constructor
  case stch =>
    have hstch6 : s6.stch = s1.stch := by rw [hhist, ← hstch5]
    exact ⟨_, _, row, by rw [hfed.stch, hstch6]⟩
  case segm =>
    intro hruns
    have htakes : (s3.segm.run || dictVal d P.SEGM_RUN == 1 || !s3.segm.inq.isEmpty) = true := by
      rw [hswitch.segm]
      rcases hruns with hrun | hrun <;> simp [s1, hrun]
    have hsegm4 : s4.segm.inq = s3.segm.inq ++ [(l, refs)] := by simp only [s4, if_pos htakes]
    have hsegm6 : s6.segm = s5.segm := by rw [hhist]
    refine ⟨refs, ?_⟩
    rw [hfed.segm, hsegm6, hprof.segm, hsegm4, hswitch.segm]
  case hist =>
    intro hon hdepth
    have hmem : (s5.stch.runNo, l) ∈ s6.recd.hist := mem_writeHistory hon hdepth l s5
    rw [hfed.recd]
    rwa [hstch5] at hmem

/-- R207 to R211: the stitcher has taken the next numbers, at the end of its frame or not, with nothing given out yet. -/
structure Advances (fe : Bool) (s w : State) : Prop where
  next        : w.stch.next = s.stch.next + 1
  globalLine  : w.stch.globalLine = (s.stch.globalLine + 1) % 2 ^ 48
  lineInFrame : w.stch.lineInFrame = if fe then 0 else s.stch.lineInFrame + 1
  emitted     : w.stch.emitted = s.stch.emitted
  runNo       : w.stch.runNo = s.stch.runNo
  segm        : w.segm = s.segm

/-- R207 to R211: line `l` has left the stitcher. -/
structure LineLeaves (fe : Bool) (d : Dict) (l : Line) (s t : State) : Prop where
  next        : t.stch.next = s.stch.next + 1
  globalLine  : t.stch.globalLine = (s.stch.globalLine + 1) % 2 ^ 48
  lineInFrame : t.stch.lineInFrame = if fe then 0 else s.stch.lineInFrame + 1
  emitted     : t.stch.emitted = s.stch.emitted + 1
  segm        : s.segm.run = true ∨ dictVal d P.SEGM_RUN = 1 → ∃ r, t.segm.inq = [(l, r)]
  hist        : dictVal d P.RECD_HIST_EN = 1 → dictN d P.RECD_HIST_DEPTH ≠ 0 → (s.stch.runNo, l) ∈ t.recd.hist

theorem Advances.leaves {fe : Bool} {s w : State} (h : Advances fe s w) (hinq : s.segm.inq = []) (d : Dict) (l : Line) (profUps ups : List (Nat × Nat)) :
    LineLeaves fe d l s (emitStitched d l profUps ups w) := by
  obtain ⟨⟨lost, gaps, row, hstch⟩, hsegm, hhist⟩ := emitStitched_emitted d l profUps ups w
  constructor
  case next => rw [hstch]; exact h.next
  case globalLine => rw [hstch]; exact h.globalLine
  case lineInFrame => rw [hstch]; exact h.lineInFrame
  case emitted => rw [hstch, ← h.emitted]
  case segm => simpa only [h.segm, hinq, List.nil_append] using hsegm
  case hist => simpa only [h.runNo] using hhist

/-! ### The parts of a line (R198, R201, R404) -/

/-- Nothing differs but the inputs of the stitcher and its count of read-back errors. -/
def InputsOnly (s t : State) : Prop := t = { s with stch.ins := t.stch.ins, stch.readErrs := t.stch.readErrs }

namespace InputsOnly

theorem trans {a b c : State} (h : InputsOnly a b) (k : InputsOnly b c) : InputsOnly a c := by
  unfold InputsOnly at h k ⊢
  rw [k, h]

theorem forEach {α : Type} (xs : List α) {f : α → State → State} (h : ∀ a s, InputsOnly s (f a s)) (s : State) : InputsOnly s (Machine.forEach xs f s) :=
  forEach_rel (R := InputsOnly) (fun _ => rfl) trans xs f h s

variable {s t : State}

theorem asRead (h : InputsOnly s t) (d : Dict) : Machine.asRead t d = Machine.asRead s d := (congrArg (Machine.asRead · d) h).trans rfl

theorem segm (h : InputsOnly s t) : t.segm = s.segm := (congrArg State.segm h).trans rfl

theorem stch (h : InputsOnly s t) : ∃ ins errs, t.stch = { s.stch with ins := ins, readErrs := errs } := ⟨_, _, (congrArg State.stch h).trans rfl⟩

end InputsOnly

theorem markBad_only (errs : List (Nat × Nat)) (n : Nat) (d : Dict) (s : State) : InputsOnly s (markBad errs n d s) := by
  refine .forEach _ (fun e u => ?_) s
  dsimp only
  split <;> rfl

theorem upsetStored_only (ups : List (Nat × Nat × Nat × Nat)) (n : Nat) (d : Dict) (s : State) : InputsOnly s (upsetStored ups n d s) := by
  refine .forEach _ (fun e u => ?_) s
  rfl

/-- R201: the tile rows of the ports `errs` in row `y` of frame `f` have an uncorrectable read-back. -/
def markRows (errs : List Nat) (d : Dict) (f y : Nat) (s : State) : State :=
  forEach (errs.filter (fun p => (contributors d).contains p && (rowPart s d f y p).isSome)) (fun p s =>
    setStchIn p { stchIn s p with bad := (stchIn s p).bad ++ [(f, y - dictN d (P.STCH_TILE_Y p))] } { s with stch.readErrs := s.stch.readErrs + 1 }) s

theorem markRows_only (errs : List Nat) (d : Dict) (f y : Nat) (s : State) : InputsOnly s (markRows errs d f y s) := by
  refine .forEach _ (fun p u => ?_) s
  rfl

/-! ### The commands (R82, R198 to R211) -/

theorem passSwitch_noCinch {s : State} (h : s.sys.cinch = none) (i : Nat) : passSwitch i s = s := by
  unfold passSwitch
  rw [h]

theorem stitchEpoch_noCinch {s : State} (h : s.sys.cinch = none) (e : Nat) (fs : Bool) : stitchEpoch s e fs = s.stch.epoch := by
  unfold stitchEpoch
  rw [h]

theorem stitchEnded_noCinch {s : State} (h : s.sys.cinch = none) (has : Nat → Bool) : stitchEnded s has = false := by
  simp only [stitchEnded, h, Bool.false_and]

/-- R249: SEGM has taken every line where it does not hold the stream. -/
theorem segmInq_of_not_streamHeld {s : State} {d : Dict} (h : streamHeld s d = false) : s.segm.inq = [] := by
  simp only [streamHeld, Bool.or_eq_false_iff, Bool.not_eq_false', List.isEmpty_iff] at h
  obtain ⟨⟨⟨⟨hinq, _⟩, _⟩, _⟩, _⟩ := h
  exact hinq

section
variable {d : Dict} {s : State} (hd : d = dictAt s s.stch.epoch) (hcinch : s.sys.cinch = none) (hrun : s.stch.run = true) (hpath : dataPathHeld s = false)
  (hbeat : waitsStitched s s.stch.globalLine = false) (hheld : streamHeld s d = false) (hports : contributors d ≠ []) (hout : dictVal d P.STCH_OUT_RUN ≠ 0)
include hd hcinch hrun hpath hbeat hheld hports hout

/-- R198 to R209: the next stitched line is formed of its parts and leaves. -/
theorem exec_stitchedLine {errs : List (Nat × Nat)} {ups : LineUpset (Nat × Nat × Nat × Nat)} {v : State} {parts : List PortPart} (hmode : areaMode d = false)
    (hthere : ∀ p ∈ contributors d, (linePart s d s.stch.next p).isSome = true) (hv : v = upsetStored ups.entry s.stch.next d (markBad errs s.stch.next d s))
    (hparts : parts = ((contributors d).filterMap (linePart v d s.stch.next)).map (testedPart v)) :
    ∃ ref fe bad t, exec (.stitchedLine errs ups) s = .next t ∧ LineLeaves fe d (formRow (asRead s d) parts ref s.stch.epoch 0 s.stch.lineInFrame s.stch.frame
      s.stch.globalLine (s.stch.lineInFrame == 0) fe bad) s t := by
  have hgo : ¬ (!s.stch.run || areaMode d || dataPathHeld s || waitsStitched s s.stch.globalLine || streamHeld s d) = true := by
    simp [hrun, hmode, hpath, hbeat, hheld]
  have hall : ¬ ((contributors d).isEmpty || (contributors d).any (fun p => (linePart s d s.stch.next p).isNone)) = true := by
    simpa [hports, Option.isSome_iff_ne_none] using hthere
  have hmarked : InputsOnly s v := hv ▸ (markBad_only ..).trans (upsetStored_only ..)
  obtain ⟨ins, readErrs, hstch⟩ := hmarked.stch
  change ∃ ref fe bad t, execStitchedLine errs ups s = _ ∧ _
  generalize hr : execStitchedLine errs ups s = r
  unfold execStitchedLine at hr
  extract_lets d0 n ports p ref fs e d1 s1 s2 parts2 fails src s3 coefs anyBad len fe l src2 s4 at hr
  obtain rfl : d = d0 := hd
  have he : e = s.stch.epoch := stitchEpoch_noCinch hcinch ..
  have hd1 : d1 = d0 := congrArg (dictAt s) he
  have hs1 : s1 = s := by simp only [s1, passSwitch_noCinch hcinch, ite_self]
  rw [if_neg hgo, stitchEnded_noCinch hcinch, if_neg Bool.false_ne_true, if_neg hall, hd1, if_neg hout] at hr
  have hs2 : s2 = v := by simp only [s2, hs1, hd1, hv, n]
  have hparts2 : parts2 = parts := by simp only [parts2, hs2, hd1, hparts, n, ports]
  have hstch3 : s3.stch = v.stch := hs2 ▸ rfl
  have hread : asRead s3 d0 = asRead s d0 := (congrArg (asRead · d0) hs2 : asRead s2 d0 = asRead v d0).trans (hmarked.asRead d0)
  have hl : l = formRow (asRead s d0) parts ref s.stch.epoch 0 s.stch.lineInFrame s.stch.frame s.stch.globalLine (s.stch.lineInFrame == 0) fe (fails || anyBad || coefs) := by
    simp only [l, hd1, he, hparts2, hread, hstch3, hstch, fs]
  have hadvances : Advances fe s s4 := by
    constructor
    case next => rfl
    case segm => exact (congrArg State.segm hs2).trans hmarked.segm
    all_goals simp only [s4, src2, hstch3, hstch]
  refine ⟨ref, fe, fails || anyBad || coefs, _, hr.symm, ?_⟩
  rw [← hl]
  exact hadvances.leaves (segmInq_of_not_streamHeld hheld) ..

/-- R210, R211: the next row of a frame that every contributing port has delivered is composed and leaves. -/
theorem exec_areaComposition {errs : List Nat} {ups : LineUpset (Nat × Nat × Nat)} {v : State} {parts : List PortPart} (hmode : areaMode d = true)
    (hended : ∀ p ∈ contributors d, (stchIn s p).ended.contains s.stch.frame = true) (hv : v = markRows errs d s.stch.frame s.stch.lineInFrame s)
    (hparts : parts = ((contributors d).filterMap (rowPart v d s.stch.frame s.stch.lineInFrame)).map (fun q => testedPart v (upsetPart ups.entry q))) :
    ∃ ref bad t, exec (.areaComposition errs ups) s = .next t ∧ LineLeaves (s.stch.lineInFrame + 1 == dictN d P.STCH_OUT_HEIGHT) d
      (formRow d parts ref s.stch.epoch s.stch.lineInFrame s.stch.lineInFrame s.stch.frame s.stch.globalLine (s.stch.lineInFrame == 0)
        (s.stch.lineInFrame + 1 == dictN d P.STCH_OUT_HEIGHT) bad) s t := by
  have hgo : ¬ (!s.stch.run || !areaMode d || dataPathHeld s || waitsStitched s s.stch.globalLine || streamHeld s d) = true := by
    simp [hrun, hmode, hpath, hbeat, hheld]
  have hall : ¬ ((contributors d).isEmpty || (contributors d).any (fun p => !(stchIn s p).ended.contains s.stch.frame)) = true := by
    simpa [hports] using hended
  have hmarked : InputsOnly s v := hv ▸ markRows_only ..
  obtain ⟨ins, readErrs, hstch⟩ := hmarked.stch
  change ∃ ref bad t, execAreaComposition errs ups s = _ ∧ _
  generalize hr : execAreaComposition errs ups s = r
  unfold execAreaComposition at hr
  extract_lets d0 f y ports ref e d1 s1 s2 parts2 fails anyBad fe l drop src src2 s3 at hr
  obtain rfl : d = d0 := hd
  have he : e = s.stch.epoch := by simp only [e, stitchEpoch_noCinch hcinch, ite_self]
  have hd1 : d1 = d0 := congrArg (dictAt s) he
  have hs1 : s1 = s := by simp only [s1, passSwitch_noCinch hcinch, ite_self]
  rw [if_neg hgo, stitchEnded_noCinch hcinch, if_neg Bool.false_ne_true, if_neg hall, hd1, if_neg hout] at hr
  have hs2 : s2 = v := by simp only [s2, hs1, hd1, hv, markRows, f, y, ports]
  have hparts2 : parts2 = parts := by simp only [parts2, hs2, hd1, hparts, f, y, ports]
  have hfe : fe = (s.stch.lineInFrame + 1 == dictN d0 P.STCH_OUT_HEIGHT) := by simp only [fe, y, hd1]
  have hl : l = formRow d0 parts ref s.stch.epoch s.stch.lineInFrame s.stch.lineInFrame s.stch.frame s.stch.globalLine (s.stch.lineInFrame == 0) fe
      (decide (0 < fails) || anyBad) := by
    simp only [l, hd1, he, hparts2, hs2, hstch, f, y]
  have hadvances : Advances fe s s3 := by
    constructor
    case lineInFrame => rfl
    case segm => exact (congrArg State.segm hs2).trans hmarked.segm
    all_goals simp only [s3, src, hs2, hstch]
  refine ⟨ref, decide (0 < fails) || anyBad, _, hr.symm, ?_⟩
  rw [← hfe, ← hl]
  exact hadvances.leaves (segmInq_of_not_streamHeld hheld) ..

end

/-- Settles O44: a written line by `stchIn_storeLine`, a stitched line or composed row by what its formation gives and what its leaving changes. -/
theorem stitchCommands : Obligations.StitchCommands := by
  unfold Obligations.StitchCommands
  refine ⟨?line, ?row, ?stitched, ?composed, ?late⟩
  case line =>
    rintro p l rest _ _ b _ s rfl hinq rfl hmode hheld hroom hb rfl
    have hread : isRead (dictAt s s.stch.epoch) p.val ((l.stamp.globalLine + 2 ^ 48 - b) % 2 ^ 48) =
        decide (dMax (dictAt s s.stch.epoch) - dictN (dictAt s s.stch.epoch) (P.STCH_MD_DELAY p.val) - 1 ≤ (l.stamp.globalLine + 2 ^ 48 - b) % 2 ^ 48) := by
      rw [isRead, hmode, Bool.false_or]
    obtain ⟨hself, hothers⟩ := stchIn_storeCounted p.val ((l.stamp.globalLine + 2 ^ 48 - b) % 2 ^ 48) 0 l b s
    refine ⟨_, exec_stchDelayWrite_line hinq hheld hmode hroom hb, ?inq, ?base, ?ring, ?discarded, hothers⟩
    case inq => rw [hself, written, hinq]; rfl
    case base => rw [hself, written]
    case ring => simp only [hself, written, hread, decide_eq_true_eq]
    case discarded =>
      refine (discarded_storeLine ..).trans (congrArg (s.stch.discarded + b2n ·) ((congrArg (!·) hread).trans ?_))
      rw [← decide_not, decide_eq_decide, Nat.not_le]
  case row =>
    rintro p l rest _ _ b _ s rfl hinq rfl hmode hheld hb rfl hnear
    have hread : isRead (dictAt s s.stch.epoch) p.val ((l.stamp.frame + 2 ^ 32 - b) % 2 ^ 32) = true := by rw [isRead, hmode, Bool.true_or]
    obtain ⟨hself, hothers⟩ := stchIn_storeCounted p.val ((l.stamp.frame + 2 ^ 32 - b) % 2 ^ 32) l.stamp.lineInFrame l b s
    refine ⟨_, exec_stchDelayWrite_row hinq hheld hmode hb hnear, ?inq, ?base, ?ring, ?ended, hothers⟩
    case inq => rw [hself, written, hinq]; rfl
    case base => rw [hself, written]
    case ring => simp only [hself, written, hread, if_true]
    case ended => simp only [hself, written, hmode, Bool.true_and]
  case stitched =>
    rintro errs ups _ d parts s v hd rfl hcinch hrun hmode hpath hbeat hheld hports hthere hout hv hparts
    obtain ⟨ref, fe, bad, t, hexec, hleaves⟩ := exec_stitchedLine (ups := ups) hd hcinch hrun hpath hbeat hheld hports hout hmode hthere hv hparts
    exact ⟨t, _, hexec, formRow_px .., formRow_mask .., rfl, rfl, rfl, rfl, rfl, formRow_start .., hleaves.next, hleaves.globalLine, hleaves.emitted, hleaves.segm, hleaves.hist⟩
  case composed =>
    rintro errs ups _ _ d parts s v hd rfl rfl hcinch hrun hmode hpath hbeat hheld hports hended hout hv hparts
    obtain ⟨ref, bad, t, hexec, hleaves⟩ := exec_areaComposition (ups := ups) hd hcinch hrun hpath hbeat hheld hports hout hmode hended hv hparts
    refine ⟨t, _, hexec, formRow_px .., rfl, rfl, rfl, rfl, formRow_start .., formRow_end .., hleaves.emitted, hleaves.globalLine, ?_, hleaves.segm⟩
    simpa only [beq_iff_eq] using hleaves.lineInFrame
  case late =>
    rintro p as bs l b _ s hinq hbase hl hbs hfar hmode rfl
    exact ⟨_, exec_composeLate hinq hbase hl hbs hfar hmode, congrArg StchIn.inq (stchIn_setStchIn_self ..), rfl, _, rfl⟩

end Sys2Proof.Machine
end

section
/-! PROOFS. SEGM_LINE (R233 to R246): what a line leaves and counts. -/
namespace Sys2Proof.Machine
open Sys2Proof

/-! ### What precedes the classes of a line (R234, R246, R396, R420) -/

theorem chkStage_slots (unit g : Nat) (s : State) : (chkStage unit g s).evnt.slots = s.evnt.slots := by
  have hlog : ∀ {u t : State}, LogOnly u t → t.evnt.slots = u.evnt.slots := by
    rintro u _ ⟨_, _, _, _, _, _, rfl⟩
    rfl
  have hcounted : ∀ x, (if unit = 8 then { s with chk.prof := x } else if unit = 9 then { s with chk.segm := x } else { s with chk.former := x }).evnt.slots =
      s.evnt.slots := by
    intro x
    split
    · rfl
    · split <;> rfl
  unfold chkStage
  dsimp only
  split
  · exact (hlog (logDeviceN_only ..)).trans (hcounted _)
  · exact hcounted _

theorem verifyLine_slots (unit : Nat) (t : Stamp) (px : List Nat) (s : State) : (verifyLine unit t px s).evnt.slots = s.evnt.slots := by
  unfold verifyLine
  split
  · rfl
  · exact chkStage_slots ..

/-- R420: where no event waits, none acts. -/
theorem beginLine_none {s : State} {i : Nat} (h : (latchSlot s i).pending = []) (g : Nat) : (beginLine i g s).1 = [] := by
  simp [beginLine, h]

/-- Nothing differs but open objects and the free values taken. -/
def ObjsOnly (s t : State) : Prop := t = { s with freeCtr := t.freeCtr, segm.objs := t.segm.objs }

theorem ObjsOnly.trans {a b c : State} (h : ObjsOnly a b) (k : ObjsOnly b c) : ObjsOnly a c := by
  unfold ObjsOnly at h k ⊢
  rw [k, h]

theorem spoilObjs_only (ecc : List (Nat × Fin 26)) (s : State) : ObjsOnly s (spoilObjs ecc s) := by
  refine forEach_rel (R := ObjsOnly) (fun _ => rfl) .trans _ _ (fun _ _ => ?_) s
  rfl

/-- R246: errors in the memory of objects open none. -/
theorem spoilObjs_nil (ecc : List (Nat × Fin 26)) {s : State} (h : s.segm.objs = []) : (spoilObjs ecc s).segm.objs = [] :=
  List.foldlRecOn (motive := fun u : State => u.segm.objs = []) ecc _ h fun _ hu _ _ => List.map_eq_nil_iff.mpr hu

/-! ### The counts of lines and of pixels by class (R234, R250) -/

/-- R250: LINES and the member pixels by class. -/
def SegmCounts.pixels (c : SegmCounts) : Nat × Nat × Nat × Nat := (c.lines, c.dark, c.bright, c.sat)

theorem cutDue_pixels (t : Stamp) (nums : List Nat) (w : SegWork) : (cutDue t nums w).1.counts.pixels = w.counts.pixels := by
  refine List.foldlRecOn (motive := fun acc : SegWork × List Nat => acc.1.counts.pixels = w.counts.pixels) nums _ rfl fun acc h k _ => ?_
  dsimp only
  split
  · split <;> exact h
  · exact h

theorem overflowRun_pixels (d : Dict) (t : Stamp) (r : Run) (w : SegWork) : (overflowRun d t r w).counts.pixels = w.counts.pixels := by
  unfold overflowRun
  extract_lets g
  split
  case h_1 o _ =>
    have hcut := cutDue_pixels t [o.num] w
    generalize cutDue t [o.num] w = cut at hcut ⊢
    obtain ⟨v, ids⟩ := cut
    dsimp only at hcut ⊢
    split
    · split <;> exact hcut
    · exact hcut
  case h_2 => rfl

/-- R239: the treatment of a run counts no pixel. -/
theorem treatRun_pixels (d : Dict) (t : Stamp) (w : SegWork) (r : Run) : (treatRun d t w r).counts.pixels = w.counts.pixels := by
  unfold treatRun
  extract_lets c0 w1 c1 found
  split
  · exact overflowRun_pixels ..
  · have hcut := cutDue_pixels t found w1
    generalize cutDue t found w1 = cut at hcut ⊢
    obtain ⟨v, ids⟩ := cut
    dsimp only at hcut ⊢
    split
    · split
      · exact (overflowRun_pixels ..).trans hcut
      · exact hcut
    · split <;> exact hcut

theorem treatRuns_pixels (d : Dict) (t : Stamp) (rs : List Run) (w : SegWork) : (rs.foldl (treatRun d t) w).counts.pixels = w.counts.pixels :=
  List.foldlRecOn (motive := fun v : SegWork => v.counts.pixels = w.counts.pixels) rs _ rfl fun _ h r _ => (treatRun_pixels d t _ r).trans h

/-! ### Runs of a line (R236, R237) -/

/-- R236: a line without a member pixel has no run. -/
theorem lineRuns_nil {pix : List PixClass} (h : ∀ p ∈ pix, p.cls = 0) (d : Dict) (mask : List Bool) : lineRuns d mask pix = [] := by
  have hnone : ∀ {q : PixClass → Bool}, (∀ p, p.cls = 0 → q p = false) → pix.filter q = [] :=
    fun hq => List.filter_eq_nil_iff.mpr fun p hp => by simp [hq p (h p hp)]
  unfold lineRuns
  extract_lets gx all
  split
  · rw [hnone fun p hp => by simp [hp]]
    rfl
  · have hall : all = [] := by
      simp only [all, List.flatMap_eq_nil_iff]
      intro k hk
      rw [hnone fun p hp => ?_]
      · rfl
      · have : k ≠ 0 := by rintro rfl; simp at hk
        simpa [hp] using this.symm
    rw [hall]
    rfl

/-! ### The end of a line (R245) -/

theorem raiseAll_only (es : List (Nat × Nat)) (s : State) : ∃ es', forEach es (fun e u => raise e.1 e.2 u) s = { s with evnt.inflight := es' } := by
  refine forEach_rel (R := fun a b : State => ∃ es', b = { a with evnt.inflight := es' }) (fun a => ⟨a.evnt.inflight, rfl⟩) ?_ es _ (fun _ _ => ⟨_, rfl⟩) s
  rintro a _ _ ⟨_, rfl⟩ ⟨es', rfl⟩
  exact ⟨es', rfl⟩

/-- R245: the end of a line sets what SEGM works on, hands over objects and raises events. -/
theorem endLine_only (d : Dict) (t : Stamp) (rowZero : Nat) (lineLoss : Bool) (closes : Obj → Option Word16) (w : SegWork) (s : State) :
    ∃ left outs c es, endLine d t rowZero lineLoss closes w s =
        { s with segm.objs := left, segm.next := w.next, segm.counts := c, recd.inq := s.recd.inq ++ outs, evnt.inflight := es } ∧
      c.pixels = w.counts.pixels ∧ (w.objs = [] → w.cuts = [] → left = [] ∧ outs = []) := by
  unfold endLine
  extract_lets bump objs shut left maxLen left2 minArea go outs fe outs2 c c2 src1 src2 s1 src3
  obtain ⟨es, hes⟩ := raiseAll_only w.events s1
  refine ⟨left2, outs2, c2, es, hes, rfl, fun hobjs hcuts => ?_⟩
  simp [left2, left, outs2, outs, go, shut, objs, hobjs, hcuts]

/-! ### The command -/

/-- R234: the state from which a line has left the queue, `refs` being the sets that came with it. -/
def lineTaken (d : Dict) (refs : Option (List RefSet)) (rest : List (Line × Option (List RefSet))) (s : State) : State :=
  { s with segm.inq := rest, segm.refs := keepRefs d (refs.getD s.segm.refs) }

/-- R234, R246, R396, R420: the state in which line `l` is classed, `u` being the state from which it has left the queue. -/
def lineBegun (ecc : List (Nat × Fin 26)) (ups : List (Nat × Nat)) (l : Line) (u : State) : State :=
  spoilObjs ecc (beginLine 16 l.stamp.globalLine (verifyLine 9 l.stamp (upsetPx ups l.px) u)).2

theorem lineBegun_kept (ecc : List (Nat × Fin 26)) (ups : List (Nat × Nat)) (l : Line) (u : State) :
    (lineBegun ecc ups l u).recd = u.recd ∧ ∃ objs, (lineBegun ecc ups l u).segm = { u.segm with objs := objs } ∧ (u.segm.objs = [] → objs = []) := by
  have hkept : PixelsKept u (beginLine 16 l.stamp.globalLine (verifyLine 9 l.stamp (upsetPx ups l.px) u)).2 := (verifyLine_pixelsKept ..).trans (beginLine_pixelsKept ..)
  have hspoil : ObjsOnly _ (lineBegun ecc ups l u) := spoilObjs_only ecc _
  refine ⟨(congrArg State.recd hspoil).trans hkept.recd, (lineBegun ecc ups l u).segm.objs, (congrArg State.segm hspoil).trans ?_, fun h => spoilObjs_nil ecc ?_⟩
  · rw [hkept.segm]
  · rw [hkept.segm, h]

/-- R234, R236 to R244: what a line works on, its pixels counted and its runs treated, from the state in which it is classed. -/
def lineWork (d : Dict) (l : Line) (pix : List PixClass) (u : State) : SegWork :=
  let cnt := fun k => (pix.filter (fun p => p.cls == k)).length
  let c := u.segm.counts
  let c := { c with lines := c.lines + 1, dark := c.dark + cnt 1, bright := c.bright + cnt 2, sat := c.sat + cnt 3,
                    noref := c.noref + (pix.filter (fun p => p.cls != 0 && p.noref)).length }
  let work := (lineRuns d l.mask pix).foldl (treatRun d l.stamp)
    { objs := u.segm.objs, next := u.segm.next, ctx := (u.segm.objs.filter (fun o => o.region.isNone)).length, store := (u.segm.objs.map Obj.held).sum, counts := c }
  { work with counts.high := max work.counts.high work.ctx }

theorem lineWork_pixels (d : Dict) (l : Line) (pix : List PixClass) (u : State) : (lineWork d l pix u).counts.pixels =
    (u.segm.counts.lines + 1, u.segm.counts.dark + (pix.filter (fun p => p.cls == 1)).length,
      u.segm.counts.bright + (pix.filter (fun p => p.cls == 2)).length, u.segm.counts.sat + (pix.filter (fun p => p.cls == 3)).length) :=
  (treatRuns_pixels ..).trans rfl

/-- R236, R240: a line without a member pixel opens and cuts no object. -/
theorem lineWork_empty {pix : List PixClass} (h : ∀ p ∈ pix, p.cls = 0) (d : Dict) (l : Line) (u : State) :
    (lineWork d l pix u).objs = u.segm.objs ∧ (lineWork d l pix u).cuts = [] ∧ (lineWork d l pix u).next = u.segm.next := by
  simp [lineWork, lineRuns_nil h]

section
variable {s : State} {l : Line} {refs : Option (List RefSet)} {rest : List (Line × Option (List RefSet))} {d : Dict} {pix : List PixClass} (ecc : List (Nat × Fin 26))
  {ups : List (Nat × Nat)} (hinq : s.segm.inq = (l, refs) :: rest) (hd : d = dictAt s l.stamp.epoch) (hpath : dataPathHeld s = false)
  (hbeat : waitsHeartbeat s 16 l.stamp.globalLine = false) (hrun : s.segm.run = true) (hstop : s.segm.stopping = false) (hon : dictVal d P.SEGM_RUN = 1)
  (hforced : forcedOut s 9 0 = false) (hslot : (latchSlot s 16).pending = [])
  (hpix : pix = (List.range (dictN d P.STCH_OUT_WIDTH)).map (fun x => classPix d (compRefs d (keepRefs d (refs.getD s.segm.refs))) s.segm.skip
    ((l.mask[x]?).getD false) x (at0 (upsetPx ups l.px) (x * l.comps + dictN d P.SEGM_COMP))))
include hinq hd hpath hbeat hrun hstop hon hforced hslot hpix

/-- R233 to R246: a line that nothing holds is classed and treated. The states of the model have their names below: `s1` has the line taken from the queue, `s3`
its check verified, `s4` the events of the line begun, `s5` the errors of objects, `s6` the stamp of the line, `s7` its end. -/
theorem exec_segmLine : ∃ u rowZero lineLoss closes, u = lineBegun ecc ups l (lineTaken d refs rest s) ∧
    exec (.segmLine ecc ups) s = .next (endLine d l.stamp rowZero lineLoss closes (lineWork d l pix u)
      { u with segm.skip := s.segm.skip, segm.rowZero := rowZero, segm.lastLine := some l.stamp, segm.epoch := l.stamp.epoch }) := by
  change ∃ u rowZero lineLoss closes, _ ∧ execSegmLine ecc ups s = _
  generalize hr : execSegmLine ecc ups s = r
  unfold execSegmLine at hr
  split at hr
  case h_1 hnil => exact nomatch hnil.symm.trans hinq
  case h_2 l' refs' rest' hcons =>
  obtain ⟨⟨rfl, rfl⟩, rfl⟩ : (l = l' ∧ refs = refs') ∧ rest = rest' := by simpa [hcons] using hinq.symm
  extract_lets t n d0 src1 s1 s2 px s3 out t2 l2 w comp frameEnds at hr
  obtain rfl : d = d0 := hd
  have hs2 : s2 = s1 := by simp only [s2, if_pos hon, if_pos hrun, s1, src1]
  have hs3 : PixelsKept s1 s3 := hs2 ▸ verifyLine_pixelsKept 9 t px s2
  have hout : out = false := (congrArg (forcedOut · 9 0) hs3).trans hforced
  have ht2 : t2 = l.stamp := by simp only [t2, hout]; rfl
  have hl2 : l2 = l := by simp only [l2, hout]; rfl
  have hlatch : (latchSlot s3 16).pending = [] := by
    simp only [latchSlot, s3, verifyLine_slots, hs2]
    exact hslot
  have hnone : (beginLine 16 n s3).1 = [] := beginLine_none hlatch n
  have hbegun : lineBegun ecc ups l s1 = spoilObjs ecc (beginLine 16 n s3).2 := by simp only [lineBegun, s3, hs2, n, t, px]
  have hkept : (beginLine 16 n s3).2.segm = s1.segm := (hs3.trans (beginLine_pixelsKept ..)).segm
  rw [if_neg (by simp [hpath, n, t, hbeat]), hs2, if_neg (by simp [s1, src1, hrun])] at hr
  generalize beginLine 16 n s3 = b at hr hnone hbegun hkept
  obtain ⟨kinds, s4⟩ := b
  obtain rfl : kinds = [] := hnone
  dsimp -zeta only at hr hbegun hkept
  extract_lets skip force refs2 s5 rowZero pix2 cnt c c2 ctx work src2 src3 work2 closes src4 s6 s7 at hr
  have hs1 : lineTaken d0 refs rest s = s1 := rfl
  have hskip : skip = s.segm.skip := by simp [skip, hkept, s1, src1]
  have hpix2 : pix2 = pix := by simp only [pix2, refs2, hskip, hl2, hkept, hpix, s1, px, w, comp]
  have hs7 : s7 = endLine d0 l.stamp rowZero (hasFlag t2.flags 0) closes (lineWork d0 l pix s5)
      { s5 with segm.skip := s.segm.skip, segm.rowZero := rowZero, segm.lastLine := some l.stamp, segm.epoch := l.stamp.epoch } := by
    simp only [s7, s6, src4, ht2, hskip, work2, src3, src2, work, ctx, c2, c, cnt, hpix2, hl2, lineWork]
  obtain ⟨left, outs, cs, es, hend, -⟩ := endLine_only d0 t2 rowZero (hasFlag t2.flags 0) closes work2 s6
  have hstop7 : s7.segm.stopping = false := by
    obtain ⟨-, objs, hsegm, -⟩ := lineBegun_kept ecc ups l s1
    simp only [s7, hend, s6, src4, s5, ← hbegun, hsegm]
    exact hstop
  rw [hstop7, Bool.false_and, if_neg Bool.false_ne_true, hs7] at hr
  exact ⟨s5, rowZero, _, closes, by rw [hs1, hbegun], hr.symm⟩

end

end Sys2Proof.Machine
end

section
/-! PROOFS. RECORD_FORMED (R255 to R268): how a record is counted, and its way to the queue of records. -/
namespace Sys2Proof.Machine
open Sys2Proof

/-! ### The bytes of a record and the words of a queue (R3, R49, R256, R381) -/

@[simp] theorem length_leBytes (n v : Nat) : (leBytes n v).length = n := by
  induction n generalizing v with
  | zero => rfl
  | succ n ih => rw [leBytes, List.length_cons, ih]

/-- R256: a record has 128 bytes. -/
theorem length_recordBytes (d : Dict) (k : ClosedObj) (v : Verdict) (trunc big : Bool) : (recordBytes d k v trunc big).length = 128 := by
  unfold recordBytes
  extract_lets o mark flags
  clear_value mark flags
  simp only [List.length_append, length_leBytes]

theorem length_wordsOf (bs : List Byte) : (wordsOf bs).length = (bs.length + 7) / 8 := by
  simp [wordsOf]

theorem unitPush_fits {q : Nat} {vals : List Nat} {s : State} (h : (queue s q).words.length + vals.length ≤ queueSize s q) :
    unitPush q vals s = (true, queueAppend q (vals.mapIdx (fun i v => ⟨v, i + 1 == vals.length, false⟩)) s) := by
  simp only [unitPush, if_neg (Nat.not_lt.mpr h)]

theorem queue_readyCheck (q old : Nat) (s : State) (k : Nat) : queue (readyCheck q old s) k = queue s k := by
  unfold readyCheck
  dsimp only
  split <;> rfl

/-- R381: a packet that fits stands behind the words that were there. -/
theorem unitPush_words {q : Nat} {vals : List Nat} {s : State} (h : (queue s q).words.length + vals.length ≤ queueSize s q) :
    (queue (unitPush q vals s).2 q).words.map QWord.val = (queue s q).words.map QWord.val ++ vals := by
  have hvals : (vals.mapIdx (fun i v => (⟨v, i + 1 == vals.length, false⟩ : QWord))).map QWord.val = vals :=
    List.ext_getElem (by simp) fun i _ _ => by simp
  rw [unitPush_fits h, queueAppend, queue_readyCheck, queue_setQueue_self, List.map_append, hvals]

/-! ### What the steps of a record leave (R260, R264, R266, R269) -/

/-- R260, R264, R269: the objects to come, the patches asked for, and the counts of records by verdict. -/
def Recd.taken (r : Recd) : List ClosedObj × List PatchReq × Nat × Nat × Nat × Nat :=
  (r.inq, r.patches, r.counts.formed, r.counts.emitted, r.counts.suppressed, r.counts.noRule)

/-- Neither records taken nor queues nor parameters differ. -/
structure RecordKept (s t : State) : Prop where
  taken   : t.recd.taken = s.recd.taken
  qdma    : t.qdma = s.qdma
  applied : t.sys.applied = s.sys.applied

namespace RecordKept

variable {a b c s t : State}

theorem refl (s : State) : RecordKept s s := ⟨rfl, rfl, rfl⟩

theorem trans (h : RecordKept a b) (k : RecordKept b c) : RecordKept a c :=
  ⟨k.taken.trans h.taken, k.qdma.trans h.qdma, k.applied.trans h.applied⟩

theorem ofFeeds (h : FeedsOnly s t) : RecordKept s t :=
  ⟨(congrArg (·.recd.taken) h).trans rfl, (congrArg State.qdma h).trans rfl, (congrArg (·.sys.applied) h).trans rfl⟩

theorem ofFlows : FlowsOnly s t → RecordKept s t := by
  rintro ⟨_, rfl⟩
  exact ⟨rfl, rfl, rfl⟩

theorem queue (h : RecordKept s t) (q : Nat) : Machine.queue t q = Machine.queue s q :=
  congrArg (fun x : Qdma => Map.get ({} : Queue) x.queues q) h.qdma

theorem prmN (h : RecordKept s t) (id : Nat) : Machine.prmN t id = Machine.prmN s id := congrArg (fun x => (dictVal x id).toNat) h.applied

end RecordKept

/-- R154, R156: an insertion reaches what the steps of an axis reach. -/
theorem insertPc_feedsOnly (n : Nat) (e : PcEntry) (s : State) : FeedsOnly s (insertPc n e s).2 := by
  simp only [insertPc, apply_ite Prod.snd]
  exact .ite (setPc_feedsOnly ..) (.ite (.ite ((setPc_feedsOnly ..).trans (firePc_feedsOnly ..)) ((setPc_feedsOnly ..).trans (raise_feedsOnly ..)))
    (.ite ((setPc_feedsOnly ..).trans (raise_feedsOnly ..)) (setPc_feedsOnly ..)))

theorem insertMarker_kept (d : Dict) (o : Obj) (k : Nat) (s : State) : RecordKept s (insertMarker d o k s) := by
  have hcounts : ∀ (u : State) (a b c e : Nat), RecordKept u { u with recd.counts := { u.recd.counts with marked := a, missed := b, late := c, refused := e } } :=
    fun _ _ _ _ _ => ⟨rfl, rfl, rfl⟩
  exact ((RecordKept.ofFeeds (insertPc_feedsOnly ..)).trans (hcounts ..)).trans (.ofFeeds (raiseIf_feedsOnly ..))

/-- R263, R267: the stop of RECD touches neither what it took nor queues. -/
theorem stopRecdIfDone_kept (s : State) : (stopRecdIfDone s).recd.taken = s.recd.taken ∧ (stopRecdIfDone s).qdma = s.qdma := by
  have happlied : ∀ u : State, (applyRecd u).recd = u.recd ∧ (applyRecd u).qdma = u.qdma := by
    intro u
    unfold applyRecd
    split <;> exact ⟨rfl, rfl⟩
  unfold stopRecdIfDone
  split
  · obtain ⟨hrecd, hqdma⟩ := happlied { s with recd.run := false, recd.stopping := false }
    have hclosed := RecordKept.ofFlows (closeProduct_only 5 0xFF (applyRecd { s with recd.run := false, recd.stopping := false }))
    refine ⟨hclosed.taken.trans ?_, hclosed.qdma.trans hqdma⟩
    rw [hrecd]
    rfl
  · exact ⟨rfl, rfl⟩

/-! ### The command -/

/-- R260, R262, R264, R269: the object has left the queue, counted by verdict `v`; its patch has joined the requests. -/
def recordCounted (d : Dict) (k : ClosedObj) (rest : List ClosedObj) (v : Verdict) (s : State) : State :=
  let c := s.recd.counts
  let c := { c with formed := c.formed + 1, emitted := c.emitted + b2n v.emits, suppressed := c.suppressed + b2n (!v.emits), noRule := c.noRule + b2n (!v.matched),
                    trunc := c.trunc + b2n (v.patch && (patchOf d k).2.1), oversize := c.oversize + b2n (v.patch && (patchOf d k).2.2.1),
                    markReq := c.markReq + b2n (decide (v.mark < 8)) }
  { s with recd.inq := rest, recd.counts := c, recd.patches := if v.patch && (patchOf d k).2.2.2 then s.recd.patches ++ [(patchOf d k).1] else s.recd.patches }

/-- R262, R265, R266: PATCH_TRUNC is raised and the marker inserted, where there is one. -/
def recordMarked (d : Dict) (k : ClosedObj) (v : Verdict) (s : State) : State :=
  let s := raiseIf (v.patch && (patchOf d k).2.1) 350 k.obj.num s
  if decide (v.mark < 8) then insertMarker d k.obj v.mark s else s

theorem recordMarked_kept (d : Dict) (k : ClosedObj) (v : Verdict) (s : State) : RecordKept s (recordMarked d k v s) := by
  refine (RecordKept.ofFeeds (raiseIf_feedsOnly (v.patch && (patchOf d k).2.1) 350 k.obj.num s)).trans ?_
  unfold recordMarked
  dsimp only
  split
  · exact insertMarker_kept ..
  · exact .refl _

/-- R256: the bytes of the record. -/
def recordOf (d : Dict) (k : ClosedObj) (v : Verdict) : List Byte := recordBytes d k v (v.patch && (patchOf d k).2.1) (v.patch && (patchOf d k).2.2.1)

/-- R267: the record has gone to the flows. -/
def recordFed (d : Dict) (k : ClosedObj) (v : Verdict) (s : State) : State :=
  feed { product := 5, source := 0xFF, epoch := k.epoch, firstId := k.obj.num, chunks := [.bytes (recordOf d k v)], cap := dictN d P.RECD_OBJ_BATCH
         loss := hasFlag k.obj.flags 5, refNs := k.refNs } s

/-- R268: the words of a record have entered queue `q`, or have been dropped. -/
def recordQueued (q : Nat) (ws : List Nat) (s : State) : State :=
  if q = 0xFFFF then s
  else
    let (done, t) := unitPush q ws s
    if done then t else { t with recd.counts.dropped := t.recd.counts.dropped + 1 }

theorem unitPush_recd (q : Nat) (vals : List Nat) (s : State) : (unitPush q vals s).2.recd = s.recd :=
  (congrArg State.recd (unitPush_linesKept q vals s)).trans rfl

theorem recordQueued_taken (q : Nat) (ws : List Nat) (s : State) : (recordQueued q ws s).recd.taken = s.recd.taken := by
  have hpush := unitPush_recd q ws s
  unfold recordQueued
  split
  · rfl
  · generalize unitPush q ws s = r at hpush ⊢
    obtain ⟨done, t⟩ := r
    replace hpush : t.recd = s.recd := hpush
    rw [← hpush]
    cases done <;> rfl

theorem recordQueued_fits {q : Nat} {ws : List Nat} {s : State} (hq : q ≠ 0xFFFF) (h : (queue s q).words.length + ws.length ≤ queueSize s q) :
    recordQueued q ws s = (unitPush q ws s).2 := by
  rw [recordQueued, if_neg hq, unitPush_fits h]
  rfl

/-- R256, R267, R268: an emitted record has gone to flows and queue. -/
def recordSent (d : Dict) (k : ClosedObj) (v : Verdict) (s : State) : State :=
  if v.emits then recordQueued (prmN (recordFed d k v s) P.RECD_RECORD_QUEUE) (wordsOf (recordOf d k v)) (recordFed d k v s) else s

theorem recordSent_taken (d : Dict) (k : ClosedObj) (v : Verdict) (s : State) : (recordSent d k v s).recd.taken = s.recd.taken := by
  unfold recordSent
  split
  · exact (recordQueued_taken ..).trans (RecordKept.ofFlows (feed_only ..)).taken
  · rfl

/-- R256, R268: the words of an emitted record stand behind those of the queue that RECORD_QUEUE names, where they fit. -/
theorem recordSent_words {d : Dict} {k : ClosedObj} {v : Verdict} {s : State} {q : Nat} (hq : q = prmN s P.RECD_RECORD_QUEUE) (hnamed : q ≠ 0xFFFF)
    (hemits : v.emits = true) (hfits : (queue s q).words.length + 16 ≤ queueSize s q) :
    (queue (recordSent d k v s) q).words.map QWord.val = (queue s q).words.map QWord.val ++ wordsOf (recordOf d k v) := by
  have hfed : RecordKept s (recordFed d k v s) := .ofFlows (feed_only ..)
  have hlen : (wordsOf (recordOf d k v)).length = 16 := by rw [length_wordsOf, recordOf, length_recordBytes]
  have hroom : (queue (recordFed d k v s) q).words.length + (wordsOf (recordOf d k v)).length ≤ queueSize (recordFed d k v s) q := by
    rw [hfed.queue, hlen, queueSize, hfed.prmN]
    exact hfits
  have hsent : recordSent d k v s = (unitPush q (wordsOf (recordOf d k v)) (recordFed d k v s)).2 := by
    rw [recordSent, if_pos hemits, hfed.prmN, ← hq]
    exact recordQueued_fits hnamed hroom
  rw [hsent, unitPush_words hroom, hfed.queue]

/-- R267: the units close behind the last object of a frame. -/
def recordClosed (k : ClosedObj) (s : State) : State := if k.lastOf then closeUnits false 5 0xFF s else s

theorem recordClosed_kept (k : ClosedObj) (s : State) : RecordKept s (recordClosed k s) := by
  unfold recordClosed
  split
  · exact .ofFlows (closeUnits_only ..)
  · exact .refl s

section
variable {k : ClosedObj} {rest : List ClosedObj} {d : Dict} {v : Verdict} {s : State} (hinq : s.recd.inq = k :: rest) (hd : d = dictAt s k.epoch)
  (hv : v = verdict (asRead s d) k.obj) (hroom : ¬ (v.patch = true ∧ (patchOf d k).2.2.2 = true ∧ 256 ≤ s.recd.patches.length))
include hinq hd hv hroom

/-- R255 to R268: an object whose patch need not wait becomes a record. -/
theorem exec_recordFormed : exec .recordFormed s = .next (stopRecdIfDone (recordClosed k (recordSent d k v (recordMarked d k v (recordCounted d k rest v s))))) := by
  change execRecordFormed s = _
  have hgo : ¬ (v.patch && (patchOf d k).2.2.2 && decide (256 ≤ s.recd.patches.length)) = true := by simpa [and_assoc] using hroom
  subst hd hv
  unfold execRecordFormed
  rw [hinq]
  exact if_neg hgo

end

/-- R260, R264, R269: what the command has taken. -/
theorem recordFormed_taken (d : Dict) (k : ClosedObj) (rest : List ClosedObj) (v : Verdict) (s : State) :
    (stopRecdIfDone (recordClosed k (recordSent d k v (recordMarked d k v (recordCounted d k rest v s))))).recd.taken =
      (rest, if v.patch && (patchOf d k).2.2.2 then s.recd.patches ++ [(patchOf d k).1] else s.recd.patches, s.recd.counts.formed + 1,
        s.recd.counts.emitted + b2n v.emits, s.recd.counts.suppressed + b2n (!v.emits), s.recd.counts.noRule + b2n (!v.matched)) := by
  rw [(stopRecdIfDone_kept _).1, (recordClosed_kept ..).taken, recordSent_taken, (recordMarked_kept ..).taken]
  rfl

/-- R256, R268: what the command has put in the queue of records. -/
theorem recordFormed_words {d : Dict} {k : ClosedObj} {rest : List ClosedObj} {v : Verdict} {s : State} {q : Nat} (hq : q = prmN s P.RECD_RECORD_QUEUE)
    (hnamed : q ≠ 0xFFFF) (hemits : v.emits = true) (hfits : (queue s q).words.length + 16 ≤ queueSize s q) :
    (queue (stopRecdIfDone (recordClosed k (recordSent d k v (recordMarked d k v (recordCounted d k rest v s))))) q).words.map QWord.val =
      (queue s q).words.map QWord.val ++ wordsOf (recordOf d k v) := by
  have hmarked : RecordKept (recordCounted d k rest v s) (recordMarked d k v (recordCounted d k rest v s)) := recordMarked_kept ..
  have hcounted : queue (recordMarked d k v (recordCounted d k rest v s)) q = queue s q := (hmarked.queue q).trans rfl
  have hprm : ∀ id, prmN (recordMarked d k v (recordCounted d k rest v s)) id = prmN s id := fun id => (hmarked.prmN id).trans rfl
  have hstopped : ∀ u, queue (stopRecdIfDone u) q = queue u q := fun u => by rw [queue, (stopRecdIfDone_kept u).2, queue]
  rw [hstopped, (recordClosed_kept ..).queue, ← hcounted]
  refine recordSent_words (hq.trans (hprm _).symm) hnamed hemits ?_
  rw [hcounted, queueSize, hprm]
  exact hfits

end Sys2Proof.Machine
end

section
/-! PROOFS. PATCH_CUT (R262 to R264, R268). -/
namespace Sys2Proof.Machine
open Sys2Proof

/-! ### Items and records (R299) -/

theorem feedFlow_setRecd (i : Item) (f : Nat) (r : Recd) (s : State) : feedFlow i f { s with recd := r } = { feedFlow i f s with recd := r } := by
  have hflow : flow { s with recd := r } f = flow s f := rfl
  have hread : entryRead { s with recd := r } = entryRead s := rfl
  unfold feedFlow
  simp only [hflow, hread]
  split
  · split
    · rfl
    · split
      · split <;> rfl
      · rfl
  · rfl

/-- R299: what an item changes in flows does not depend on records. -/
theorem feed_setRecd (i : Item) (r : Recd) (s : State) : feed i { s with recd := r } = { feed i s with recd := r } := by
  have hfold := List.foldl_hom (fun u : State => { u with recd := r }) (g₁ := fun u f => feedFlow i f u) (g₂ := fun u f => feedFlow i f u)
    (l := flowsOf s) (init := s) (H := fun u f => feedFlow_setRecd i f r u)
  exact hfold

theorem stopRecdIfDone_of_not_stopping {s : State} (h : s.recd.stopping = false) : stopRecdIfDone s = s := by
  simp [stopRecdIfDone, h]

/-- R262 to R264: the patch of a request can be cut. -/
def patchDue (s : State) (q : PatchReq) : Bool :=
  (!s.stch.run || s.stch.runNo != q.runNo) || (match histLast s q.runNo with | some n => decide (q.nCut ≤ n) | none => false)

/-- R268: the item that the cut of a request gives, `last` being the last line that its patch can show. -/
def patchItem (s : State) (q : PatchReq) (last : Nat) : Item :=
  let body := patchBody (dictAt s q.epoch) s q (min q.bottom last) (decide (min q.bottom last < q.bottom))
  { product := 6, source := 0xFF, epoch := q.epoch, firstId := q.object, chunks := body.1, last := true, loss := body.2, top := some q.top
    refNs := ((histLine s q.runNo (min q.nCut last)).map (fun l => stampNs l.stamp)).getD (nowNs s) }

theorem exec_patchCut {q : PatchReq} {s : State} (hfind : s.recd.patches.find? (patchDue s) = some q) (hroom : rtpHeld s 7 = false) (hruns : s.recd.stopping = false) :
    exec .patchCut s = .next { feed (patchItem s q ((histLast s q.runNo).getD q.bottom)) s with
      recd := { s.recd with patches := s.recd.patches.erase q, counts := { s.recd.counts with patches := s.recd.counts.patches + 1 } } } := by
  change execPatchCut s = _
  unfold execPatchCut
  extract_lets ended
  split
  case h_1 hnone => exact nomatch hnone.symm.trans hfind
  case h_2 q' hsome =>
    obtain rfl : q' = q := Option.some.inj (hsome.symm.trans hfind)
    rw [if_neg (by simp [hroom]), ← feed_setRecd]
    refine congrArg _ (stopRecdIfDone_of_not_stopping ?_)
    rw [feed_setRecd]
    exact hruns

end Sys2Proof.Machine
end

section
/-! PROOFS. SEGM_LINE, RECORD_FORMED and PATCH_CUT (R234 to R269). -/
namespace Sys2Proof.Machine
open Sys2Proof

/-- Settles O45: a line by `exec_segmLine`, a record by what its way leaves as it was taken, a patch by `exec_patchCut`. -/
theorem objectCommands : Obligations.ObjectCommands := by
  unfold Obligations.ObjectCommands
  refine ⟨?line, ?record, ?patch⟩
  case line =>
    rintro ecc ups l refs rest d pix s hinq hd hpath hbeat hrun hstop hon hforced hslot hpix
    obtain ⟨u, rowZero, lineLoss, closes, hu, hexec⟩ := exec_segmLine ecc hinq hd hpath hbeat hrun hstop hon hforced hslot hpix
    obtain ⟨hrecd, objs, hsegm, hobjs⟩ := lineBegun_kept ecc ups l (lineTaken d refs rest s)
    rw [← hu] at hrecd hsegm
    obtain ⟨left, outs, c, es, hend, hcounts, hnone⟩ := endLine_only d l.stamp rowZero lineLoss closes (lineWork d l pix u)
      { u with segm.skip := s.segm.skip, segm.rowZero := rowZero, segm.lastLine := some l.stamp, segm.epoch := l.stamp.epoch }
    have hpixels := hcounts.trans (lineWork_pixels d l pix u)
    simp only [SegmCounts.pixels, hsegm, Prod.mk.injEq] at hpixels
    obtain ⟨hlines, hdark, hbright, hsat⟩ := hpixels
    rw [hend] at hexec
    refine ⟨_, hexec, congrArg Segm.inq hsegm, rfl, rfl, rfl, hlines, hdark, hbright, hsat, fun hempty hnobjs => ?_⟩
    obtain ⟨hwork, hcuts, hnext⟩ := lineWork_empty hempty d l u
    obtain ⟨rfl, rfl⟩ := hnone (hwork.trans (by rw [hsegm]; exact hobjs hnobjs)) hcuts
    exact ⟨rfl, hnext.trans ((congrArg Segm.next hsegm).trans rfl), (List.append_nil _).trans (congrArg Recd.inq hrecd)⟩
  case record =>
    rintro k rest d v s hinq hd hv hroom
    have htaken := recordFormed_taken d k rest v s
    simp only [Recd.taken, Prod.mk.injEq, Bool.and_eq_true] at htaken
    obtain ⟨hrest, hpatches, hformed, hemitted, hsuppressed, hnoRule⟩ := htaken
    exact ⟨_, exec_recordFormed hinq hd hv hroom, hrest, hformed, hemitted, hsuppressed, hnoRule, hpatches,
      fun _ hq hnamed hemits hfits => recordFormed_words hq hnamed hemits hfits⟩
  case patch =>
    rintro q d last s hfind hroom hruns rfl rfl
    obtain ⟨fl, hfed⟩ := feed_only (patchItem s q ((histLast s q.runNo).getD q.bottom)) s
    refine ⟨_, exec_patchCut hfind hroom hruns, rfl, rfl, ?_, rfl⟩
    rw [hfed]

end Sys2Proof.Machine
end

section
/-! PROOFS. UNIT_FORMED and LOG_UNIT_TIMEOUT (R286, R300, R306): the way of a product unit on a device alone. -/
namespace Sys2Proof.Machine
open Sys2Proof

/-! ### The unit that a flow forms (R300, R302) -/

/-- R300, R302: the unit that flow `f` forms from its closed unit `u`. -/
def unitOf (f : Nat) (u : OpenUnit) (s : State) : PUnit :=
  let plain := u.product == 10 || u.product == 11
  formUnit f (flow s f).nextSeq (if plain then prmN s P.CHK_DIGEST_SCOPE else prmAtN s u.epoch P.CHK_DIGEST_SCOPE)
    (if plain then s.sys.epoch else u.epoch) (if plain then { u with launchRef := nowNs s } else u)

theorem unitOf_product (f : Nat) (u : OpenUnit) (s : State) : (unitOf f u s).product = u.product := by
  simp only [unitOf, formUnit, apply_ite OpenUnit.product, ite_self]

theorem unitOf_source (f : Nat) (u : OpenUnit) (s : State) : (unitOf f u s).source = u.source := by
  simp only [unitOf, formUnit, apply_ite OpenUnit.source, ite_self]

theorem unitOf_entry (f : Nat) (u : OpenUnit) (s : State) : (unitOf f u s).entry = u.entry := by
  simp only [unitOf, formUnit, apply_ite OpenUnit.entry, ite_self]

/-- R300: `pu` has left the closed units of flow `f`, of which `us` remain: its number is taken and its digest kept. -/
def unitTaken (f : Nat) (us : List OpenUnit) (pu : PUnit) (s : State) : State :=
  setFlow f { flow s f with
    closed := us, nextSeq := (flow s f).nextSeq + 1
    kept := ((flow s f).kept ++ [(pu.seq, pu.digest)]).drop ((flow s f).kept.length + 1 - 1024) } s

/-- R306: what a flow forms leaves the room of the transmit queues. -/
theorem queueRoom_unitTaken (f : Nat) (us : List OpenUnit) (pu : PUnit) (s : State) (p q e : Nat) :
    queueRoom (unitTaken f us pu s) p q e = queueRoom s p q e := rfl

/-- R45, R344: a device that no Shadow follows, and that is none, neither reports a digest nor keeps one to compare. -/
theorem digestOut_alone {s : State} (hunfollowed : attached s = false) (hactive : isShadow s = false) (e : DigestEntry) (top : Option Nat) :
    digestOut e top s = s := by
  have hstate : ¬ (s.twin.state = 4 ∨ s.twin.state = 5) := by
    rintro (h | h) <;> simp [isShadow, h] at hactive
  rw [digestOut, hunfollowed, if_neg Bool.false_ne_true, if_neg fun h => hstate h.1]

/-- R300: the oldest closed unit takes its way. -/
theorem exec_unitFormed {f : Fin 1024} {u : OpenUnit} {us : List OpenUnit} {s : State} (hclosed : (flow s f.val).closed = u :: us)
    (hunfollowed : attached s = false) (hactive : isShadow s = false) :
    exec (.unitFormed f) s = .next (routeUnit (unitOf f.val u s) (unitTaken f.val us (unitOf f.val u s) s)) := by
  have halone := digestOut_alone (s := unitTaken f.val us (unitOf f.val u s) s) hunfollowed hactive
  change execUnitFormed f s = _
  simp only [execUnitFormed, hclosed]
  exact congrArg (fun t => Host.Outcome.next (routeUnit _ t)) (halone _ u.top)

theorem exec_unitFormed_none {f : Fin 1024} {s : State} (hclosed : (flow s f.val).closed = []) : exec (.unitFormed f) s = .next s := by
  change execUnitFormed f s = _
  simp only [execUnitFormed, hclosed]

/-! ### Coding backlog and transmit queue (R286, R306) -/

/-- R286: a unit with coding enters the backlog where its body fits. -/
theorem routeUnit_backlog {u : PUnit} {s : State} (hactive : isShadow s = false) (hcoded : bitOf u.uflags 0 = true)
    (hroom : (s.cmpr.backlog.map PUnit.bodyLen).sum + u.bodyLen ≤ prmN s P.CMPR_BACKLOG * 2 ^ 20) :
    routeUnit u s = { s with cmpr.backlog := s.cmpr.backlog ++ [u] } := by
  rw [routeUnit, if_neg (by simp [hactive]), if_pos hcoded, enterBacklog, if_pos hroom]

/-- R306: a payload that fits, and for which no engine holds a place, enters its transmit queue at the end. -/
theorem admitUnit_end {e : Nat} {u : PUnit} {payload : List Byte} {s : State} {p q : Nat} (hp : leAt u.entry 3 1 = p) (hq : leAt u.entry 4 1 = q)
    (hplace : ∀ v ∈ (txQueue (netPort s p) q).units, v.writer ≠ some e) (hroom : (unitHeader u payload ++ payload).length ≤ queueRoom s p q e) :
    admitUnit e u payload s = (true, setNetPort p (setTxQueue (netPort s p) q { txQueue (netPort s p) q with
      units := (txQueue (netPort s p) q).units ++ [txUnit u (unitHeader u payload ++ payload) none] }) s) := by
  have hheld : (txQueue (netPort s p) q).units.any (fun v => v.writer == some e) = false := by simpa using hplace
  subst hp hq
  simp only [admitUnit, if_pos hroom, hheld, Bool.false_eq_true, if_false]

/-- R306: an admission that succeeds changes the network ports only. -/
theorem admitUnit_fits {e : Nat} {u : PUnit} {payload : List Byte} {s : State} (hfits : (admitUnit e u payload s).1 = true) :
    ∃ ports, admitUnit e u payload s = (true, { s with netw.ports := ports }) := by
  by_cases hroom : (unitHeader u payload ++ payload).length ≤ queueRoom s (leAt u.entry 3 1) (leAt u.entry 4 1) e
  · simp only [admitUnit, if_pos hroom]
    exact ⟨_, rfl⟩
  · simp only [admitUnit, if_neg hroom] at hfits
    exact absurd hfits Bool.false_ne_true

/-- R306: an uncoded unit of a network port enters its transmit queue as an admission leaves it. -/
theorem routeUnit_queue {u : PUnit} {s t : State} (hactive : isShadow s = false) (hplain : bitOf u.uflags 0 = false) (hnet : leAt u.entry 3 1 ≠ 3)
    (hadmit : admitUnit 20 u u.body s = (true, t)) : routeUnit u s = t := by
  rw [routeUnit, if_neg (by simp [hactive]), if_neg (by simp [hplain]), if_neg hnet, hadmit]
  exact if_pos rfl

/-- R306: the place of an uncoded unit in its transmit queue. -/
theorem txUnit_unitOf {f : Nat} {u : OpenUnit} {s : State} (hplain : bitOf (unitOf f u s).uflags 0 = false) (bytes : List Byte) :
    txUnit (unitOf f u s) bytes none = { flow := f, product := u.product, source := u.source, seq := (unitOf f u s).seq, coded := false
                                         launch := (unitOf f u s).launch, entry := u.entry, bytes := bytes } := by
  rw [txUnit, unitOf_product, unitOf_source, unitOf_entry, hplain]
  rfl

/-! ### The time limit of a LOG unit (R300) -/

/-- R300: the LOG unit that a flow fills closes, where SPLIT selects it. -/
theorem exec_logUnitTimeout {f : Fin 1024} {u : OpenUnit} {s : State} (hfill : (flow s f.val).fill = some u) (hlog : u.product = 10)
    (hselected : (flow s f.val).selected = true) :
    exec (.logUnitTimeout f) s = .next (setFlow f.val { flow s f.val with fill := none, closed := (flow s f.val).closed ++ [{ u with early := false }] } s) := by
  change execLogUnitTimeout f s = _
  simp only [execLogUnitTimeout, hfill, if_pos hlog, closeFill, if_pos hselected]

end Sys2Proof.Machine
end

section
/-! PROOFS. ENGINE_TAKES_UNIT, ENGINE_STOP, ENGINE_RESUME, CODING_DONE, ENGINE_OUT_OF_SERVICE and JOB_TIMEOUT (R286 to R291, R306). -/
namespace Sys2Proof.Machine
open Sys2Proof

variable {s : State} {u : PUnit} {j : Nat × Nat} {d : Deferred}

/-! ### Work for an idle engine (R286, R290, R291) -/

/-- R286, R306: a product unit goes before any job, and enters its transmit queue. -/
theorem exec_engineTakesUnit_unit {e : Nat} {us : List PUnit} (hback : s.cmpr.backlog = u :: us) (hidle : idleEngine s (prmN s P.CMPR_PRODUCT_ENGINES) = some e) :
    exec .engineTakesUnit s = .next (setEngine e { state := 1, unit := some u } (enterQueue e u { s with cmpr.backlog := us })) := by
  change execEngineTakesUnit s = _
  simp only [execEngineTakesUnit, hback, hidle]

/-- R290: a compress job is taken where no product unit waits. -/
theorem exec_engineTakesUnit_compress {e : Nat} {js : List (Nat × Nat)} (hback : s.cmpr.backlog = []) (hjobs : s.cmpr.cjobs = j :: js)
    (hidle : idleEngine s (prmN s P.CMPR_JOB_ENGINES) = some e) :
    exec .engineTakesUnit s = .next (commitDeferred j.1 j.2 (setEngine e { state := 2, job := some j } { s with cmpr.cjobs := js })) := by
  change execEngineTakesUnit s = _
  simp only [execEngineTakesUnit, hback, hjobs, hidle]

/-- R291: a decompress job goes to the engines that decompress. -/
theorem exec_engineTakesUnit_decompress {e : Nat} {js : List (Nat × Nat)} (hback : s.cmpr.backlog = []) (hcjobs : s.cmpr.cjobs = []) (hjobs : s.cmpr.djobs = j :: js)
    (hidle : [16, 17, 18, 19].find? (fun e => (engine s e).state == 0) = some e) :
    exec .engineTakesUnit s = .next (commitDeferred j.1 j.2 (setEngine e { state := 2, job := some j } { s with cmpr.djobs := js })) := by
  change execEngineTakesUnit s = _
  simp only [execEngineTakesUnit, hback, hcjobs, hjobs, hidle]

/-! ### Stop and resumption (R288, R290) -/

/-- R288: a unit that its transmit queue cannot take stops its engine with what the queue has taken. -/
theorem stopUnit_full {e n : Nat} (hnet : leAt u.entry 3 1 ≠ 3) (hfull : unitRoom s e u < (codedUnit (unitCoding s u) u.body).length) :
    stopUnit e n (streamRoom (unitRoom s e u)) u s =
      let r := blockAt (unitCoding s u) u.body (streamRoom (unitRoom s e u))
      setEngine e { engine s e with state := 3, inDone := between r.1 n, outDone := streamRoom (unitRoom s e u), nextEntry := r.2.2 }
        { s with cmpr.stops := s.cmpr.stops + 1 } := by
  refine if_neg ?_
  rintro (hlocal | hfits | hout)
  · exact hnet hlocal
  · exact absurd hfull (Nat.not_lt.mpr hfits)
  · exact hout rfl

theorem exec_engineStop_unit {e : Fin 16} {n out : Nat} (hstate : (engine s e.val).state = 1) (hunit : (engine s e.val).unit = some u) :
    exec (.engineStop e n out) s = .next (stopUnit e.val n out u s) := by
  change execEngineStop e n out s = _
  simp only [execEngineStop, hstate, hunit]

/-- R288, R290: a compress job whose result exceeds its capacity fails where whole words of the capacity end. -/
theorem exec_engineStop_job {e : Fin 16} {n src len product pred source dst cap : Nat} {h : Hdr} {body : List Byte} {c : Coding}
    (hstate : (engine s e.val).state = 2) (hjob : (engine s e.val).job = some j) (hd : findDeferred s j.1 j.2 = some d)
    (hcmd : d.cmd = .jobCompress h src len product pred source dst cap) (hgood : anyBad s src len = false) (hbody : body = s.mem.read src len)
    (hc : c = codingOf s.sys.applied product source pred true false body) (hfull : cap < (codedUnit c body).length) :
    exec (.engineStop e n (streamRoom cap)) s = .next (jobNoSpace d c body dst cap n (freeEngine e.val s)) := by
  subst hc hbody
  change execEngineStop e n _ s = _
  simp only [execEngineStop, hstate, hjob, hd, hcmd, hgood, decide_eq_false (Nat.not_le.mpr hfull), bne_self_eq_false, Bool.or_false, Bool.false_eq_true, if_false]

/-- R288: a stopped engine resumes once a further word, or the whole unit, fits. -/
theorem exec_engineResume {e : Fin 16} (hstate : (engine s e.val).state = 3) (hunit : (engine s e.val).unit = some u)
    (hfits : (engine s e.val).outDone < streamRoom (unitRoom s e.val u) ∨ (codedUnit (unitCoding s u) u.body).length ≤ unitRoom s e.val u) :
    exec (.engineResume e) s = .next (setEngine e.val { engine s e.val with state := 1 } s) := by
  change execEngineResume e s = _
  simp only [execEngineResume, hstate, hunit, if_pos hfits]

/-! ### The end of coding (R286, R290, R293, R306) -/

/-- R293: a body has been coded to END, and the counters say so. -/
def unitCounted (c : Coding) (body : List Byte) (s : State) : State :=
  let s := countCoding c body s
  { s with cmpr.coded := s.cmpr.coded + 1 }

theorem unitCounted_only (c : Coding) (body : List Byte) (s : State) :
    ∃ m, unitCounted c body s = { s with cmpr := m } ∧ m.coded = s.cmpr.coded + 1 ∧ m.bodyBytes = s.cmpr.bodyBytes + body.length :=
  ⟨_, rfl, rfl, rfl⟩

/-- R306: a coded unit that its transmit queue takes leaves its engine free. -/
theorem exec_codingDone_unit {e : Fin 20} (hstate : (engine s e.val).state = 1) (hunit : (engine s e.val).unit = some u) (hnet : leAt u.entry 3 1 ≠ 3)
    {t : State} (hadmit : admitUnit e.val u (codedUnit (unitCoding s u) u.body) s = (true, t)) :
    exec (.codingDone e) s = .next (freeEngine e.val (unitCounted (unitCoding s u) u.body t)) := by
  change execCodingDone e s = _
  unfold execCodingDone
  extract_lets x
  split
  case h_1 v _ hv =>
    obtain rfl : v = u := Option.some.inj (hv.symm.trans hunit)
    rw [if_neg hnet, hadmit]
    rfl
  case h_2 h _ => exact absurd (h.symm.trans hstate) (by decide)
  case h_3 hother _ => exact absurd hunit (hother _ hstate)

theorem exec_codingDone_job {e : Fin 20} (hstate : (engine s e.val).state = 2) (hjob : (engine s e.val).job = some j) :
    exec (.codingDone e) s = .next (freeEngine e.val (endJob j s)) := by
  change execCodingDone e s = _
  simp only [execCodingDone, hstate, hjob]

/-! ### Out of service, out of time (R289, R291) -/

theorem exec_engineOutOfService {e : Fin 16} (hidle : (engine s e.val).state = 0) (hleaving : (engine s e.val).leaving = true) :
    exec (.engineOutOfService e) s = .next (setEngine e.val { state := 4 } s) := by
  change execEngineOutOfService e s = _
  simp only [execEngineOutOfService, if_pos (And.intro hidle hleaving)]

theorem exec_jobTimeout {n q : Nat} (hd : findDeferred s n q = some d) (hop : d.opcode = 0x0701 ∨ d.opcode = 0x0702) :
    exec (.jobTimeout n q) s = .next (failDeferred d (refuseFree 0x0507) (forgetJob (n, q) s)) := by
  change execJobTimeout n q s = _
  simp only [execJobTimeout, hd, if_pos hop]

end Sys2Proof.Machine
end

section
/-! PROOFS. The units of products and the engines that code them (R286 to R306). -/
namespace Sys2Proof.Machine
open Sys2Proof

/-- Settles O47: each command by its lemmas above. -/
theorem productUnits : Obligations.ProductUnits := by
  unfold Obligations.ProductUnits
  refine ⟨?formed, fun f s => exec_unitFormed_none, fun f u s => exec_logUnitTimeout, fun e u us s => exec_engineTakesUnit_unit,
    fun e j js s => exec_engineTakesUnit_compress, fun e j js s => exec_engineTakesUnit_decompress, ?stop, ?stopJob, fun e u s => exec_engineResume, ?done,
    fun e j s => exec_codingDone_job, fun e s => exec_engineOutOfService, fun n q d s => exec_jobTimeout⟩
  case formed =>
    rintro f u us s t pu plain hclosed hunfollowed hactive rfl hpu ht
    obtain rfl : pu = unitOf f.val u s := hpu
    obtain rfl : t = unitTaken f.val us (unitOf f.val u s) s := ht
    rw [exec_unitFormed hclosed hunfollowed hactive]
    have htaken : isShadow (unitTaken f.val us (unitOf f.val u s) s) = false := hactive
    refine ⟨fun hcoded hroom => congrArg _ (routeUnit_backlog htaken hcoded hroom), fun hplain hnet hplace hroom => congrArg _ ?_⟩
    have hentry : (unitOf f.val u s).entry = u.entry := unitOf_entry ..
    have hadmit := admitUnit_end (s := unitTaken f.val us (unitOf f.val u s) s) (congrArg (leAt · 3 1) hentry) (congrArg (leAt · 4 1) hentry) hplace
      (hroom.trans_eq (queueRoom_unitTaken ..).symm)
    rw [routeUnit_queue htaken hplain (by rwa [hentry]) hadmit, txUnit_unitOf hplain]
    rfl
  case stop =>
    intro e n u s hstate hunit hnet hfull
    rw [exec_engineStop_unit hstate hunit, stopUnit_full hnet hfull]
    exact ⟨_, _, rfl⟩
  case stopJob =>
    intro e n d j h src len product pred source dst cap s hstate hjob hd hcmd hgood hfull
    exact exec_engineStop_job hstate hjob hd hcmd hgood rfl rfl hfull
  case done =>
    intro e u s hstate hunit hnet hfits
    obtain ⟨ports, hadmit⟩ := admitUnit_fits hfits
    obtain ⟨m, hcounted, hcoded, hbytes⟩ := unitCounted_only (unitCoding s u) u.body { s with netw.ports := ports }
    refine ⟨_, exec_codingDone_unit hstate hunit hnet hadmit, ?_⟩
    rw [hcounted, hadmit]
    exact ⟨hcoded, hbytes, rfl, rfl, rfl⟩

end Sys2Proof.Machine
end

section
/-! PROOFS. Writes of the event window and the inputs of the event fabric (R414 to R425, R531). -/
namespace Sys2Proof.Machine
open Sys2Proof

/-! ### Logged writes of register windows (R95, R434) -/

/-- R95: a logged write with its right is its act on the state whose log it changed, where the act reads that state back from its result. -/
theorem windowWrite_logged {a : Acc} {s : State} (h : s.accessible a) (unit off v : Nat) {act : State → State} (hact : ∀ u : State, u.logged (act u) = u) :
    windowWrite a true true unit off v act s = act (s.logged (windowWrite a true true unit off v act s)) := by
  obtain ⟨t, hlog, hw⟩ := windowWrite_right a true unit off v act s h
  rw [hw]
  obtain ⟨_, _, _, _, _, _, rfl⟩ := hlog
  exact congrArg act (hact _).symm

/-- Events that a list raises on a condition each come into flight in its order. -/
theorem forEach_raiseIf (p : Nat → Bool) (src : Nat → Nat) (arg : Nat) (xs : List Nat) (s : State) :
    forEach xs (fun k s => raiseIf (p k) (src k) arg s) s =
      { s with evnt.inflight := s.evnt.inflight ++ (xs.filter p).map (fun k => ⟨src k, arg, none⟩) } := by
  induction xs generalizing s with
  | nil => simp [forEach]
  | cons k xs ih =>
    rw [forEach, List.foldl_cons, ← forEach, ih]
    cases hk : p k <;> simp [raiseIf, raise, hk]

/-- Settles O9: each write is its act on the state whose log it changed. -/
theorem reinWindow : Obligations.ReinWindow := by
  unfold Obligations.ReinWindow
  refine ⟨fun a n v s h hr => ⟨_, rfl, ?_⟩, fun a m s h hr => ⟨_, rfl, ?_⟩, fun a m s h hr => ⟨_, rfl, ?_⟩, fun a v s h hr => ⟨_, rfl, ?_⟩⟩
  · rw [hr]
    exact windowWrite_logged h _ _ _ (fun _ => rfl)
  · rw [hr]
    exact windowWrite_logged h _ _ _ (fun _ => rfl)
  · rw [hr]
    exact windowWrite_logged h _ _ _ (fun _ => rfl)
  · rw [hr]
    simp only [forEach_raiseIf]
    exact windowWrite_logged h _ _ _ (fun _ => rfl)

/-! ### Events through the Reins (R417, R418) -/

/-- A loop whose every pass leaves the state leaves it. -/
theorem forEach_eq_self {α : Type} {f : α → State → State} {s : State} : ∀ {xs : List α}, (∀ x ∈ xs, f x s = s) → forEach xs f s = s
  | [], _ => rfl
  | x :: xs, h => by
    rw [forEach, List.foldl_cons, h x (List.mem_cons_self ..)]
    exact forEach_eq_self fun y hy => h y (List.mem_cons_of_mem _ hy)

/-- R418: an event that names a Rein of an enabled group passes it. -/
theorem passAll_named_on {e : InFlight} {r : Nat} {s : State} (he : e.rein = some r) (hon : reinOn s.evnt.groups s r = true) :
    passAll [e] s = ([⟨r, prmN s (P.EVNT_SRC r), e.arg⟩],
      setRein r { rein s r with count := satInc 32 (rein s r).count, passed := (rein s r).passed + 1 } s) := by
  simp [passAll, passReins, he, gateRein, hon]

/-- R417: an event that names a Rein of a disabled group is gated. -/
theorem passAll_named_off {e : InFlight} {r : Nat} {s : State} (he : e.rein = some r) (hoff : reinOn s.evnt.groups s r = false) :
    passAll [e] s = ([], setRein r { rein s r with gated := (rein s r).gated + 1 } s) := by
  simp [passAll, passReins, he, gateRein, hoff]

/-- The consumer inputs select none of the Reins that events have passed. -/
def Unselected (s : State) (ps : List Passed) : Prop := ∀ c, c < 384 → ∀ p ∈ ps, p.rein ≠ (selectors s c).1 ∧ p.rein ≠ (selectors s c).2

theorem deliverAll_unselected {s : State} {ps : List Passed} (h : Unselected s ps) {c : Nat} (hc : c < 384) : deliverAll ps c s = s := by
  have ha : ps.filter (fun p => p.rein == (selectors s c).1) = [] := List.filter_eq_nil_iff.mpr fun p hp => by simpa using (h c hc p hp).1
  have hb : ps.filter (fun p => p.rein == (selectors s c).2) = [] := List.filter_eq_nil_iff.mpr fun p hp => by simpa using (h c hc p hp).2
  unfold deliverAll
  split
  · rfl
  · simp [ha, hb, forEach]

theorem not_any_selected {s : State} {ps : List Passed} (h : Unselected s ps) {c : Nat} (hc : c < 384) :
    ps.any (fun p => p.rein == (selectors s c).1 || p.rein == (selectors s c).2) = false :=
  List.any_eq_false.mpr fun p hp => by simpa using h c hc p hp

theorem groupClash_unselected {s : State} {ps : List Passed} (h : Unselected s ps) {k : Nat} (hk : k < 32) : groupClash ps k s = s := by
  simp [groupClash, not_any_selected h (show 83 + k < 384 by omega)]

theorem suspendClash_unselected {s : State} {ps : List Passed} (h : Unselected s ps) : suspendClash ps s = s := by
  simp [suspendClash, not_any_selected h (show 381 < 384 by decide)]

/-- R418: events that pass Reins which no input selects leave with what the Reins note. -/
theorem exec_eventRouted_unselected {n : Nat} {s t : State} {ps : List Passed}
    (hpass : passAll (s.evnt.inflight.take n) { s with evnt.inflight := s.evnt.inflight.drop n } = (ps, t)) (h : Unselected t ps) :
    exec (.eventRouted n) s = .next t := by
  show execEventRouted n s = _
  simp only [execEventRouted, hpass]
  rw [forEach_eq_self fun c hc => deliverAll_unselected h (List.mem_range.mp hc),
    forEach_eq_self fun k hk => groupClash_unselected h (List.mem_range.mp hk), suspendClash_unselected h]

/-- Settles O10: what the Rein notes, and the edge of a pin by its selection. -/
theorem eventInputs : Obligations.EventInputs := by
  unfold Obligations.EventInputs
  refine ⟨?passed, ?gated, ?edge, fun pin s => rfl, fun i s => rfl⟩
  case passed =>
    intro e es r s hs he hon hsel
    refine exec_eventRouted_unselected (by rw [hs]; exact passAll_named_on (s := { s with evnt.inflight := es }) he hon) ?_
    rintro c hc p hp
    obtain rfl := List.mem_singleton.mp hp
    exact ⟨(hsel c hc).1.symm, (hsel c hc).2.symm⟩
  case gated =>
    intro e es r s hs he hoff
    exact exec_eventRouted_unselected (by rw [hs]; exact passAll_named_off (s := { s with evnt.inflight := es }) he hoff)
      (fun c hc p hp => absurd hp List.not_mem_nil)
  case edge =>
    intro pin s hlow
    refine ⟨_, (if_neg (by simp [hlow])).trans rfl, ?_⟩
    cases hsel : bitOf (prmN s P.EVNT_GPX_EDGE) (2 * pin.val)
    · simp [raiseIf, gpxSelects, hsel]
    · simp [raiseIf, gpxSelects, hsel, raise]

end Sys2Proof.Machine
end

section
/-! PROOFS. A discarded frame of a port whose counters hold their defaults (R296, R311). -/
namespace Sys2Proof.Machine
open Sys2Proof

/-- A device with FEC on NET0, whose table of ports holds a second entry for NET0 behind one at its default. -/
def netPortTwice : State :=
  { State.reset with
    sys.applied.vals := [(P.NETW_FEC 0, 1)]
    netw.ports := [(0, {}), (0, { rx := 1 })] }

theorem fec_netPortTwice : prmN netPortTwice (P.NETW_FEC 0) = 1 := by decide +kernel

/-- With no codeword corrected or lost, the port's counters stay at their default and its table loses every entry of it, before the frame is counted. -/
theorem exec_frameDiscarded_netPortTwice : exec (.frameDiscarded 0 ⟨true, 0, 0⟩) netPortTwice =
    .next { netPortTwice with netw.ports := [(0, { rx := 1, badRx := 1 })] } := by
  show execFrameDiscarded 0 ⟨true, 0, 0⟩ netPortTwice = _
  have hfec : ((0 : Fin 3).val < 2 ∧ prmN netPortTwice (P.NETW_FEC (0 : Fin 3).val) = 1) := ⟨by decide, fec_netPortTwice⟩
  simp only [execFrameDiscarded, if_pos hfec]
  rfl

/-- Refutes O48: the counters of FEC are written before the frame is counted, so that a state whose table of ports holds NET0 twice, the first at its default,
keeps one entry of NET0 where a single write keeps both. -/
theorem not_networkPorts : ¬ Obligations.NetworkPorts := by
  unfold Obligations.NetworkPorts
  rintro ⟨-, -, -, -, -, -, -, -, -, -, hDiscarded⟩
  have hNext := Host.Outcome.next.inj (exec_frameDiscarded_netPortTwice.symm.trans (hDiscarded 0 true 0 0 netPortTwice))
  exact absurd (congrArg (fun s : State => s.netw.ports.length) hNext) (by decide)

end Sys2Proof.Machine
end

section
/-! PROOFS. What loops and log entries keep, for any part of the state. -/
namespace Sys2Proof.Machine
open Sys2Proof

/-- What every pass of a loop keeps, the loop keeps. -/
theorem forEach_keeps {α β : Type} (π : State → β) {xs : List α} {f : α → State → State} (h : ∀ a s, π (f a s) = π s) (s : State) : π (forEach xs f s) = π s :=
  forEach_rel (R := fun s t => π t = π s) (fun _ => rfl) (fun h k => Eq.trans k h) xs f h s

/-- A state that a log entry has changed is the state before with the log and what carries it taken from it. -/
theorem LogOnly.eq_logged {s t : State} : LogOnly s t → t = s.logged t := by
  rintro ⟨_, _, _, _, _, _, rfl⟩
  rfl

/-- A log entry keeps what does not read the log or what carries it. -/
theorem LogOnly.keeps {β : Type} (π : State → β) {s t : State} (h : LogOnly s t) (hπ : ∀ u, π (s.logged u) = π s := by exact fun _ => rfl) : π t = π s := by
  rw [h.eq_logged]
  exact hπ t

/-- An entry takes its place in the log at once. -/
theorem logCommit_log (e : LogEntry) (s : State) : (logCommit e s).sys.log = (pushLog e s).sys.log := by
  have hfeed (i : Item) : (feed i (pushLog e s)).sys.log = (pushLog e s).sys.log := by
    obtain ⟨_, h⟩ := feed_only i (pushLog e s)
    rw [h]
  unfold logCommit
  dsimp only
  split
  · next =>
    obtain ⟨_, _, _, _, h⟩ := sendSeq_only 0x24 (logBytes { e with index := s.sys.log.next }) (feed { product := 10, source := 0xFF, epoch := s.sys.epoch, firstId := s.sys.log.next, chunks := [.bytes (logBytes { e with index := s.sys.log.next })], refNs := nowNs s } (pushLog e s))
    rw [h]
    exact hfeed _
  · exact hfeed _

/-- Each entry takes the next INDEX (R92). -/
theorem logCommit_next (e : LogEntry) (s : State) : (logCommit e s).sys.log.next = s.sys.log.next + 1 := by
  rw [logCommit_log]
  rfl

end Sys2Proof.Machine
end

section
/-! PROOFS. The accesses of the application cores, debug access and the boot of the cores (R430 to R440). -/
namespace Sys2Proof.Machine
open Sys2Proof

/-! ### Accesses to DRAM (R430, R432, R433) -/

theorem exec_dramAccess_beyond {addr len : Nat} (h : dramEnd < addr + len) (a : Acc) (w : Bool) (s : State) :
    exec (.dramAccessRefused a addr len w) s = .next { s with core.busErrors := s.core.busErrors + 1 } := if_pos h

/-- R433, R434: an access outside the regions of its world is a bus error, and the first one leaves its record. -/
theorem exec_dramAccess_outside {a : Acc} {addr len : Nat} {s : State} (hend : addr + len ≤ dramEnd)
    (hout : inRegions s (if a.principal = .appN then 3 else 2) addr len = false) (w : Bool) :
    exec (.dramAccessRefused a addr len w) s = .next { s with
      core.busErrors := s.core.busErrors + 1
      core.refused := if s.core.refused.valid = true then s.core.refused else ⟨true, false, w, a.principal.code, a.source, addr⟩ } := by
  show execDramAccessRefused a addr len w s = _
  rw [execDramAccessRefused, if_neg (Nat.not_lt.mpr hend), if_pos hout, recordRefusal, busError]
  cases s.core.refused.valid <;> rfl

/-- R430: an access within its regions acts on the lost lines that it touches alone. -/
theorem exec_dramAccess_inside {a : Acc} {addr len : Nat} {s : State} (hend : addr + len ≤ dramEnd)
    (hin : inRegions s (if a.principal = .appN then 3 else 2) addr len = true) (w : Bool) :
    exec (.dramAccessRefused a addr len w) s = .next (if touchesLost s addr len = false then s
      else if w = true ∧ addr % 64 = 0 ∧ len % 64 = 0 then { s with core.lost := s.core.lost.filter (fun l => !decide (addr ≤ l ∧ l < addr + len)) }
      else { s with core.busErrors := s.core.busErrors + 1 }) := by
  show execDramAccessRefused a addr len w s = _
  rw [execDramAccessRefused, if_neg (Nat.not_lt.mpr hend), if_neg (by rw [hin]; decide)]
  split
  · rfl
  · split <;> rfl

/-! ### Errors of the level-2 caches (R405, R430) -/

/-- R405: the record of an error leaves all but the record. -/
theorem recordEcc_only (u : Bool) (m i : Nat) (s : State) : recordEcc u m i s = { s with chk.ecc := (recordEcc u m i s).chk.ecc } := by
  unfold recordEcc
  dsimp only
  split <;> rfl

theorem recordEcc_uncorr (m i : Nat) (s : State) : recordEcc true m i s = { s with chk.ecc := ⟨true, true, m, i⟩ } := by
  simp [recordEcc]

/-- R430: the cluster of a level-2 cache has power. -/
def clusterOn (s : State) (c : Fin 2) : Bool := if c.val = 0 then s.boot.clusterA else s.boot.clusterB

theorem exec_l2EccError_corrected {s : State} {c : Fin 2} (hon : clusterOn s c = true) (i l : Nat) (d : Bool) :
    exec (.l2EccError c i l false d) s = .next (raiseOpen 555 (recordEcc false 8 i { s with chk.ce := s.chk.ce + 1, core.l2Ce := s.core.l2Ce + 1 })) :=
  if_neg (by rw [show (if c.val = 0 then s.boot.clusterA else s.boot.clusterB) = true from hon]; decide)

/-- R430: an uncorrectable error is recorded, raised and logged; that of a dirty line also loses the line. -/
theorem exec_l2EccError_uncorrected {s : State} {c : Fin 2} (hon : clusterOn s c = true) (i l : Nat) (d : Bool) :
    ∃ t, exec (.l2EccError c i l true d) s = .next t ∧ t.mem = s.mem ∧ t.chk = { s.chk with ue := s.chk.ue + 1, ecc := ⟨true, true, 8, i⟩ } ∧
      t.core = { s.core with
        l2Ue := s.core.l2Ue + 1, busErrors := s.core.busErrors + b2n d, lost := if d = true then (l :: s.core.lost).dedup else s.core.lost } ∧
      ∃ v, t.evnt.inflight = s.evnt.inflight ++ [⟨556, v, none⟩] := by
  have hlog := logDevice_only 556 0x0701 0 (8 + i * 256) (raiseOpen 556 { s with
    chk.ue := s.chk.ue + 1, chk.ecc := ⟨true, true, 8, i⟩, core.l2Ue := s.core.l2Ue + 1 })
  have hrun : execL2EccError c i l true d s = _ :=
    if_neg (by rw [show (if c.val = 0 then s.boot.clusterA else s.boot.clusterB) = true from hon]; decide)
  have hmem := hlog.keeps State.mem
  have hchk := hlog.keeps State.chk
  have hcore := hlog.keeps State.core
  have hevnt := hlog.keeps State.evnt
  refine ⟨_, hrun.trans (if_pos rfl), ?_⟩
  rw [recordEcc_uncorr]
  cases d
  · exact ⟨hmem, hchk, hcore, _, congrArg _ hevnt⟩
  · refine ⟨hmem, hchk, ?_, _, congrArg _ hevnt⟩
    simp only [if_pos, busError, hcore]
    rfl

/-! ### Debug access (R438) -/

/-- R438: a good request of a device that accepts commands unlocks debug access and is logged. -/
theorem exec_debugUnlock {r : List Byte} {s : State} (hl : s.core.unlocked = false) (hr : r.length ≤ 256) (ha : accepting s = true) :
    ∃ t, exec (.debugUnlock r true) s = .next t ∧ t = { s.logged t with core.unlocked := true } ∧ t.sys.log.next = s.sys.log.next + 1 := by
  refine ⟨_, if_neg ?_, (logNow_only ..).eq_logged, logCommit_next ..⟩
  simp [hl, ha, Nat.not_lt.mpr hr]

/-! ### Boot of the cores (R439, R440) -/

/-- The header of the loader that the cores boot from: of the store item, or of the flash. -/
def bootHeader (s : State) (hdr : List Byte) : List Byte :=
  if prm s P.CORE_BOOT_SRC = 1 then (itemData s (prmN s P.CORE_BOOT_ITEM)).take 128 else hdr

/-- The body of that loader. -/
def bootBody (s : State) (body : List Byte) : List Byte :=
  if prm s P.CORE_BOOT_SRC = 1 then ((itemData s (prmN s P.CORE_BOOT_ITEM)).drop 128).take (leAt s.core.hdr 8 4) else body.take (leAt s.core.hdr 8 4)

/-- R440 step 1: a well-formed header whose range lies within the regions of APP-S is taken. -/
theorem exec_coreBoot {hdr : List Byte} {s : State} (hb : s.core.boot = 1) (hitem : prm s P.CORE_BOOT_SRC = 1 → itemFault s (prmN s P.CORE_BOOT_ITEM) = none)
    (hok : loaderOk (bootHeader s hdr) = true) (hin : inRegions s 2 (leAt (bootHeader s hdr) 16 8) (leAt (bootHeader s hdr) 8 4) = true) :
    exec (.coreBoot hdr) s = .next { s with core.boot := 2, core.hdr := bootHeader s hdr } := by
  show execCoreBoot hdr s = _
  have hfault : (if prm s P.CORE_BOOT_SRC = 1 then itemFault s (prmN s P.CORE_BOOT_ITEM) else none) = none := by
    split
    · next h => exact hitem h
    · rfl
  unfold bootHeader at *
  simp [execCoreBoot, hb, hfault, hok, hin]

/-- R440: the cores of a list are released, whatever order it has, and nothing else changes. -/
theorem releaseCores_spec (ks : List Nat) (s : State) : (∃ cs, releaseCores ks s = { s with core.cores := cs }) ∧
    ∀ k, appCore (releaseCores ks s) k = if k ∈ ks then { appCore s k with running := true, world := false, bootFail := false } else appCore s k := by
  induction ks generalizing s with
  | nil => exact ⟨⟨s.core.cores, rfl⟩, fun k => (if_neg List.not_mem_nil).symm⟩
  | cons j ks ih =>
    obtain ⟨⟨cs, hcs⟩, hget⟩ := ih (setAppCore j { appCore s j with running := true, world := false, bootFail := false } s)
    refine ⟨⟨cs, hcs⟩, fun k => (hget k).trans ?_⟩
    rw [appCore_setAppCore]
    by_cases hj : k = j
    · subst hj
      simp
    · simp [hj]

/-- R440 steps 2 to 4: a body of the length that the header gives and that verifies stands at LOAD, and the cores with RUN 1 are released at ENTRY. -/
theorem exec_coreLoaderDone {body : List Byte} {good : Bool} {s : State} (hb : s.core.boot = 2) (hf : loaderFault s true good = none)
    (hlen : (bootBody s body).length = leAt s.core.hdr 8 4) :
    ∃ t, exec (.coreLoaderDone body true good) s = .next t ∧ t.mem = s.mem.store (leAt s.core.hdr 16 8) (bootBody s body) ∧ t.core.entry = leAt s.core.hdr 24 8 ∧
      t.core.loaded = true ∧ t.core.boot = 0 ∧
      ∀ k, k < 8 → appCore t k = if prmB s (P.CORE_RUN k) = true then { appCore s k with running := true, world := false, bootFail := false } else appCore s k := by
  have hrun : execCoreLoaderDone body true good s = .next (releaseCores (coreRuns s)
      { storeMem (leAt s.core.hdr 16 8) (bootBody s body) s with core.boot := 0, core.loaded := true, core.entry := leAt s.core.hdr 24 8 }) := by
    have hfault : loaderFault (storeMem (leAt s.core.hdr 16 8) (bootBody s body) s) (true && (bootBody s body).length == leAt s.core.hdr 8 4) good = none := by
      rw [hlen, beq_self_eq_true]
      exact hf
    unfold bootBody at *
    simp only [execCoreLoaderDone, if_neg (show ¬ s.core.boot ≠ 2 from not_not.mpr hb), hfault]
    rfl
  obtain ⟨⟨cs, hcs⟩, hget⟩ := releaseCores_spec (coreRuns s)
    { storeMem (leAt s.core.hdr 16 8) (bootBody s body) s with core.boot := 0, core.loaded := true, core.entry := leAt s.core.hdr 24 8 }
  refine ⟨_, hrun, by rw [hcs]; rfl, by rw [hcs], by rw [hcs], by rw [hcs], fun k hk => (hget k).trans ?_⟩
  have hmem : k ∈ coreRuns s ↔ prmB s (P.CORE_RUN k) = true := by simp [coreRuns, hk]
  simp only [hmem]
  rfl

/-- Settles O38: each row by its lemmas above. -/
theorem coreAccesses : Obligations.CoreAccesses := by
  unfold Obligations.CoreAccesses
  refine ⟨fun a addr len w s h => exec_dramAccess_beyond h a w s, fun a addr len w s hend hout => exec_dramAccess_outside hend hout w,
    fun a addr len w s hend hin => exec_dramAccess_inside hend hin w, ?l2, fun r s hl hr ha => exec_debugUnlock hl hr ha, fun r s => if_pos (.inr (.inl rfl)), ?boot, ?done⟩
  case l2 =>
    intro c i l u d s hon
    cases u
    · refine ⟨_, exec_l2EccError_corrected hon i l d, ?_⟩
      rw [recordEcc_only]
      exact ⟨rfl, rfl, rfl, rfl, rfl, _, rfl⟩
    · obtain ⟨t, hnext, hmem, -, hcore, v, hevnt⟩ := exec_l2EccError_uncorrected hon i l d
      refine ⟨t, hnext, hmem, ?_⟩
      rw [hcore]
      exact ⟨rfl, rfl, by cases d <;> rfl, by simp, v, hevnt⟩
  case boot =>
    rintro hdr h s hb hitem rfl hok hin
    exact exec_coreBoot hb hitem hok hin
  case done =>
    rintro body bs good s hb hf hlen rfl
    exact exec_coreLoaderDone hb hf hlen

/-- R440: a signed loader with a key item and a good signature, or an unsigned one while BOOT_VERIFY is 0, has no fault. -/
theorem loaderFault_none {s : State} {good : Bool} (h : if bitOf (leAt s.core.hdr 6 2) 0 = true then itemFault s (prmN s P.CORE_BOOT_KEY_ITEM) = none ∧ good = true
    else prmB s P.CORE_BOOT_VERIFY = false) : loaderFault s true good = none := by
  unfold loaderFault
  split at h
  · next hsigned => simp [hsigned, h.1, h.2]
  · next hplain => simp [hplain, h]

/-- R491: a move of wear levelling begins at once on a store that may be written. -/
theorem beginOp_wear {x : StoreOp} {s : State} (hi : storeInhibited s = false) (he : x.erase = false) (hw : x.why = .wear) :
    beginOp x s = setHead { x with begun := true } s := by
  simp [beginOp, hi, he, hw]

/-- R491: on an idle store that may be written a move of wear levelling begins as it joins the queue. -/
theorem pumpStore_wear {x : StoreOp} {s : State} (ho : s.stor.ops = []) (hi : storeInhibited s = false) (he : x.erase = false) (hw : x.why = .wear)
    (hb : x.begun = false) : pumpStore (queueStore x s) = { s with stor.ops := [{ x with begun := true }] } := by
  have hqueue : queueStore x s = { s with stor.ops := [x] } := by
    rw [queueStore, ho]
    rfl
  have hpump : pumpStore { s with stor.ops := [x] } = pumpStoreN 1 (beginOp x { s with stor.ops := [x] }) := if_neg (by simp [hb])
  rw [hqueue, hpump, beginOp_wear (s := { s with stor.ops := [x] }) hi he hw]
  rfl

theorem startWear_moves {src dst : Nat} {s : State} (ho : s.stor.ops = []) (hi : storeInhibited s = false) (hm : wearMove s = some (src, dst)) :
    startWear s = { s with stor.ops := [{ why := .wear, item := 0, begun := true, blocks := [dst], todo := [dst], source := src }] } := by
  have hmove : startWear s = pumpStore (queueStore { why := .wear, item := 0, blocks := [dst], todo := [dst], source := src } s) := by
    unfold startWear
    rw [hm]
  rw [hmove]
  exact pumpStore_wear (x := { why := .wear, item := 0, blocks := [dst], todo := [dst], source := src }) ho hi rfl rfl rfl

/-- R491: a run of wear levelling on an idle store acts at once. -/
theorem exec_wearLevelling_idle {s t : State} (ht : taskOn s 6 = true) (hb : burnishSuspended s = false) (ho : s.stor.ops = []) (hrun : startWear s = t) :
    exec .wearLevelling s = .next t := by
  have hidle : ¬ (burnishSuspended s || s.stor.ops.any (fun x => x.why == .wear)) = true := by simp [hb, ho]
  show execWearLevelling s = _
  rw [execWearLevelling, if_neg (by simp [ht]), if_neg hidle, hrun]

/-- Settles O56: the rows complete by the lemmas above. -/
theorem coreRowsComplete : Obligations.CoreRowsComplete := by
  unfold Obligations.CoreRowsComplete
  refine ⟨?outside, fun c i l d s hon => exec_l2EccError_corrected hon i l d, ?l2, ?unlock, ?flash, ?store, ?done, ?wear⟩
  case outside =>
    intro a addr len w s hend hout hv
    rw [exec_dramAccess_outside hend hout, if_neg (by simp [hv])]
  case l2 =>
    intro c i l d s hon
    obtain ⟨t, hnext, hmem, hchk, hcore, -⟩ := exec_l2EccError_uncorrected hon i l d
    exact ⟨t, hnext, by rw [hcore], by rw [hchk], by rw [hchk], hmem, by rw [hcore], by rw [hcore]⟩
  case unlock =>
    intro r s hl hr ha
    obtain ⟨t, hnext, ht, -⟩ := exec_debugUnlock hl hr ha
    exact ⟨t, hnext, by rw [ht], by rw [ht]; rfl, by rw [ht]; rfl⟩
  case flash =>
    intro h s hb hsrc hok hin
    have hh : bootHeader s h = h := if_neg (by rw [hsrc]; decide)
    rw [exec_coreBoot hb (fun h => absurd h (by rw [hsrc]; decide)) (by rwa [hh]) (by rwa [hh]), hh]
  case store =>
    intro hdr s hb hsrc hitem hok hin
    have hh : bootHeader s hdr = (itemData s (prmN s P.CORE_BOOT_ITEM)).take 128 := if_pos hsrc
    rw [exec_coreBoot hb (fun _ => hitem) (by rwa [hh]) (by rwa [hh]), hh]
  case done =>
    rintro body bs good s hb hlen rfl hf
    obtain ⟨t, hnext, hmem, hentry, hloaded, hboot, hcores⟩ := exec_coreLoaderDone hb (loaderFault_none hf) hlen
    refine ⟨t, hnext, hmem, hboot, hloaded, hentry, fun k hk hrun => ?_⟩
    rw [hcores k hk, if_pos hrun]
    exact ⟨rfl, rfl⟩
  case wear =>
    intro src dst s ht hb ho hi hm
    exact ⟨_, exec_wearLevelling_idle ht hb ho (startWear_moves ho hi hm), rfl, rfl, rfl, rfl⟩

end Sys2Proof.Machine
end

section
/-! PROOFS. The Timekeeper's tick (R314) and the timers of PTP (R316, R322). -/
namespace Sys2Proof.Machine
open Sys2Proof

/-! ### The tick -/

theorem flushAuth_tk (s : State) : (flushAuth s).tk = s.tk := by
  unfold flushAuth
  refine forEach_keeps State.tk (fun p u => ?_) s
  exact (logDeviceN_only ..).keeps State.tk

/-- R314: a time within the Timekeeper's range is the time that it then holds. -/
theorem time48_setTime48 {n : Nat} (hn : n < 2 ^ 48 * 1000000000 * 2 ^ 48) (s : State) : time48 (setTime48 n s) = n := by
  show ((n / 2 ^ 48 / 1000000000 % 2 ^ 48) * 1000000000 + n / 2 ^ 48 % 1000000000) * 2 ^ 48 + n % 2 ^ 48 = n
  have hsecs : n / 2 ^ 48 / 1000000000 < 2 ^ 48 := by omega
  rw [Nat.mod_eq_of_lt hsecs]
  omega

/-- What a tick makes of the Timekeeper is what it makes of it before the seconds carry. -/
theorem exec_timekeeperTick {s : State} (h : bitOf s.boot.clocks 1 = true) : ∃ t, exec .timekeeperTick s = .next t ∧
    t.tk = (setTime48 (time48 s + (tkInc s).toNat) { s with tk.timer := s.tk.timer + (tkInc s).toNat, tk.cycles := s.tk.cycles + 1 }).tk := by
  show ∃ t, execTimekeeperTick s = .next t ∧ _
  rw [execTimekeeperTick, if_neg (by simp [h])]
  refine ⟨_, rfl, ?_⟩
  split
  · exact flushAuth_tk _
  · rfl

/-- Settles O11: the tick's time lies within the range of the Timekeeper, and a carry into the seconds leaves the Timekeeper. -/
theorem timekeeperTick : Obligations.TimekeeperTick := by
  unfold Obligations.TimekeeperTick
  refine ⟨fun s hclk hrange => ?_, fun s hclk => if_pos (by simp [hclk])⟩
  obtain ⟨t, hnext, htk⟩ := exec_timekeeperTick hclk
  have htime : time48 t = time48 s + (tkInc s).toNat := by
    rw [time48, nowNs, htk]
    exact time48_setTime48 hrange _
  refine ⟨t, hnext, htime, by rw [htk]; rfl, ?_, ?_⟩
  · rw [htk]
    exact Nat.mod_lt _ (by decide)
  · rw [htk]
    exact Nat.mod_lt _ (by decide)

/-! ### The timers of PTP -/

/-- A running port whose announce receipt timer has run out `n` times, and which has heard no Announce since. -/
structure TimedOut (p n : Nat) (s : State) : Prop where
  on : ptpOn s p = true
  forgot : (ptpPort s p).ds = none
  quiet : (ptpPort s p).quiet = true
  count : (ptpPort s p).annTimeouts = n

theorem timedOut_setPtpPort {p : Nat} {x : PtpPort} {s : State} (hon : ptpOn s p = true) (hds : x.ds = none) (hquiet : x.quiet = true) :
    TimedOut p x.annTimeouts (setPtpPort p x s) :=
  ⟨hon, by simpa, by simpa, by simp⟩

/-- A port keeps its timed-out state through a loop that writes each port in turn, where each write of it keeps that state. -/
theorem TimedOut.forEach {p n : Nat} {xs : List Nat} {f : Nat → State → State} (hf : ∀ k s, TimedOut p n s → TimedOut p n (f k s)) {s : State}
    (h : TimedOut p n s) : TimedOut p n (forEach xs f s) :=
  forEach_rel (R := fun s t => TimedOut p n s → TimedOut p n t) (fun _ => id) (fun h k => k ∘ h) xs f hf s h

/-- A write of a port keeps the timed-out state of a port where it keeps what that state reads of it. -/
theorem TimedOut.setPtpPort {p n k : Nat} {x : PtpPort} {s : State} (h : TimedOut p n s)
    (hx : k = p → x.ds = none ∧ x.quiet = true ∧ x.annTimeouts = n) : TimedOut p n (setPtpPort k x s) := by
  have hget := ptpPort_setPtpPort k p x s
  by_cases hk : p = k
  · obtain ⟨hds, hquiet, hcount⟩ := hx hk.symm
    rw [if_pos hk] at hget
    exact ⟨h.on, by rwa [hget], by rwa [hget], by rwa [hget]⟩
  · rw [if_neg hk] at hget
    exact ⟨h.on, by rw [hget]; exact h.forgot, by rw [hget]; exact h.quiet, by rw [hget]; exact h.count⟩

theorem TimedOut.assignRoles {p n : Nat} {s : State} (h : TimedOut p n s) (parent : Option Nat) : TimedOut p n (assignRoles parent s) :=
  .forEach (fun k s h => by
    dsimp only
    split
    · next hoff =>
      refine h.setPtpPort fun hk => ?_
      simp [hk, h.on] at hoff
    · exact h.setPtpPort fun hk => hk ▸ ⟨h.forgot, h.quiet, h.count⟩) h

theorem TimedOut.dropMaster {p n : Nat} {s : State} (h : TimedOut p n s) : TimedOut p n (dropMaster s) :=
  .forEach (fun k s h => h.setPtpPort fun hk => by
    subst hk
    dsimp only
    split
    · exact ⟨h.forgot, h.quiet, h.count⟩
    · exact ⟨h.forgot, h.quiet, h.count⟩) h

theorem TimedOut.enterHoldover {p n : Nat} {s : State} (h : TimedOut p n s) : TimedOut p n (enterHoldover s) := by
  unfold Machine.enterHoldover setClockState
  split
  · exact h
  · exact ⟨h.on, h.forgot, h.quiet, h.count⟩

theorem TimedOut.runBmca {p n : Nat} {s : State} (h : TimedOut p n s) : TimedOut p n (runBmca s) := by
  unfold Machine.runBmca
  extract_lets pick s' pid port
  have hroles : TimedOut p n s' := h.assignRoles _
  clear_value s'
  split
  · exact hroles
  next had clk _ t u _ =>
    have ht : TimedOut p n t := ⟨hroles.on, hroles.forgot, hroles.quiet, hroles.count⟩
    have hdropped : TimedOut p n u := ht.dropMaster
    split
    · exact hdropped.enterHoldover
    · exact hdropped

/-- Settles O13: the BMCA that follows leaves the port timed out. -/
theorem ptpTimers : Obligations.PtpTimers := by
  unfold Obligations.PtpTimers
  constructor
  · intro p s hon
    have hout := TimedOut.runBmca (timedOut_setPtpPort (x := { ptpPort s p.val with ds := none, quiet := true, annTimeouts := (ptpPort s p.val).annTimeouts + 1 })
      hon rfl rfl)
    exact ⟨_, (if_neg (by simp [hon])).trans rfl, hout.forgot, hout.quiet, hout.count⟩
  · intro p s hon hrole
    refine ⟨_, ?_, rfl⟩
    show execPtpMessageInterval p 0xB s = _
    simp [execPtpMessageInterval, hon, hrole, ptpSend]

end Sys2Proof.Machine
end

section
/-! PROOFS. The claim line and the roles that it gives (R330 to R333, R346, R347). -/
namespace Sys2Proof.Machine
open Sys2Proof

/-! ### What a change of role leaves (R325, R330) -/

/-- Only the Timekeeper, the events in flight, the free values used and the host port differ. -/
def ClockOnly (s t : State) : Prop := ∃ tk e c h, t = { s with tk := tk, evnt.inflight := e, freeCtr := c, ht := h }

theorem ClockOnly.refl (s : State) : ClockOnly s s := ⟨s.tk, s.evnt.inflight, s.freeCtr, s.ht, rfl⟩

theorem ClockOnly.trans {a b c : State} : ClockOnly a b → ClockOnly b c → ClockOnly a c := by
  rintro ⟨_, _, _, _, rfl⟩ ⟨tk, e, c, h, rfl⟩
  exact ⟨tk, e, c, h, rfl⟩

theorem ClockOnly.ofTk {tk : Tk} (s : State) : ClockOnly s { s with tk := tk } := ⟨tk, s.evnt.inflight, s.freeCtr, s.ht, rfl⟩

/-- What `ClockOnly` leaves as it was, read by any projection. -/
theorem ClockOnly.keeps {β : Type} (π : State → β) {s t : State} (h : ClockOnly s t)
    (hπ : ∀ u tk e c h, π { u with tk := tk, evnt.inflight := e, freeCtr := c, ht := h } = π u := by exact fun _ _ _ _ _ => rfl) : π t = π s := by
  obtain ⟨tk, e, c, h, rfl⟩ := h
  exact hπ ..

theorem setPtpPort_clockOnly (p : Nat) (x : PtpPort) (s : State) : ClockOnly s (setPtpPort p x s) := .ofTk s

theorem raiseOpen_clockOnly (src : Nat) (s : State) : ClockOnly s (raiseOpen src s) := ⟨s.tk, _, _, s.ht, rfl⟩

theorem htCause_clockOnly (k : Nat) (s : State) : ClockOnly s (htCause k s) := ⟨s.tk, s.evnt.inflight, s.freeCtr, _, rfl⟩

theorem assignRoles_clockOnly (parent : Option Nat) (s : State) : ClockOnly s (assignRoles parent s) :=
  forEach_rel (R := ClockOnly) .refl .trans _ _ (fun p s => by
    dsimp only
    split
    · exact setPtpPort_clockOnly ..
    · exact setPtpPort_clockOnly ..) s

theorem dropMaster_clockOnly (s : State) : ClockOnly s (dropMaster s) :=
  forEach_rel (R := ClockOnly) .refl .trans _ _ (fun _ _ => setPtpPort_clockOnly ..) s

theorem setClockState_clockOnly (n : Nat) (s : State) : ClockOnly s (setClockState n s) := by
  unfold setClockState
  split
  · exact .refl s
  · exact .trans (.ofTk s) (raiseOpen_clockOnly ..)

theorem enterHoldover_clockOnly (s : State) : ClockOnly s (enterHoldover s) := by
  unfold enterHoldover
  split
  · exact .refl s
  · exact .trans (.ofTk s) (setClockState_clockOnly ..)

/-- R316, R322: the BMCA acts on the clock alone. -/
theorem runBmca_clockOnly (s : State) : ClockOnly s (runBmca s) := by
  unfold runBmca
  extract_lets pick s' pid port
  have hroles : ClockOnly s s' := assignRoles_clockOnly ..
  clear_value s'
  split
  · exact hroles
  next had clk _ t u _ =>
    have ht : ClockOnly s t := hroles.trans (.ofTk s')
    have hdropped : ClockOnly s u := ht.trans (dropMaster_clockOnly t)
    split
    · exact hdropped.trans (enterHoldover_clockOnly u)
    · exact hdropped

/-- What entering a state makes of the fields of the pair. -/
def entered (n : Nat) (driving : Bool) (s : State) : State :=
  { s with twin.state := n, twin.driving := driving, twin.lineHigh := if driving then false else if s.twin.driving then true else s.twin.lineHigh }

theorem setTwin_eq (n : Nat) (driving : Bool) (s : State) : setTwin n driving s =
    if holdsClaim s = holdsClaim (entered n driving s) then entered n driving s else runBmca (htCause 2 (raiseOpen 365 (entered n driving s))) := rfl

/-- R330: entering a state of the pair acts on the state, the line and the clock alone. -/
theorem setTwin_clockOnly (n : Nat) (driving : Bool) (s : State) : ClockOnly (entered n driving s) (setTwin n driving s) := by
  rw [setTwin_eq]
  split
  · exact .refl _
  · exact ((raiseOpen_clockOnly 365 _).trans (htCause_clockOnly 2 _)).trans (runBmca_clockOnly _)

/-! ### What the release of the claim makes of the outputs (R331, R333) -/

/-- R333: only the pulses, the two-wire channels, the events in flight and the free values used differ. -/
def OutputsOnly (s t : State) : Prop := ∃ p m w e c, t = { s with ports := p, motn := m, twcs := w, evnt.inflight := e, freeCtr := c }

theorem OutputsOnly.refl (s : State) : OutputsOnly s s := ⟨s.ports, s.motn, s.twcs, s.evnt.inflight, s.freeCtr, rfl⟩

theorem OutputsOnly.trans {a b c : State} : OutputsOnly a b → OutputsOnly b c → OutputsOnly a c := by
  rintro ⟨_, _, _, _, _, rfl⟩ ⟨p, m, w, e, c, rfl⟩
  exact ⟨p, m, w, e, c, rfl⟩

/-- What `OutputsOnly` leaves as it was, read by any projection. -/
theorem OutputsOnly.keeps {β : Type} (π : State → β) {s t : State} (h : OutputsOnly s t)
    (hπ : ∀ u p m w e c, π { u with ports := p, motn := m, twcs := w, evnt.inflight := e, freeCtr := c } = π u := by exact fun _ _ _ _ _ _ => rfl) : π t = π s := by
  obtain ⟨p, m, w, e, c, rfl⟩ := h
  exact hπ ..

theorem endTw_outputs (t result bytes : Nat) (s : State) :
    ∃ w e, endTw t result bytes s = { s with twcs := w, evnt.inflight := e } := ⟨_, _, rfl⟩

/-- R448: what a cut-off transaction changes. -/
theorem cutTw_outputs (t result : Nat) (s : State) : ∃ w e c, cutTw t result s = { s with twcs := w, evnt.inflight := e, freeCtr := c } := by
  unfold cutTw
  split
  · exact ⟨_, _, _, rfl⟩
  · exact ⟨s.twcs, s.evnt.inflight, s.freeCtr, rfl⟩

theorem abortQuiet_outputs (s : State) : ∃ w e c, abortQuiet s = { s with twcs := w, evnt.inflight := e, freeCtr := c } := by
  refine forEach_rel (R := fun s t => ∃ w e c, t = { s with twcs := w, evnt.inflight := e, freeCtr := c })
    (fun s => ⟨s.twcs, s.evnt.inflight, s.freeCtr, rfl⟩) ?_ _ _ (fun t s => ?_) s
  · rintro a b c ⟨_, _, _, rfl⟩ ⟨w, e, c, rfl⟩
    exact ⟨w, e, c, rfl⟩
  · split
    · exact cutTw_outputs ..
    · exact ⟨s.twcs, s.evnt.inflight, s.freeCtr, rfl⟩

/-- R331: no pulse is left at the shared outputs, and nothing else of the ports and the compare units differs. -/
structure Quieted (s t : State) : Prop where
  only : OutputsOnly s t
  port : ∀ p, port t p = { Machine.port s p with trigPulse := false }
  pc : ∀ n, pc t n = { Machine.pc s n with pulseEnd := none }

/-- Writing one change, which doing twice is doing once, to the entries of a list of instances. -/
theorem get_foldl_set_keys {α : Type} [DecidableEq α] (d : α) (f : α → α) (hff : ∀ x, f (f x) = f x) (k : Nat) (ks : List Nat) (m : Map α) :
    Map.get d (ks.foldl (fun m p => m.set d p (f (m.get d p))) m) k = if k ∈ ks then f (m.get d k) else m.get d k := by
  induction ks generalizing m with
  | nil => simp
  | cons p ks ih =>
    rw [List.foldl_cons, ih, Map.get_set]
    by_cases hp : k = p
    · subst hp
      simp [hff]
    · simp [hp]

/-- The value under a key is the default or that of one of its entries. -/
theorem get_eq_or_mem {α : Type} (d : α) (k : Nat) (m : Map α) : Map.get d m k = d ∨ (k, Map.get d m k) ∈ m := by
  induction m with
  | nil => exact .inl rfl
  | cons e m ih =>
    by_cases hk : k = e.1
    · subst hk
      simp [Map.get]
    · simpa [Map.get, hk] using ih.imp id .inr

/-- Writing one change to every entry that a condition selects makes the change to every value, where it leaves the others as they are. -/
theorem get_foldl_set {α : Type} [DecidableEq α] (d : α) (sel : α → Bool) (f : α → α) (hsel : sel d = false) (hf : ∀ x, sel x = false → f x = x)
    (hff : ∀ x, f (f x) = f x) (m : Map α) (k : Nat) :
    Map.get d (((m.filter (fun p => sel p.2)).map Prod.fst).foldl (fun m p => m.set d p (f (m.get d p))) m) k = f (m.get d k) := by
  rw [get_foldl_set_keys d f hff]
  split
  next => rfl
  next hk =>
    refine (hf _ (Bool.eq_false_iff.2 fun hs => hk ?_)).symm
    obtain he | hmem := get_eq_or_mem d k m
    · rw [he, hsel] at hs
      cases hs
    · exact List.mem_map.2 ⟨_, List.mem_filter.2 ⟨hmem, hs⟩, rfl⟩

/-- R331: the trigger pulses that are ended. -/
def endTrigPulses (s : State) : State :=
  forEach ((s.ports.filter (fun p => p.2.trigPulse)).map Prod.fst) (fun p s => { s with ports := s.ports.set {} p { s.ports.get {} p with trigPulse := false } }) s

/-- R331: the compare pulses that are ended. -/
def endPcPulses (s : State) : State :=
  forEach ((s.motn.pcs.filter (fun p => p.2.pulseEnd.isSome)).map Prod.fst) (fun n s =>
    { s with motn.pcs := s.motn.pcs.set {} n { s.motn.pcs.get {} n with pulseEnd := none } }) s

theorem quietOutputs_eq (s : State) : quietOutputs s = abortQuiet (endPcPulses (endTrigPulses s)) := rfl

theorem endTrigPulses_eq (s : State) : endTrigPulses s =
    { s with ports := ((s.ports.filter (fun p => p.2.trigPulse)).map Prod.fst).foldl (fun m p => m.set {} p { m.get {} p with trigPulse := false }) s.ports } := by
  unfold endTrigPulses forEach
  generalize (s.ports.filter (fun p => p.2.trigPulse)).map Prod.fst = ks
  induction ks generalizing s with
  | nil => rfl
  | cons p ks ih => rw [List.foldl_cons, ih, List.foldl_cons]

theorem endPcPulses_eq (s : State) : endPcPulses s =
    { s with motn.pcs := ((s.motn.pcs.filter (fun p => p.2.pulseEnd.isSome)).map Prod.fst).foldl (fun m p => m.set {} p { m.get {} p with pulseEnd := none }) s.motn.pcs } := by
  unfold endPcPulses forEach
  generalize (s.motn.pcs.filter (fun p => p.2.pulseEnd.isSome)).map Prod.fst = ks
  induction ks generalizing s with
  | nil => rfl
  | cons p ks ih => rw [List.foldl_cons, ih, List.foldl_cons]

theorem port_endTrigPulses (p : Nat) (s : State) : port (endTrigPulses s) p = { port s p with trigPulse := false } := by
  rw [endTrigPulses_eq]
  exact get_foldl_set {} Port.trigPulse (fun x => { x with trigPulse := false }) rfl (fun x hx => by cases x; simp_all) (fun _ => rfl) s.ports p

theorem pc_endPcPulses (n : Nat) (s : State) : pc (endPcPulses s) n = { pc s n with pulseEnd := none } := by
  rw [endPcPulses_eq]
  exact get_foldl_set {} (fun x => x.pulseEnd.isSome) (fun x => { x with pulseEnd := none }) rfl (fun x hx => by cases x; simp_all) (fun _ => rfl) s.motn.pcs n

theorem quietOutputs_quieted (s : State) : Quieted s (quietOutputs s) := by
  obtain ⟨w, e, c, h⟩ := abortQuiet_outputs (endPcPulses (endTrigPulses s))
  rw [quietOutputs_eq, h]
  refine ⟨?_, fun p => ?_, fun n => ?_⟩
  · rw [endPcPulses_eq, endTrigPulses_eq]
    exact ⟨_, _, _, _, _, rfl⟩
  · rw [endPcPulses_eq]
    exact port_endTrigPulses p s
  · refine (pc_endPcPulses n (endTrigPulses s)).trans ?_
    rw [endTrigPulses_eq]
    rfl

/-! ### The claim line (R330 to R332, R346) -/

/-- What a sequenced message leaves as it was, read by any projection. -/
theorem sendSeq_keeps {β : Type} (π : State → β) (typ : Nat) (p : List Byte) (s : State)
    (hπ : ∀ u a b n w, π { u with twin.sent := a, twin.replay := b, twin.txNext := n, twin.waiting := w } = π u := by exact fun _ _ _ _ _ => rfl) : π (sendSeq typ p s) = π s := by
  obtain ⟨a, b, n, w, h⟩ := sendSeq_only typ p s
  rw [h, hπ]

/-- R345: a joiner asks for the join, where the link is UP to a peer of another UNIT_ID. -/
theorem startJoin_eq {s : State} (hsame : sameUnitId s = false) (hpeer : s.twin.peer.isNone = false) :
    (startJoin s).twin.state = (if s.twin.link = 2 then 4 else s.twin.state) ∧ (startJoin s).twin.driving = s.twin.driving ∧
    (startJoin s).twin.conflict = s.twin.conflict ∧ (startJoin s).twin.timerLive = s.twin.timerLive := by
  unfold startJoin
  by_cases hl : s.twin.link = 2
  · rw [if_neg (by simp [hsame, hl]), if_neg (by simp [hpeer]), if_pos hl]
    exact ⟨sendSeq_keeps (fun t => t.twin.state) .., sendSeq_keeps (fun t => t.twin.driving) .., sendSeq_keeps (fun t => t.twin.conflict) ..,
      sendSeq_keeps (fun t => t.twin.timerLive) ..⟩
  · rw [if_pos (by simp [hl]), if_neg hl]
    exact ⟨rfl, rfl, rfl, rfl⟩

/-- R331: the end of the claim releases the line and cuts off what drives the shared outputs. -/
theorem releaseClaim_released {s : State} (hd : s.twin.driving = true) : ∃ u, Quieted u (releaseClaim s) ∧
    ClockOnly (entered 8 false { s with twin.timerLive := false, twin.conflict := false, twin.yielding := none, twin.yieldDue := false, twin.retry := false }) u :=
  ⟨setTwin 8 false { s with twin.timerLive := false, twin.conflict := false, twin.yielding := none, twin.yieldDue := false, twin.retry := false },
    by rw [releaseClaim, if_pos hd]; exact quietOutputs_quieted _, setTwin_clockOnly ..⟩

/-- R332: what a conflict makes of the window and the timer before the line is released. -/
def conflictOver (s : State) : State := { s with twin.conflict := false, twin.timerLive := false, twin.isoFrom := 7 }

/-- R332: the line released in a conflict. -/
def yielded (s : State) : State := logDevice 365 0x0906 0 0 (quietOutputs (setTwin 7 false (conflictOver s)))

/-- What the release of the line in a conflict leaves as it was, read by any projection. -/
theorem yielded_keeps {β : Type} (π : State → β) (s : State)
    (hl : ∀ u v, π (State.logged u v) = π u := by exact fun _ _ => rfl)
    (ho : ∀ u p m w e c, π { u with ports := p, motn := m, twcs := w, evnt.inflight := e, freeCtr := c } = π u := by exact fun _ _ _ _ _ _ => rfl)
    (hc : ∀ u tk e c h, π { u with tk := tk, evnt.inflight := e, freeCtr := c, ht := h } = π u := by exact fun _ _ _ _ _ => rfl) :
    π (yielded s) = π (entered 7 false (conflictOver s)) := calc
  π (yielded s) = π (quietOutputs (setTwin 7 false (conflictOver s))) := (logDevice_only ..).keeps π (hl _)
  _ = π (setTwin 7 false (conflictOver s)) := (quietOutputs_quieted _).only.keeps π ho
  _ = π (entered 7 false (conflictOver s)) := (setTwin_clockOnly ..).keeps π hc

/-- R332: UNIT_ID 1, where both drive, releases the line and joins where the link is UP. -/
theorem claimConflict_yields {s : State} {h : Heartbeat} (hpeer : s.twin.peer = some h) (hc : s.twin.conflict = true) (hd : s.twin.driving = true)
    (hh : h.driving = true) (hid : prmN s P.TWIN_UNIT_ID = 1) (hne : h.unitId ≠ 1) :
    (claimConflict s).twin.driving = false ∧ (claimConflict s).twin.conflict = false ∧ (claimConflict s).twin.timerLive = false ∧
    (claimConflict s).twin.state = if s.twin.link = 2 then 4 else 7 := by
  have hsame : sameUnitId s = false := by simp [sameUnitId, hpeer, hid, hne]
  have hyield : claimConflict s = startJoin (yielded s) := by
    rw [claimConflict, hpeer]
    exact if_pos (by simp [hc, hd, hh, hid, hsame])
  obtain ⟨hstate, hdriving, hconflict, htimer⟩ := startJoin_eq (s := yielded s) ((yielded_keeps sameUnitId s).trans hsame)
    ((yielded_keeps (fun t => t.twin.peer.isNone) s).trans (by rw [show (entered 7 false (conflictOver s)).twin.peer = some h from hpeer]; rfl))
  rw [hyield, hstate, hdriving, hconflict, htimer, yielded_keeps (fun t => t.twin.driving) s, yielded_keeps (fun t => t.twin.conflict) s,
    yielded_keeps (fun t => t.twin.timerLive) s, yielded_keeps (fun t => t.twin.state) s, yielded_keeps (fun t => t.twin.link) s]
  exact ⟨rfl, rfl, rfl, rfl⟩

theorem claimConflict_idle {s : State} (h : s.twin.peer = none ∨ s.twin.conflict = false) : claimConflict s = s := by
  unfold claimConflict
  obtain h | h := h
  · rw [h]
  · split
    · rw [if_neg (by simp [h])]
    · rfl

/-! ### A takeover (R346, R347) -/

theorem foldl_waitBuses (ks : List Nat) (s : State) :
    ∃ w, forEach ks (fun t s => setTwc t { twc s t with busBusy := true } s) s = { s with twcs := w } ∧
      ∀ k, k ∈ ks ∨ (twc s k).busBusy = true → (w.get {} k).busBusy = true := by
  induction ks generalizing s with
  | nil => exact ⟨s.twcs, rfl, fun k hk => hk.resolve_left (by simp)⟩
  | cons t ks ih =>
    obtain ⟨w, hw, hb⟩ := ih (setTwc t { twc s t with busBusy := true } s)
    refine ⟨w, hw, fun k hk => hb k ?_⟩
    rw [twc_setTwc]
    by_cases hkt : k = t
    · exact .inr (by rw [if_pos hkt])
    · rw [if_neg hkt]
      exact hk.imp_left (by simp [hkt])

/-- R347: the two-wire channels of TW_QUIET wait for a free bus. -/
theorem waitBuses_spec (s : State) : ∃ w, waitBuses s = { s with twcs := w } ∧
    ∀ k < 8, bitOf (prmN s P.TWIN_TW_QUIET) k = true → (w.get {} k).busBusy = true := by
  obtain ⟨w, hw, hb⟩ := foldl_waitBuses ((List.range 8).filter (bitOf (prmN s P.TWIN_TW_QUIET))) s
  exact ⟨w, hw, fun k hk hbit => hb k (.inl (List.mem_filter.2 ⟨List.mem_range.2 hk, hbit⟩))⟩

/-- Only the transmit state of the ports differs. -/
def PortsOnly (s t : State) : Prop := ∃ p, t = { s with netw.ports := p }

theorem sendAddress_eq (p : Nat) (v6 : Bool) (peer : Peer) (b : Bool) (s : State) : ∃ a, sendAddress p v6 peer b s =
    setNetPort p { netPort s p with urgent := (netPort s p).urgent ++ [.frame (.arpReply p v6 a)] } s := ⟨_, rfl⟩

/-- R346: a port that announces its addresses has both frames wait ahead of its queues. -/
theorem announcePort_spec (p : Nat) (s : State) : PortsOnly s (announcePort p s) ∧
    (prmN s (P.NETW_RUN p) = 1 → ∃ a b, (netPort (announcePort p s) p).urgent = (netPort s p).urgent ++ [.frame (.arpReply p false a), .frame (.arpReply p true b)]) ∧
    ∀ q ≠ p, netPort (announcePort p s) q = netPort s q := by
  unfold announcePort
  by_cases hrun : prmN s (P.NETW_RUN p) = 1
  · rw [if_pos hrun]
    obtain ⟨a, ha⟩ := sendAddress_eq p false { mac := 0xFFFFFFFFFFFF, ip := 0xFFFF * 2 ^ 32 + prmN s (P.NETW_IPV4 p) } false s
    rw [ha]
    generalize hu : setNetPort p _ s = u
    obtain ⟨b, hb⟩ := sendAddress_eq p true { mac := 0x333300000001, ip := 0xFF02 * 2 ^ 112 + 1 } false u
    rw [hb]
    refine ⟨?_, fun _ => ⟨a, b, ?_⟩, fun q hq => ?_⟩
    · subst hu
      exact ⟨_, rfl⟩
    · rw [netPort_setNetPort_self, ← hu, netPort_setNetPort_self]
      simp
    · rw [netPort_setNetPort, if_neg hq, ← hu, netPort_setNetPort, if_neg hq]
  · rw [if_neg hrun]
    exact ⟨⟨s.netw.ports, rfl⟩, fun h => absurd h hrun, fun _ _ => rfl⟩

theorem release_get (x : Nat) (ks : List Nat) {k : Nat} (hk : k ∈ ks) : Map.get 0 (ks.map (fun p => (p, x))) k = x := by
  induction ks with
  | nil => cases hk
  | cons p ks ih =>
    by_cases hp : k = p
    · simp [Map.get, hp]
    · simpa [Map.get, hp] using ih ((List.mem_cons.1 hk).resolve_left hp)

/-- R346: what a takeover makes of the fields of the pair before the line is driven. -/
def taking (s : State) : State :=
  { s with twin.mayTake := false, twin.timerLive := true, twin.takeovers := s.twin.takeovers + 1, twin.join := none, twin.retry := false, twin.unhealthyPeer := false }

/-- R346: the line taken over and the holds ended, before the buses and the announcements. -/
def tookOver (s : State) : State := logDevice 365 0 0 0 (releaseHolds (setTwin 2 true (taking s)))

/-- What a takeover leaves as it was, read by any projection. -/
theorem tookOver_keeps {β : Type} (π : State → β) (s : State)
    (hl : ∀ u v, π (State.logged u v) = π u := by exact fun _ _ => rfl)
    (hc : ∀ u tk e c h, π (releaseHolds { u with tk := tk, evnt.inflight := e, freeCtr := c, ht := h }) = π (releaseHolds u) := by exact fun _ _ _ _ _ => rfl) :
    π (tookOver s) = π (releaseHolds (entered 2 true (taking s))) :=
  ((logDevice_only ..).keeps π (hl _)).trans ((setTwin_clockOnly ..).keeps (fun t => π (releaseHolds t)) hc)

/-- What the buses and the announcements of a takeover leave as it was, read by any projection. -/
theorem takeover_keeps {β : Type} (π : State → β) (s : State) (ht : ∀ u w, π { u with twcs := w } = π u := by exact fun _ _ => rfl)
    (hp : ∀ u p, π { u with netw.ports := p } = π u := by exact fun _ _ => rfl) : π (announcePort 1 (announcePort 0 (waitBuses s))) = π s := by
  obtain ⟨w, hw, -⟩ := waitBuses_spec s
  obtain ⟨⟨p, h0⟩, -⟩ := announcePort_spec 0 (waitBuses s)
  obtain ⟨⟨q, h1⟩, -⟩ := announcePort_spec 1 (announcePort 0 (waitBuses s))
  rw [h1, hp, h0, hp, hw, ht]

/-- R346: the running NET ports announce their addresses. -/
theorem takeover_announces (s : State) {p : Nat} (hp : p < 2) (hrun : prmN s (P.NETW_RUN p) = 1) :
    ∃ us a b, (netPort (announcePort 1 (announcePort 0 (waitBuses s))) p).urgent = us ++ [.frame (.arpReply p false a), .frame (.arpReply p true b)] := by
  obtain ⟨w, hw, -⟩ := waitBuses_spec s
  obtain ⟨⟨x, h0⟩, hann0, -⟩ := announcePort_spec 0 (waitBuses s)
  obtain ⟨-, hann1, hother⟩ := announcePort_spec 1 (announcePort 0 (waitBuses s))
  obtain rfl | rfl : p = 0 ∨ p = 1 := by omega
  · rw [hother 0 (by decide)]
    obtain ⟨a, b, h⟩ := hann0 (by rw [hw]; exact hrun)
    exact ⟨_, a, b, h⟩
  · obtain ⟨a, b, h⟩ := hann1 (by rw [h0, hw]; exact hrun)
    exact ⟨_, a, b, h⟩

/-- R347: after a takeover the two-wire channels of TW_QUIET wait for a free bus. -/
theorem takeover_busBusy (s : State) {k : Nat} (hk : k < 8) (hb : bitOf (prmN s P.TWIN_TW_QUIET) k = true) :
    (twc (announcePort 1 (announcePort 0 (waitBuses s))) k).busBusy = true := by
  obtain ⟨w, hw, hbusy⟩ := waitBuses_spec s
  obtain ⟨⟨p, h0⟩, -⟩ := announcePort_spec 0 (waitBuses s)
  obtain ⟨⟨q, h1⟩, -⟩ := announcePort_spec 1 (announcePort 0 (waitBuses s))
  rw [h1, h0, hw]
  exact hbusy k hk hb

theorem execTakeover_taken {s : State} (hrun : prmB s P.TWIN_RUN = true) (hmay : s.twin.mayTake = true) (hd : s.twin.driving = false) (hp : takeoverPermits s = true) :
    exec .takeover s = .next (announcePort 1 (announcePort 0 (waitBuses (tookOver s)))) := by
  show execTakeover s = _
  rw [execTakeover, if_pos ⟨hrun, hmay, by simp [hd], hp⟩]
  rfl

/-- Settles O52: the Shaesh functions act on the pair, the clock and the outputs alone, and the changes of state are `setTwin`. -/
theorem claimLine : Obligations.ClaimLine := by
  unfold Obligations.ClaimLine
  refine ⟨fun s hrun hst => ⟨?_, ?_, ?_, ?_⟩, fun b s h => ?_, fun s hst hl => ?_, fun s h => ?_, fun _ => rfl, fun s h => ?_,
    fun s h hpeer hc hd hh hid hne => ⟨_, rfl, claimConflict_yields hpeer hc hd hh hid hne⟩, fun s hd => ?_, fun s hd => ?_, fun _ => rfl,
    fun s hrun hmay hd hp => ⟨_, execTakeover_taken hrun hmay hd hp, ?_, ?_, ?_, ?_, ?_, ?_, ?_, ?_, ?_, ?_, ?_, ?_⟩, fun s h => ?_⟩
  · show execTwinClaiming true s = _
    rw [execTwinClaiming, if_pos ⟨hrun, hst⟩]
    rfl
  · obtain ⟨tk, e, c, h, ht⟩ := setTwin_clockOnly 1 false { s with twin.lineHigh := true }
    rw [ht]
    rfl
  · obtain ⟨tk, e, c, h, ht⟩ := setTwin_clockOnly 1 false { s with twin.lineHigh := true }
    rw [ht]
    rfl
  · obtain ⟨tk, e, c, h, ht⟩ := setTwin_clockOnly 7 false { s with twin.lineHigh := false }
    refine ⟨{ setTwin 7 false { s with twin.lineHigh := false } with twin.isoFrom := 7 }, ?_, ?_⟩
    · show execTwinClaiming false s = _
      rw [execTwinClaiming, if_pos ⟨hrun, hst⟩]
      rfl
    · rw [ht]
      exact ⟨rfl, rfl, rfl, rfl, rfl, rfl⟩
  · show execTwinClaiming b s = _
    rw [execTwinClaiming, if_neg]
    rintro ⟨hrun, hst⟩
    obtain h | ⟨h0, h1⟩ := h
    · simp [hrun] at h
    · exact hst.elim h0 h1
  · obtain ⟨tk, e, c, h, ht⟩ := setTwin_clockOnly 2 true { s with twin.conflict := true, twin.timerLive := true }
    refine ⟨setTwin 2 true { s with twin.conflict := true, twin.timerLive := true }, ?_, ?_⟩
    · show execClaimSettleExpiry s = _
      rw [execClaimSettleExpiry, if_pos ⟨hst, hl⟩]
    · rw [ht]
      exact ⟨rfl, rfl, rfl, rfl, rfl, rfl, rfl, rfl, rfl, rfl⟩
  · show execClaimSettleExpiry s = _
    rw [execClaimSettleExpiry, if_neg]
    rintro ⟨hst, hl⟩
    obtain h | h := h
    · exact h hst
    · simp [hl] at h
  · exact congrArg Host.Outcome.next (claimConflict_idle h)
  · obtain ⟨u, ⟨⟨p, m, w, e, c, ht⟩, hports, hpcs⟩, tk, e', c', h, hu⟩ := releaseClaim_released hd
    refine ⟨releaseClaim s, rfl, ?_, ?_, ?_, ?_, ?_, ?_, ?_⟩
    · rw [ht, hu]
      rfl
    · rw [ht, hu]
      rfl
    · rw [ht, hu]
      simp [entered, hd]
    · rw [ht, hu]
      rfl
    · rw [ht, hu]
      rfl
    · intro p
      rw [hports, hu]
      rfl
    · intro n
      rw [hpcs, hu]
      rfl
  · show Host.Outcome.next (releaseClaim s) = _
    rw [releaseClaim, if_neg (by simp [hd])]
  · exact (takeover_keeps (fun t => t.twin.state) _).trans (tookOver_keeps (fun t => t.twin.state) s)
  · exact (takeover_keeps (fun t => t.twin.driving) _).trans (tookOver_keeps (fun t => t.twin.driving) s)
  · exact (takeover_keeps (fun t => t.twin.takeovers) _).trans (tookOver_keeps (fun t => t.twin.takeovers) s)
  · exact (takeover_keeps (fun t => t.twin.mayTake) _).trans (tookOver_keeps (fun t => t.twin.mayTake) s)
  · exact (takeover_keeps (fun t => t.twin.join) _).trans (tookOver_keeps (fun t => t.twin.join) s)
  · exact (takeover_keeps (fun t => t.twin.timerLive) _).trans (tookOver_keeps (fun t => t.twin.timerLive) s)
  · intro p hp
    rw [takeover_keeps (fun t => t.twin.release) _, tookOver_keeps (fun t => t.twin.release) s]
    exact release_get _ _ (List.mem_range.2 hp)
  · intro p hp
    rw [takeover_keeps (fun t => t.twin.skipHb) _, tookOver_keeps (fun t => t.twin.skipHb) s]
    exact release_get _ _ (List.mem_range.2 hp)
  · exact (takeover_keeps (fun t => t.mem) _).trans (tookOver_keeps (fun t => t.mem) s)
  · exact (takeover_keeps (fun t => t.ports) _).trans (tookOver_keeps (fun t => t.ports) s)
  · exact fun k hk hb => takeover_busBusy _ hk ((congrArg (bitOf · k) (tookOver_keeps (fun t => prmN t P.TWIN_TW_QUIET) s)).trans hb)
  · exact fun p hp hr => takeover_announces _ hp ((tookOver_keeps (fun t => prmN t (P.NETW_RUN p)) s).trans hr)
  · show execTakeover s = _
    rw [execTakeover, if_neg]
    rintro ⟨hrun, hmay, hd, hp⟩
    obtain h | h | h | h := h
    · simp [hrun] at h
    · simp [hmay] at h
    · exact hd h
    · simp [hp] at h

end Sys2Proof.Machine
end

section
/-! PROOFS. What leaves memory as it is (R372): one frame lemma for each function of the model that answers a state. -/
namespace Sys2Proof.Machine
open Sys2Proof

/-- The outcome is a next state with the property. -/
def nextWith (P : State → Prop) : Host.Outcome State Fault Refusal → Prop
  | .next t => P t
  | .fault _ => False
  | .refused _ => False
@[simp] theorem nextWith_next (P : State → Prop) (t : State) : nextWith P (.next t) = P t := rfl
@[simp] theorem mem_ite (c : Prop) [Decidable c] (s t : State) : (if c then s else t).mem = if c then s.mem else t.mem := apply_ite ..
theorem ite_mem_self {c : Prop} [Decidable c] {s t : State} (h : t.mem = s.mem) : (if c then s else t).mem = s.mem := by
  rw [mem_ite, h, ite_self]
@[simp] theorem forEach_mem {α : Type} (xs : List α) (f : α → State → State) (s : State) (h : ∀ a s, (f a s).mem = s.mem) : (forEach xs f s).mem = s.mem :=
  forEach_rel (R := fun s t => t.mem = s.mem) (fun _ => rfl) (fun {a b c} (h : b.mem = a.mem) (k : c.mem = b.mem) => Eq.trans k h) xs f h s

/-- What a command's run leaves of memory, where it is not refused. -/
def Ran.leaves (P : Memory → Prop) : Ran → Prop
  | .done _ _ _ t => P t.mem
  | .refuse _ => True
  | .defer t => P t.mem
@[simp] theorem Ran.leaves_done (P : Memory → Prop) (ps : List Byte) (more : Bool) (v : Nat) (t : State) : (Ran.done ps more v t).leaves P = P t.mem := rfl
@[simp] theorem Ran.leaves_refuse (P : Memory → Prop) (ds : List Detail) : (Ran.refuse ds).leaves P = True := rfl
@[simp] theorem Ran.leaves_defer (P : Memory → Prop) (t : State) : (Ran.defer t).leaves P = P t.mem := rfl
@[simp] theorem Ran.leaves_ite (P : Memory → Prop) (c : Prop) [Decidable c] (r r' : Ran) : (if c then r else r').leaves P = if c then r.leaves P else r'.leaves P := apply_ite ..
@[simp] theorem countRx_mem (p : ℕ) (s : State) : (countRx p s).mem = s.mem := rfl
@[simp] theorem setSession_mem (n : ℕ) (x : Session) (s : State) : (setSession n x s).mem = s.mem := rfl
@[simp] theorem feedFlow_mem (i : Item) (f : ℕ) (s : State) : (feedFlow i f s).mem = s.mem := by fun_cases feedFlow <;> simp
@[simp] theorem feed_mem (i : Item) (s : State) : (feed i s).mem = s.mem := by simp [feed]
@[simp] theorem pushLog_mem (e : LogEntry) (s : State) : (pushLog e s).mem = s.mem := by fun_cases pushLog <;> simp
@[simp] theorem transmit_mem (m : TwinMsg) (s : State) : (transmit m s).mem = s.mem := rfl
@[simp] theorem sendSeq_mem (typ : ℕ) (payload : List Byte) (s : State) : (sendSeq typ payload s).mem = s.mem := by simp [sendSeq]
@[simp] theorem logCommit_mem (e : LogEntry) (s : State) : (logCommit e s).mem = s.mem := by simp [logCommit]
@[simp] theorem logNow_mem (e : LogEntry) (s : State) : (logNow e s).mem = s.mem := by simp [logNow]
@[simp] theorem logDeviceN_mem (src : ℕ) (status : ℕ) (subject : ℕ) (value : ℕ) (count : ℕ) (s : State) : (logDeviceN src status subject value count s).mem = s.mem := by simp [logDeviceN]
@[simp] theorem flushAuth_mem (s : State) : (flushAuth s).mem = s.mem := by simp [flushAuth]
@[simp] theorem authFailure_mem (ip : ℕ) (s : State) : (authFailure ip s).mem = s.mem := by simp [authFailure]
@[simp] theorem keepDetail_mem (h : Hdr) (ds : List Detail) (s : State) : (keepDetail h ds s).2.mem = s.mem := by fun_cases keepDetail <;> simp
@[simp] theorem logCmd_mem (c : Cmd) (kind : ℕ) (status : ℕ) (value : ℕ) (s : State) : (logCmd c kind status value s).mem = s.mem := by simp [logCmd]
@[simp] theorem cacheReply_mem (n : ℕ) (x : Cached) (s : State) : (cacheReply n x s).mem = s.mem := by fun_cases cacheReply <;> simp
@[simp] theorem raise_mem (src : ℕ) (arg : ℕ) (s : State) : (raise src arg s).mem = s.mem := rfl
@[simp] theorem raiseReady_mem (q : ℕ) (s : State) : (raiseReady q s).mem = s.mem := rfl
@[simp] theorem readyCheck_mem (q : ℕ) (old : ℕ) (s : State) : (readyCheck q old s).mem = s.mem := by simp [readyCheck]
@[simp] theorem queueAppend_mem (q : ℕ) (ws : List QWord) (s : State) : (queueAppend q ws s).mem = s.mem := by simp [queueAppend]
@[simp] theorem unitPush_mem (q : ℕ) (vals : List ℕ) (s : State) : (unitPush q vals s).2.mem = s.mem := by fun_cases unitPush <;> simp
@[simp] theorem udpReply_mem (peer : Peer) (slot : ℕ) (nonce : ℕ) (packet : List Byte) (s : State) : (udpReply peer slot nonce packet s).mem = s.mem := rfl
@[simp] theorem htCause_mem (k : ℕ) (s : State) : (htCause k s).mem = s.mem := rfl
@[simp] theorem htReply_mem (bs : List Byte) (s : State) : (htReply bs s).mem = s.mem := by simp [htReply]
@[simp] theorem emit_mem (r : Reply) (s : State) : (emit r s).mem = s.mem := by unfold emit; split <;> simp
@[simp] theorem sendReply_mem (r : Reply) (s : State) : (sendReply r s).mem = s.mem := by simp [sendReply]
@[simp] theorem fresh_mem (s : State) : (fresh s).2.mem = s.mem := rfl
@[simp] theorem startJoin_mem (s : State) : (startJoin s).mem = s.mem := by simp [startJoin]
@[simp] theorem shadowDiverge_mem (s : State) : (shadowDiverge s).mem = s.mem := by simp [shadowDiverge]
@[simp] theorem raiseOpen_mem (src : ℕ) (s : State) : (raiseOpen src s).mem = s.mem := rfl
@[simp] theorem logDevice_mem (src : ℕ) (status : ℕ) (subject : ℕ) (value : ℕ) (s : State) : (logDevice src status subject value s).mem = s.mem := by simp [logDevice]
@[simp] theorem replyDiverge_mem (s : State) : (replyDiverge s).mem = s.mem := by simp [replyDiverge]
@[simp] theorem finish_mem (c : Cmd) (status : ℕ) (params : List Byte) (more : Bool) (value : ℕ) (s : State) : (finish c status params more value s).mem = s.mem := by simp [finish]
@[simp] theorem refuseWith_mem (c : Cmd) (ds : List Detail) (s : State) : (refuseWith c ds s).mem = s.mem := by simp [refuseWith]
@[simp] theorem mirrorCmd_mem (c : Cmd) (status : ℕ) (epoch : ℕ) (packets : List (ℕ × List Byte)) (s : State) : (mirrorCmd c status epoch packets s).mem = s.mem := by unfold mirrorCmd; split <;> simp
@[simp] theorem deferCmd_mem (i : Instr) (c : Cmd) (role : ℕ) (s : State) : (deferCmd i c role s).mem = s.mem := by simp [deferCmd]
theorem runCmd_leaves {P : Memory → Prop} {s : State} (hs : P s.mem) (i : Instr) (c : Cmd) (mayDefer : Bool) (own values : State → List Detail)
    {run : Nat → State → Ran} (hrun : ∀ n, (run n s).leaves P) (packets : State → List (Nat × List Byte)) (rate : Bool) :
    P (runCmd i c mayDefer own values run packets rate s).mem := by
  have refused (ds : List Detail) : P (refuseWith c ds s).mem := by rwa [refuseWith_mem]
  have hr := hrun (((session s c.h.session).getD { via := c.h.via }).pktSize - 40)
  unfold runCmd
  dsimp only
  split
  · exact refused _
  · exact refused _
  split
  · exact refused _
  split
  · exact refused _
  split
  · exact refused _
  split
  · exact refused _
  split
  · exact refused _
  split
  · exact refused _
  split
  · exact refused _
  · next heq => simpa [heq] using hr
  · next heq => simpa [heq] using hr
@[simp] theorem refuseEarly_mem (c : Cmd) (ds : List Detail) (s : State) : (refuseEarly c ds s).mem = s.mem := by simp [refuseEarly]
@[simp] theorem holdCmd_mem (i : Instr) (c : Cmd) (x : Session) (s : State) : (holdCmd i c x s).mem = s.mem := by simp [holdCmd]
@[simp] theorem oldSeq_mem (c : Cmd) (x : Session) (s : State) : (oldSeq c x s).mem = s.mem := by unfold oldSeq; (repeat' split) <;> simp
theorem udpBad_mem {h : Hdr} {op : Nat} {s : State} {act : State → State} (hact : udpBad h op s = some act) (t : State) : (act t).mem = t.mem := by
  have hsome : act = id ∨ ∃ ip, act = authFailure ip := by
    unfold udpBad at hact
    repeat' split at hact
    all_goals cases hact
    exacts [.inl rfl, .inr ⟨_, rfl⟩, .inr ⟨_, rfl⟩]
  rcases hsome with rfl | ⟨ip, rfl⟩
  · rfl
  · simp
theorem xesil_leaves {P : Memory → Prop} {s : State} (hs : P s.mem) (i : Instr) (c : Cmd) (mayDefer : Bool) (own values : State → List Detail)
    {run : Nat → State → Ran} (hrun : ∀ n t, P t.mem → (run n t).leaves P) (packets : State → List (Nat × List Byte)) :
    P (xesil i c mayDefer own values run packets s).mem := by
  unfold xesil
  split
  · exact hs
  split
  · next act hact => rwa [udpBad_mem hact]
  split
  · exact runCmd_leaves hs _ _ _ _ _ (fun n => hrun n s hs) _ _
  split
  · rwa [refuseEarly_mem]
  dsimp only
  split
  · exact runCmd_leaves (by simpa) _ _ _ _ _ (fun n => hrun n _ (by simpa)) _ _
  (repeat' split) <;> simpa
theorem xesil_mem {i : Instr} {c : Cmd} {mayDefer : Bool} {own values : State → List Detail} {run : Nat → State → Ran}
    {packets : State → List (Nat × List Byte)} (hrun : ∀ n t, (run n t).leaves (· = t.mem)) (s : State) :
    (xesil i c mayDefer own values run packets s).mem = s.mem :=
  xesil_leaves (P := (· = s.mem)) rfl i c mayDefer own values (fun n t ht => ht ▸ hrun n t) packets
@[simp] theorem doSessionOpen_mem (h : Hdr) (pktSize : ℕ) (idleMs : ℕ) (s : State) : (doSessionOpen h pktSize idleMs s).mem = s.mem := xesil_mem (fun _ _ => by simp) s
@[simp] theorem disarmCams_mem (epoch : ℕ) (s : State) : (disarmCams epoch s).mem = s.mem := by simp [disarmCams]
@[simp] theorem afterCinch_mem (s : State) : (afterCinch s).mem = s.mem := by simp [afterCinch]
@[simp] theorem replyDeferred_mem (d : Deferred) (status : ℕ) (params : List Byte) (more : Bool) (s : State) : (replyDeferred d status params more s).mem = s.mem := by unfold replyDeferred; dsimp only; split <;> simp
@[simp] theorem logDeferred_mem (d : Deferred) (status : ℕ) (value : ℕ) (s : State) : (logDeferred d status value s).mem = s.mem := by simp [logDeferred]
@[simp] theorem endDeferred_mem (d : Deferred) (status : ℕ) (params : List Byte) (more : Bool) (value : ℕ) (s : State) : (endDeferred d status params more value s).mem = s.mem := by simp [endDeferred]
@[simp] theorem failDeferred_mem (d : Deferred) (ds : List Detail) (s : State) : (failDeferred d ds s).mem = s.mem := by unfold failDeferred; split <;> simp
@[simp] theorem abandonCinch_mem (status : ℕ) (details : List Detail) (s : State) : (abandonCinch status details s).mem = s.mem := by unfold abandonCinch; dsimp only; (repeat' split) <;> simp
@[simp] theorem commitDeferred_mem (sess : ℕ) (seq : ℕ) (s : State) : (commitDeferred sess seq s).mem = s.mem := rfl
@[simp] theorem claimQueues_mem (on : Bool) (c : ℕ) (s : State) : (claimQueues on c s).mem = s.mem := by simp [claimQueues]
@[simp] theorem startChan_mem (c : ℕ) (s : State) : (startChan c s).mem = s.mem := by fun_cases startChan <;> simp
@[simp] theorem beginCrcJob_mem (k : ℕ) (sess : ℕ) (seq : ℕ) (s : State) : (beginCrcJob k sess seq s).mem = s.mem := by unfold beginCrcJob; split <;> simp
@[simp] theorem pumpCrcJobs_mem (s : State) : (pumpCrcJobs s).mem = s.mem := by fun_cases pumpCrcJobs <;> simp
@[simp] theorem supRun_mem (m : SupMove) (s : State) : (supRun m s).mem = s.mem := rfl
@[simp] theorem supPump_mem (s : State) : (supPump s).mem = s.mem := by
  unfold supPump
  split
  · rfl
  · exact forEach_mem _ _ _ (fun _ _ => supRun_mem ..)
@[simp] theorem endChan_mem (st : ℕ) (kind : ℕ) (c : ℕ) (s : State) : (endChan st kind c s).mem = s.mem := by simp [endChan]
@[simp] theorem withdrawChan_mem (c : ℕ) (s : State) : (withdrawChan c s).mem = s.mem := by simp [withdrawChan]
@[simp] theorem forgetCrcJob_mem (sess : ℕ) (seq : ℕ) (s : State) : (forgetCrcJob sess seq s).mem = s.mem := by unfold forgetCrcJob; dsimp only; split <;> simp
@[simp] theorem freeEngine_mem (e : ℕ) (s : State) : (freeEngine e s).mem = s.mem := rfl
@[simp] theorem forgetJob_mem (j : ℕ × ℕ) (s : State) : (forgetJob j s).mem = s.mem := by simp [forgetJob]
@[simp] theorem leaveTest_mem (t : TestRun) (s : State) : (leaveTest t s).mem = s.mem := by simp [leaveTest]
@[simp] theorem forgetTest_mem (sess : ℕ) (seq : ℕ) (s : State) : (forgetTest sess seq s).mem = s.mem := by unfold forgetTest; split <;> simp
@[simp] theorem forgetDeferred_mem (d : Deferred) (s : State) : (forgetDeferred d s).mem = s.mem := by simp [forgetDeferred]
@[simp] theorem dropDeferred_mem (status : ℕ) (d : Deferred) (s : State) : (dropDeferred status d s).mem = s.mem := by fun_cases dropDeferred <;> simp
@[simp] theorem closeSession_mem (n : ℕ) (s : State) : (closeSession n s).mem = s.mem := by simp [closeSession]
@[simp] theorem doSessionClose_mem (h : Hdr) (s : State) : (doSessionClose h s).mem = s.mem := xesil_mem (fun _ _ => by simp) s
@[simp] theorem doSessionResync_mem (h : Hdr) (s : State) : (doSessionResync h s).mem = s.mem := xesil_mem (fun _ _ => by split <;> simp) s
@[simp] theorem doEcho_mem (h : Hdr) (data : List Byte) (s : State) : (doEcho h data s).mem = s.mem := xesil_mem (fun _ _ => by simp) s
@[simp] theorem doDeviceInfo_mem (h : Hdr) (s : State) : (doDeviceInfo h s).mem = s.mem := xesil_mem (fun _ _ => by simp) s
@[simp] theorem endTw_mem (t : ℕ) (result : ℕ) (bytes : ℕ) (s : State) : (endTw t result bytes s).mem = s.mem := rfl
@[simp] theorem cutTw_mem (t : ℕ) (result : ℕ) (s : State) : (cutTw t result s).mem = s.mem := by simp [cutTw]
@[simp] theorem abortQuiet_mem (s : State) : (abortQuiet s).mem = s.mem := by simp [abortQuiet]
@[simp] theorem quietOutputs_mem (s : State) : (quietOutputs s).mem = s.mem := by simp [quietOutputs]
@[simp] theorem assignRoles_mem (parent : Option ℕ) (s : State) : (assignRoles parent s).mem = s.mem := by simp [assignRoles]
@[simp] theorem dropMaster_mem (s : State) : (dropMaster s).mem = s.mem := rfl
@[simp] theorem setClockState_mem (n : ℕ) (s : State) : (setClockState n s).mem = s.mem := by simp [setClockState]
@[simp] theorem enterHoldover_mem (s : State) : (enterHoldover s).mem = s.mem := by simp [enterHoldover]
@[simp] theorem runBmca_mem (s : State) : (runBmca s).mem = s.mem := by simp [runBmca]
@[simp] theorem setTwin_mem (n : ℕ) (driving : Bool) (s : State) : (setTwin n driving s).mem = s.mem := by simp [setTwin]
@[simp] theorem releaseClaim_mem (s : State) : (releaseClaim s).mem = s.mem := by simp [releaseClaim]
@[simp] theorem stopClock_mem (s : State) : (stopClock s).mem = s.mem := by simp [stopClock]
@[simp] theorem doCancel_mem (h : Hdr) (tag : ℕ) (s : State) : (doCancel h tag s).mem = s.mem := by
  refine (xesil_mem (fun _ t => ?_) _).trans (fresh_mem s)
  generalize errorCodes.getD _ _ = code
  split
  · split <;> simp
  · trivial
@[simp] theorem doDetailRead_mem (h : Hdr) (first : ℕ) (s : State) : (doDetailRead h first s).mem = s.mem := xesil_mem (fun _ _ => by simp) s
@[simp] theorem doStageOpen_mem (h : Hdr) (s : State) : (doStageOpen h s).mem = s.mem := xesil_mem (fun _ _ => by split <;> simp) s
@[simp] theorem stageValue_mem (n : ℕ) (keepLocal : Bool) (id : ℕ) (raw : ℕ) (s : State) : (stageValue n keepLocal id raw s).mem = s.mem := by simp [stageValue]
@[simp] theorem stageEntries_mem (n : ℕ) (keepLocal : Bool) (entries : List (ℕ × ℕ)) (s : State) : (stageEntries n keepLocal entries s).mem = s.mem := by simp [stageEntries]
@[simp] theorem doStageWrite_mem (h : Hdr) (set : ℕ) (entries : List (ℕ × ℕ)) (s : State) : (doStageWrite h set entries s).mem = s.mem := xesil_mem (fun _ _ => by split <;> simp) s
@[simp] theorem doStageRead_mem (h : Hdr) (set : ℕ) (ids : List ℕ) (s : State) : (doStageRead h set ids s).mem = s.mem := xesil_mem (fun _ _ => by split <;> simp) s
@[simp] theorem doStageDiscard_mem (h : Hdr) (set : ℕ) (s : State) : (doStageDiscard h set s).mem = s.mem := xesil_mem (fun _ _ => by split <;> simp) s
@[simp] theorem stageBytes_mem (n : ℕ) (id : ℕ) (off : ℕ) (data : List Byte) (s : State) : (stageBytes n id off data s).mem = s.mem := rfl
@[simp] theorem doStageBlock_mem (h : Hdr) (set : ℕ) (id : ℕ) (off : ℕ) (data : List Byte) (s : State) : (doStageBlock h set id off data s).mem = s.mem := xesil_mem (fun _ _ => by split <;> simp) s
@[simp] theorem doStageBlockDma_mem (h : Hdr) (set : ℕ) (id : ℕ) (off : ℕ) (len : ℕ) (addr : ℕ) (s : State) : (doStageBlockDma h set id off len addr s).mem = s.mem := xesil_mem (fun _ _ => by split <;> simp) s
@[simp] theorem doStageLoadSaved_mem (h : Hdr) (set : ℕ) (item : ℕ) (s : State) : (doStageLoadSaved h set item s).mem = s.mem := xesil_mem (fun _ _ => by split <;> simp) s
@[simp] theorem persistRefused_mem (status : ℕ) (s : State) : (persistRefused status s).mem = s.mem := by simp [persistRefused]
@[simp] theorem failOp_mem (x : StoreOp) (status : ℕ) (s : State) : (failOp x status s).mem = s.mem := by unfold failOp; dsimp only; (repeat' split) <;> simp
@[simp] theorem setHead_mem (x : StoreOp) (s : State) : (setHead x s).mem = s.mem := rfl
@[simp] theorem gapBytes_mem (n : ℕ) (s : State) : (gapBytes n s).2.mem = s.mem := rfl
@[simp] theorem newVersion_mem (x : StoreOp) (s : State) : (newVersion x s).2.mem = s.mem := by unfold newVersion; split <;> simp
@[simp] theorem supMove_mem (src : ℕ) (dst : ℕ) (len : ℕ) (s : State) : (supMove src dst len s).mem = s.mem := by simp [supMove]
@[simp] theorem beginOp_mem (x : StoreOp) (s : State) : (beginOp x s).mem = s.mem := by unfold beginOp; dsimp only; (repeat' split) <;> simp
@[simp] theorem pumpStoreN_mem (n : ℕ) (s : State) : (pumpStoreN n s).mem = s.mem := by
  induction n generalizing s with
  | zero => rfl
  | succ n ih =>
    rw [pumpStoreN]
    split
    · split
      · rfl
      · rw [ih, beginOp_mem]
    · rfl
@[simp] theorem pumpStore_mem (s : State) : (pumpStore s).mem = s.mem := pumpStoreN_mem ..
@[simp] theorem queueStore_mem (x : StoreOp) (s : State) : (queueStore x s).mem = s.mem := rfl
@[simp] theorem doStageSave_mem (h : Hdr) (item : ℕ) (s : State) : (doStageSave h item s).mem = s.mem := (pumpStore_mem _).trans (xesil_mem (fun _ _ => by simp) s)
@[simp] theorem beginChecks_mem (s : State) : (beginChecks s).mem = s.mem := by fun_cases beginChecks <;> simp
@[simp] theorem endTwinCommands_mem (op : ℕ) (status : ℕ) (s : State) : (endTwinCommands op status s).mem = s.mem := by simp [endTwinCommands]
@[simp] theorem endJoin_mem (s : State) : (endJoin s).mem = s.mem := by unfold endJoin; split <;> simp
@[simp] theorem failJoin_mem (s : State) : (failJoin s).mem = s.mem := by fun_cases failJoin <;> simp
@[simp] theorem acceptCinch_mem (c : Cinch) (s : State) : (acceptCinch c s).mem = s.mem := by simp [acceptCinch]
@[simp] theorem doCinch_mem (h : Hdr) (set : ℕ) (btype : ℕ) (axis : ℕ) (mask : ℕ) (value : ℕ) (limitMs : ℕ) (s : State) :
    (doCinch h set btype axis mask value limitMs s).mem = s.mem := by
  refine (beginChecks_mem _).trans (xesil_mem (fun _ t => ?_) s)
  split
  · split <;> simp
  · trivial
@[simp] theorem doCinchCheck_mem (h : Hdr) (set : ℕ) (s : State) : (doCinchCheck h set s).mem = s.mem := by
  refine xesil_mem (fun _ t => ?_) s
  split
  · split <;> simp
  · trivial
@[simp] theorem doParamRead_mem (h : Hdr) (ids : List ℕ) (s : State) : (doParamRead h ids s).mem = s.mem := xesil_mem (fun _ _ => by simp) s
@[simp] theorem unstatedStatus_mem (room : ℕ) (unit : ℕ) (inst : ℕ) (s : State) : (unstatedStatus room unit inst s).2.mem = s.mem := rfl
@[simp] theorem doStatusRead_mem (h : Hdr) (unit : ℕ) (inst : ℕ) (s : State) : (doStatusRead h unit inst s).mem = s.mem := xesil_mem (fun _ _ => by split <;> simp) s
@[simp] theorem clearPort_mem (i : ℕ) (s : State) : (clearPort i s).mem = s.mem := rfl
@[simp] theorem clearBanked_mem (unit : ℕ) (i : ℕ) (s : State) : (clearBanked unit i s).mem = s.mem := by
  unfold clearBanked
  split
  · simp
  · simp
  · split
    · simp
    · exact forEach_mem _ _ _ (fun _ _ => rfl)
  · split
    · rfl
    · simp
  · rfl
@[simp] theorem clearCounters_mem (unit : ℕ) (i : ℕ) (s : State) : (clearCounters unit i s).mem = s.mem := by fun_cases clearCounters <;> simp
@[simp] theorem openBlock_mem (room : ℕ) (s : State) : (openBlock room s).2.mem = s.mem := rfl
@[simp] theorem doCountersRead_mem (h : Hdr) (unit : ℕ) (inst : ℕ) (clear : ℕ) (s : State) : (doCountersRead h unit inst clear s).mem = s.mem := xesil_mem (fun _ _ => by split <;> simp) s
@[simp] theorem doTelemetryRead_mem (h : Hdr) (s : State) : (doTelemetryRead h s).mem = s.mem := xesil_mem (fun _ _ => by simp) s
@[simp] theorem doDigestRead_mem (h : Hdr) (flow : ℕ) (first : ℕ) (count : ℕ) (s : State) : (doDigestRead h flow first count s).mem = s.mem := xesil_mem (fun _ _ => by simp) s
@[simp] theorem doLogRead_mem (h : Hdr) (first : ℕ) (count : ℕ) (s : State) : (doLogRead h first count s).mem = s.mem := xesil_mem (fun _ _ => by simp) s
@[simp] theorem doLogMark_mem (h : Hdr) (text : List Byte) (s : State) : (doLogMark h text s).mem = s.mem := xesil_mem (fun _ _ => by simp) s
@[simp] theorem queuePersist_mem (why : StoreWhy) (s : State) : (queuePersist why s).mem = s.mem := rfl
@[simp] theorem doLogPersist_mem (h : Hdr) (s : State) : (doLogPersist h s).mem = s.mem := (pumpStore_mem _).trans (xesil_mem (fun _ _ => by simp) s)
@[simp] theorem setThermal_mem (n : ℕ) (s : State) : (setThermal n s).mem = s.mem := by simp [setThermal]
@[simp] theorem mildState_mem (s : State) : (mildState s).mem = s.mem := by simp [mildState]
@[simp] theorem updateCap_mem (s : State) : (updateCap s).mem = s.mem := by simp [updateCap]
@[simp] theorem crossCheck_mem (m : ℚ) (k : ℕ) (s : State) : (crossCheck m k s).mem = s.mem := by simp [crossCheck]
@[simp] theorem crossCheckAll_mem (s : State) : (crossCheckAll s).mem = s.mem := by simp [crossCheckAll]
@[simp] theorem endEyeScans_mem (n : ℕ) (s : State) : (endEyeScans n s).mem = s.mem := by simp [endEyeScans]
@[simp] theorem beginTest_mem (t : TestRun) (s : State) : (beginTest t s).mem = s.mem := by simp [beginTest]
@[simp] theorem doTest_mem (i : Instr) (op : ℕ) (h : Hdr) (code : ℕ) (unit : ℕ) (inst : ℕ) (arg : ℕ) (s : State) : (doTest i op h code unit inst arg s).mem = s.mem := xesil_mem (fun _ _ => by simp) s
@[simp] theorem doTestRun_mem (h : Hdr) (test : ℕ) (unit : ℕ) (inst : ℕ) (arg : ℕ) (s : State) : (doTestRun h test unit inst arg s).mem = s.mem := by simp [doTestRun]
@[simp] theorem doCalibrate_mem (h : Hdr) (test : ℕ) (unit : ℕ) (inst : ℕ) (arg : ℕ) (s : State) : (doCalibrate h test unit inst arg s).mem = s.mem := by simp [doCalibrate]
@[simp] theorem sendUplink_mem (p : ℕ) (u : UplOut) (s : State) : (sendUplink p u s).mem = s.mem := rfl
@[simp] theorem uplinkPattern_mem (n : ℕ) (pat : Option (ℕ × ℕ × ℕ)) (s : State) : (uplinkPattern n pat s).mem = s.mem := by fun_cases uplinkPattern <;> simp
@[simp] theorem doPrbsControl_mem (h : Hdr) (lane : ℕ) (pattern : ℕ) (mode : ℕ) (injection : ℕ) (rate : ℕ) (s : State) : (doPrbsControl h lane pattern mode injection rate s).mem = s.mem := xesil_mem (fun _ _ => by dsimp only; (repeat' split) <;> simp) s
@[simp] theorem doEyeScan_mem (h : Hdr) (lane : ℕ) (s : State) : (doEyeScan h lane s).mem = s.mem := xesil_mem (fun _ _ => by simp) s
@[simp] theorem pumpAccess_mem (p : ℕ) (s : State) : (pumpAccess p s).mem = s.mem := by
  unfold pumpAccess
  extract_lets x pick room
  split
  · rfl
  · exact (forEach_mem _ _ _ (fun _ _ => sendUplink_mem ..)).trans (setPort_mem ..)
@[simp] theorem modPort_mem (p : ℕ) (f : Port → Port) (s : State) : (modPort p f s).mem = s.mem := rfl
@[simp] theorem doCamRead_mem (h : Hdr) (p : ℕ) (addr : ℕ) (len : ℕ) (s : State) : (doCamRead h p addr len s).mem = s.mem := xesil_mem (fun _ _ => by simp) s
@[simp] theorem doCamWrite_mem (h : Hdr) (p : ℕ) (addr : ℕ) (data : List Byte) (s : State) : (doCamWrite h p addr data s).mem = s.mem := xesil_mem (fun _ _ => by simp) s
@[simp] theorem doCamDiscover_mem (h : Hdr) (p : ℕ) (s : State) : (doCamDiscover h p s).mem = s.mem := xesil_mem (fun _ _ => by simp) s
@[simp] theorem doJobCompress_mem (h : Hdr) (src : ℕ) (len : ℕ) (product : ℕ) (pred : ℕ) (source : ℕ) (dst : ℕ) (cap : ℕ) (s : State) : (doJobCompress h src len product pred source dst cap s).mem = s.mem := xesil_mem (fun _ _ => by simp) s
@[simp] theorem doJobDecompress_mem (h : Hdr) (src : ℕ) (len : ℕ) (dst : ℕ) (cap : ℕ) (s : State) : (doJobDecompress h src len dst cap s).mem = s.mem := xesil_mem (fun _ _ => by simp) s
@[simp] theorem doJobCrc_mem (h : Hdr) (preset : ℕ) (addr : ℕ) (len : ℕ) (init : ℕ) (s : State) : (doJobCrc h preset addr len init s).mem = s.mem := by
  refine (pumpCrcJobs_mem _).trans (xesil_mem (fun _ t => ?_) s)
  split <;> simp
@[simp] theorem doTwinStatus_mem (h : Hdr) (s : State) : (doTwinStatus h s).mem = s.mem := xesil_mem (fun _ _ => by simp) s
@[simp] theorem doTwinAttach_mem (h : Hdr) (s : State) : (doTwinAttach h s).mem = s.mem := xesil_mem (fun _ _ => by simp) s
@[simp] theorem detach_mem (s : State) : (detach s).mem = s.mem := by simp [detach]
@[simp] theorem doTwinDetach_mem (h : Hdr) (s : State) : (doTwinDetach h s).mem = s.mem := xesil_mem (fun _ _ => by simp) s
@[simp] theorem tryYield_mem (s : State) : (tryYield s).mem = s.mem := by simp [tryYield]
@[simp] theorem startYield_mem (s : State) : (startYield s).mem = s.mem := by simp [startYield]
@[simp] theorem doTwinYield_mem (h : Hdr) (s : State) : (doTwinYield h s).mem = s.mem := xesil_mem (fun _ _ => by simp) s
@[simp] theorem doStoreList_mem (h : Hdr) (first : ℕ) (count : ℕ) (s : State) : (doStoreList h first count s).mem = s.mem := xesil_mem (fun _ _ => by simp) s
@[simp] theorem doStoreRead_mem (h : Hdr) (item : ℕ) (off : ℕ) (len : ℕ) (s : State) : (doStoreRead h item off len s).mem = s.mem := xesil_mem (fun _ _ => by dsimp only; (repeat' split) <;> simp) s
@[simp] theorem doStoreWrite_mem (h : Hdr) (item : ℕ) (off : ℕ) (data : List Byte) (s : State) : (doStoreWrite h item off data s).mem = s.mem := (pumpStore_mem _).trans (xesil_mem (fun _ _ => by simp) s)
@[simp] theorem doStoreErase_mem (h : Hdr) (item : ℕ) (s : State) : (doStoreErase h item s).mem = s.mem := (pumpStore_mem _).trans (xesil_mem (fun _ _ => by simp) s)
@[simp] theorem doFwStage_mem (h : Hdr) (off : ℕ) (data : List Byte) (s : State) : (doFwStage h off data s).mem = s.mem := xesil_mem (fun _ _ => by simp) s
@[simp] theorem doFwCommit_mem (h : Hdr) (len : ℕ) (s : State) : (doFwCommit h len s).mem = s.mem := xesil_mem (fun _ _ => by simp) s
@[simp] theorem endKey_mem (s : State) : (endKey s).mem = s.mem := rfl
@[simp] theorem closeSlot_mem (k : ℕ) (s : State) : (closeSlot k s).mem = s.mem := by simp [closeSlot]
@[simp] theorem changeKey_mem (slot : ℕ) (x : KeySlot) (s : State) : (changeKey slot x s).mem = s.mem := by simp [changeKey]
@[simp] theorem doKeyProvision_mem (h : Hdr) (slot : ℕ) (role : ℕ) (key : List Byte) (s : State) : (doKeyProvision h slot role key s).mem = s.mem := xesil_mem (fun _ _ => by simp) s
@[simp] theorem doKeyRevoke_mem (h : Hdr) (slot : ℕ) (s : State) : (doKeyRevoke h slot s).mem = s.mem := xesil_mem (fun _ _ => by simp) s
@[simp] theorem doPowerStatus_mem (h : Hdr) (s : State) : (doPowerStatus h s).mem = s.mem := xesil_mem (fun _ _ => by simp) s
@[simp] theorem doPowerCapLimit_mem (h : Hdr) (lowest : ℕ) (s : State) : (doPowerCapLimit h lowest s).mem = s.mem := xesil_mem (fun _ _ => by simp) s
@[simp] theorem beginStop_mem (byCommand : Bool) (s : State) : (beginStop byCommand s).mem = s.mem := by simp [beginStop]
@[simp] theorem doOrderlyStop_mem (h : Hdr) (s : State) : (doOrderlyStop h s).mem = s.mem := xesil_mem (fun _ _ => by simp) s
@[simp] theorem runInstr.runBad_mem (via : Via) (bytes : List Byte) (s : State) : (runInstr.runBad via bytes s).mem = s.mem := xesil_mem (fun _ _ => by simp) s
@[simp] theorem htSettle_mem (via : Via) (s : State) : (htSettle via s).mem = s.mem := by simp [htSettle]
@[simp] theorem earlyReply_mem (via : Via) (bytes : List Byte) (status : ℕ) (s : State) : (earlyReply via bytes status s).mem = s.mem := by simp [earlyReply]
@[simp] theorem dropPacket_mem (q : ℕ) (s : State) : (dropPacket q s).mem = s.mem := by simp [dropPacket]
@[simp] theorem unclaimed_mem (p : ℕ) (s : State) : (unclaimed p s).mem = s.mem := rfl
@[simp] theorem execMailboxEndMarkMissing_mem (pair : Fin 4) (s : State) : nextWith (fun t => t.mem = s.mem) (execMailboxEndMarkMissing pair s) := by unfold execMailboxEndMarkMissing; dsimp only; (repeat' split) <;> simp
@[simp] theorem execUdpAuthFailure_mem (addr : ℕ) (s : State) : nextWith (fun t => t.mem = s.mem) (execUdpAuthFailure addr s) := by simp [execUdpAuthFailure]
@[simp] theorem execSeqHoldTimeout_mem (session : ℕ) (s : State) : nextWith (fun t => t.mem = s.mem) (execSeqHoldTimeout session s) := by unfold execSeqHoldTimeout; split <;> simp
@[simp] theorem execSessionIdleTimeout_mem (session : ℕ) (s : State) : nextWith (fun t => t.mem = s.mem) (execSessionIdleTimeout session s) := by simp [execSessionIdleTimeout]
@[simp] theorem execAuthBlockExpiry_mem (addr : ℕ) (s : State) : nextWith (fun t => t.mem = s.mem) (execAuthBlockExpiry addr s) := by fun_cases execAuthBlockExpiry <;> simp
@[simp] theorem execDeferredTimeLimit_mem (session : ℕ) (seq : ℕ) (s : State) : nextWith (fun t => t.mem = s.mem) (execDeferredTimeLimit session seq s) := by fun_cases execDeferredTimeLimit <;> simp
@[simp] theorem endStaging_mem (d : Deferred) (packets : List (ℕ × List Byte)) (s : State) : (endStaging d packets s).mem = s.mem := by simp [endStaging]
@[simp] theorem endStageDma_mem (d : Deferred) (set : ℕ) (id : ℕ) (off : ℕ) (len : ℕ) (addr : ℕ) (s : State) : (endStageDma d set id off len addr s).mem = s.mem := by unfold endStageDma; split <;> simp
@[simp] theorem stageSaved_mem (n : ℕ) (x : SavedSet) (s : State) : (stageSaved n x s).mem = s.mem :=
  (forEach_mem _ _ _ (fun _ _ => stageBytes_mem ..)).trans (forEach_mem _ _ _ (fun _ _ => stageValue_mem ..))
@[simp] theorem endLoadSaved_mem (d : Deferred) (set : ℕ) (item : ℕ) (s : State) : (endLoadSaved d set item s).mem = s.mem := by fun_cases endLoadSaved <;> simp
@[simp] theorem endFwCommit_mem (d : Deferred) (len : ℕ) (res : DeferredResult) (s : State) : (endFwCommit d len res s).mem = s.mem := by simp [endFwCommit]
@[simp] theorem execDeferredCompletion_mem (session : ℕ) (seq : ℕ) (res : DeferredResult) (s : State) : nextWith (fun t => t.mem = s.mem) (execDeferredCompletion session seq res s) := by fun_cases execDeferredCompletion <;> simp
@[simp] theorem closeWindows_mem (p : RegWindow → Bool) (s : State) : (closeWindows p s).mem = s.mem := by simp [closeWindows]
@[simp] theorem execLogRegisterWindowClose_mem (principal : Principal) (addr : ℕ) (s : State) : nextWith (fun t => t.mem = s.mem) (execLogRegisterWindowClose principal addr s) := by simp [execLogRegisterWindowClose]
@[simp] theorem logRegister_mem (p : Principal) (addr : ℕ) (value : ℕ) (s : State) : (logRegister p addr value s).mem = s.mem := by unfold logRegister; dsimp only; split <;> simp
@[simp] theorem execLoggedRegisterWrite_mem (principal : Principal) (addr : ℕ) (value : Word32) (s : State) : nextWith (fun t => t.mem = s.mem) (execLoggedRegisterWrite principal addr value s) := by simp [execLoggedRegisterWrite]
@[simp] theorem execLaneSignalDetect_mem (lane : Fin 64) (s : State) : nextWith (fun t => t.mem = s.mem) (execLaneSignalDetect lane s) := by fun_cases execLaneSignalDetect <;> simp
@[simp] theorem laneFlag_mem (n : ℕ) (k : ℕ) (s : State) : (laneFlag n k s).mem = s.mem := by simp [laneFlag]
@[simp] theorem execLaneSignalLoss_mem (lane : Fin 64) (s : State) : nextWith (fun t => t.mem = s.mem) (execLaneSignalLoss lane s) := by unfold execLaneSignalLoss; dsimp only; (repeat' split) <;> simp
@[simp] theorem execLaneBiasSettled_mem (lane : Fin 64) (s : State) : nextWith (fun t => t.mem = s.mem) (execLaneBiasSettled lane s) := by simp [execLaneBiasSettled]
@[simp] theorem execFullAdaptationDone_mem (lane : Fin 64) (eyeOpen : Bool) (ctle : ℕ) (dfe : List ℤ) (s : State) : nextWith (fun t => t.mem = s.mem) (execFullAdaptationDone lane eyeOpen ctle dfe s) := by fun_cases execFullAdaptationDone <;> simp
@[simp] theorem execLaneLossOfLock_mem (lane : Fin 64) (s : State) : nextWith (fun t => t.mem = s.mem) (execLaneLossOfLock lane s) := by fun_cases execLaneLossOfLock <;> simp
@[simp] theorem execLaneIdleMax_mem (lane : Fin 64) (s : State) : nextWith (fun t => t.mem = s.mem) (execLaneIdleMax lane s) := by fun_cases execLaneIdleMax <;> simp
@[simp] theorem execRelockDone_mem (lane : Fin 64) (confirmed : Bool) (s : State) : nextWith (fun t => t.mem = s.mem) (execRelockDone lane confirmed s) := by fun_cases execRelockDone <;> simp
@[simp] theorem execAdaptationStep_mem (lane : Fin 64) (dCtle : ℤ) (tap : Fin 5) (dTap : ℤ) (s : State) : nextWith (fun t => t.mem = s.mem) (execAdaptationStep lane dCtle tap dTap s) := by fun_cases execAdaptationStep <;> simp
@[simp] theorem execWordAlignmentGained_mem (lane : Fin 64) (s : State) : nextWith (fun t => t.mem = s.mem) (execWordAlignmentGained lane s) := by simp [execWordAlignmentGained]
@[simp] theorem loseAlignment_mem (n : ℕ) (s : State) : (loseAlignment n s).mem = s.mem := by simp [loseAlignment]
@[simp] theorem execAlignLost_mem (lane : Fin 64) (s : State) : nextWith (fun t => t.mem = s.mem) (execAlignLost lane s) := by simp [execAlignLost]
@[simp] theorem recordRefusal_mem (window : Bool) (write : Bool) (a : Acc) (addr : ℕ) (s : State) : (recordRefusal window write a addr s).mem = s.mem := by simp [recordRefusal]
@[simp] theorem refuseWindow_mem (write : Bool) (a : Acc) (unit : ℕ) (off : ℕ) (s : State) : (refuseWindow write a unit off s).mem = s.mem := by simp [refuseWindow]
@[simp] theorem windowWrite_mem (a : Acc) (right : Bool) (logged : Bool) (unit : ℕ) (off : ℕ) (value : ℕ) {act : State → State} (hact : ∀ t, (act t).mem = t.mem) (s : State) :
    (windowWrite a right logged unit off value act s).mem = s.mem := by
  unfold windowWrite
  split
  · rfl
  · split
    · rw [hact]
      split <;> simp
    · simp
@[simp] theorem countPrbs_mem (n : ℕ) (errs : ℕ) (bits : ℕ) (s : State) : (countPrbs n errs bits s).mem = s.mem := by simp [countPrbs]
@[simp] theorem snapLane_mem (n : ℕ) (s : State) : (snapLane n s).mem = s.mem := rfl
@[simp] theorem clearLane_mem (n : ℕ) (s : State) : (clearLane n s).mem = s.mem := rfl
@[simp] theorem slipLane_mem (n : ℕ) (s : State) : (slipLane n s).mem = s.mem := by simp [slipLane]
@[simp] theorem lnControl_mem (a : Acc) (n : ℕ) (value : Word32) (errs : ℕ) (bits : ℕ) (s : State) : (lnControl a n value errs bits s).mem = s.mem := by simp [lnControl]
@[simp] theorem execBitslip_mem (a : Acc) (lane : Fin 64) (s : State) : nextWith (fun t => t.mem = s.mem) (execBitslip a lane s) := by simp [execBitslip]
@[simp] theorem execSnap_mem (a : Acc) (w : BlockWrite 64) (errs : ℕ) (bits : ℕ) (s : State) : nextWith (fun t => t.mem = s.mem) (execSnap a w errs bits s) := by simp [execSnap]
@[simp] theorem execCntClear_mem (a : Acc) (w : LaneWrite) (s : State) : nextWith (fun t => t.mem = s.mem) (execCntClear a w s) := by simp [execCntClear]
@[simp] theorem execComparatorWindowEnd_mem (lane : Fin 64) (hits : ℕ) (invHits : ℕ) (s : State) : nextWith (fun t => t.mem = s.mem) (execComparatorWindowEnd lane hits invHits s) := by fun_cases execComparatorWindowEnd <;> simp
@[simp] theorem execPrbsSyncLoss_mem (lane : Fin 64) (errs : ℕ) (bits : ℕ) (s : State) : nextWith (fun t => t.mem = s.mem) (execPrbsSyncLoss lane errs bits s) := by unfold execPrbsSyncLoss; dsimp only; split <;> simp
@[simp] theorem execPrbsSyncGained_mem (lane : Fin 64) (s : State) : nextWith (fun t => t.mem = s.mem) (execPrbsSyncGained lane s) := by simp [execPrbsSyncGained]
@[simp] theorem portEvent_mem (p : ℕ) (kind : ℕ) (arg : ℕ) (s : State) : (portEvent p kind arg s).mem = s.mem := rfl
@[simp] theorem execPortLinkEstablishment_mem (port : Fin 16) (accepted : Bool) (s : State) : nextWith (fun t => t.mem = s.mem) (execPortLinkEstablishment port accepted s) := by fun_cases execPortLinkEstablishment <;> simp
@[simp] theorem strayErrs_mem (p : ℕ) (n : ℕ) (s : State) : (strayErrs p n s).mem = s.mem := by simp [strayErrs]
@[simp] theorem dropSegs_mem (p : ℕ) (cur : Option GotLine) (es : List RawSeg) (s : State) : (dropSegs p cur es s).mem = s.mem := by simp [dropSegs]
@[simp] theorem execLinkDown_mem (port : Fin 16) (s : State) : nextWith (fun t => t.mem = s.mem) (execLinkDown port s) := by fun_cases execLinkDown <;> simp
@[simp] theorem establish_mem (p : ℕ) (s : State) : (establish p s).mem = s.mem := by simp [establish]
@[simp] theorem execLinkRetry_mem (port : Fin 16) (s : State) : nextWith (fun t => t.mem = s.mem) (execLinkRetry port s) := by simp [execLinkRetry]
@[simp] theorem activeDiverge_mem (s : State) : (activeDiverge s).mem = s.mem := by simp [activeDiverge]
@[simp] theorem applySet_mem (set : Dict) (s : State) : (applySet set s).mem = s.mem := rfl
@[simp] theorem fireSessions_mem (old : Dict) (s : State) : (fireSessions old s).mem = s.mem := by simp [fireSessions]
@[simp] theorem releaseHold_mem (p : ℕ) (long : Bool) (s : State) : (releaseHold p long s).mem = s.mem := by unfold releaseHold; dsimp only; split <;> simp
@[simp] theorem switchFlows_mem (product : ℕ) (source : ℕ) (epoch : ℕ) (s : State) : (switchFlows product source epoch s).mem = s.mem := by simp [switchFlows]
@[simp] theorem closeUnits_mem (early : Bool) (product : ℕ) (source : ℕ) (s : State) : (closeUnits early product source s).mem = s.mem :=
  forEach_mem _ _ _ (fun _ _ => by
    split
    · split <;> rfl
    · rfl)
@[simp] theorem closeProduct_mem (product : ℕ) (source : ℕ) (s : State) : (closeProduct product source s).mem = s.mem := by simp [closeProduct]
@[simp] theorem stopPort_mem (p : ℕ) (s : State) : (stopPort p s).mem = s.mem := by simp [stopPort]
@[simp] theorem startPort_mem (p : ℕ) (s : State) : (startPort p s).mem = s.mem := by simp [startPort]
@[simp] theorem laneOff_mem (n : ℕ) (s : State) : (laneOff n s).mem = s.mem := by simp [laneOff]
@[simp] theorem dropLanes_mem (p : ℕ) (s : State) : (dropLanes p s).mem = s.mem := by simp [dropLanes]
@[simp] theorem firePort_mem (p : ℕ) (s : State) : (firePort p s).mem = s.mem := by unfold firePort; dsimp only; split <;> simp
@[simp] theorem fireGains_mem (set : Dict) (s : State) : (fireGains set s).mem = s.mem := forEach_mem _ _ _ (fun _ _ => by simp)
@[simp] theorem fireCalib_mem (set : Dict) (s : State) : (fireCalib set s).mem = s.mem := forEach_mem _ _ _ (fun _ _ => by simp)
@[simp] theorem endLine_mem (d : Dict) (t : Stamp) (rowZero : ℕ) (lineLoss : Bool) (closes : Obj → Option Word16) (w : SegWork) (s : State) : (endLine d t rowZero lineLoss closes w s).mem = s.mem := forEach_mem _ _ _ (fun _ _ => by simp)
@[simp] theorem applyRecd_mem (s : State) : (applyRecd s).mem = s.mem := by fun_cases applyRecd <;> simp
@[simp] theorem stopRecdIfDone_mem (s : State) : (stopRecdIfDone s).mem = s.mem := by simp [stopRecdIfDone]
@[simp] theorem stopSegm_mem (s : State) : (stopSegm s).mem = s.mem := by unfold stopSegm; split <;> simp
@[simp] theorem stopStitcher_mem (s : State) : (stopStitcher s).mem = s.mem := by simp [stopStitcher]
@[simp] theorem startStitcher_mem (s : State) : (startStitcher s).mem = s.mem := rfl
@[simp] theorem fireStitcher_mem (s : State) : (fireStitcher s).mem = s.mem := by fun_cases fireStitcher <;> simp
@[simp] theorem fireFlows_mem (old : Dict) (wait : List ℕ) (s : State) : (fireFlows old wait s).mem = s.mem := forEach_mem _ _ _ (fun _ _ => by simp)
@[simp] theorem fireChannels_mem (old : Dict) (s : State) : (fireChannels old s).mem = s.mem := by simp [fireChannels]
@[simp] theorem resetCore_mem (k : ℕ) (s : State) : (resetCore k s).mem = s.mem := rfl
@[simp] theorem releaseCores_mem (ks : List ℕ) (s : State) : (releaseCores ks s).mem = s.mem := forEach_mem _ _ _ (fun _ _ => by simp)
@[simp] theorem fireCores_mem (was : List ℕ) (s : State) : (fireCores was s).mem = s.mem := by
  have hreset : (forEach (was.filter (fun k => !(coreRuns s).contains k)) resetCore s).mem = s.mem := forEach_mem _ _ _ (fun _ _ => resetCore_mem ..)
  unfold fireCores
  extract_lets now _ _ u
  have hu : u.mem = s.mem := hreset
  clear_value u
  split
  · exact hu
  · split
    · exact hu
    · split
      · rw [releaseCores_mem, hu]
      · exact hu
@[simp] theorem stopTw_mem (t : ℕ) (s : State) : (stopTw t s).mem = s.mem := by simp [stopTw]
@[simp] theorem startTw_mem (t : ℕ) (s : State) : (startTw t s).mem = s.mem := rfl
@[simp] theorem fireTwoWire_mem (s : State) : (fireTwoWire s).mem = s.mem :=
  forEach_mem _ _ _ (fun _ _ => by
    split
    · exact stopTw_mem ..
    · exact startTw_mem ..
    · rfl)
@[simp] theorem releaseHolds_mem (s : State) : (releaseHolds s).mem = s.mem := rfl
@[simp] theorem releaseMirrors_mem (s : State) : (releaseMirrors s).mem = s.mem := by simp [releaseMirrors]
@[simp] theorem fireTwin_mem (old : Dict) (s : State) : (fireTwin old s).mem = s.mem := by unfold fireTwin; split <;> simp
@[simp] theorem fireTime_mem (old : Dict) (s : State) : (fireTime old s).mem = s.mem := by simp [fireTime]
@[simp] theorem stopAxis_mem (a : ℕ) (s : State) : (stopAxis a s).mem = s.mem := rfl
@[simp] theorem startAxis_mem (a : ℕ) (s : State) : (startAxis a s).mem = s.mem := rfl
@[simp] theorem stopLtg_mem (k : ℕ) (s : State) : (stopLtg k s).mem = s.mem := rfl
@[simp] theorem startLtg_mem (k : ℕ) (s : State) : (startLtg k s).mem = s.mem := rfl
@[simp] theorem stopPc_mem (n : ℕ) (s : State) : (stopPc n s).mem = s.mem := rfl
@[simp] theorem startPc_mem (n : ℕ) (s : State) : (startPc n s).mem = s.mem := rfl
@[simp] theorem fireMotion_mem (s : State) : (fireMotion s).mem = s.mem := by
  refine ((forEach_mem _ _ _ (fun n t => ?_)).trans (forEach_mem _ _ _ (fun k t => ?_))).trans (forEach_mem _ _ _ (fun a t => ?_))
  · split
    · exact stopPc_mem ..
    · exact startPc_mem ..
    · rfl
  · split
    · exact stopLtg_mem ..
    · exact startLtg_mem ..
    · rfl
  · split
    · exact stopAxis_mem ..
    · exact startAxis_mem ..
    · rfl
@[simp] theorem emitProf_mem (c : ℕ) (h : Option (Stamp × List Byte × ℕ)) (s : State) : (emitProf c h s).mem = s.mem := by fun_cases emitProf <;> simp
@[simp] theorem closeGroup_mem (c : ℕ) (latched : Bool) (s : State) : (closeGroup c latched s).mem = s.mem := by fun_cases closeGroup <;> simp
@[simp] theorem stopProf_mem (c : ℕ) (s : State) : (stopProf c s).mem = s.mem := by simp [stopProf]
@[simp] theorem stopEnded_mem (s : State) : (stopEnded s).mem = s.mem := by simp [stopEnded]
@[simp] theorem fireUnits_mem (old : Dict) (set : Dict) (cores : List ℕ) (wait : List ℕ) (s : State) : (fireUnits old set cores wait s).mem = s.mem := by simp [fireUnits]
@[simp] theorem fire_mem (c : Cinch) (t : ℕ) (s : State) : (fire c t s).mem = s.mem := by simp [fire]
@[simp] theorem firedBefore_mem (op : State → State) (s : State) : (firedBefore op s).mem = s.mem := by fun_cases firedBefore <;> simp
@[simp] theorem withFire_mem {op : State → State} (hop : ∀ t, (op t).mem = t.mem) (s : State) : (withFire op s).mem = s.mem := by
  rw [withFire, hop, firedBefore_mem]
@[simp] theorem anchorPort_mem (p : ℕ) (g : ℕ) (n : ℕ) (f : ℕ) (fs : Bool) (l : Latch) (s : State) : (anchorPort p g n f fs l s).mem = s.mem := by fun_cases anchorPort <;> simp
@[simp] theorem anchorLine_mem (p : ℕ) (d : ℕ) (l : Latch) (s : State) : (anchorLine p d l s).mem = s.mem := by simp [anchorLine]
@[simp] theorem beginGot_mem (p : ℕ) (g : GotLine) (s : State) : (beginGot p g s).2.mem = s.mem := by unfold beginGot; dsimp only; (repeat' split) <;> simp
@[simp] theorem takeStreamPacket_mem (p : ℕ) (k : StreamPacket) (late : Bool) (s : State) : (takeStreamPacket p k late s).mem = s.mem := by unfold takeStreamPacket; dsimp only; split <;> simp
@[simp] theorem frameErr_mem (p : ℕ) (f : PortCounts → PortCounts) (s : State) : (frameErr p f s).mem = s.mem := by fun_cases frameErr <;> simp
@[simp] theorem mergePackets_mem (p : ℕ) (n fuel : ℕ) (s : State) : (mergePackets p n fuel s).mem = s.mem := by
  induction fuel generalizing s with
  | zero => rfl
  | succ fuel ih =>
    unfold mergePackets
    extract_lets x
    split
    · rfl
    · extract_lets want rest turn next
      split
      · rw [ih, takeStreamPacket_mem, setPort_mem]
      · split
        · rw [ih, frameErr_mem, setPort_mem]
        · rw [ih, takeStreamPacket_mem, setPort_mem]
@[simp] theorem dataPacket_mem (p : ℕ) (place : StreamPlace) (k : StreamPacket) (s : State) : (dataPacket p place k s).mem = s.mem := by
  unfold dataPacket
  extract_lets x n t y
  have ht : t.mem = s.mem := by simp only [t, mem_ite, setPort_mem, ite_self]
  clear_value t
  split
  · exact ht
  · rw [mergePackets_mem, setPort_mem, ht]
@[simp] theorem execStreamDataPacket_mem (port : Fin 16) (payload : List Byte) (crcOk : Bool) (codeOk : Bool) (place : StreamPlace) (s : State) : nextWith (fun t => t.mem = s.mem) (execStreamDataPacket port payload crcOk codeOk place s) := by simp [execStreamDataPacket]
@[simp] theorem applyLater_mem (i : ℕ) (s : State) : (applyLater i s).mem = s.mem := by fun_cases applyLater <;> simp
@[simp] theorem passSwitch_mem (i : ℕ) (s : State) : (passSwitch i s).mem = s.mem := by unfold passSwitch; split <;> simp
@[simp] theorem stampLine_mem (p : ℕ) (l : Latch) (repl : ℕ) (extra : Word16) (bytes : Option (List Byte)) (errs : ℕ) (camOk : Bool) (fs : Bool) (fe : Bool) (hold : Bool) (s : State) : (stampLine p l repl extra bytes errs camOk fs fe hold s).mem = s.mem := by simp [stampLine]
@[simp] theorem fillRows_mem (p : ℕ) (repl : ℕ) (extra : Word16) (n : ℕ) (s : State) : (fillRows p repl extra n s).mem = s.mem := by
  induction n generalizing s with
  | zero => rfl
  | succ n ih =>
    unfold fillRows
    rw [ih, modPort_mem, stampLine_mem]
@[simp] theorem lostFrames_mem (p : ℕ) (n : ℕ) (s : State) : (lostFrames p n s).mem = s.mem := by
  induction n generalizing s with
  | zero => rfl
  | succ n ih =>
    unfold lostFrames
    extract_lets x
    split
    · split
      · rfl
      · rw [ih, modPort_mem, fillRows_mem, setPort_mem]
    · rfl
@[simp] theorem latchFrame_mem (p : ℕ) (l : Latch) (s : State) : (latchFrame p l s).mem = s.mem := by simp [latchFrame]
@[simp] theorem endShort_mem (p : ℕ) (s : State) : (endShort p s).mem = s.mem := by
  unfold endShort
  extract_lets x
  split
  · rfl
  · split
    · rw [modPort_mem, fillRows_mem, latchFrame_mem]
    · rw [portEvent_mem, modPort_mem, fillRows_mem]
@[simp] theorem beginFrame_mem (p : ℕ) (start : Latch) (s : State) : (beginFrame p start s).mem = s.mem := by
  unfold beginFrame
  extract_lets t x h
  have ht : t.mem = s.mem := by simp only [t, lostFrames_mem, releaseHold_mem, endShort_mem]
  clear_value t
  split
  · exact ht
  · split
    · exact ht
    · exact ht
@[simp] theorem discardErrs_mem (p : ℕ) (g : GotLine) (s : State) : (discardErrs p g s).mem = s.mem := by simp [discardErrs]
@[simp] theorem takeRow_mem (p : ℕ) (g : GotLine) (s : State) : (takeRow p g s).mem = s.mem := by
  unfold takeRow
  extract_lets raw t x u y _ u' y' skip beyond v v' z last hold w w'
  have ht : t.mem = s.mem := by simp only [t, mem_ite, beginFrame_mem, ite_self]
  clear_value t
  split
  · have hu : u.mem = s.mem := (discardErrs_mem ..).trans ht
    clear_value u
    split
    · rw [lostFrames_mem, modPort_mem, releaseHold_mem, hu]
    · exact hu
  · have hu : u'.mem = s.mem := (latchFrame_mem ..).trans ht
    clear_value u'
    split
    · rw [discardErrs_mem, modPort_mem, hu]
    · have hw' : w'.mem = s.mem := by
        have hv' : v'.mem = s.mem := by simp only [v', v, mem_ite, fillRows_mem, modPort_mem, ite_self, hu]
        simp only [w', w, mem_ite, modPort_mem, stampLine_mem, ite_self, hv']
      clear_value w'
      split
      · rw [lostFrames_mem, modPort_mem, releaseHold_mem, discardErrs_mem, hw']
      · split
        · rw [lostFrames_mem, endShort_mem, hw']
        · exact hw'
@[simp] theorem flushDue_mem (p : ℕ) (n : ℕ) (s : State) : (flushDue p n s).mem = s.mem := by
  induction n generalizing s with
  | zero => rfl
  | succ n ih =>
    unfold flushDue
    extract_lets x
    split
    · split
      · rw [ih, stampLine_mem, setPort_mem]
      · split
        · rw [ih, stampLine_mem, setPort_mem]
        · rfl
    · rfl
@[simp] theorem assemble_mem (p : ℕ) (s : State) : (assemble p s).mem = s.mem := by
  unfold assemble
  extract_lets x
  split
  · rfl
  · extract_lets t
    have ht : t.mem = s.mem := rfl
    clear_value t
    split
    · rw [takeRow_mem, ht]
    · split
      · rw [discardErrs_mem, ht]
      · rw [flushDue_mem, modPort_mem, ht]
@[simp] theorem assembleAll_mem (p : ℕ) (n : ℕ) (s : State) : (assembleAll p n s).mem = s.mem := by
  induction n generalizing s with
  | zero => rfl
  | succ n ih =>
    rw [assembleAll]
    split
    · rfl
    · rw [ih, assemble_mem]
@[simp] theorem headFrame_mem (p : ℕ) (xsize : ℕ) (ysize : ℕ) (bits : ℕ) (comps : ℕ) (s : State) : (headFrame p xsize ysize bits comps s).mem = s.mem := by
  unfold headFrame
  extract_lets x differs t t' u d bad v bad' v'
  split
  · rfl
  · have ht : t.mem = s.mem := by
      unfold t
      split <;> rfl
    clear_value t
    split
    · have hv : v.mem = s.mem := by simp only [v, u, t', modPort_mem, beginFrame_mem, assembleAll_mem, ht]
      clear_value v
      split
      · rw [frameErr_mem, hv]
      · exact hv
    · have hv : v'.mem = s.mem := by simp only [v', modPort_mem, assembleAll_mem]
      clear_value v'
      split
      · rw [frameErr_mem, hv]
      · exact hv
@[simp] theorem execRectangularImageHeader_mem (port : Fin 16) (xsize : ℕ) (ysize : ℕ) (bits : ℕ) (comps : ℕ) (s : State) : nextWith (fun t => t.mem = s.mem) (execRectangularImageHeader port xsize ysize bits comps s) := by simp [execRectangularImageHeader]
@[simp] theorem execLineMarker_mem (port : Fin 16) (s : State) : nextWith (fun t => t.mem = s.mem) (execLineMarker port s) := by fun_cases execLineMarker <;> simp
@[simp] theorem camFail_mem (p : ℕ) (status : ℕ) (s : State) : (camFail p status s).mem = s.mem := by simp [camFail]
@[simp] theorem priorFail_mem (p : ℕ) (epoch : ℕ) (status : ℕ) (s : State) : (priorFail p epoch status s).mem = s.mem := by simp [priorFail]
@[simp] theorem endAccess_mem (p : ℕ) (a : CamAcc) (status : ℕ) (data : List Byte) (s : State) : (endAccess p a status data s).mem = s.mem := by unfold endAccess; dsimp only; (repeat' split) <;> simp
@[simp] theorem execControlAcknowledgement_mem (port : Fin 16) (tag : ℕ) (waitMs : Option ℕ) (refused : Bool) (data : List Byte) (s : State) : nextWith (fun t => t.mem = s.mem) (execControlAcknowledgement port tag waitMs refused data s) := by fun_cases execControlAcknowledgement <;> simp
@[simp] theorem execTriggerPacketReceived_mem (port : Fin 16) (s : State) : nextWith (fun t => t.mem = s.mem) (execTriggerPacketReceived port s) := by simp [execTriggerPacketReceived]
@[simp] theorem execTriggerAcknowledgement_mem (port : Fin 16) (s : State) : nextWith (fun t => t.mem = s.mem) (execTriggerAcknowledgement port s) := by fun_cases execTriggerAcknowledgement <;> simp
@[simp] theorem execHeartbeat_mem (port : Fin 16) (s : State) : nextWith (fun t => t.mem = s.mem) (execHeartbeat port s) := by simp [execHeartbeat]
@[simp] theorem cameraEvent_mem (p : ℕ) (payload : List Byte) (s : State) : (cameraEvent p payload s).mem = s.mem := by simp [cameraEvent]
@[simp] theorem execEventPacket_mem (port : Fin 16) (payload : List Byte) (s : State) : nextWith (fun t => t.mem = s.mem) (execEventPacket port payload s) := by simp [execEventPacket]
@[simp] theorem execTestPacket_mem (port : Fin 16) (s : State) : nextWith (fun t => t.mem = s.mem) (execTestPacket port s) := by simp [execTestPacket]
@[simp] theorem execUnknownPacket_mem (port : Fin 16) (s : State) : nextWith (fun t => t.mem = s.mem) (execUnknownPacket port s) := by simp [execUnknownPacket]
@[simp] theorem rawEnd_mem (p : ℕ) (n : ℕ) (s : State) : (rawEnd p n s).mem = s.mem := by fun_cases rawEnd <;> simp
@[simp] theorem rawStart_mem (p : ℕ) (n : ℕ) (c : ℕ) (s : State) : (rawStart p n c s).mem = s.mem := by simp [rawStart]
@[simp] theorem takeSegment_mem (p : ℕ) (k : ℕ) (seg : RawSegment) (s : State) : (takeSegment p k seg s).mem = s.mem := by simp [takeSegment]
@[simp] theorem idleErrs_mem (p : ℕ) (n : ℕ) (s : State) : (idleErrs p n s).mem = s.mem := by simp [idleErrs]
@[simp] theorem controlReply_mem (p : ℕ) (tag : ℕ) (status : ℕ) (data : List Byte) (s : State) : (controlReply p tag status data s).mem = s.mem := by fun_cases controlReply <;> simp
@[simp] theorem messageErrs_mem (p : ℕ) (kind : ℕ) (words : List ℕ) (m : RawMessage) (s : State) : (messageErrs p kind words m s).mem = s.mem := by simp [messageErrs]
@[simp] theorem wireSegment_mem (p : ℕ) (k : ℕ) (seg : RawSegment) (s : State) : (wireSegment p k seg s).mem = s.mem := by unfold wireSegment; dsimp only; (repeat' split) <;> simp
@[simp] theorem laneSegment_mem (p : ℕ) (k : ℕ) (seg : RawSegment) (s : State) : (laneSegment p k seg s).mem = s.mem := by simp [laneSegment]
@[simp] theorem execRawLineSegment_mem (port : Fin 16) (k : Fin 4) (seg : RawSegment) (s : State) : nextWith (fun t => t.mem = s.mem) (execRawLineSegment port k seg s) := by simp [execRawLineSegment]
@[simp] theorem execControlReply_mem (port : Fin 16) (tag : ℕ) (status : ℕ) (m : RawMessage) (s : State) : nextWith (fun t => t.mem = s.mem) (execControlReply port tag status m s) := by simp [execControlReply]
@[simp] theorem execRawEventSegment_mem (port : Fin 16) (m : RawMessage) (s : State) : nextWith (fun t => t.mem = s.mem) (execRawEventSegment port m s) := by simp [execRawEventSegment]
@[simp] theorem seeTrigger_mem (p : ℕ) (s : State) : (seeTrigger p s).mem = s.mem := by
  unfold seeTrigger
  extract_lets x d ahead
  split
  · rfl
  · extract_lets t area h u y first lost full oldest due path up c gone v w
    have ht : t.mem = s.mem := rfl
    clear_value t
    split
    · exact ht
    · have hu : u.mem = s.mem := by simp only [u, mem_ite, anchorPort_mem, anchorLine_mem, ite_self, ht]
      clear_value u
      have hv : v.mem = s.mem := hu
      clear_value v
      have hw : w.mem = s.mem := by simp only [w, mem_ite, sendUplink_mem, ite_self, hv]
      clear_value w
      split
      · rw [lostFrames_mem, hw]
      · rw [flushDue_mem, hw]
@[simp] theorem execLineDueTrigger_mem (port : Fin 16) (s : State) : nextWith (fun t => t.mem = s.mem) (execLineDueTrigger port s) := by simp [execLineDueTrigger]
@[simp] theorem execFreeRunDue_mem (port : Fin 16) (s : State) : nextWith (fun t => t.mem = s.mem) (execFreeRunDue port s) := by fun_cases execFreeRunDue <;> simp
@[simp] theorem timeOutLine_mem (p : ℕ) (s : State) : (timeOutLine p s).mem = s.mem := by
  unfold timeOutLine
  extract_lets x t debt
  split
  · rfl
  split
  · split
    · rfl
    split
    · rw [lostFrames_mem, endShort_mem]
      split
      · rw [portEvent_mem]
      · rfl
    split
    · extract_lets h t' t''
      have ht : t''.mem = s.mem := by simp only [t'', t', t, mem_ite, anchorPort_mem, modPort_mem, releaseHold_mem, portEvent_mem, ite_self]
      clear_value t''
      rw [lostFrames_mem, modPort_mem, fillRows_mem, ht]
    · rfl
  split
  · rfl
  · extract_lets g gone t t'
    have ht : t'.mem = s.mem := by simp only [t', t, mem_ite, anchorLine_mem, portEvent_mem, setPort_mem, ite_self]
    clear_value t'
    split
    · rw [flushDue_mem, stampLine_mem, modPort_mem, ht]
    · rw [modPort_mem, ht]
@[simp] theorem execLineTimeout_mem (port : Fin 16) (s : State) : nextWith (fun t => t.mem = s.mem) (execLineTimeout port s) := by simp [execLineTimeout]
@[simp] theorem execPortLineAssembled_mem (port : Fin 16) (s : State) : nextWith (fun t => t.mem = s.mem) (execPortLineAssembled port s) := by simp [execPortLineAssembled]
@[simp] theorem chkStage_mem (unit : ℕ) (g : ℕ) (s : State) : (chkStage unit g s).mem = s.mem := by unfold chkStage; dsimp only; split <;> simp
@[simp] theorem feedLine_mem (unit : ℕ) (g : ℕ) (ok : Bool) (i : Item) (s : State) : (feedLine unit g ok i s).mem = s.mem := by simp [feedLine]
@[simp] theorem execPortLineDelivered_mem (line : PortRead) (s : State) : nextWith (fun t => t.mem = s.mem) (execPortLineDelivered line s) := by
  unfold execPortLineDelivered
  extract_lets p x _ _
  split
  · exact rfl
  · extract_lets g t
    split
    · exact rfl
    · split
      next heq =>
        next l u =>
        have hu : u.mem = s.mem := by
          clear_value t
          cases t
          all_goals exact (congrArg (fun r => r.2.mem) heq).symm
        extract_lets seen report v v1 v2 v3 v4 bytes v5 st v6
        have hv : v.mem = s.mem := hu
        have hv4 : v4.mem = s.mem := by simp only [v4, v3, v2, v1, mem_ite, passSwitch_mem, portEvent_mem, sendSeq_mem, closeProduct_mem, ite_self, hv]
        have hv6 : v6.mem = s.mem := by simp only [v6, v5, feedLine_mem, switchFlows_mem, hv4]
        clear_value v6
        split
        · exact (closeProduct_mem ..).trans hv6
        · exact hv6
@[simp] theorem execLongFrameHoldEnd_mem (port : Fin 16) (s : State) : nextWith (fun t => t.mem = s.mem) (execLongFrameHoldEnd port s) :=
  (lostFrames_mem ..).trans (releaseHold_mem ..)
@[simp] theorem execHeartbeatLost_mem (port : Fin 16) (s : State) : nextWith (fun t => t.mem = s.mem) (execHeartbeatLost port s) := by fun_cases execHeartbeatLost <;> simp
@[simp] theorem execCamsetSend_mem (port : Fin 16) (s : State) : nextWith (fun t => t.mem = s.mem) (execCamsetSend port s) := by fun_cases execCamsetSend <;> simp
@[simp] theorem execCamsetFail_mem (port : Fin 16) (timeout : Bool) (s : State) : nextWith (fun t => t.mem = s.mem) (execCamsetFail port timeout s) := by simp [execCamsetFail]
@[simp] theorem execCamAccessTimeout_mem (port : Fin 16) (tag : ℕ) (s : State) : nextWith (fun t => t.mem = s.mem) (execCamAccessTimeout port tag s) := by fun_cases execCamAccessTimeout <;> simp
@[simp] theorem illegalAxis_mem (a : ℕ) (s : State) : (illegalAxis a s).mem = s.mem := rfl
@[simp] theorem raiseIf_mem (c : Bool) (src : ℕ) (arg : ℕ) (s : State) : (raiseIf c src arg s).mem = s.mem := by simp [raiseIf]
@[simp] theorem firePc_mem (n : ℕ) (es : List (PcEntry × Bool × Bool)) (s : State) : (firePc n es s).mem = s.mem := by fun_cases firePc <;> simp
@[simp] theorem passPc_mem (a : ℕ) (old : ℤ) (new : ℤ) (n : ℕ) (s : State) : (passPc a old new n s).mem = s.mem := by simp [passPc]
@[simp] theorem issueTrigger_mem (k : ℕ) (l : Latch) (s : State) : (issueTrigger k l s).mem = s.mem := rfl
@[simp] theorem takeTrigger_mem (k : ℕ) (l : Latch) (s : State) : (takeTrigger k l s).mem = s.mem := by simp [takeTrigger]
@[simp] theorem ltgStep_mem (k : ℕ) (up : Bool) (s : State) : (ltgStep k up s).mem = s.mem := by simp [ltgStep]
@[simp] theorem axisSteps_mem (a : ℕ) (up : Bool) (n : ℕ) (s : State) : (axisSteps a up n s).mem = s.mem := by
  induction n generalizing s with
  | zero => rfl
  | succ n ih =>
    rw [axisSteps, ih]
    exact forEach_mem _ _ _ (fun _ _ => by
      split
      · exact ltgStep_mem ..
      · rfl)
@[simp] theorem noteCinchPos_mem (a : ℕ) (old : ℤ) (new : ℤ) (s : State) : (noteCinchPos a old new s).mem = s.mem := by fun_cases noteCinchPos <;> simp
@[simp] theorem applyCount_mem (a : ℕ) (c : ℤ) (s : State) : (applyCount a c s).mem = s.mem := by
  unfold applyCount
  extract_lets x want p sat sg wasStill x' t u v moved
  have hv : v.mem = s.mem := by simp only [v, u, t, raiseIf_mem, setAxis_mem]
  clear_value v
  exact (forEach_mem _ _ _ (fun _ _ => passPc_mem ..)).trans ((axisSteps_mem ..).trans ((noteCinchPos_mem ..).trans hv))
@[simp] theorem countAxis_mem (a : ℕ) (c : ℤ) (s : State) : (countAxis a c s).mem = s.mem := by simp [countAxis]
@[simp] theorem decodeEdge_mem (a : ℕ) (na : Bool) (nb : Bool) (s : State) : (decodeEdge a na nb s).mem = s.mem := by simp [decodeEdge]
@[simp] theorem execQuadratureEdge_mem (axis : Fin 8) (ab : Bool × Bool) (s : State) : nextWith (fun t => t.mem = s.mem) (execQuadratureEdge axis ab s) := by simp [execQuadratureEdge]
@[simp] theorem execIllegalTransition_mem (axis : Fin 8) (s : State) : nextWith (fun t => t.mem = s.mem) (execIllegalTransition axis s) := by simp [execIllegalTransition]
@[simp] theorem execEncIndex_mem (axis : Fin 8) (s : State) : nextWith (fun t => t.mem = s.mem) (execEncIndex axis s) := by fun_cases execEncIndex <;> simp
@[simp] theorem countMany_mem (a : ℕ) (c : ℤ) (n : ℕ) (s : State) : (countMany a c n s).mem = s.mem := by
  induction n generalizing s with
  | zero => rfl
  | succ n ih => rw [countMany, ih, countAxis_mem]
@[simp] theorem execSsiRead_mem (axis : Fin 8) (word : Option ℕ) (s : State) : nextWith (fun t => t.mem = s.mem) (execSsiRead axis word s) := by
  have hbad (n : ℕ) (x : Axis) : (illegalAxis n (setAxis n x s)).mem = s.mem := by rw [illegalAxis_mem, setAxis_mem]
  unfold execSsiRead
  extract_lets a x bits bad
  split
  · exact rfl
  · split
    · exact hbad ..
    · extract_lets v w
      split
      · exact (forEach_mem _ _ _ (fun _ _ => passPc_mem ..)).trans ((noteCinchPos_mem ..).trans (setAxis_mem ..))
      · extract_lets d t
        split
        · exact hbad ..
        · have ht : t.mem = s.mem := by simp only [t, countMany_mem, setAxis_mem]
          clear_value t
          split
          · exact ht
          · exact ht
@[simp] theorem execObserverUpdate_mem (axis : Fin 8) (s : State) : nextWith (fun t => t.mem = s.mem) (execObserverUpdate axis s) := by fun_cases execObserverUpdate <;> simp
@[simp] theorem execEncStill_mem (axis : Fin 8) (s : State) : nextWith (fun t => t.mem = s.mem) (execEncStill axis s) := by fun_cases execEncStill <;> simp
@[simp] theorem execValidSettled_mem (axis : Fin 8) (s : State) : nextWith (fun t => t.mem = s.mem) (execValidSettled axis s) := by simp [execValidSettled]
@[simp] theorem execLtgTimerStep_mem (ltg : Fin 16) (s : State) : nextWith (fun t => t.mem = s.mem) (execLtgTimerStep ltg s) := by fun_cases execLtgTimerStep <;> simp
@[simp] theorem execLtgHeldIssue_mem (ltg : Fin 16) (s : State) : nextWith (fun t => t.mem = s.mem) (execLtgHeldIssue ltg s) := by fun_cases execLtgHeldIssue <;> simp
@[simp] theorem execPcPulseEnd_mem (pc : Fin 8) (s : State) : nextWith (fun t => t.mem = s.mem) (execPcPulseEnd pc s) := by unfold execPcPulseEnd; split <;> simp
@[simp] theorem forwardWrite_mem (a : Acc) (off : ℕ) (value : Word32) (s : State) : (forwardWrite a off value s).mem = s.mem := by simp [forwardWrite]
@[simp] theorem insertPc_mem (n : ℕ) (e : PcEntry) (s : State) : (insertPc n e s).2.mem = s.mem := by fun_cases insertPc <;> simp
@[simp] theorem pcAct_mem (n : ℕ) (r : ℕ) (v : Word32) (s : State) : (pcAct n r v s).mem = s.mem := by simp [pcAct]
@[simp] theorem pcWrite_mem (a : Acc) (n : ℕ) (r : ℕ) (v : Word32) (s : State) : (pcWrite a n r v s).mem = s.mem := by simp [pcWrite]
@[simp] theorem execPcInsCmd_mem (a : Acc) (pc : Fin 8) (value : Word32) (s : State) : nextWith (fun t => t.mem = s.mem) (execPcInsCmd a pc value s) := by simp [execPcInsCmd]
@[simp] theorem execClear_mem (a : Acc) (pc : Fin 8) (s : State) : nextWith (fun t => t.mem = s.mem) (execClear a pc s) := by simp [execClear]
@[simp] theorem execDelete_mem (a : Acc) (pc : Fin 8) (tag : Word16) (s : State) : nextWith (fun t => t.mem = s.mem) (execDelete a pc tag s) := by simp [execDelete]
@[simp] theorem windowRead_mem (a : Acc) (right : Bool) (unit : ℕ) (off : ℕ) (value : State → ℕ) {act : State → State} (hact : ∀ t, (act t).mem = t.mem) (s : State) :
    (windowRead a right unit off value act s).mem = s.mem := by
  unfold windowRead
  split
  · rfl
  · split
    · rw [hact]
    · simp
@[simp] theorem execPcFiredRead_mem (a : Acc) (pc : Fin 8) (s : State) : nextWith (fun t => t.mem = s.mem) (execPcFiredRead a pc s) := by
  unfold execPcFiredRead
  rw [nextWith_next]
  exact windowRead_mem _ _ _ _ _ (fun _ => setPc_mem ..) s
@[simp] theorem execPcMissedRead_mem (a : Acc) (pc : Fin 8) (s : State) : nextWith (fun t => t.mem = s.mem) (execPcMissedRead a pc s) := by
  unfold execPcMissedRead
  rw [nextWith_next]
  exact windowRead_mem _ _ _ _ _ (fun _ => setPc_mem ..) s
@[simp] theorem execAxPosCapture_mem (a : Acc) (axis : Fin 8) (s : State) : nextWith (fun t => t.mem = s.mem) (execAxPosCapture a axis s) := by
  unfold execAxPosCapture
  rw [nextWith_next]
  exact windowRead_mem _ _ _ _ _ (fun _ => setAxis_mem ..) s
@[simp] theorem freshStrip_mem (i : ℕ) (s : State) : (freshStrip i s).mem = s.mem := rfl
@[simp] theorem freshLine_mem (i : ℕ) (d : Dict) (s : State) : (freshLine i d s).mem = s.mem := by simp [freshLine]
@[simp] theorem beginLine_mem (i : ℕ) (g : ℕ) (s : State) : (beginLine i g s).2.mem = s.mem := by simp [beginLine]
@[simp] theorem beginStrip_mem (i : ℕ) (g : ℕ) (s : State) : (beginStrip i g s).2.mem = s.mem := by simp [beginStrip]
@[simp] theorem profSwitch_mem (c : ℕ) (epoch : ℕ) (s : State) : (profSwitch c epoch s).mem = s.mem := by simp [profSwitch]
@[simp] theorem startProf_mem (c : ℕ) (epoch : ℕ) (s : State) : (startProf c epoch s).mem = s.mem := rfl
@[simp] theorem switchProfiles_mem (stream : ℕ) (epoch : ℕ) (s : State) : (switchProfiles stream epoch s).mem = s.mem := by simp [switchProfiles]
@[simp] theorem latchProf_mem (c : ℕ) (frame : ℕ) (s : State) : (latchProf c frame s).mem = s.mem := rfl
@[simp] theorem profLine_mem (c : ℕ) (comps : ℕ) (t : Stamp) (px : List ℕ) (s : State) : (profLine c comps t px s).mem = s.mem := by simp [profLine]
@[simp] theorem verifyLine_mem (unit : ℕ) (t : Stamp) (px : List ℕ) (s : State) : (verifyLine unit t px s).mem = s.mem := by simp [verifyLine]
@[simp] theorem feedProfiles_mem (stream : ℕ) (comps : ℕ) (t : Stamp) (px : List ℕ) (s : State) : (feedProfiles stream comps t px s).mem = s.mem := by simp [feedProfiles]
@[simp] theorem stripOut_mem (i : ℕ) (comps : ℕ) (first : Bool) (t : Stamp) (px : List ℕ) (ups : List (ℕ × ℕ)) (s : State) : (stripOut i comps first t px ups s).mem = s.mem := by simp [stripOut]
@[simp] theorem endProfiles_mem (i : ℕ) (s : State) : (endProfiles i s).mem = s.mem := by simp [endProfiles]
@[simp] theorem runShade_mem (i : ℕ) (s : State) : (runShade i s).mem = s.mem := by fun_cases runShade <;> simp
@[simp] theorem endFrame_mem (i : ℕ) (t : Stamp) (report : List Byte) (s : State) : (endFrame i t report s).mem = s.mem := by simp [endFrame]
@[simp] theorem execStripLine_mem (strip : Fin 16) (soft : List ℕ) (hard : List ℕ) (upset : LineUpset (ℕ × ℕ)) (s : State) :
    nextWith (fun t => t.mem = s.mem) (execStripLine strip soft hard upset s) := by
  have hbegin {k n : ℕ} {u v : State} {b : Bool} (h : beginStrip k n u = (b, v)) : v.mem = u.mem :=
    (congrArg (fun r => r.2.mem) h).symm.trans (beginStrip_mem ..)
  unfold execStripLine
  extract_lets i x
  split
  · exact rfl
  · extract_lets t0 y _ stamp d t1
    have ht0 : t0.mem = s.mem := by
      unfold t0
      split
      · exact freshLine_mem ..
      · rfl
    have ht1 : t1.mem = s.mem := (switchFlows_mem ..).trans ht0
    split
    · exact ht0
    · split
      next frozen t2 h2 =>
      split
      next other t3 h3 =>
      have ht3 : t3.mem = s.mem := by
        refine Eq.trans ?_ ((hbegin h2).trans ht1)
        split at h3
        · exact hbegin h3
        · exact (congrArg (fun r => r.2.mem) h3).symm
      extract_lets y _ t4 slow ueHere fl lines px stamp' both _ c0 c1 _ stats t5 _ t6 t7 t8
      have ht4 : t4.mem = s.mem := by
        unfold t4
        split
        · exact ht3
        · exact ht3
      have ht6 : t6.mem = s.mem := by
        unfold t6
        split
        · exact (setStrip_mem ..).trans ((setStrip_mem ..).trans ht4)
        · exact (setStrip_mem ..).trans ht4
      have ht7 : t7.mem = s.mem := by
        unfold t7
        split
        · exact ht6
        · exact (forEach_mem _ _ _ (fun _ _ => raise_mem ..)).trans ht6
      have ht8 : t8.mem = s.mem := (stripOut_mem ..).trans ht7
      refine (endProfiles_mem ..).trans ?_
      split
      · split
        · exact (endFrame_mem ..).trans ht8
        · exact ht8
      · exact ht8
@[simp] theorem execShadeUpdate_mem (strip : Fin 16) (s : State) : nextWith (fun t => t.mem = s.mem) (execShadeUpdate strip s) := by simp [execShadeUpdate]
@[simp] theorem loadCalib_mem (i : ℕ) (d : Dict) (s : State) : (loadCalib i d s).mem = s.mem := rfl
@[simp] theorem execCalibLoad_mem (strip : Fin 16) (s : State) : nextWith (fun t => t.mem = s.mem) (execCalibLoad strip s) := by unfold execCalibLoad; split <;> simp
@[simp] theorem colourOut_mem (i : ℕ) (l : Line) (ups : List (ℕ × ℕ)) (s : State) : (colourOut i l ups s).mem = s.mem := by simp [colourOut]
@[simp] theorem execColourLine_mem (strip : Fin 16) (upset : LineUpset (ℕ × ℕ)) (s : State) : nextWith (fun t => t.mem = s.mem) (execColourLine strip upset s) := by unfold execColourLine; dsimp only; (repeat' split) <;> simp
@[simp] theorem storeLine_mem (p : ℕ) (idx : ℕ) (row : ℕ) (l : Line) (s : State) : (storeLine p idx row l s).mem = s.mem := by
  unfold storeLine
  extract_lets d x area new rows keep ended t _ u r miss
  have hu : u.mem = s.mem := by simp only [u, t, mem_ite, ite_self, setStchIn_mem]
  clear_value u
  refine (forEach_mem _ _ _ (fun _ _ => ?_)).trans hu
  rfl
@[simp] theorem execStchDelayWrite_mem (port : Fin 16) (s : State) : nextWith (fun t => t.mem = s.mem) (execStchDelayWrite port s) := by fun_cases execStchDelayWrite <;> simp
@[simp] theorem upsetStored_mem (ups : List (ℕ × ℕ × ℕ × ℕ)) (n : ℕ) (d : Dict) (s : State) : (upsetStored ups n d s).mem = s.mem := forEach_mem _ _ _ (fun _ _ => by simp)
@[simp] theorem markBad_mem (errs : List (ℕ × ℕ)) (n : ℕ) (d : Dict) (s : State) : (markBad errs n d s).mem = s.mem := by simp [markBad]
@[simp] theorem writeHistory_mem (d : Dict) (l : Line) (s : State) : (writeHistory d l s).mem = s.mem := by simp [writeHistory]
@[simp] theorem previewRow_mem (d : Dict) (l : Line) (s : State) : (previewRow d l s).mem = s.mem := by simp [previewRow]
@[simp] theorem emitStitched_mem (d : Dict) (l : Line) (profUps : List (ℕ × ℕ)) (ups : List (ℕ × ℕ)) (s : State) : (emitStitched d l profUps ups s).mem = s.mem := by simp [emitStitched]
@[simp] theorem execStitchedLine_mem (readErr : List (ℕ × ℕ)) (upset : LineUpset (ℕ × ℕ × ℕ × ℕ)) (s : State) : nextWith (fun t => t.mem = s.mem) (execStitchedLine readErr upset s) := by unfold execStitchedLine; dsimp only; (repeat' split) <;> simp
@[simp] theorem execAreaComposition_mem (readErr : List ℕ) (upset : LineUpset (ℕ × ℕ × ℕ)) (s : State) :
    nextWith (fun t => t.mem = s.mem) (execAreaComposition readErr upset s) := by
  unfold execAreaComposition
  extract_lets d0 f y ports ref e d t u parts fails anyBad fe l drop _ _ v
  have ht : t.mem = s.mem := by
    unfold t
    split
    · exact passSwitch_mem ..
    · rfl
  have hu : u.mem = s.mem := by
    refine (forEach_mem _ _ _ (fun _ _ => ?_)).trans ht
    exact setStchIn_mem ..
  split
  · exact rfl
  split
  · exact (stopStitcher_mem _).trans (passSwitch_mem ..)
  split
  · exact rfl
  split
  · exact (stopStitcher_mem _).trans ht
  · exact (emitStitched_mem ..).trans hu
@[simp] theorem execComposeLate_mem (port : Fin 16) (s : State) : nextWith (fun t => t.mem = s.mem) (execComposeLate port s) := by fun_cases execComposeLate <;> simp
@[simp] theorem startSegm_mem (epoch : ℕ) (s : State) : (startSegm epoch s).mem = s.mem := by simp [startSegm]
@[simp] theorem spoilObjs_mem (ecc : List (ℕ × Fin 26)) (s : State) : (spoilObjs ecc s).mem = s.mem := by simp [spoilObjs]
@[simp] theorem execSegmLine_mem (ecc : List (ℕ × Fin 26)) (upset : List (ℕ × ℕ)) (s : State) : nextWith (fun t => t.mem = s.mem) (execSegmLine ecc upset s) := by
  unfold execSegmLine
  split
  · exact rfl
  · extract_lets stamp n d _ t0 t1 px t2
    have ht1 : t1.mem = s.mem := by
      unfold t1
      split
      · split
        · rfl
        · exact startSegm_mem ..
      · split
        · exact stopSegm_mem ..
        · rfl
    split
    · exact rfl
    · split
      · exact ht1
      · split
        next kinds t3 h3 =>
        have ht3 : t3.mem = s.mem :=
          (congrArg (fun r => r.2.mem) h3).symm.trans ((beginLine_mem ..).trans ((verifyLine_mem ..).trans ht1))
        extract_lets skip force refs t4 rowZero pix cnt c c' open' work work' _ work'' closes _ t5 t6
        have ht4 : t4.mem = s.mem := (spoilObjs_mem ..).trans ht3
        have ht6 : t6.mem = s.mem := (endLine_mem ..).trans ht4
        rw [nextWith_next]
        split
        · exact (stopSegm_mem ..).trans ht6
        · exact ht6
@[simp] theorem dispose_mem (f : ℕ) (disp : ℕ) (seq : ℕ) (product : ℕ) (port : ℕ) (s : State) : (dispose f disp seq product port s).mem = s.mem := by simp [dispose]
@[simp] theorem cmprDrop_mem (u : PUnit) (s : State) : (cmprDrop u s).mem = s.mem := by simp [cmprDrop]
@[simp] theorem enterBacklog_mem (u : PUnit) (s : State) : (enterBacklog u s).mem = s.mem := by simp [enterBacklog]
@[simp] theorem netDrop_mem (u : PUnit) (s : State) : (netDrop u s).mem = s.mem := by unfold netDrop; dsimp only; split <;> simp
@[simp] theorem localUnit_mem (u : PUnit) (payload : List Byte) (s : State) : (localUnit u payload s).mem = s.mem := by simp [localUnit]
@[simp] theorem admitUnit_mem (e : ℕ) (u : PUnit) (payload : List Byte) (s : State) : (admitUnit e u payload s).2.mem = s.mem := by fun_cases admitUnit <;> simp
@[simp] theorem routeUnit_mem (u : PUnit) (s : State) : (routeUnit u s).mem = s.mem := by
  have hadmit : (admitUnit 20 u u.body s).2.mem = s.mem := admitUnit_mem ..
  unfold routeUnit
  refine ite_mem_self ?_
  split
  · exact enterBacklog_mem ..
  split
  · exact localUnit_mem ..
  · generalize admitUnit 20 u u.body s = r at hadmit
    obtain ⟨fits, t⟩ := r
    dsimp only
    split
    · exact hadmit
    · exact (netDrop_mem ..).trans hadmit
@[simp] theorem divergence_mem (e : DigestEntry) (own : ℕ) (s : State) : (divergence e own s).mem = s.mem := by simp [divergence]
@[simp] theorem compareUnit_mem (own : DigestEntry) (theirs : DigestEntry) (s : State) : (compareUnit own theirs s).mem = s.mem := by simp [compareUnit]
@[simp] theorem compareDigest_mem (own : DigestEntry) (theirs : DigestEntry) (s : State) : (compareDigest own theirs s).mem = s.mem := by simp [compareDigest]
@[simp] theorem digestOut_mem (e : DigestEntry) (top : Option ℕ) (s : State) : (digestOut e top s).mem = s.mem := by fun_cases digestOut <;> simp
@[simp] theorem execUnitFormed_mem (f : Fin 1024) (s : State) : nextWith (fun t => t.mem = s.mem) (execUnitFormed f s) := by unfold execUnitFormed; dsimp only; split <;> simp
@[simp] theorem execLogUnitTimeout_mem (f : Fin 1024) (s : State) : nextWith (fun t => t.mem = s.mem) (execLogUnitTimeout f s) := by fun_cases execLogUnitTimeout <;> simp
@[simp] theorem stopUnit_mem (e : ℕ) (inDone : ℕ) (outDone : ℕ) (u : PUnit) (s : State) : (stopUnit e inDone outDone u s).mem = s.mem := by simp [stopUnit]
@[simp] theorem execEngineResume_mem (e : Fin 16) (s : State) : nextWith (fun t => t.mem = s.mem) (execEngineResume e s) := by fun_cases execEngineResume <;> simp
@[simp] theorem countCoding_mem (c : Coding) (body : List Byte) (s : State) : (countCoding c body s).mem = s.mem := rfl
@[simp] theorem jobDone_mem (d : Deferred) (nIn : ℕ) (nOut : ℕ) (s : State) : (jobDone d nIn nOut s).mem = s.mem := by simp [jobDone]
@[simp] theorem execEngineOutOfService_mem (e : Fin 16) (s : State) : nextWith (fun t => t.mem = s.mem) (execEngineOutOfService e s) := by simp [execEngineOutOfService]
@[simp] theorem execJobTimeout_mem (session : ℕ) (seq : ℕ) (s : State) : nextWith (fun t => t.mem = s.mem) (execJobTimeout session seq s) := by fun_cases execJobTimeout <;> simp
@[simp] theorem frameOut_mem (p : ℕ) (out : NetOut) (frame : List Byte) (s : State) : (frameOut p out frame s).mem = s.mem := rfl
@[simp] theorem pushUrgent_mem (p : ℕ) (u : Urgent) (s : State) : (pushUrgent p u s).mem = s.mem := rfl
@[simp] theorem ptpDepart_mem (p : ℕ) (m : PtpOut) (s : State) : (ptpDepart p m s).mem = s.mem := by simp [ptpDepart]
@[simp] theorem sendUrgent_mem (p : ℕ) (u : Urgent) (s : State) : (sendUrgent p u s).mem = s.mem := by fun_cases sendUrgent <;> simp
@[simp] theorem sendHead_mem (p : ℕ) (q : ℕ) (u : TxUnit) (rest : List TxUnit) (s : State) : (sendHead p q u rest s).mem = s.mem := by simp [sendHead]
@[simp] theorem sendSegment_mem (p : ℕ) (n : ℕ) (s : State) : (sendSegment p n s).mem = s.mem := by
  induction n generalizing s with
  | zero => rfl
  | succ n ih =>
    unfold sendSegment
    extract_lets x n
    split
    · rfl
    · extract_lets t
      split
      · split
        · rfl
        · rw [frameOut_mem, setNetPort_mem]
      · split
        · exact sendHead_mem ..
        · split
          · split
            · rw [ih, dispose_mem, raise_mem, setNetPort_mem]
            · exact sendHead_mem ..
          · exact sendHead_mem ..
@[simp] theorem execSegmentSend_mem (port : Fin 3) (s : State) : nextWith (fun t => t.mem = s.mem) (execSegmentSend port s) := by
  unfold execSegmentSend
  extract_lets p x
  split
  · exact rfl
  · split
    · exact (sendUrgent_mem ..).trans (setNetPort_mem ..)
    · exact (tryYield_mem ..).trans ((sendSegment_mem ..).trans (setNetPort_mem ..))
@[simp] theorem execNetLink_mem (port : Fin 3) (up : Bool) (s : State) : nextWith (fun t => t.mem = s.mem) (execNetLink port up s) := by fun_cases execNetLink <;> simp
@[simp] theorem execPauseFrameReceived_mem (port : Fin 3) (pfc : Bool) (stop : List (Fin 8)) (go : List (Fin 8)) (s : State) : nextWith (fun t => t.mem = s.mem) (execPauseFrameReceived port pfc stop go s) := rfl
@[simp] theorem execPauseExpiry_mem (port : Fin 3) (prio : Option (Fin 8)) (s : State) : nextWith (fun t => t.mem = s.mem) (execPauseExpiry port prio s) := by fun_cases execPauseExpiry <;> simp
@[simp] theorem sendAddress_mem (p : ℕ) (v6 : Bool) (peer : Peer) (solicited : Bool) (s : State) : (sendAddress p v6 peer solicited s).mem = s.mem := rfl
@[simp] theorem execArpRequest_mem (port : Fin 3) (v6 : Bool) (ask : AddressAsk) (s : State) : nextWith (fun t => t.mem = s.mem) (execArpRequest port v6 ask s) := by simp [execArpRequest]
@[simp] theorem execIcmpEchoRequest_mem (port : Fin 3) (v6 : Bool) (ask : EchoAsk) (s : State) : nextWith (fun t => t.mem = s.mem) (execIcmpEchoRequest port v6 ask s) := by simp [execIcmpEchoRequest]
@[simp] theorem execFrameDiscarded_mem (port : Fin 3) (f : BadFrame) (s : State) : nextWith (fun t => t.mem = s.mem) (execFrameDiscarded port f s) := by simp [execFrameDiscarded]
@[simp] theorem countPtp_mem (p : ℕ) (good : Bool) (s : State) : (countPtp p good s).mem = s.mem := rfl
@[simp] theorem ptpReceive_mem (p : ℕ) (m : PtpHdr) {act : State → State} (hact : ∀ t, (act t).mem = t.mem) (s : State) : (ptpReceive p m act s).mem = s.mem := by
  unfold ptpReceive
  extract_lets t
  have ht : t.mem = s.mem := countRx_mem ..
  clear_value t
  split
  · exact ht
  · split
    · rw [hact, countPtp_mem, ht]
    · rw [countPtp_mem, ht]
@[simp] theorem execAnnounce_mem (port : Fin 3) (m : PtpHdr) (d : AnnounceData) (s : State) : nextWith (fun t => t.mem = s.mem) (execAnnounce port m d s) := by simp [execAnnounce]
@[simp] theorem ptpDiscard_mem (p : ℕ) (s : State) : (ptpDiscard p s).mem = s.mem := rfl
@[simp] theorem discardOffset_mem (s : State) : (discardOffset s).mem = s.mem := by simp [discardOffset]
@[simp] theorem servoUpdate_mem (li : ℤ) (o : ℚ) (s : State) : (servoUpdate li o s).mem = s.mem := rfl
@[simp] theorem setTime48_mem (t : ℕ) (s : State) : (setTime48 t s).mem = s.mem := rfl
@[simp] theorem stepTime_mem (o : ℚ) (s : State) : (stepTime o s).mem = s.mem := by simp [stepTime]
@[simp] theorem offsetState_mem (o : ℚ) (s : State) : (offsetState o s).mem = s.mem := by unfold offsetState; dsimp only; split <;> simp
@[simp] theorem takeOffset_mem (p : ℕ) (li : ℤ) (o : ℚ) (s : State) : (takeOffset p li o s).mem = s.mem := by simp [takeOffset]
@[simp] theorem syncOffset_mem (p : ℕ) (li : ℤ) (t2 : ℚ) (t1 : ℚ) (corr : ℚ) (s : State) : (syncOffset p li t2 t1 corr s).mem = s.mem := by simp [syncOffset]
@[simp] theorem execSync_mem (port : Fin 3) (m : PtpHdr) (twoStep : Bool) (origin : ℕ) (s : State) : nextWith (fun t => t.mem = s.mem) (execSync port m twoStep origin s) := by simp [execSync]
@[simp] theorem execFollowUp_mem (port : Fin 3) (m : PtpHdr) (origin : ℕ) (s : State) : nextWith (fun t => t.mem = s.mem) (execFollowUp port m origin s) := by
  refine ptpReceive_mem _ _ (fun t => ?_) s
  split
  · split
    · exact syncOffset_mem ..
    · exact ptpDiscard_mem ..
  · exact ptpDiscard_mem ..
@[simp] theorem ptpSend_mem (p : ℕ) (m : PtpOut) (s : State) : (ptpSend p m s).mem = s.mem := rfl
@[simp] theorem execDelayReq_mem (port : Fin 3) (m : PtpHdr) (s : State) : nextWith (fun t => t.mem = s.mem) (execDelayReq port m s) := by simp [execDelayReq]
@[simp] theorem takeDelay_mem (p : ℕ) (d : ℚ) (s : State) : (takeDelay p d s).mem = s.mem := by simp [takeDelay]
@[simp] theorem execDelayResp_mem (port : Fin 3) (m : PtpHdr) (receipt : ℕ) (s : State) : nextWith (fun t => t.mem = s.mem) (execDelayResp port m receipt s) := by
  refine ptpReceive_mem _ _ (fun t => ?_) s
  dsimp only
  split
  · split
    · split
      · exact (takeDelay_mem ..).trans (setPtpPort_mem ..)
      · exact setPtpPort_mem ..
    · exact setPtpPort_mem ..
  · exact setPtpPort_mem ..
@[simp] theorem execPdelayReq_mem (port : Fin 3) (m : PtpHdr) (s : State) : nextWith (fun t => t.mem = s.mem) (execPdelayReq port m s) := by simp [execPdelayReq]
@[simp] theorem execPdelayResp_mem (port : Fin 3) (m : PtpHdr) (followUp : Bool) (twoStep : Bool) (time : ℕ) (s : State) : nextWith (fun t => t.mem = s.mem) (execPdelayResp port m followUp twoStep time s) := by
  refine ptpReceive_mem _ _ (fun t => ?_) s
  dsimp only
  split
  · split
    · split
      · exact (takeDelay_mem ..).trans (setPtpPort_mem ..)
      · exact setPtpPort_mem ..
    · exact setPtpPort_mem ..
  · split
    · split
      · split
        · exact setPtpPort_mem ..
        · exact (takeDelay_mem ..).trans (setPtpPort_mem ..)
      · exact setPtpPort_mem ..
    · exact setPtpPort_mem ..
@[simp] theorem execAnnounceReceiptTimeout_mem (port : Fin 3) (s : State) : nextWith (fun t => t.mem = s.mem) (execAnnounceReceiptTimeout port s) := by fun_cases execAnnounceReceiptTimeout <;> simp
@[simp] theorem execPtpMessageInterval_mem (port : Fin 3) (typ : ℕ) (s : State) : nextWith (fun t => t.mem = s.mem) (execPtpMessageInterval port typ s) := by fun_cases execPtpMessageInterval <;> simp
@[simp] theorem execTwinClaiming_mem (lineHigh : Bool) (s : State) : nextWith (fun t => t.mem = s.mem) (execTwinClaiming lineHigh s) := by unfold execTwinClaiming; split <;> simp
@[simp] theorem sendWaiting_mem (ms : List TwinMsg) (s : State) : (sendWaiting ms s).mem = s.mem := by
  induction ms generalizing s with
  | nil => rfl
  | cons m ms ih =>
    rw [sendWaiting]
    split
    · rw [ih, transmit_mem]
    · rfl
@[simp] theorem dropUncommitted_mem (s : State) : (dropUncommitted s).mem = s.mem := by simp [dropUncommitted]
@[simp] theorem finishYield_mem (s : State) : (finishYield s).mem = s.mem := by simp [finishYield]
@[simp] theorem processAck_mem (ack : ℕ) (s : State) : (processAck ack s).mem = s.mem := by
  unfold processAck
  extract_lets _ t u out _ v w
  have hu : u.mem = s.mem := by
    unfold u
    split
    · rfl
    · exact sendWaiting_mem ..
  have hw : w.mem = s.mem := (forEach_mem _ _ _ (fun _ _ => emit_mem ..)).trans hu
  clear_value w
  split
  · split
    · rw [finishYield_mem, hw]
    · exact hw
  · exact hw
@[simp] theorem countMissed_mem (least : ℕ) (s : State) : (countMissed least s).mem = s.mem := by fun_cases countMissed <;> simp
@[simp] theorem joinNow_mem (s : State) : (joinNow s).mem = s.mem := by simp [joinNow]
@[simp] theorem claimConflict_mem (s : State) : (claimConflict s).mem = s.mem := by fun_cases claimConflict <;> simp
@[simp] theorem takeHeartbeatReceived_mem (hb : Heartbeat) (ack : ℕ) (s : State) : (takeHeartbeatReceived hb ack s).mem = s.mem := by simp [takeHeartbeatReceived]
@[simp] theorem takeAck_mem (ack : ℕ) (s : State) : (takeAck ack s).mem = s.mem := by simp [takeAck]
@[simp] theorem heartbeatLoss_mem (s : State) : (heartbeatLoss s).mem = s.mem := by simp [heartbeatLoss]
@[simp] theorem linkDown_mem (s : State) : (linkDown s).mem = s.mem := by simp [linkDown]
@[simp] theorem replayFrom_mem (n : ℕ) (s : State) : (replayFrom n s).mem = s.mem := by unfold replayFrom; dsimp only; split <;> simp
@[simp] theorem takeNak_mem (expected : ℕ) (ack : ℕ) (s : State) : (takeNak expected ack s).mem = s.mem := by simp [takeNak]
@[simp] theorem sendUnseq_mem (typ : ℕ) (payload : List Byte) (s : State) : (sendUnseq typ payload s).mem = s.mem := rfl
@[simp] theorem sendNak_mem (s : State) : (sendNak s).mem = s.mem := by simp [sendNak]
@[simp] theorem acceptMsg_mem (m : MsgHdr) {act : State → State} (hact : ∀ t, (act t).mem = t.mem) (s : State) : (acceptMsg m act s).mem = s.mem := by
  unfold acceptMsg
  extract_lets t _
  split
  · rfl
  · have ht : t.mem = s.mem := processAck_mem ..
    clear_value t
    split
    · rw [hact, ht]
    · rw [sendNak_mem, ht]
@[simp] theorem sendAck_mem (s : State) : (sendAck s).mem = s.mem := rfl
@[simp] theorem takeReply_mem (m : MsgHdr) (reply : Reply) (s : State) : (takeReply m reply s).mem = s.mem := by simp [takeReply]
@[simp] theorem takeArmed_mem (m : MsgHdr) (epoch : ℕ) (s : State) : (takeArmed m epoch s).mem = s.mem := by simp [takeArmed]
@[simp] theorem takeWindowWrite_mem (m : MsgHdr) (principal : Principal) (addr : ℕ) (value : Word32) (s : State) : (takeWindowWrite m principal addr value s).mem = s.mem := by simp [takeWindowWrite]
@[simp] theorem takeStamps_mem (m : MsgHdr) (port : Fin 16) (stamps : List Stamp) (s : State) : (takeStamps m port stamps s).mem = s.mem := by simp [takeStamps]
@[simp] theorem adoptMiss_mem {release : State → State} (hrel : ∀ t, (release t).mem = t.mem) (s : State) : (adoptMiss release s).mem = s.mem := by
  unfold adoptMiss
  extract_lets _ t _
  have ht : t.mem = s.mem := by simp only [t, raiseOpen_mem, hrel]
  clear_value t
  split
  · exact ht
  · exact ht
@[simp] theorem execAdoptWaitExpiry_mem (slot : ℕ) (s : State) : nextWith (fun t => t.mem = s.mem) (execAdoptWaitExpiry slot s) := by fun_cases execAdoptWaitExpiry <;> simp
@[simp] theorem takeEvent_mem (m : MsgHdr) (consumer : ℕ) (kind : ℕ) (line : ℕ) (s : State) : (takeEvent m consumer kind line s).mem = s.mem := by simp [takeEvent]
@[simp] theorem takeDigests_mem (m : MsgHdr) (entries : List DigestEntry) (s : State) : (takeDigests m entries s).mem = s.mem := by
  refine acceptMsg_mem _ (fun t => forEach_mem _ _ _ (fun e u => ?_)) s
  split
  · rfl
  · split
    · split
      · exact compareDigest_mem ..
      · rfl
    · rfl
@[simp] theorem keepUnits_mem (keep : TxUnit → Bool) (s : State) : (keepUnits keep s).mem = s.mem := rfl
@[simp] theorem discardUnits_mem (e : DisposedEntry) (s : State) : (discardUnits e s).mem = s.mem := forEach_mem _ _ _ (fun _ _ => by simp)
@[simp] theorem takeDisposed_mem (m : MsgHdr) (entries : List DisposedEntry) (s : State) : (takeDisposed m entries s).mem = s.mem := by simp [takeDisposed]
@[simp] theorem takeLog_mem (m : MsgHdr) (entries : List LogEntry) (s : State) : (takeLog m entries s).mem = s.mem := by simp [takeLog]
@[simp] theorem takeDivergence_mem (m : MsgHdr) (e : DigestEntry) (own : ℕ) (s : State) : (takeDivergence m e own s).mem = s.mem := by simp [takeDivergence]
@[simp] theorem takeYield_mem (m : MsgHdr) (s : State) : (takeYield m s).mem = s.mem := by simp [takeYield]
@[simp] theorem takeDetach_mem (m : MsgHdr) (s : State) : (takeDetach m s).mem = s.mem := by simp [takeDetach]
@[simp] theorem sendItems_mem (items : List JoinItem) (s : State) : (sendItems items s).mem = s.mem := by simp [sendItems]
@[simp] theorem serveJoin_mem (s : State) : (serveJoin s).mem = s.mem := by simp [serveJoin]
@[simp] theorem takeJoinReq_mem (m : MsgHdr) (s : State) : (takeJoinReq m s).mem = s.mem := by simp [takeJoinReq]
@[simp] theorem stopStreams_mem (s : State) : (stopStreams s).mem = s.mem := by simp [stopStreams]
@[simp] theorem restDataPath_mem (s : State) : (restDataPath s).mem = s.mem := by simp [restDataPath]
@[simp] theorem applyJoin_mem (j : Join) (e : ℕ) (s : State) : (applyJoin j e s).mem = s.mem := by simp [applyJoin]
@[simp] theorem finishJoin_mem (j : Join) (s : State) : (finishJoin j s).mem = s.mem := by
  unfold finishJoin
  extract_lets _ _ t u
  have hu : u.mem = s.mem := by
    rw [show u = endTwinCommands 0x0802 0 (sendSeq 0x42 (joinDoneMsg 0 0) t) from rfl, endTwinCommands_mem, sendSeq_mem]
    exact setTwin_mem ..
  clear_value u
  refine (forEach_mem _ _ _ (fun _ _ => ?_)).trans hu
  split
  · exact compareDigest_mem ..
  · rfl
@[simp] theorem joinItem_mem (i : JoinItem) (s : State) : (joinItem i s).mem = s.mem := by
  unfold joinItem
  split
  · rfl
  · split
    · rfl
    · split
      · rfl
      · rfl
      · split
        · exact applyJoin_mem ..
        · rfl
      · rfl
      · rfl
      · rfl
      · rfl
      · split
        · exact failJoin_mem ..
        · rfl
      · split
        · exact failJoin_mem ..
        · refine (finishJoin_mem ..).trans ((forEach_mem _ _ _ (fun _ _ => ?_)).trans (forEach_mem _ _ _ (fun _ _ => ?_)))
          · exact setPc_mem ..
          · exact setProf_mem ..
@[simp] theorem takeJoinData_mem (m : MsgHdr) (items : List JoinItem) (s : State) : (takeJoinData m items s).mem = s.mem := by simp [takeJoinData]
@[simp] theorem takeJoinDone_mem (m : MsgHdr) (status : ℕ) (_detail : ℕ) (s : State) : (takeJoinDone m status _detail s).mem = s.mem := by
  refine acceptMsg_mem _ (fun t => ?_) s
  split
  · split
    · rfl
    · split
      · exact failJoin_mem ..
      · exact (endTwinCommands_mem ..).trans (raiseOpen_mem ..)
  · rfl
@[simp] theorem arrive_mem (c : ℕ) (ts : List MemTxn) (s : State) : (arrive c ts s).mem = s.mem := rfl
@[simp] theorem useCheck_mem (c : ℕ) (addr : ℕ) (write : Bool) (s : State) : (useCheck c addr write s).mem = s.mem := rfl
@[simp] theorem activate_mem (c : ℕ) (b : ℕ) (row : ℕ) (req : ℕ) (s : State) : (activate c b row req s).mem = s.mem := by simp [activate]
@[simp] theorem openRow_mem (c : ℕ) (addr : ℕ) (req : ℕ) (s : State) : (openRow c addr req s).mem = s.mem := by simp [openRow]
@[simp] theorem recordErr_mem (c : ℕ) (addr : ℕ) (req : ℕ) (un : Bool) (s : State) : (recordErr c addr req un s).mem = s.mem := by simp [recordErr]
@[simp] theorem dropCoding_mem (e : ℕ) (s : State) : (dropCoding e s).mem = s.mem := by fun_cases dropCoding <;> simp
@[simp] theorem netBadRead_mem (p : ℕ) (f : ℕ) (seq : ℕ) (s : State) : (netBadRead p f seq s).mem = s.mem := by fun_cases netBadRead <;> simp
@[simp] theorem spoilHistory_mem (n : ℕ) (k : ℕ) (s : State) : (spoilHistory n k s).mem = s.mem := by simp [spoilHistory]
@[simp] theorem memUe_mem (c : ℕ) (t : MemTxn) (s : State) : (memUe c t s).mem = s.mem := by unfold memUe; (repeat' split) <;> simp
@[simp] theorem returnReads_mem (req : ℕ) (addr : ℕ) (s : State) : (returnReads req addr s).mem = s.mem := rfl
@[simp] theorem readKind_mem (flips : List (Fin 528)) (s : State) : (readKind flips s).2.mem = s.mem := by unfold readKind; dsimp only; (repeat' split) <;> simp
@[simp] theorem memCe_mem (c : ℕ) (addr : ℕ) (req : ℕ) (s : State) : (memCe c addr req s).mem = s.mem := by simp [memCe]
@[simp] theorem grant.markCheck_mem (c : ℕ) (t : MemTxn) (s : State) : (grant.markCheck c t s).mem = s.mem := by simp [grant.markCheck]
@[simp] theorem execRefreshInterval_mem (ch : Fin 16) (bk : Fin 16) (burst : Bool) (idle : Bool) (s : State) : nextWith (fun t => t.mem = s.mem) (execRefreshInterval ch bk burst idle s) := by fun_cases execRefreshInterval <;> simp
@[simp] theorem riseTheta_mem (limited : Bool) (s : State) : (riseTheta limited s).mem = s.mem := by simp [riseTheta]
@[simp] theorem execMr4Read_mem (pkg : Fin 4) (rate : ℕ) (hot : Bool) (s : State) : nextWith (fun t => t.mem = s.mem) (execMr4Read pkg rate hot s) := by
  unfold execMr4Read
  extract_lets t
  have ht : t.mem = s.mem := forEach_mem _ _ _ (fun _ _ => setMemChan_mem ..)
  clear_value t
  rw [nextWith_next]
  split
  · rw [riseTheta_mem, raiseOpen_mem, ht]
  · exact ht
@[simp] theorem execRhWindowEnd_mem (ch : Fin 16) (s : State) : nextWith (fun t => t.mem = s.mem) (execRhWindowEnd ch s) := rfl
@[simp] theorem execMemPanic_mem (r : Fin 8) (ch : Fin 16) (lag : ℕ) (s : State) : nextWith (fun t => t.mem = s.mem) (execMemPanic r ch lag s) := by fun_cases execMemPanic <;> simp
@[simp] theorem execPanicExit_mem (r : Fin 8) (lags : List ℕ) (s : State) : nextWith (fun t => t.mem = s.mem) (execPanicExit r lags s) := by fun_cases execPanicExit <;> simp
@[simp] theorem raiseAhead_mem (c : ℕ) (s : State) : (raiseAhead c s).mem = s.mem := rfl
@[simp] theorem execRetrainStart_mem (ch : Fin 16) (s : State) : nextWith (fun t => t.mem = s.mem) (execRetrainStart ch s) := by fun_cases execRetrainStart <;> simp
@[simp] theorem usualAhead_mem (c : ℕ) (s : State) : (usualAhead c s).mem = s.mem := rfl
@[simp] theorem execRetrainDone_mem (ch : Fin 16) (eye : Bool) (s : State) : nextWith (fun t => t.mem = s.mem) (execRetrainDone ch eye s) := by unfold execRetrainDone; dsimp only; split <;> simp
@[simp] theorem execMcErrHiRead_mem (a : Acc) (ch : Fin 16) (s : State) : nextWith (fun t => t.mem = s.mem) (execMcErrHiRead a ch s) := by
  refine windowRead_mem _ _ _ _ _ (fun t => ?_) s
  exact setMemChan_mem ..
@[simp] theorem execRtpStatusRead_mem (a : Acc) (r : Fin 8) (s : State) : nextWith (fun t => t.mem = s.mem) (execRtpStatusRead a r s) := by
  refine windowRead_mem _ _ _ _ _ (fun t => ?_) s
  exact setRtp_mem ..
@[simp] theorem refuseQueue_mem (q : ℕ) (s : State) : (refuseQueue q s).mem = s.mem := rfl
@[simp] theorem takeQPushHi_mem (a : Acc) (n : ℕ) (value : Word32) (s : State) : (takeQPushHi a n value s).mem = s.mem := by simp [takeQPushHi]
@[simp] theorem execQPopLo_mem (a : Acc) (q : Fin 1024) (s : State) : nextWith (fun t => t.mem = s.mem) (execQPopLo a q s) := by
  refine windowRead_mem _ _ _ _ _ (fun t => ?_) s
  dsimp only
  split
  · exact refuseQueue_mem ..
  · split
    · exact setQueue_mem ..
    · exact setQueue_mem ..
@[simp] theorem flushSource_mem (beatsLeft : ℕ) (c : ℕ) (s : State) : (flushSource beatsLeft c s).mem = s.mem := by fun_cases flushSource <;> simp
@[simp] theorem flushDest_mem (beatsLeft : ℕ) (c : ℕ) (s : State) : (flushDest beatsLeft c s).mem = s.mem := by fun_cases flushDest <;> simp
@[simp] theorem execFlush_mem (a : Acc) (q : Fin 1024) (unitMid : Bool) (beatsLeft : ℕ) (s : State) : nextWith (fun t => t.mem = s.mem) (execFlush a q unitMid beatsLeft s) := by
  refine windowWrite_mem _ _ _ _ _ _ (fun t => ?_) s
  dsimp only
  split
  · rw [flushDest_mem]
    split
    · rw [flushSource_mem, setQueue_mem]
    · exact setQueue_mem ..
  · split
    · rw [flushSource_mem, setQueue_mem]
    · exact setQueue_mem ..
@[simp] theorem execUnitQueuePush_mem (q : Fin 1024) (words : List ℕ) (s : State) : nextWith (fun t => t.mem = s.mem) (execUnitQueuePush q words s) := by simp [execUnitQueuePush]
@[simp] theorem execQueueTimeout_mem (q : Fin 1024) (s : State) : nextWith (fun t => t.mem = s.mem) (execQueueTimeout q s) := by unfold execQueueTimeout; dsimp only; split <;> simp
@[simp] theorem execStart_mem (a : Acc) (chan : Fin 64) (ctrl : Word32) (s : State) : nextWith (fun t => t.mem = s.mem) (execStart a chan ctrl s) := by simp [execStart]
@[simp] theorem descWrite_mem (c : ℕ) (f : Chan → Chan) (s : State) : (descWrite c f s).mem = s.mem := by simp [descWrite]
@[simp] theorem execStop_mem (a : Acc) (w : BlockWrite 64) (s : State) : nextWith (fun t => t.mem = s.mem) (execStop a w s) := by simp [execStop]
@[simp] theorem settleChan_mem (c : ℕ) (s : State) : (settleChan c s).mem = s.mem := by simp [settleChan]
@[simp] theorem crcWrite_mem (k : ℕ) (act : CrcUnit → CrcUnit) (s : State) : (crcWrite k act s).mem = s.mem := rfl
@[simp] theorem execPreset_mem (a : Acc) (unit : Fin 8) (value : Word32) (s : State) : nextWith (fun t => t.mem = s.mem) (execPreset a unit value s) := by
  refine windowWrite_mem _ _ _ _ _ _ (fun t => ?_) s
  exact crcWrite_mem ..
@[simp] theorem execInit_mem (a : Acc) (unit : Fin 8) (s : State) : nextWith (fun t => t.mem = s.mem) (execInit a unit s) := by
  refine windowWrite_mem _ _ _ _ _ _ (fun t => ?_) s
  exact crcWrite_mem ..
@[simp] theorem endCrcJob_mem (k : ℕ) (s : State) : (endCrcJob k s).mem = s.mem := by unfold endCrcJob; dsimp only; (repeat' split) <;> simp
@[simp] theorem execCkStateCapture_mem (a : Acc) (unit : Fin 8) (s : State) : nextWith (fun t => t.mem = s.mem) (execCkStateCapture a unit s) :=
  (endCrcJob_mem ..).trans (windowRead_mem _ _ _ _ _ (fun _ => setCrcUnit_mem ..) s)
@[simp] theorem execCkStateRestore_mem (a : Acc) (unit : Fin 8) (hi : Bool) (value : Word32) (s : State) : nextWith (fun t => t.mem = s.mem) (execCkStateRestore a unit hi value s) := by
  refine windowWrite_mem _ _ _ _ _ _ (fun t => ?_) s
  exact crcWrite_mem ..
@[simp] theorem execCrcFeed_mem (unit : Fin 8) (s : State) : nextWith (fun t => t.mem = s.mem) (execCrcFeed unit s) := by simp [execCrcFeed]
@[simp] theorem execChkEccHiRead_mem (a : Acc) (s : State) : nextWith (fun t => t.mem = s.mem) (execChkEccHiRead a s) := by simp [execChkEccHiRead]
@[simp] theorem recordEcc_mem (uncorr : Bool) (memory : ℕ) (index : ℕ) (s : State) : (recordEcc uncorr memory index s).mem = s.mem := by simp [recordEcc]
@[simp] theorem profEcc_mem (c : ℕ) (col : ℕ) (s : State) : (profEcc c col s).mem = s.mem := by unfold profEcc; split <;> simp
@[simp] theorem eccEffect_mem (memory : ℕ) (place : ℕ × ℕ) (s : State) : (eccEffect memory place s).mem = s.mem := by simp [eccEffect]
@[simp] theorem execChkEccUe_mem (memory : Fin 9) (index : Word32) (place : ℕ × ℕ) (s : State) : nextWith (fun t => t.mem = s.mem) (execChkEccUe memory index place s) := by simp [execChkEccUe]
@[simp] theorem execChkEccCe_mem (memory : Fin 9) (index : Word32) (s : State) : nextWith (fun t => t.mem = s.mem) (execChkEccCe memory index s) := by simp [execChkEccCe]
@[simp] theorem gateRein_mem (groups : Word32) (n : ℕ) (s : State) : (gateRein groups n s).2.mem = s.mem := by fun_cases gateRein <;> simp
@[simp] theorem passReins_mem (groups : Word32) (e : InFlight) (s : State) : (passReins groups e s).2.mem = s.mem := by
  unfold passReins
  extract_lets names
  exact List.foldlRecOn (motive := fun (r : List Passed × State) => r.2.mem = s.mem) names _ rfl (fun r hr n _ => (gateRein_mem ..).trans hr)
@[simp] theorem passAll_mem (es : List InFlight) (s : State) : (passAll es s).2.mem = s.mem :=
  List.foldlRecOn (motive := fun (r : List Passed × State) => r.2.mem = s.mem) es _ rfl (fun r hr e _ => (passReins_mem ..).trans hr)
@[simp] theorem overrunConsumer_mem (c : ℕ) (s : State) : (overrunConsumer c s).mem = s.mem := rfl
@[simp] theorem latchEvent_mem (c : ℕ) (lineArg : Bool) (arg : ℕ) (s : State) : (latchEvent c lineArg arg s).mem = s.mem := rfl
@[simp] theorem pendCore_mem (k : ℕ) (j : ℕ) (s : State) : (pendCore k j s).mem = s.mem := rfl
@[simp] theorem taskDone_mem (k : ℕ) (s : State) : (taskDone k s).mem = s.mem := rfl
@[simp] theorem teleSnap_mem (s : State) : (teleSnap s).mem = s.mem := by simp [teleSnap]
@[simp] theorem consumerAct_mem (c : ℕ) (p : Passed) (s : State) : (consumerAct c p s).mem = s.mem := by simp [consumerAct]
@[simp] theorem deliver_mem (c : ℕ) (p : Passed) (s : State) : (deliver c p s).mem = s.mem := by simp [deliver]
@[simp] theorem noteCoincidence_mem (c : ℕ) (s : State) : (noteCoincidence c s).mem = s.mem := rfl
@[simp] theorem deliverAll_mem (ps : List Passed) (c : ℕ) (s : State) : (deliverAll ps c s).mem = s.mem := by fun_cases deliverAll <;> simp
@[simp] theorem startWear_mem (s : State) : (startWear s).mem = s.mem := by unfold startWear; split <;> simp
@[simp] theorem resumeBurnish_mem (s : State) : (resumeBurnish s).mem = s.mem := by simp [resumeBurnish]
@[simp] theorem suspendClash_mem (ps : List Passed) (s : State) : (suspendClash ps s).mem = s.mem := by simp [suspendClash]
@[simp] theorem groupClash_mem (ps : List Passed) (k : ℕ) (s : State) : (groupClash ps k s).mem = s.mem := by simp [groupClash]
@[simp] theorem execEventRouted_mem (n : ℕ) (s : State) : nextWith (fun t => t.mem = s.mem) (execEventRouted n s) := by simp [execEventRouted]
@[simp] theorem execGpxEdge_mem (pin : Fin 32) (high : Bool) (s : State) : nextWith (fun t => t.mem = s.mem) (execGpxEdge pin high s) := by fun_cases execGpxEdge <;> simp
@[simp] theorem execGpxPulseEnd_mem (pin : Fin 32) (s : State) : nextWith (fun t => t.mem = s.mem) (execGpxPulseEnd pin s) := rfl
@[simp] theorem execRnFire_mem (a : Acc) (rein : Fin 256) (value : Word32) (s : State) : nextWith (fun t => t.mem = s.mem) (execRnFire a rein value s) := by simp [execRnFire]
@[simp] theorem execRgEnable_mem (a : Acc) (mask : Word32) (s : State) : nextWith (fun t => t.mem = s.mem) (execRgEnable a mask s) := by simp [execRgEnable]
@[simp] theorem execRgDisable_mem (a : Acc) (mask : Word32) (s : State) : nextWith (fun t => t.mem = s.mem) (execRgDisable a mask s) := by simp [execRgDisable]
@[simp] theorem execSwFire_mem (a : Acc) (value : Word32) (s : State) : nextWith (fun t => t.mem = s.mem) (execSwFire a value s) := by simp [execSwFire]
@[simp] theorem execCcInputClear_mem (input : Fin 40) (s : State) : nextWith (fun t => t.mem = s.mem) (execCcInputClear input s) := rfl
@[simp] theorem execAcWorldSet_mem (a : Acc) (core : Fin 8) (machine : Bool) (value : Word32) (s : State) : nextWith (fun t => t.mem = s.mem) (execAcWorldSet a core machine value s) := by simp [execAcWorldSet]
@[simp] theorem execAcIpWrite_mem (a : Acc) (core : Fin 8) (value : Word32) (s : State) : nextWith (fun t => t.mem = s.mem) (execAcIpWrite a core value s) := by
  refine windowWrite_mem _ _ _ _ _ _ (fun t => ?_) s
  exact setAppCore_mem ..
@[simp] theorem refreshTimer_mem (k : ℕ) (s : State) : (refreshTimer k s).mem = s.mem := rfl
@[simp] theorem execTimerInterrupt_mem (core : Fin 8) (s : State) : nextWith (fun t => t.mem = s.mem) (execTimerInterrupt core s) := rfl
@[simp] theorem execMsip_mem (a : Acc) (core : Fin 8) (value : Word32) (s : State) : nextWith (fun t => t.mem = s.mem) (execMsip a core value s) := by
  refine windowWrite_mem _ _ _ _ _ _ (fun t => ?_) s
  exact setAppCore_mem ..
@[simp] theorem execMtimeCapture_mem (a : Acc) (s : State) : nextWith (fun t => t.mem = s.mem) (execMtimeCapture a s) := by simp [execMtimeCapture]
@[simp] theorem execRefuseInfoRead_mem (a : Acc) (s : State) : nextWith (fun t => t.mem = s.mem) (execRefuseInfoRead a s) := by simp [execRefuseInfoRead]
@[simp] theorem busError_mem (s : State) : (busError s).mem = s.mem := rfl
@[simp] theorem writeAcIe_mem (a : Acc) (k : ℕ) (value : Word32) (s : State) : (writeAcIe a k value s).mem = s.mem :=
  windowWrite_mem _ _ _ _ _ _ (fun _ => setAppCore_mem ..) s
@[simp] theorem writeTimecmp_mem (a : Acc) (k : ℕ) (hi : Bool) (value : Word32) (s : State) : (writeTimecmp a k hi value s).mem = s.mem :=
  windowWrite_mem _ _ _ _ _ _ (fun _ => (refreshTimer_mem ..).trans (setAppCore_mem ..)) s
@[simp] theorem snapTime_mem (s : State) : (snapTime s).mem = s.mem := rfl
@[simp] theorem writeOther_mem (a : Acc) (unit : ℕ) (off : ℕ) (s : State) : (writeOther a unit off s).mem = s.mem := by simp [writeOther]
@[simp] theorem coreWrite_mem (a : Acc) (off : ℕ) (v : Word32) (s : State) : (coreWrite a off v s).mem = s.mem := by simp [coreWrite]
@[simp] theorem pushAccess_mem (q : ℕ) (f : Queue → Queue) (s : State) : (pushAccess q f s).mem = s.mem := by simp [pushAccess]
@[simp] theorem clearCkFlags_mem (k : ℕ) (v : Word32) (s : State) : (clearCkFlags k v s).mem = s.mem := rfl
/-- A read of a register whose effect, if it has one, leaves memory as it is. -/
def ReadKeeps (r : Option RegRead) : Prop := ∀ x ∈ r, ∀ t, (x.act t).mem = t.mem
@[simp] theorem readKeeps_none : ReadKeeps none := nofun
@[simp] theorem readKeeps_some (x : RegRead) : ReadKeeps (some x) ↔ ∀ t, (x.act t).mem = t.mem := by simp [ReadKeeps]
@[simp] theorem readKeeps_ro (v : Nat) : ReadKeeps (ro v) := by simp [ro]
/-- A write of a register whose effect leaves memory as it is. -/
def WriteKeeps (r : Option RegWrite) : Prop := ∀ x ∈ r, ∀ t, (x.act t).mem = t.mem
@[simp] theorem writeKeeps_none : WriteKeeps none := nofun
@[simp] theorem writeKeeps_some (x : RegWrite) : WriteKeeps (some x) ↔ ∀ t, (x.act t).mem = t.mem := by simp [WriteKeeps]
@[simp] theorem writeKeeps_ite (c : Prop) [Decidable c] (x y : Option RegWrite) (hx : WriteKeeps x) (hy : WriteKeeps y) : WriteKeeps (if c then x else y) := by
  split <;> assumption
@[simp] theorem laneRead_keeps (s : State) (off : Nat) : ReadKeeps (laneRead s off) := by
  unfold laneRead
  dsimp only
  repeat' split
  all_goals simp
@[simp] theorem motnRead_keeps (s : State) (off : Nat) : ReadKeeps (motnRead s off) := by
  unfold motnRead
  dsimp only
  repeat' split
  all_goals simp
@[simp] theorem timeRead_keeps (s : State) (off : Nat) : ReadKeeps (timeRead s off) := by
  unfold timeRead
  dsimp only
  repeat' split
  all_goals simp
@[simp] theorem memcRead_keeps (s : State) (off : Nat) : ReadKeeps (memcRead s off) := by
  unfold memcRead
  dsimp only
  repeat' split
  all_goals simp
@[simp] theorem queueRead_keeps (s : State) (a : Acc) (q r : Nat) : ReadKeeps (queueRead s a q r) := by
  unfold queueRead
  dsimp only
  repeat' split
  all_goals simp
@[simp] theorem chanRead_keeps (s : State) (c r : Nat) : ReadKeeps (chanRead s c r) := by
  unfold chanRead
  dsimp only
  repeat' split
  all_goals simp
@[simp] theorem qdmaRead_keeps (s : State) (a : Acc) (off : Nat) : ReadKeeps (qdmaRead s a off) := by
  unfold qdmaRead
  repeat' split
  all_goals simp
@[simp] theorem evntRead_keeps (s : State) (off : Nat) : ReadKeeps (evntRead s off) := by
  unfold evntRead
  dsimp only
  repeat' split
  all_goals simp
@[simp] theorem twbRead_keeps (s : State) (off : Nat) : ReadKeeps (twbRead s off) := by
  unfold twbRead
  dsimp only
  repeat' split
  all_goals simp
@[simp] theorem thrmRead_keeps (s : State) (off : Nat) : ReadKeeps (thrmRead s off) := by
  unfold thrmRead
  repeat' split
  all_goals simp
@[simp] theorem chkRead_keeps (s : State) (off : Nat) : ReadKeeps (chkRead s off) := by
  unfold chkRead
  dsimp only
  repeat' split
  all_goals simp
@[simp] theorem coreRead_keeps (s : State) (off : Nat) : ReadKeeps (coreRead s off) := by
  unfold coreRead
  dsimp only
  repeat' split
  all_goals simp
@[simp] theorem regRead_keeps (s : State) (a : Acc) (unit off : Nat) : ReadKeeps (regRead s a unit off) := by
  unfold regRead
  repeat' split
  all_goals simp
@[simp] theorem laneWrite_keeps (s : State) (a : Acc) (off : Nat) (v : Word32) : WriteKeeps (laneWrite s a off v) := by
  unfold laneWrite
  dsimp only
  repeat' split
  all_goals simp
@[simp] theorem motnWrite_keeps (s : State) (a : Acc) (off : Nat) (v : Word32) : WriteKeeps (motnWrite s a off v) := by
  unfold motnWrite
  dsimp only
  repeat' split
  all_goals simp
@[simp] theorem timeWrite_keeps (s : State) (a : Acc) (off : Nat) (v : Word32) : WriteKeeps (timeWrite s a off v) := by
  unfold timeWrite
  repeat' split
  all_goals simp
@[simp] theorem memcWrite_keeps (s : State) (a : Acc) (off : Nat) (v : Word32) : WriteKeeps (memcWrite s a off v) := by
  unfold memcWrite
  dsimp only
  repeat' split
  all_goals simp
@[simp] theorem queueWrite_keeps (s : State) (a : Acc) (q r : Nat) (v : Word32) : WriteKeeps (queueWrite s a q r v) := by
  unfold queueWrite
  dsimp only
  repeat' split
  all_goals simp
@[simp] theorem chanWrite_keeps (s : State) (a : Acc) (c r : Nat) (v : Word32) : WriteKeeps (chanWrite s a c r v) := by
  unfold chanWrite
  dsimp only
  repeat' split
  all_goals simp
@[simp] theorem qdmaWrite_keeps (s : State) (a : Acc) (off : Nat) (v : Word32) : WriteKeeps (qdmaWrite s a off v) := by
  unfold qdmaWrite
  repeat' split
  all_goals simp
@[simp] theorem evntWrite_keeps (s : State) (a : Acc) (off : Nat) (v : Word32) : WriteKeeps (evntWrite s a off v) := by
  unfold evntWrite
  dsimp only
  repeat' split
  all_goals simp
@[simp] theorem twbWrite_keeps (s : State) (a : Acc) (off : Nat) (v : Word32) : WriteKeeps (twbWrite s a off v) := by
  unfold twbWrite
  dsimp only
  repeat' split
  all_goals simp
@[simp] theorem thrmWrite_keeps (s : State) (a : Acc) (off : Nat) (v : Word32) : WriteKeeps (thrmWrite s a off v) := by
  unfold thrmWrite
  repeat' split
  all_goals simp
@[simp] theorem chkWrite_keeps (s : State) (a : Acc) (off : Nat) (v : Word32) : WriteKeeps (chkWrite s a off v) := by
  unfold chkWrite
  dsimp only
  repeat' split
  all_goals simp
@[simp] theorem regWrite_keeps (s : State) (a : Acc) (unit off : Nat) (v : Word32) : WriteKeeps (regWrite s a unit off v) := by
  unfold regWrite
  repeat' split
  all_goals simp
@[simp] theorem writeWindow_mem (a : Acc) (unit : ℕ) (off : ℕ) (v : Word32) (s : State) : (writeWindow a unit off v s).mem = s.mem := by
  unfold writeWindow
  split
  · exact coreWrite_mem ..
  · split
    · exact pcWrite_mem ..
    · split
      next w hw => exact windowWrite_mem _ _ _ _ _ _ (regWrite_keeps s a unit off v w hw) s
      · exact writeOther_mem ..
@[simp] theorem readWindow_mem (a : Acc) (unit : ℕ) (off : ℕ) (s : State) : (readWindow a unit off s).mem = s.mem := by
  unfold readWindow
  split
  · rfl
  · split
    next r hr => exact windowRead_mem _ _ _ _ _ (regRead_keeps s a unit off r hr) s
    · split
      · rfl
      · rfl
@[simp] theorem execWindowAccess_mem (a : Acc) (write : Bool) (aligned : Bool) (addr : ℕ) (value : Word32) (s : State) : nextWith (fun t => t.mem = s.mem) (execWindowAccess a write aligned addr value s) := by fun_cases execWindowAccess <;> simp
@[simp] theorem execDramAccessRefused_mem (a : Acc) (addr : ℕ) (len : ℕ) (write : Bool) (s : State) : nextWith (fun t => t.mem = s.mem) (execDramAccessRefused a addr len write s) := by fun_cases execDramAccessRefused <;> simp
@[simp] theorem failBoot_mem (status : ℕ) (s : State) : (failBoot status s).mem = s.mem :=
  (logDevice_mem ..).trans (forEach_mem _ _ _ (fun _ _ => setAppCore_mem ..))

end Sys2Proof.Machine
end

section
/-! PROOFS. What leaves memory as it is, continued: the functions of the later units. -/
namespace Sys2Proof.Machine
open Sys2Proof
@[simp] theorem execCoreBoot_mem (hdr : List Byte) (s : State) : nextWith (fun t => t.mem = s.mem) (execCoreBoot hdr s) := by
  unfold execCoreBoot
  split
  · exact rfl
  · extract_lets store item h
    split
    · exact failBoot_mem ..
    · split
      · generalize hf : fresh s = r
        obtain ⟨v, t⟩ := r
        dsimp only
        generalize errorCodes.getD _ _ = code
        exact (failBoot_mem ..).trans ((congrArg (fun r => r.2.mem) hf).symm.trans (fresh_mem s))
      · split
        · exact failBoot_mem ..
        · exact rfl
@[simp] theorem execDebugUnlock_mem (request : List Byte) (good : Bool) (s : State) : nextWith (fun t => t.mem = s.mem) (execDebugUnlock request good s) := by fun_cases execDebugUnlock <;> simp
@[simp] theorem refuseTw_mem (t : ℕ) (s : State) : (refuseTw t s).mem = s.mem := rfl
@[simp] theorem beginTw_mem (t : ℕ) (s : State) : (beginTw t s).mem = s.mem := rfl
@[simp] theorem execGo_mem (a : Acc) (ch : Fin 8) (cmd : Word32) (s : State) : nextWith (fun t => t.mem = s.mem) (execGo a ch cmd s) := by simp [execGo]
@[simp] theorem beginClear_mem (t : ℕ) (s : State) : (beginClear t s).mem = s.mem := by simp [beginClear]
@[simp] theorem execTwbClear_mem (a : Acc) (ch : Fin 8) (cmd : Word32) (s : State) : nextWith (fun t => t.mem = s.mem) (execTwbClear a ch cmd s) := by simp [execTwbClear]
@[simp] theorem execTwbReset_mem (a : Acc) (ch : Fin 8) (cmd : Word32) (s : State) : nextWith (fun t => t.mem = s.mem) (execTwbReset a ch cmd s) := by simp [execTwbReset]
@[simp] theorem execTwDone_mem (ch : Fin 8) (result : Fin 3) (acked : ℕ) (data : List Byte) (s : State) : nextWith (fun t => t.mem = s.mem) (execTwDone ch result acked data s) := by fun_cases execTwDone <;> simp
@[simp] theorem alertLost_mem (t : ℕ) (s : State) : (alertLost t s).mem = s.mem := rfl
@[simp] theorem execTwArbLost_mem (ch : Fin 8) (byte : ℕ) (s : State) : nextWith (fun t => t.mem = s.mem) (execTwArbLost ch byte s) := by unfold execTwArbLost; dsimp only; split <;> simp
@[simp] theorem execTwTimeout_mem (ch : Fin 8) (sda : Bool) (scl : Bool) (atStart : Bool) (s : State) : nextWith (fun t => t.mem = s.mem) (execTwTimeout ch sda scl atStart s) := by unfold execTwTimeout; dsimp only; (repeat' split) <;> simp
@[simp] theorem execCureDone_mem (ch : Fin 8) (freed : Bool) (s : State) : nextWith (fun t => t.mem = s.mem) (execCureDone ch freed s) := by fun_cases execCureDone <;> simp
@[simp] theorem alertRead_mem (t : ℕ) (answer : Option (Fin 128)) (s : State) : (alertRead t answer s).mem = s.mem := by fun_cases alertRead <;> simp
@[simp] theorem execTwAlert_mem (ch : Fin 8) (low : Bool) (answer : Option (Fin 128)) (s : State) : nextWith (fun t => t.mem = s.mem) (execTwAlert ch low answer s) := by unfold execTwAlert; dsimp only; (repeat' split) <;> simp
@[simp] theorem execTwAlertRead_mem (a : Acc) (ch : Fin 8) (s : State) : nextWith (fun t => t.mem = s.mem) (execTwAlertRead a ch s) := by
  refine windowRead_mem _ _ _ _ _ (fun t => ?_) s
  exact setTwc_mem ..
@[simp] theorem execBusFree_mem (ch : Fin 8) (s : State) : nextWith (fun t => t.mem = s.mem) (execBusFree ch s) := by simp [execBusFree]
@[simp] theorem latchBase_mem (s : State) : (latchBase s).mem = s.mem := rfl
@[simp] theorem execHtAddress_mem (addr : Fin 128) (reading : Bool) (again : Bool) (s : State) : nextWith (fun t => t.mem = s.mem) (execHtAddress addr reading again s) := by unfold execHtAddress; dsimp only; (repeat' split) <;> simp
@[simp] theorem setHtPtr_mem (f : ℕ) (v : ℕ) (s : State) : (setHtPtr f v s).mem = s.mem := rfl
@[simp] theorem loadEntry_mem (req : ℕ) (s : State) : (loadEntry req s).mem = s.mem := by fun_cases loadEntry <;> simp
@[simp] theorem htDiscard_mem (s : State) : (htDiscard s).mem = s.mem := rfl
@[simp] theorem htStore_mem (f : ℕ) (p : ℕ) (b : Byte) (s : State) : (htStore f p b s).mem = s.mem := by simp [htStore]
@[simp] theorem execHtWriteByte_mem (value : Byte) (s : State) : nextWith (fun t => t.mem = s.mem) (execHtWriteByte value s) := by fun_cases execHtWriteByte <;> simp
@[simp] theorem execHtAlertResponse_mem (wins : Bool) (s : State) : nextWith (fun t => t.mem = s.mem) (execHtAlertResponse wins s) := by unfold execHtAlertResponse; split <;> simp
@[simp] theorem cutData_mem (s : State) : (cutData s).mem = s.mem := by simp [cutData]
@[simp] theorem execDramScrub_mem (which : Option ℕ) (flips : List (Fin 528)) (s : State) : nextWith (fun t => t.mem = s.mem) (execDramScrub which flips s) := by
  unfold execDramScrub
  extract_lets addr c may t x _ u next
  have hu : u.mem = s.mem := by simp only [u, t, setMemChan_mem, useCheck_mem, openRow_mem]
  clear_value may u next c addr
  split
  · exact rfl
  · have hread : (readKind flips u).2.mem = u.mem := readKind_mem ..
    generalize readKind flips u = r at hread
    obtain ⟨kind, v⟩ := r
    dsimp -zeta only at hread ⊢
    extract_lets w _ z
    have hw : w = memCe c addr 16 v := rfl
    clear_value w
    have hce : w.mem = s.mem := by rw [hw, memCe_mem, hread, hu]
    have hz : z.mem = s.mem := by
      unfold z
      split
      · exact (memUe_mem ..).trans (hread.trans hu)
      · split
        · exact (setMemChan_mem ..).trans hce
        · exact hread.trans hu
    clear_value z
    split
    · exact hz
    · rw [nextWith_next]
      split
      · exact hz
      · exact (taskDone_mem ..).trans hz
@[simp] theorem execSramScrub_mem (corrected : ℕ) (found : List (Fin 16 × ℕ)) (s : State) : nextWith (fun t => t.mem = s.mem) (execSramScrub corrected found s) := by
  refine (taskDone_mem ..).trans ((forEach_mem _ _ _ (fun i t => ?_)).trans (forEach_mem _ _ _ (fun f t => ?_)))
  · exact setStrip_mem ..
  · exact raise_mem ..
@[simp] theorem overrun_mem (k : ℕ) (s : State) : (overrun k s).mem = s.mem := rfl
@[simp] theorem execEyeTracking_mem (horizontal : ℕ) (vertical : ℕ) (s : State) : nextWith (fun t => t.mem = s.mem) (execEyeTracking horizontal vertical s) := by unfold execEyeTracking; (repeat' split) <;> simp
@[simp] theorem execRetrainPeriod_mem (ch : Option (Fin 16)) (s : State) : nextWith (fun t => t.mem = s.mem) (execRetrainPeriod ch s) := by fun_cases execRetrainPeriod <;> simp
@[simp] theorem execGapWindowTest_mem (unit : ℕ) (inst : ℕ) (s : State) : nextWith (fun t => t.mem = s.mem) (execGapWindowTest unit inst s) := by fun_cases execGapWindowTest <;> simp
@[simp] theorem execTestDone_mem (unit : ℕ) (inst : ℕ) (outcome : Fin 3) (usecs : ℕ) (detail : ℕ) (measured : ℕ) (s : State) : nextWith (fun t => t.mem = s.mem) (execTestDone unit inst outcome usecs detail measured s) := by unfold execTestDone; dsimp only; (repeat' split) <;> simp
@[simp] theorem persisted_mem (x : StoreOp) (s : State) : (persisted x s).mem = s.mem := by fun_cases persisted <;> simp
@[simp] theorem doneOp_mem (x : StoreOp) (s : State) : (doneOp x s).mem = s.mem := by unfold doneOp; dsimp only; (repeat' split) <;> simp
@[simp] theorem firstCopyDone_mem (x : StoreOp) (s : State) : (firstCopyDone x s).mem = s.mem := by unfold firstCopyDone; dsimp only; split <;> simp
@[simp] theorem copyDone_mem (x : StoreOp) (s : State) : (copyDone x s).mem = s.mem := by fun_cases copyDone <;> simp
@[simp] theorem nextBlock_mem (x : StoreOp) (s : State) : (nextBlock x s).mem = s.mem := by simp [nextBlock]
@[simp] theorem retireBlock_mem (b : ℕ) (s : State) : (retireBlock b s).2.mem = s.mem := by unfold retireBlock; dsimp only; split <;> simp
@[simp] theorem replaceBlock_mem (x : StoreOp) (b : ℕ) (s : State) : (replaceBlock x b s).mem = s.mem := by unfold replaceBlock; dsimp only; split <;> simp
@[simp] theorem execStoreBlockDone_mem (good : Bool) (s : State) : nextWith (fun t => t.mem = s.mem) (execStoreBlockDone good s) := by
  unfold execStoreBlockDone
  split
  · split
    · exact rfl
    split
    · exact (pumpStore_mem _).trans (copyDone_mem ..)
    next b rest _ =>
    extract_lets _ t _ t'
    have ht : t'.mem = s.mem := by simp only [t', t, mem_ite, ite_self]
    clear_value t'
    have hdone (r : Prop) [Decidable r] (y : StoreOp) (u : State) : (pumpStore (if r then copyDone y u else nextBlock y u)).mem = u.mem := by
      rw [pumpStore_mem, mem_ite, copyDone_mem, nextBlock_mem, ite_self]
    split
    · split
      · split
        · exact (hdone _ _ _).trans ht
        · exact (pumpStore_mem _).trans ((nextBlock_mem ..).trans ht)
      · split
        · exact (hdone _ _ _).trans ((retireBlock_mem ..).trans ht)
        · exact (pumpStore_mem _).trans ((replaceBlock_mem ..).trans ht)
    · split
      · exact (pumpStore_mem _).trans (by rw [mem_ite, copyDone_mem, nextBlock_mem, ite_self])
      · exact (pumpStore_mem _).trans (replaceBlock_mem ..)
  · exact rfl
@[simp] theorem execPendingCompletion_mem (item : ℕ) (s : State) : nextWith (fun t => t.mem = s.mem) (execPendingCompletion item s) := by fun_cases execPendingCompletion <;> simp
@[simp] theorem execPorstNRelease_mem (banks : Fin 4) (s : State) : nextWith (fun t => t.mem = s.mem) (execPorstNRelease banks s) := by simp [execPorstNRelease]
@[simp] theorem trainAll_mem (s : State) : (trainAll s).mem = s.mem := rfl
@[simp] theorem toLoad_mem (s : State) : (toLoad s).mem = s.mem := by simp [toLoad]
@[simp] theorem execSynthesiserLock_mem (clk : Fin 6) (m : ℕ) (s : State) : nextWith (fun t => t.mem = s.mem) (execSynthesiserLock clk m s) := by unfold execSynthesiserLock; (repeat' split) <;> simp
@[simp] theorem execBootRom_mem (descA : List Byte) (descB : List Byte) (s : State) : nextWith (fun t => t.mem = s.mem) (execBootRom descA descB s) := by unfold execBootRom; dsimp only; (repeat' split) <;> simp
@[simp] theorem execImageLoaded_mem (hdr : List Byte) (good : Bool) (s : State) : nextWith (fun t => t.mem = s.mem) (execImageLoaded hdr good s) := by fun_cases execImageLoaded <;> simp
@[simp] theorem execTrigPulseEnd_mem (port : Fin 16) (s : State) : nextWith (fun t => t.mem = s.mem) (execTrigPulseEnd port s) := rfl
@[simp] theorem execPtpMessageDiscarded_mem (port : Fin 3) (s : State) : nextWith (fun t => t.mem = s.mem) (execPtpMessageDiscarded port s) := by simp [execPtpMessageDiscarded]
@[simp] theorem execClaimConflictWindow_mem (elapsed : Bool) (s : State) : nextWith (fun t => t.mem = s.mem) (execClaimConflictWindow elapsed s) := by simp [execClaimConflictWindow]
@[simp] theorem execShaeshMessageRejected_mem (frame : List Byte) (s : State) : nextWith (fun t => t.mem = s.mem) (execShaeshMessageRejected frame s) := by simp [execShaeshMessageRejected]
@[simp] theorem execDigestUnmatchedTimeout_mem (e : DigestEntry) (s : State) : nextWith (fun t => t.mem = s.mem) (execDigestUnmatchedTimeout e s) := by unfold execDigestUnmatchedTimeout; split <;> simp
@[simp] theorem alignPort_mem (c : JoinCounts) (s : State) : (alignPort c s).mem = s.mem := by unfold alignPort; split <;> simp
@[simp] theorem execJoinAlignment_mem (counts : List JoinCounts) (s : State) : nextWith (fun t => t.mem = s.mem) (execJoinAlignment counts s) := by fun_cases execJoinAlignment <;> simp
@[simp] theorem sendSnapshot_mem (items : List JoinItem) (s : State) : (sendSnapshot items s).mem = s.mem := by simp [sendSnapshot]
@[simp] theorem execJoinCapture_mem (stitched : Bool) (s : State) : nextWith (fun t => t.mem = s.mem) (execJoinCapture stitched s) := by fun_cases execJoinCapture <;> simp
@[simp] theorem execElasticOverflow_mem (f : SliceFill) (s : State) : nextWith (fun t => t.mem = s.mem) (execElasticOverflow f s) := rfl
@[simp] theorem execRetrainReadAheadFull_mem (ch : Fin 16) (s : State) : nextWith (fun t => t.mem = s.mem) (execRetrainReadAheadFull ch s) := by fun_cases execRetrainReadAheadFull <;> simp
@[simp] theorem execRetrainAbandoned_mem (ch : Fin 16) (s : State) : nextWith (fun t => t.mem = s.mem) (execRetrainAbandoned ch s) := by fun_cases execRetrainAbandoned <;> simp
@[simp] theorem execL2EccError_mem (cluster : Fin 2) (index : ℕ) (line : ℕ) (uncorr : Bool) (dirty : Bool) (s : State) : nextWith (fun t => t.mem = s.mem) (execL2EccError cluster index line uncorr dirty s) := by unfold execL2EccError; (repeat' split) <;> simp
@[simp] theorem consumeReply_mem (s : State) : (consumeReply s).mem = s.mem := by unfold consumeReply; dsimp only; split <;> simp
@[simp] theorem execHtReplyConsumed_mem (s : State) : nextWith (fun t => t.mem = s.mem) (execHtReplyConsumed s) := by simp [execHtReplyConsumed]
@[simp] theorem armCamset_mem (a : ℕ) (p : ℕ) (epoch : ℕ) (value : ℕ) (d : Dict) (s : State) : (armCamset a p epoch value d s).mem = s.mem := rfl
@[simp] theorem armSet_mem (c : Cinch) (s : State) : (armSet c s).mem = s.mem := by
  unfold armSet
  extract_lets c' new e _ _ _ u
  have hu : u.mem = s.mem := (forEach_mem _ _ _ (fun _ _ => armCamset_mem ..)).trans (setStage_mem ..)
  clear_value u
  split
  · rw [sendSeq_mem, hu]
  · exact hu
@[simp] theorem execCinchArmed_mem (s : State) : nextWith (fun t => t.mem = s.mem) (execCinchArmed s) := by unfold execCinchArmed; dsimp only; (repeat' split) <;> simp
@[simp] theorem execCinchFire_mem (s : State) : nextWith (fun t => t.mem = s.mem) (execCinchFire s) := by fun_cases execCinchFire <;> simp
@[simp] theorem handRecd_mem (s : State) : (handRecd s).mem = s.mem := by fun_cases handRecd <;> simp
@[simp] theorem execCinchFinish_mem (s : State) : nextWith (fun t => t.mem = s.mem) (execCinchFinish s) := by unfold execCinchFinish; dsimp only; (repeat' split) <;> simp
@[simp] theorem execCinchTimeLimit_mem (s : State) : nextWith (fun t => t.mem = s.mem) (execCinchTimeLimit s) := by simp [execCinchTimeLimit]
@[simp] theorem execLogPersistPeriod_mem (s : State) : nextWith (fun t => t.mem = s.mem) (execLogPersistPeriod s) := by simp [execLogPersistPeriod]
@[simp] theorem execLogPersistRetry_mem (s : State) : nextWith (fun t => t.mem = s.mem) (execLogPersistRetry s) := by simp [execLogPersistRetry]
@[simp] theorem insertMarker_mem (d : Dict) (o : Obj) (k : ℕ) (s : State) : (insertMarker d o k s).mem = s.mem := by simp [insertMarker]
@[simp] theorem execRecordFormed_mem (s : State) : nextWith (fun t => t.mem = s.mem) (execRecordFormed s) := by
  unfold execRecordFormed
  split
  · exact stopRecdIfDone_mem ..
  · extract_lets d o v mark c _
    split
    extract_lets trunc big rec c' t1 t2 t3 t4 qn t5 t6
    split
    · exact rfl
    · have h3 : t3.mem = s.mem := by simp only [t3, t2, t1, mem_ite, insertMarker_mem, raiseIf_mem, ite_self]
      have h4 : t4.mem = s.mem := (feed_mem ..).trans h3
      have h5 : t5.mem = s.mem := by
        unfold t5
        split
        · split
          · exact h4
          · split
            next done u heq =>
              have hu : u.mem = s.mem := by
                have hpush := unitPush_mem qn (wordsOf rec) t4
                rw [heq] at hpush
                exact hpush.trans h4
              split
              · exact hu
              · exact hu
        · exact h3
      have h6 : t6.mem = s.mem := by simp only [t6, mem_ite, closeUnits_mem, ite_self, h5]
      exact (stopRecdIfDone_mem ..).trans h6
@[simp] theorem execPatchCut_mem (s : State) : nextWith (fun t => t.mem = s.mem) (execPatchCut s) := by unfold execPatchCut; dsimp only; (repeat' split) <;> simp
@[simp] theorem enterQueue_mem (e : ℕ) (u : PUnit) (s : State) : (enterQueue e u s).mem = s.mem := by simp [enterQueue]
@[simp] theorem execEngineTakesUnit_mem (s : State) : nextWith (fun t => t.mem = s.mem) (execEngineTakesUnit s) := by unfold execEngineTakesUnit; (repeat' split) <;> simp
@[simp] theorem execTimekeeperTick_mem (s : State) : nextWith (fun t => t.mem = s.mem) (execTimekeeperTick s) := by
  unfold execTimekeeperTick
  split
  · exact rfl
  · have hset (m : Nat) (u : State) : (if (setTime48 m u).tk.secs ≠ s.tk.secs then raiseOpen 364 (flushAuth (setTime48 m u)) else setTime48 m u).mem = u.mem := by
      split
      · rw [raiseOpen_mem, flushAuth_mem, setTime48_mem]
      · exact setTime48_mem ..
    exact hset _ _
@[simp] theorem execClaimSettleExpiry_mem (s : State) : nextWith (fun t => t.mem = s.mem) (execClaimSettleExpiry s) := by simp [execClaimSettleExpiry]
@[simp] theorem execClaimTimerExpiry_mem (s : State) : nextWith (fun t => t.mem = s.mem) (execClaimTimerExpiry s) := by simp [execClaimTimerExpiry]
@[simp] theorem execClaimRefresh_mem (s : State) : nextWith (fun t => t.mem = s.mem) (execClaimRefresh s) := rfl
@[simp] theorem execShaeshLinkUp_mem (s : State) : nextWith (fun t => t.mem = s.mem) (execShaeshLinkUp s) := by unfold execShaeshLinkUp; split <;> simp
@[simp] theorem takeShaeshLinkDown_mem (s : State) : (takeShaeshLinkDown s).mem = s.mem := by simp [takeShaeshLinkDown]
@[simp] theorem execHeartbeatSend_mem (s : State) : nextWith (fun t => t.mem = s.mem) (execHeartbeatSend s) := by simp [execHeartbeatSend]
@[simp] theorem takeReplayTimeout_mem (s : State) : (takeReplayTimeout s).mem = s.mem := by fun_cases takeReplayTimeout <;> simp
@[simp] theorem takeMirrorAckTimeout_mem (s : State) : (takeMirrorAckTimeout s).mem = s.mem := by unfold takeMirrorAckTimeout; split <;> simp
@[simp] theorem execJoinRetry_mem (s : State) : nextWith (fun t => t.mem = s.mem) (execJoinRetry s) := by simp [execJoinRetry]
@[simp] theorem takeTwinHbLost_mem (s : State) : (takeTwinHbLost s).mem = s.mem := by simp [takeTwinHbLost]
@[simp] theorem announcePort_mem (p : ℕ) (s : State) : (announcePort p s).mem = s.mem := by simp [announcePort]
@[simp] theorem waitBuses_mem (s : State) : (waitBuses s).mem = s.mem := forEach_mem _ _ _ (fun _ _ => by simp)
@[simp] theorem execTakeover_mem (s : State) : nextWith (fun t => t.mem = s.mem) (execTakeover s) := by unfold execTakeover; split <;> simp
@[simp] theorem execZqLatch_mem (s : State) : nextWith (fun t => t.mem = s.mem) (execZqLatch s) := rfl
@[simp] theorem fallBack_mem (s : State) : (fallBack s).mem = s.mem := forEach_mem _ _ _ (fun _ _ => by dsimp only; split <;> simp)
@[simp] theorem execDmaBurstDecision_mem (s : State) : nextWith (fun t => t.mem = s.mem) (execDmaBurstDecision s) := by unfold execDmaBurstDecision; dsimp only; split <;> simp
@[simp] theorem loadNext_mem (s : State) : (loadNext s).mem = s.mem := by simp [loadNext]
@[simp] theorem clearCauses_mem (s : State) : (clearCauses s).mem = s.mem := rfl
@[simp] theorem htReadEffect_mem (f : ℕ) (p : ℕ) (s : State) : (htReadEffect f p s).mem = s.mem := by simp [htReadEffect]
@[simp] theorem execHtReadByte_mem (s : State) : nextWith (fun t => t.mem = s.mem) (execHtReadByte s) := by unfold execHtReadByte; (repeat' split) <;> simp
@[simp] theorem execHtHostHold_mem (s : State) : nextWith (fun t => t.mem = s.mem) (execHtHostHold s) := by fun_cases execHtHostHold <;> simp
@[simp] theorem execRiseWindow_mem (s : State) : nextWith (fun t => t.mem = s.mem) (execRiseWindow s) := by
  unfold execRiseWindow
  extract_lets t fast soon x
  have ht : t.mem = s.mem := forEach_mem _ _ _ (fun k u => by
    dsimp only
    split
    · rfl
    · exact setSite_mem ..)
  clear_value x soon fast t
  split
  · split
    · exact ht
    · exact (riseTheta_mem ..).trans ((raise_mem ..).trans ht)
  · exact ht
@[simp] theorem execSiteCrossCheck_mem (s : State) : nextWith (fun t => t.mem = s.mem) (execSiteCrossCheck s) := by simp [execSiteCrossCheck]
@[simp] theorem execThetaStepPeriod_mem (s : State) : nextWith (fun t => t.mem = s.mem) (execThetaStepPeriod s) := by simp [execThetaStepPeriod]
@[simp] theorem execThetaRecover_mem (s : State) : nextWith (fun t => t.mem = s.mem) (execThetaRecover s) := by simp [execThetaRecover]
@[simp] theorem takeEngine_mem (e : ℕ) (s : State) : (takeEngine e s).mem = s.mem := rfl
@[simp] theorem applyMeasure_mem (m : ℕ) (s : State) : (applyMeasure m s).mem = s.mem := by simp [applyMeasure]
@[simp] theorem releaseMeasure_mem (s : State) : (releaseMeasure s).mem = s.mem := by unfold releaseMeasure; split <;> simp
@[simp] theorem execPowerEstimate_mem (s : State) : nextWith (fun t => t.mem = s.mem) (execPowerEstimate s) := by simp only [execPowerEstimate]; (repeat' split) <;> simp
@[simp] theorem dropQueued_mem (s : State) : (dropQueued s).mem = s.mem := by
  refine (forEach_mem _ _ _ (fun p t => forEach_mem _ _ _ (fun q u => ?_))).trans
    ((forEach_mem _ _ _ (fun _ _ => cmprDrop_mem ..)).trans (forEach_mem _ _ _ (fun _ _ => dropCoding_mem ..)))
  exact (forEach_mem _ _ _ (fun _ _ => dispose_mem ..)).trans (setNetPort_mem ..)
@[simp] theorem logStop_mem (s : State) : (logStop s).mem = s.mem := by simp [logStop]
@[simp] theorem powerOff_mem (s : State) : (powerOff s).mem = s.mem := by simp [powerOff]
@[simp] theorem execOrderlyStopStep_mem (s : State) : nextWith (fun t => t.mem = s.mem) (execOrderlyStopStep s) := by
  unfold execOrderlyStopStep
  extract_lets n _ t
  split
  · exact rfl
  · split
    · exact stopStreams_mem ..
    · split
      · exact dropQueued_mem ..
      · split
        · exact logStop_mem ..
        · split
          · exact forEach_mem _ _ _ (fun _ _ => setMemChan_mem ..)
          · exact powerOff_mem ..
@[simp] theorem execQuadBias_mem (s : State) : nextWith (fun t => t.mem = s.mem) (execQuadBias s) := by fun_cases execQuadBias <;> simp
@[simp] theorem engineInService_mem (e : ℕ) (s : State) : (engineInService e s).mem = s.mem := by simp [engineInService]
@[simp] theorem execStripUngate_mem (s : State) : nextWith (fun t => t.mem = s.mem) (execStripUngate s) := by unfold execStripUngate; split <;> simp
@[simp] theorem execWearLevelling_mem (s : State) : nextWith (fun t => t.mem = s.mem) (execWearLevelling s) := by fun_cases execWearLevelling <;> simp
@[simp] theorem execTeleSnap_mem (s : State) : nextWith (fun t => t.mem = s.mem) (execTeleSnap s) := by simp [execTeleSnap]
@[simp] theorem execPowerDomainUp_mem (s : State) : nextWith (fun t => t.mem = s.mem) (execPowerDomainUp s) := by fun_cases execPowerDomainUp <;> simp
@[simp] theorem execBootFailed_mem (s : State) : nextWith (fun t => t.mem = s.mem) (execBootFailed s) := by simp [execBootFailed]
@[simp] theorem becomeReady_mem (s : State) : (becomeReady s).mem = s.mem := rfl
@[simp] theorem execStoreMounted_mem (s : State) : nextWith (fun t => t.mem = s.mem) (execStoreMounted s) := by unfold execStoreMounted; dsimp only; (repeat' split) <;> simp
@[simp] theorem execDramInitialised_mem (s : State) : nextWith (fun t => t.mem = s.mem) (execDramInitialised s) := by simp [execDramInitialised]
@[simp] theorem bootChecksFail_mem (ds : List Detail) (s : State) : (bootChecksFail ds s).mem = s.mem := by simp [bootChecksFail]
@[simp] theorem execBootSetCinch_mem (s : State) : nextWith (fun t => t.mem = s.mem) (execBootSetCinch s) := by unfold execBootSetCinch; dsimp only; (repeat' split) <;> simp
@[simp] theorem execJoinAlignmentTimeout_mem (s : State) : nextWith (fun t => t.mem = s.mem) (execJoinAlignmentTimeout s) := by fun_cases execJoinAlignmentTimeout <;> simp

end Sys2Proof.Machine
end

section
/-! PROOFS. What keeps memory canonical (R372, R432): the functions that store, filter or clear it. -/
namespace Sys2Proof.Machine
open Sys2Proof

theorem memOk_of_eq {s t : State} (h : t.mem = s.mem) (hs : s.memOk) : t.memOk := by
  unfold State.memOk
  rwa [h]

theorem restart_memOk {s : State} (hs : s.memOk) (kind : Nat) : (restart kind s).memOk := by
  have hkept : Memory.wf (if kind = 1 then (releaseClaim s).mem.filter (fun c => decide (c.1 < dramEnd)) else []) = true := by
    split
    · exact Memory.filter_wf _ ((releaseClaim_mem s).symm ▸ hs)
    · exact Memory.wf_nil
  unfold restart State.memOk
  extract_lets t r
  split
  · exact hkept
  · rw [stopClock_mem]
    exact hkept

theorem doReset_memOk {s : State} (hs : s.memOk) (h : Hdr) (kind : Nat) : (doReset h kind s).memOk := by
  unfold doReset
  extract_lets t
  have ht : t.memOk := memOk_of_eq (xesil_mem (fun _ _ => by simp) s) hs
  clear_value t
  split
  · exact restart_memOk ht _
  · exact ht

theorem thermalRestart_memOk {s : State} (hs : s.memOk) : (thermalRestart s).memOk := restart_memOk hs _

theorem doThermalRestart_memOk {s : State} (hs : s.memOk) (h : Hdr) : (doThermalRestart h s).memOk := by
  unfold doThermalRestart
  extract_lets t
  have ht : t.memOk := memOk_of_eq (xesil_mem (fun _ _ => by split <;> simp) s) hs
  clear_value t
  split
  · exact ht
  · exact thermalRestart_memOk ht

/-- Every command packet keeps memory canonical: RESET and THERMAL_RESTART by their restart, every other leaves memory alone. -/
theorem runInstr_memOk {s : State} (hs : s.memOk) (i : Instr) : (runInstr i s).memOk := by
  unfold runInstr
  split
  case h_6 => exact doReset_memOk hs _ _
  case h_51 => exact doThermalRestart_memOk hs _
  all_goals exact memOk_of_eq (by simp) hs

theorem runPacket_memOk {s : State} (hs : s.memOk) (via : Via) (bytes : List Byte) : (runPacket via bytes s).memOk := by
  unfold runPacket
  extract_lets h n op
  split
  next act hact => exact memOk_of_eq (udpBad_mem hact s) hs
  split
  · exact hs
  split
  · exact memOk_of_eq (earlyReply_mem ..) hs
  split
  · exact memOk_of_eq (earlyReply_mem ..) hs
  split
  · exact memOk_of_eq (earlyReply_mem ..) hs
  split
  · exact memOk_of_eq (refuseEarly_mem ..) hs
  · exact runInstr_memOk hs _
  · exact runInstr_memOk hs _

theorem takePacket_memOk {s : State} (hs : s.memOk) (via : Via) (i : Instr) : (takePacket via i s).memOk := by
  unfold takePacket
  split
  · exact memOk_of_eq (htSettle_mem ..) (runPacket_memOk hs _ _)
  · exact runInstr_memOk hs _

theorem takeMail_memOk {s : State} (hs : s.memOk) (p : Fin 4) : (takeMail p s).memOk := by
  unfold takeMail
  extract_lets t
  have ht : t.memOk := memOk_of_eq (dropPacket_mem ..) hs
  clear_value t
  split
  · exact memOk_of_eq (earlyReply_mem ..) ht
  · exact runPacket_memOk ht _ _

theorem settled_memOk {s : State} (hs : s.memOk) (k : Nat) (x : Session) (i : Instr) (since : Option (Nat × Nat)) (via : Via) :
    (htSettle via { runInstr i { setSession k x s with sys.since := since } with sys.since := none }).memOk :=
  memOk_of_eq (htSettle_mem ..) (runInstr_memOk (s := { setSession k x s with sys.since := since }) hs i)

theorem serveOne_memOk {s t : State} (hs : s.memOk) (h : serveOne s = some t) : t.memOk := by
  unfold serveOne at h
  split at h
  · cases h
  · split at h
    · cases h
      exact settled_memOk hs _ _ _ _ _
    · split at h
      · cases h
        apply takePacket_memOk
        exact hs
      · cases h
        apply takeMail_memOk
        exact hs
      · cases h

theorem serve_memOk (n : Nat) {s : State} (hs : s.memOk) : (serve n s).memOk := by
  induction n generalizing s with
  | zero => exact hs
  | succ n ih =>
    rw [serve]
    split
    next t ht => exact ih (serveOne_memOk hs ht)
    · exact hs

/-- Serving what waits keeps memory canonical. -/
theorem serveAll_memOk {s : State} (hs : s.memOk) : (serveAll s).memOk := by
  unfold serveAll
  split
  · exact serve_memOk _ hs
  · exact hs

theorem accept_memOk {s : State} (hs : s.memOk) (via : Via) (i : Instr) : (accept via i s).memOk := by
  unfold accept
  extract_lets t _
  have ht : t.memOk := by
    unfold t
    split
    · exact memOk_of_eq (countRx_mem ..) hs
    · exact hs
  clear_value t
  split
  · exact ht
  · exact serveAll_memOk (s := { t with sys.inbox := _ }) ht

/-! ### What stores bytes -/

theorem storeMem_memOk {s : State} (hs : s.memOk) (addr : Nat) (bytes : List Byte) : (storeMem addr bytes s).memOk := Memory.store_wf _ _ hs

theorem storeFree_memOk {s : State} (hs : s.memOk) (addr n : Nat) : (storeFree addr n s).memOk :=
  storeMem_memOk (s := { s with freeCtr := s.freeCtr + n }) hs _ _

theorem storeWords_memOk {s : State} (hs : s.memOk) (ps : List (Nat × QWord)) : (storeWords ps s).memOk :=
  List.foldlRecOn (motive := fun m : Memory => m.wf = true) ps _ hs (fun _ hm _ _ => Memory.store_wf _ _ hm)

theorem hardStop_memOk (cause k : Nat) (s : State) : (hardStop cause k s).memOk :=
  memOk_of_eq (raise_mem ..) (memOk_of_eq (setThermal_mem ..) Memory.wf_nil)

theorem jobNoSpace_memOk {s : State} (hs : s.memOk) (d : Deferred) (c : Coding) (body : List Byte) (dst cap inDone : Nat) :
    (jobNoSpace d c body dst cap inDone s).memOk :=
  memOk_of_eq (failDeferred_mem ..) (storeFree_memOk hs _ _)

theorem compressJob_memOk {s : State} (hs : s.memOk) (d : Deferred) (src len product pred source dst cap : Nat) :
    (compressJob d src len product pred source dst cap s).memOk := by
  unfold compressJob
  extract_lets body c out
  split
  · exact memOk_of_eq (failDeferred_mem ..) hs
  · split
    · exact jobNoSpace_memOk (memOk_of_eq (fresh_mem s) hs) _ _ _ _ _ _
    · exact memOk_of_eq ((jobDone_mem ..).trans (countCoding_mem ..)) (storeMem_memOk hs _ _)

theorem decompressJob_memOk {s : State} (hs : s.memOk) (d : Deferred) (src len dst cap : Nat) : (decompressJob d src len dst cap s).memOk := by
  unfold decompressJob
  extract_lets bytes fault
  split
  · exact memOk_of_eq (failDeferred_mem ..) hs
  · split
    · exact memOk_of_eq (failDeferred_mem ..) (memOk_of_eq (fresh_mem s) hs)
    · split
      · exact memOk_of_eq (failDeferred_mem ..) hs
      · split
        · exact memOk_of_eq (jobDone_mem ..) (storeMem_memOk hs _ _)
        · exact memOk_of_eq (failDeferred_mem ..) (storeFree_memOk hs _ _)

theorem endJob_memOk {s : State} (hs : s.memOk) (j : Nat × Nat) : (endJob j s).memOk := by
  unfold endJob
  split
  · exact hs
  · split
    · exact compressJob_memOk hs _ _ _ _ _ _ _ _
    · exact decompressJob_memOk hs _ _ _ _ _
    · exact hs

/-- A grant stores the bytes of a core's write alone. -/
theorem grant_memOk {s : State} (hs : s.memOk) (c : Nat) (t : MemTxn) : (grant c t s).memOk := by
  unfold grant
  extract_lets blk u x v _ w w'
  have hw : w.memOk := by
    have hu : u.mem = s.mem := by rw [show u = useCheck c t.addr t.write (openRow c t.addr t.req s) from rfl, useCheck_mem, openRow_mem]
    refine memOk_of_eq ?_ hs
    unfold w
    split
    · exact (setRtp_mem ..).trans ((setMemChan_mem ..).trans hu)
    · exact (setMemChan_mem ..).trans hu
  clear_value w
  split
  · have hstored : w'.memOk := by
      unfold w'
      split
      · exact Memory.store_wf _ _ hw
      · exact hw
    clear_value w'
    split
    · exact hstored
    · split
      · exact memOk_of_eq (memUe_mem ..) hstored
      · exact hstored
  · split
    next kind r hr =>
    have hread : r.memOk := by
      have hmem := readKind_mem t.flips (returnReads t.req blk w)
      rw [hr] at hmem
      exact memOk_of_eq (hmem.trans (returnReads_mem ..)) hw
    split
    · exact memOk_of_eq (memUe_mem ..) hread
    · split
      · exact memOk_of_eq ((memCe_mem ..).trans (grant.markCheck_mem ..)) hread
      · exact hread

theorem deliverBurst_memOk {s : State} (hs : s.memOk) {crcIn : Nat → List QWord → State → State} (hcrc : ∀ k ws t, (crcIn k ws t).mem = t.mem)
    (c : Nat) (x : Chan) (b : Burst) : (deliverBurst crcIn c x b s).memOk := by
  unfold deliverBurst
  split
  · exact memOk_of_eq (queueAppend_mem ..) hs
  · split
    · exact memOk_of_eq (hcrc ..) hs
    · exact storeWords_memOk hs _

theorem burstComplete_memOk {s : State} (hs : s.memOk) {crcIn : Nat → List QWord → State → State} (hcrc : ∀ k ws t, (crcIn k ws t).mem = t.mem)
    (c : Nat) : (burstComplete crcIn c s).memOk := by
  unfold burstComplete
  extract_lets x
  split
  · exact hs
  · extract_lets bad
    exact memOk_of_eq (settleChan_mem ..) (deliverBurst_memOk (memOk_of_eq (setChan_mem ..) hs) hcrc _ _ _)

theorem orderlyReached_memOk {s : State} (hs : s.memOk) : (orderlyReached s).memOk := by
  unfold orderlyReached
  extract_lets ρ left stop
  split
  · exact memOk_of_eq (beginStop_mem ..) hs
  · exact hardStop_memOk _ _ _

/-! ### The commands -/

/-- The outcome is a next state whose memory is canonical where that of `s` is. -/
structure Keeps (s : State) (o : Host.Outcome State Fault Refusal) : Prop where
  safe : nextWith (fun t => s.memOk → t.memOk) o

theorem Keeps.of_mem {s : State} : ∀ {o : Host.Outcome State Fault Refusal}, nextWith (fun t => t.mem = s.mem) o → Keeps s o
  | .next _, h => ⟨memOk_of_eq h⟩

theorem Keeps.next {s t : State} (h : s.memOk → t.memOk) : Keeps s (.next t) := ⟨h⟩

theorem execPacketRejected_keeps (p : BadPacket) (s : State) : Keeps s (execPacketRejected p s) := by
  unfold execPacketRejected
  split
  · exact .next id
  · split
    · exact .next id
    · refine .next fun hs => ?_
      split
      · exact serveAll_memOk hs
      · exact hs
    · refine .next fun hs => ?_
      unfold datagram
      extract_lets slot n good via
      split
      · exact memOk_of_eq (unclaimed_mem ..) hs
      · split
        · exact accept_memOk hs _ _
        · split
          · exact memOk_of_eq (countRx_mem ..) hs
          · exact memOk_of_eq ((authFailure_mem ..).trans (countRx_mem ..)) hs
    · exact .next fun hs => accept_memOk hs _ _

theorem execEngineStop_keeps (e : Fin 16) (inDone outDone : Nat) (s : State) : Keeps s (execEngineStop e inDone outDone s) := by
  unfold execEngineStop
  extract_lets x
  split
  · exact .next fun hs => memOk_of_eq (stopUnit_mem ..) hs
  · split
    · split
      · refine .next fun hs => ?_
        split
        · exact hs
        · exact jobNoSpace_memOk (memOk_of_eq (freeEngine_mem ..) hs) _ _ _ _ _ _
      · exact .next id
    · exact .next id
  · exact .next id

theorem execCodingDone_keeps (e : Fin 20) (s : State) : Keeps s (execCodingDone e s) := by
  unfold execCodingDone
  extract_lets x
  split
  · extract_lets c payload done
    have hdone (t : State) (ht : t.memOk) : (done t).memOk := by
      refine memOk_of_eq ?_ ht
      simp only [done, freeEngine_mem, countCoding_mem]
    clear_value done
    split
    · exact .next fun hs => hdone _ (memOk_of_eq (localUnit_mem ..) hs)
    · split
      next fits t heq =>
      refine .next fun hs => ?_
      split
      · exact hdone _ (memOk_of_eq ((congrArg (fun r => r.2.mem) heq).symm.trans (admitUnit_mem ..)) hs)
      · exact hs
  · exact .next fun hs => memOk_of_eq (freeEngine_mem ..) (endJob_memOk hs _)
  · exact .next id

theorem execCommand_keeps (m : MsgHdr) (packet : List Byte) (s : State) : Keeps s (execCommand m packet s) := by
  refine .next fun hs => serveAll_memOk ?_
  unfold acceptMsg
  extract_lets t
  split
  · exact hs
  · have ht : t.memOk := memOk_of_eq (processAck_mem ..) hs
    clear_value t
    split
    · have hack (u : State) (hu : u.memOk) : (sendAck u).memOk := memOk_of_eq (sendAck_mem ..) hu
      dsimp -zeta only
      extract_lets u
      have hu : u.memOk := hack _ ht
      split
      · exact accept_memOk hu _ _
      · exact hu
    · exact memOk_of_eq (sendNak_mem ..) ht

theorem execMemoryTransaction_keeps (ch : Fin 16) (waiting : List MemTxn) (s : State) : Keeps s (execMemoryTransaction ch waiting s) := by
  unfold execMemoryTransaction
  extract_lets c t x u y
  have hu : s.memOk → u.memOk := memOk_of_eq ((setMemChan_mem ..).trans (arrive_mem ..))
  clear_value u
  split
  · exact .next fun hs => memOk_of_eq (setMemChan_mem ..) (hu hs)
  · split
    · exact .next fun hs => grant_memOk (memOk_of_eq (setMemChan_mem ..) (hu hs)) _ _
    · exact .next hu

theorem execQPushHi_keeps (a : Acc) (q : Fin 1024) (value : Word32) (s : State) : Keeps s (execQPushHi a q value s) := by
  refine .next fun hs => ?_
  have ht : (takeQPushHi a q.val value s).memOk := memOk_of_eq (takeQPushHi_mem ..) hs
  unfold serveMail
  split
  · exact serveAll_memOk ht
  · exact ht

theorem execDmaBurstComplete_keeps (chan : Fin 64) (s : State) : Keeps s (execDmaBurstComplete chan s) :=
  .next fun hs => memOk_of_eq (pumpCrcJobs_mem _) (burstComplete_memOk hs (fun _ _ _ => setCrcUnit_mem ..) _)

theorem execCoreLoaderDone_keeps (body : List Byte) (digest signature : Bool) (s : State) : Keeps s (execCoreLoaderDone body digest signature s) := by
  unfold execCoreLoaderDone
  extract_lets h len bytes t
  split
  · exact .next id
  · have ht : s.memOk → t.memOk := fun hs => storeMem_memOk hs _ _
    clear_value t
    split
    · exact .next fun hs => memOk_of_eq (failBoot_mem ..) (ht hs)
    · exact .next fun hs => memOk_of_eq (releaseCores_mem ..) (ht hs)

theorem execSensorReading_keeps (codes : List Int) (s : State) : Keeps s (execSensorReading codes s) := by
  unfold execSensorReading
  extract_lets was t trip hot x u rearm y
  have ht : t.mem = s.mem := forEach_mem _ _ _ (fun _ _ => by
    split
    · exact setSite_mem ..
    · rfl)
  have hu : s.memOk → u.memOk := by
    refine memOk_of_eq ?_
    unfold u
    split
    · exact (riseTheta_mem ..).trans ht
    · exact ht
  clear_value y rearm u x hot trip t
  split
  · refine .next fun hs => ?_
    split
    · exact memOk_of_eq ht hs
    · exact hardStop_memOk ..
  · split
    · exact .next fun hs => orderlyReached_memOk (hu hs)
    · split
      · refine .next fun hs => ?_
        split
        · exact hu hs
        · exact memOk_of_eq (raiseOpen_mem ..) (hu hs)
      · exact .next hu

theorem execRestartDramHeld_keeps (good : Bool) (s : State) : Keeps s (execRestartDramHeld good s) := by
  unfold execRestartDramHeld
  split
  · exact .next id
  · split
    · exact .next fun hs => memOk_of_eq (trainAll_mem _) hs
    · exact .next fun hs => restart_memOk hs _

theorem execHtDoorbell_keeps (s : State) : Keeps s (execHtDoorbell s) := by
  unfold execHtDoorbell
  split
  · exact .next id
  · extract_lets _ t _ u
    have ht : s.memOk → t.memOk := id
    have hu : s.memOk → u.memOk := fun hs => memOk_of_eq (raise_mem 597 0 _) (ht hs)
    split
    · exact .next ht
    · split
      · exact .next ht
      · exact .next fun hs => accept_memOk (hu hs) _ _

theorem execPorstNAssert_keeps (s : State) : Keeps s (execPorstNAssert s) := .next fun _ => Memory.wf_nil

end Sys2Proof.Machine
end

section
/-! PROOFS. Every command answers a next state and keeps memory canonical. -/
namespace Sys2Proof.Machine
open Sys2Proof

/-- Every command answers a next state, and keeps memory canonical. -/
theorem exec_keeps (c : Instr) (s : State) : Keeps s (exec c s) := by
  cases c with
  | sessionOpen | sessionClose | sessionResync | echo | deviceInfo | reset | cancel | detailRead | stageOpen | stageWrite | stageRead
     | stageDiscard | stageBlock | stageBlockDma | stageLoadSaved | stageSave | cinch | cinchCheck | paramRead | statusRead | countersRead
     | telemetryRead | digestRead | logRead | logMark | logPersist | testRun | calibrate | prbsControl | eyeScan | camRead | camWrite | camDiscover
     | jobCompress | jobDecompress | jobCrc | twinStatus | twinAttach | twinDetach | twinYield | storeList | storeRead | storeWrite | storeErase
     | fwStage | fwCommit | keyProvision | keyRevoke | powerStatus | powerCapLimit | thermalRestart | orderlyStop =>
    exact .next fun hs => accept_memOk hs _ _
  | heartbeatReceived | ack | nak | reply | armed | windowWrite | stamps | event | digests | disposed | log | divergence | yield | detach | joinReq
     | joinData | joinDone | shaeshLinkDown | replayTimeout | mirrorAckTimeout | twinHbLost =>
    exact .next fun hs => serveAll_memOk (memOk_of_eq (by simp) hs)
  | packetRejected => exact execPacketRejected_keeps _ s
  | engineStop => exact execEngineStop_keeps _ _ _ s
  | codingDone => exact execCodingDone_keeps _ s
  | command => exact execCommand_keeps _ _ s
  | memoryTransaction => exact execMemoryTransaction_keeps _ _ s
  | qPushHi => exact execQPushHi_keeps _ _ _ s
  | dmaBurstComplete => exact execDmaBurstComplete_keeps _ s
  | coreLoaderDone => exact execCoreLoaderDone_keeps _ _ _ s
  | sensorReading => exact execSensorReading_keeps _ s
  | restartDramHeld => exact execRestartDramHeld_keeps _ s
  | htDoorbell => exact execHtDoorbell_keeps s
  | porstNAssert => exact execPorstNAssert_keeps s
  | mailboxEndMarkMissing => exact .of_mem (execMailboxEndMarkMissing_mem _ s)
  | udpAuthFailure => exact .of_mem (execUdpAuthFailure_mem _ s)
  | seqHoldTimeout => exact .of_mem (execSeqHoldTimeout_mem _ s)
  | sessionIdleTimeout => exact .of_mem (execSessionIdleTimeout_mem _ s)
  | authBlockExpiry => exact .of_mem (execAuthBlockExpiry_mem _ s)
  | deferredTimeLimit => exact .of_mem (execDeferredTimeLimit_mem _ _ s)
  | deferredCompletion => exact .of_mem (execDeferredCompletion_mem _ _ _ s)
  | logRegisterWindowClose => exact .of_mem (execLogRegisterWindowClose_mem _ _ s)
  | loggedRegisterWrite => exact .of_mem (execLoggedRegisterWrite_mem _ _ _ s)
  | laneSignalDetect => exact .of_mem (execLaneSignalDetect_mem _ s)
  | laneSignalLoss => exact .of_mem (execLaneSignalLoss_mem _ s)
  | laneBiasSettled => exact .of_mem (execLaneBiasSettled_mem _ s)
  | fullAdaptationDone => exact .of_mem (execFullAdaptationDone_mem _ _ _ _ s)
  | laneLossOfLock => exact .of_mem (execLaneLossOfLock_mem _ s)
  | laneIdleMax => exact .of_mem (execLaneIdleMax_mem _ s)
  | relockDone => exact .of_mem (execRelockDone_mem _ _ s)
  | adaptationStep => exact .of_mem (execAdaptationStep_mem _ _ _ _ s)
  | wordAlignmentGained => exact .of_mem (execWordAlignmentGained_mem _ s)
  | alignLost => exact .of_mem (execAlignLost_mem _ s)
  | bitslip => exact .of_mem (execBitslip_mem _ _ s)
  | snap => exact .of_mem (execSnap_mem _ _ _ _ s)
  | cntClear => exact .of_mem (execCntClear_mem _ _ s)
  | comparatorWindowEnd => exact .of_mem (execComparatorWindowEnd_mem _ _ _ s)
  | prbsSyncLoss => exact .of_mem (execPrbsSyncLoss_mem _ _ _ s)
  | prbsSyncGained => exact .of_mem (execPrbsSyncGained_mem _ s)
  | portLinkEstablishment => exact .of_mem (execPortLinkEstablishment_mem _ _ s)
  | linkDown => exact .of_mem (execLinkDown_mem _ s)
  | linkRetry => exact .of_mem (execLinkRetry_mem _ s)
  | streamDataPacket => exact .of_mem (execStreamDataPacket_mem _ _ _ _ _ s)
  | rectangularImageHeader => exact .of_mem (execRectangularImageHeader_mem _ _ _ _ _ s)
  | lineMarker => exact .of_mem (execLineMarker_mem _ s)
  | controlAcknowledgement => exact .of_mem (execControlAcknowledgement_mem _ _ _ _ _ s)
  | triggerPacketReceived => exact .of_mem (execTriggerPacketReceived_mem _ s)
  | triggerAcknowledgement => exact .of_mem (execTriggerAcknowledgement_mem _ s)
  | heartbeat => exact .of_mem (execHeartbeat_mem _ s)
  | eventPacket => exact .of_mem (execEventPacket_mem _ _ s)
  | testPacket => exact .of_mem (execTestPacket_mem _ s)
  | unknownPacket => exact .of_mem (execUnknownPacket_mem _ s)
  | rawLineSegment => exact .of_mem (execRawLineSegment_mem _ _ _ s)
  | controlReply => exact .of_mem (execControlReply_mem _ _ _ _ s)
  | rawEventSegment => exact .of_mem (execRawEventSegment_mem _ _ s)
  | lineDueTrigger => exact .of_mem (execLineDueTrigger_mem _ s)
  | freeRunDue => exact .of_mem (execFreeRunDue_mem _ s)
  | lineTimeout => exact .of_mem (execLineTimeout_mem _ s)
  | portLineAssembled => exact .of_mem (execPortLineAssembled_mem _ s)
  | portLineDelivered => exact .of_mem (execPortLineDelivered_mem _ s)
  | longFrameHoldEnd => exact .of_mem (execLongFrameHoldEnd_mem _ s)
  | heartbeatLost => exact .of_mem (execHeartbeatLost_mem _ s)
  | camsetSend => exact .of_mem (execCamsetSend_mem _ s)
  | camsetFail => exact .of_mem (execCamsetFail_mem _ _ s)
  | camAccessTimeout => exact .of_mem (execCamAccessTimeout_mem _ _ s)
  | quadratureEdge => exact .of_mem (execQuadratureEdge_mem _ _ s)
  | illegalTransition => exact .of_mem (execIllegalTransition_mem _ s)
  | encIndex => exact .of_mem (execEncIndex_mem _ s)
  | ssiRead => exact .of_mem (execSsiRead_mem _ _ s)
  | observerUpdate => exact .of_mem (execObserverUpdate_mem _ s)
  | encStill => exact .of_mem (execEncStill_mem _ s)
  | validSettled => exact .of_mem (execValidSettled_mem _ s)
  | ltgTimerStep => exact .of_mem (execLtgTimerStep_mem _ s)
  | ltgHeldIssue => exact .of_mem (execLtgHeldIssue_mem _ s)
  | pcPulseEnd => exact .of_mem (execPcPulseEnd_mem _ s)
  | pcInsCmd => exact .of_mem (execPcInsCmd_mem _ _ _ s)
  | clear => exact .of_mem (execClear_mem _ _ s)
  | delete => exact .of_mem (execDelete_mem _ _ _ s)
  | pcFiredRead => exact .of_mem (execPcFiredRead_mem _ _ s)
  | pcMissedRead => exact .of_mem (execPcMissedRead_mem _ _ s)
  | axPosCapture => exact .of_mem (execAxPosCapture_mem _ _ s)
  | stripLine => exact .of_mem (execStripLine_mem _ _ _ _ s)
  | shadeUpdate => exact .of_mem (execShadeUpdate_mem _ s)
  | calibLoad => exact .of_mem (execCalibLoad_mem _ s)
  | colourLine => exact .of_mem (execColourLine_mem _ _ s)
  | stchDelayWrite => exact .of_mem (execStchDelayWrite_mem _ s)
  | stitchedLine => exact .of_mem (execStitchedLine_mem _ _ s)
  | areaComposition => exact .of_mem (execAreaComposition_mem _ _ s)
  | composeLate => exact .of_mem (execComposeLate_mem _ s)
  | segmLine => exact .of_mem (execSegmLine_mem _ _ s)
  | unitFormed => exact .of_mem (execUnitFormed_mem _ s)
  | logUnitTimeout => exact .of_mem (execLogUnitTimeout_mem _ s)
  | engineResume => exact .of_mem (execEngineResume_mem _ s)
  | engineOutOfService => exact .of_mem (execEngineOutOfService_mem _ s)
  | jobTimeout => exact .of_mem (execJobTimeout_mem _ _ s)
  | segmentSend => exact .of_mem (execSegmentSend_mem _ s)
  | netLink => exact .of_mem (execNetLink_mem _ _ s)
  | pauseFrameReceived => exact .of_mem (execPauseFrameReceived_mem _ _ _ _ s)
  | pauseExpiry => exact .of_mem (execPauseExpiry_mem _ _ s)
  | arpRequest => exact .of_mem (execArpRequest_mem _ _ _ s)
  | icmpEchoRequest => exact .of_mem (execIcmpEchoRequest_mem _ _ _ s)
  | frameDiscarded => exact .of_mem (execFrameDiscarded_mem _ _ s)
  | announce => exact .of_mem (execAnnounce_mem _ _ _ s)
  | sync => exact .of_mem (execSync_mem _ _ _ _ s)
  | followUp => exact .of_mem (execFollowUp_mem _ _ _ s)
  | delayReq => exact .of_mem (execDelayReq_mem _ _ s)
  | delayResp => exact .of_mem (execDelayResp_mem _ _ _ s)
  | pdelayReq => exact .of_mem (execPdelayReq_mem _ _ s)
  | pdelayResp => exact .of_mem (execPdelayResp_mem _ _ _ _ _ s)
  | announceReceiptTimeout => exact .of_mem (execAnnounceReceiptTimeout_mem _ s)
  | ptpMessageInterval => exact .of_mem (execPtpMessageInterval_mem _ _ s)
  | twinClaiming => exact .of_mem (execTwinClaiming_mem _ s)
  | adoptWaitExpiry => exact .of_mem (execAdoptWaitExpiry_mem _ s)
  | refreshInterval => exact .of_mem (execRefreshInterval_mem _ _ _ _ s)
  | mr4Read => exact .of_mem (execMr4Read_mem _ _ _ s)
  | rhWindowEnd => exact .of_mem (execRhWindowEnd_mem _ s)
  | memPanic => exact .of_mem (execMemPanic_mem _ _ _ s)
  | panicExit => exact .of_mem (execPanicExit_mem _ _ s)
  | retrainStart => exact .of_mem (execRetrainStart_mem _ s)
  | retrainDone => exact .of_mem (execRetrainDone_mem _ _ s)
  | mcErrHiRead => exact .of_mem (execMcErrHiRead_mem _ _ s)
  | rtpStatusRead => exact .of_mem (execRtpStatusRead_mem _ _ s)
  | qPopLo => exact .of_mem (execQPopLo_mem _ _ s)
  | flush => exact .of_mem (execFlush_mem _ _ _ _ s)
  | unitQueuePush => exact .of_mem (execUnitQueuePush_mem _ _ s)
  | queueTimeout => exact .of_mem (execQueueTimeout_mem _ s)
  | start => exact .of_mem (execStart_mem _ _ _ s)
  | stop => exact .of_mem (execStop_mem _ _ s)
  | preset => exact .of_mem (execPreset_mem _ _ _ s)
  | init => exact .of_mem (execInit_mem _ _ s)
  | ckStateCapture => exact .of_mem (execCkStateCapture_mem _ _ s)
  | ckStateRestore => exact .of_mem (execCkStateRestore_mem _ _ _ _ s)
  | crcFeed => exact .of_mem (execCrcFeed_mem _ s)
  | chkEccHiRead => exact .of_mem (execChkEccHiRead_mem _ s)
  | chkEccUe => exact .of_mem (execChkEccUe_mem _ _ _ s)
  | chkEccCe => exact .of_mem (execChkEccCe_mem _ _ s)
  | eventRouted => exact .of_mem (execEventRouted_mem _ s)
  | gpxEdge => exact .of_mem (execGpxEdge_mem _ _ s)
  | gpxPulseEnd => exact .of_mem (execGpxPulseEnd_mem _ s)
  | rnFire => exact .of_mem (execRnFire_mem _ _ _ s)
  | rgEnable => exact .of_mem (execRgEnable_mem _ _ s)
  | rgDisable => exact .of_mem (execRgDisable_mem _ _ s)
  | swFire => exact .of_mem (execSwFire_mem _ _ s)
  | ccInputClear => exact .of_mem (execCcInputClear_mem _ s)
  | acWorldSet => exact .of_mem (execAcWorldSet_mem _ _ _ _ s)
  | acIpWrite => exact .of_mem (execAcIpWrite_mem _ _ _ s)
  | timerInterrupt => exact .of_mem (execTimerInterrupt_mem _ s)
  | msip => exact .of_mem (execMsip_mem _ _ _ s)
  | mtimeCapture => exact .of_mem (execMtimeCapture_mem _ s)
  | refuseInfoRead => exact .of_mem (execRefuseInfoRead_mem _ s)
  | windowAccess => exact .of_mem (execWindowAccess_mem _ _ _ _ _ s)
  | dramAccessRefused => exact .of_mem (execDramAccessRefused_mem _ _ _ _ s)
  | coreBoot => exact .of_mem (execCoreBoot_mem _ s)
  | debugUnlock => exact .of_mem (execDebugUnlock_mem _ _ s)
  | go => exact .of_mem (execGo_mem _ _ _ s)
  | twbClear => exact .of_mem (execTwbClear_mem _ _ _ s)
  | twbReset => exact .of_mem (execTwbReset_mem _ _ _ s)
  | twDone => exact .of_mem (execTwDone_mem _ _ _ _ s)
  | twArbLost => exact .of_mem (execTwArbLost_mem _ _ s)
  | twTimeout => exact .of_mem (execTwTimeout_mem _ _ _ _ s)
  | cureDone => exact .of_mem (execCureDone_mem _ _ s)
  | twAlert => exact .of_mem (execTwAlert_mem _ _ _ s)
  | twAlertRead => exact .of_mem (execTwAlertRead_mem _ _ s)
  | busFree => exact .of_mem (execBusFree_mem _ s)
  | htAddress => exact .of_mem (execHtAddress_mem _ _ _ s)
  | htWriteByte => exact .of_mem (execHtWriteByte_mem _ s)
  | htAlertResponse => exact .of_mem (execHtAlertResponse_mem _ s)
  | dramScrub => exact .of_mem (execDramScrub_mem _ _ s)
  | sramScrub => exact .of_mem (execSramScrub_mem _ _ s)
  | eyeTracking => exact .of_mem (execEyeTracking_mem _ _ s)
  | retrainPeriod => exact .of_mem (execRetrainPeriod_mem _ s)
  | gapWindowTest => exact .of_mem (execGapWindowTest_mem _ _ s)
  | testDone => exact .of_mem (execTestDone_mem _ _ _ _ _ _ s)
  | storeBlockDone => exact .of_mem (execStoreBlockDone_mem _ s)
  | pendingCompletion => exact .of_mem (execPendingCompletion_mem _ s)
  | porstNRelease => exact .of_mem (execPorstNRelease_mem _ s)
  | synthesiserLock => exact .of_mem (execSynthesiserLock_mem _ _ s)
  | bootRom => exact .of_mem (execBootRom_mem _ _ s)
  | imageLoaded => exact .of_mem (execImageLoaded_mem _ _ s)
  | trigPulseEnd => exact .of_mem (execTrigPulseEnd_mem _ s)
  | ptpMessageDiscarded => exact .of_mem (execPtpMessageDiscarded_mem _ s)
  | claimConflictWindow => exact .of_mem (execClaimConflictWindow_mem _ s)
  | shaeshMessageRejected => exact .of_mem (execShaeshMessageRejected_mem _ s)
  | digestUnmatchedTimeout => exact .of_mem (execDigestUnmatchedTimeout_mem _ s)
  | joinAlignment => exact .of_mem (execJoinAlignment_mem _ s)
  | joinCapture => exact .of_mem (execJoinCapture_mem _ s)
  | elasticOverflow => exact .of_mem (execElasticOverflow_mem _ s)
  | retrainReadAheadFull => exact .of_mem (execRetrainReadAheadFull_mem _ s)
  | retrainAbandoned => exact .of_mem (execRetrainAbandoned_mem _ s)
  | l2EccError => exact .of_mem (execL2EccError_mem _ _ _ _ _ s)
  | htReplyConsumed => exact .of_mem (execHtReplyConsumed_mem s)
  | cinchArmed => exact .of_mem (execCinchArmed_mem s)
  | cinchFire => exact .of_mem (execCinchFire_mem s)
  | cinchFinish => exact .of_mem (execCinchFinish_mem s)
  | cinchTimeLimit => exact .of_mem (execCinchTimeLimit_mem s)
  | logPersistPeriod => exact .of_mem (execLogPersistPeriod_mem s)
  | logPersistRetry => exact .of_mem (execLogPersistRetry_mem s)
  | recordFormed => exact .of_mem (execRecordFormed_mem s)
  | patchCut => exact .of_mem (execPatchCut_mem s)
  | engineTakesUnit => exact .of_mem (execEngineTakesUnit_mem s)
  | timekeeperTick => exact .of_mem (by simp only [exec, execTimekeeperTick_mem])
  | claimSettleExpiry => exact .of_mem (execClaimSettleExpiry_mem s)
  | claimTimerExpiry => exact .of_mem (execClaimTimerExpiry_mem s)
  | claimRefresh => exact .of_mem (execClaimRefresh_mem s)
  | shaeshLinkUp => exact .of_mem (execShaeshLinkUp_mem s)
  | heartbeatSend => exact .of_mem (execHeartbeatSend_mem s)
  | joinRetry => exact .of_mem (execJoinRetry_mem s)
  | takeover => exact .of_mem (execTakeover_mem s)
  | zqLatch => exact .of_mem (execZqLatch_mem s)
  | dmaBurstDecision => exact .of_mem (execDmaBurstDecision_mem s)
  | htReadByte => exact .of_mem (execHtReadByte_mem s)
  | htHostHold => exact .of_mem (execHtHostHold_mem s)
  | riseWindow => exact .of_mem (by simp only [exec, execRiseWindow_mem])
  | siteCrossCheck => exact .of_mem (execSiteCrossCheck_mem s)
  | thetaStepPeriod => exact .of_mem (execThetaStepPeriod_mem s)
  | thetaRecover => exact .of_mem (execThetaRecover_mem s)
  | powerEstimate => exact .of_mem (execPowerEstimate_mem s)
  | orderlyStopStep => exact .of_mem (execOrderlyStopStep_mem s)
  | quadBias => exact .of_mem (execQuadBias_mem s)
  | stripUngate => exact .of_mem (execStripUngate_mem s)
  | wearLevelling => exact .of_mem (execWearLevelling_mem s)
  | teleSnap => exact .of_mem (execTeleSnap_mem s)
  | powerDomainUp => exact .of_mem (execPowerDomainUp_mem s)
  | bootFailed => exact .of_mem (execBootFailed_mem s)
  | storeMounted => exact .of_mem (execStoreMounted_mem s)
  | dramInitialised => exact .of_mem (execDramInitialised_mem s)
  | bootSetCinch => exact .of_mem (execBootSetCinch_mem s)
  | joinAlignmentTimeout => exact .of_mem (execJoinAlignmentTimeout_mem s)

theorem exec_answers (c : Instr) (s : State) : ∃ t, exec c s = .next t ∧ (s.memOk → t.memOk) := by
  have h := (exec_keeps c s).safe
  revert h
  cases exec c s with
  | next t => exact fun h => ⟨t, rfl, h⟩
  | fault f => exact False.elim
  | refused r => exact False.elim

/-- Settles O3: each command's definition ends in a next state, by its lemma. -/
theorem everyCommandAnswersNext : Obligations.EveryCommandAnswersNext := by
  unfold Obligations.EveryCommandAnswersNext
  intro c s
  obtain ⟨t, ht, -⟩ := exec_answers c s
  exact ⟨t, ht⟩

/-- Settles O5: the commands that store go through `Memory.store`, a restart filters or clears, and every other command leaves memory as it is. -/
theorem memoryStaysCanonical : Obligations.MemoryStaysCanonical := by
  unfold Obligations.MemoryStaysCanonical
  intro s t hs h
  unfold step at h
  split at h
  · cases h
    exact hs
  next c cs _ =>
    obtain ⟨u, hu, hkeeps⟩ := exec_answers c { s with pending := cs }
    cases hu.symm.trans h
    exact hkeeps hs

end Sys2Proof.Machine
end

section
/-! PROOFS. The two-wire channels (R445 to R453, R459). -/
namespace Sys2Proof.Machine
open Sys2Proof

/-- Channel `c` has become `x`, and nothing else differs. -/
structure TwOnly (c : Nat) (s t : State) (x : Twc) : Prop where
  only : t = { s with twcs := t.twcs }
  other : ∀ k, k ≠ c → twc t k = twc s k
  here : twc t c = x

theorem setTwc_only (c : Nat) (x : Twc) (s : State) : TwOnly c s (setTwc c x s) x :=
  ⟨rfl, fun _ hk => by rw [twc_setTwc, if_neg hk], twc_setTwc_self ..⟩

theorem TwOnly.trans {c : Nat} {s t u : State} {x y : Twc} (h : TwOnly c s t x) (k : TwOnly c t u y) : TwOnly c s u y where
  only := by
    rw [k.only, h.only]
  other := fun i hi => (k.other i hi).trans (h.other i hi)
  here := k.here

/-- What a change of one channel leaves as it was, read by any projection. -/
theorem TwOnly.keeps {β : Type} (π : State → β) {c : Nat} {s t : State} {x : Twc} (h : TwOnly c s t x)
    (hπ : ∀ u w, π { u with twcs := w } = π u := by exact fun _ _ => rfl) : π t = π s := by
  rw [h.only, hπ]

/-- The channel is set twice: the second value stays. -/
theorem setTwc_setTwc_only (c : Nat) (x y : Twc) (s : State) : TwOnly c s (setTwc c y (setTwc c x s)) y :=
  (setTwc_only c x s).trans (setTwc_only c y _)

theorem alertDue_eq {c : Nat} {s t : State} {x : Twc} (h : TwOnly c s t x) :
    alertDue t c = (x.run && prmB s (P.TWB_ALERT_AUTO c) && x.alertPin && !x.alertStop && !twQuiet s c) := by
  unfold alertDue
  rw [h.here, h.keeps (fun u => prmB u (P.TWB_ALERT_AUTO c)), h.keeps (fun u => twQuiet u c)]

/-- R448: a transaction that waits begins on a free bus, unless an alert read is due. -/
theorem beginTw_only {c : Nat} {s t : State} {x : Twc} (h : TwOnly c s t x) :
    TwOnly c s (beginTw c t) { x with begun := x.begun || (x.act == 1 && !x.busBusy &&
      !(x.run && prmB s (P.TWB_ALERT_AUTO c) && x.alertPin && !x.alertStop && !twQuiet s c)) } := by
  have hset : beginTw c t = setTwc c { twc t c with begun := (twc t c).begun || ((twc t c).act == 1 && !(twc t c).busBusy && !alertDue t c) } t := rfl
  rw [hset, alertDue_eq h, h.here]
  exact h.trans (setTwc_only ..)

theorem refuseTw_only {c : Nat} {s t : State} {x : Twc} (h : TwOnly c s t x) : TwOnly c s (refuseTw c t) { x with flags := setFlag x.flags 0 } := by
  have hset : refuseTw c t = setTwc c { twc t c with flags := setFlag (twc t c).flags 0 } t := rfl
  rw [hset, h.here]
  exact h.trans (setTwc_only ..)

theorem beginClear_only {c : Nat} {s t : State} {x : Twc} (h : TwOnly c s t x) :
    TwOnly c s (beginClear c t) (if 2 ≤ x.stuck then { x with flags := setFlag x.flags 5, nCureBad := x.nCureBad + 1 } else { x with act := 4 }) := by
  unfold beginClear
  rw [h.here]
  dsimp only
  split
  · exact h.trans (setTwc_only ..)
  · exact h.trans (setTwc_only ..)

/-- A logged write of a channel's block whose act changes the channel alone. -/
theorem twWrite_logged {a : Acc} {s : State} (h : s.accessible a) (c off v : Nat) {act : State → State} {x : Twc}
    (hact : ∀ u, LogOnly s u → TwOnly c u (act u) x) : ∃ t, Host.Outcome.next (windowWrite a true true 0x12 off v act s) = (.next t : Host.Outcome State Fault Refusal) ∧
      t = { s.logged t with twcs := t.twcs } ∧ (∀ k, k ≠ c → twc t k = twc s k) ∧ twc t c = x := by
  obtain ⟨u, hlog, hw⟩ := windowWrite_right a true 0x12 off v act s h
  obtain ⟨honly, hother, hhere⟩ := hact u hlog
  refine ⟨act u, by rw [hw], ?_, fun k hk => (hother k hk).trans (hlog.keeps (fun w => twc w k)), hhere⟩
  obtain ⟨_, _, _, _, _, _, rfl⟩ := hlog
  rw [honly]
  rfl

/-! ### GO, CLEAR and RESET (R448, R451) -/

theorem exec_go {a : Acc} {c : Fin 8} {s : State} (h : s.accessible a) (hr : twRight s a.principal c.val = true) (v : Word32) :
    ∃ t, exec (.go a c v) s = .next t ∧ t = { s.logged t with twcs := t.twcs } ∧ (∀ k, k ≠ c.val → twc t k = twc s k) ∧
      twc t c.val = if goRefused s c.val v = true then { twc s c.val with result := 6, flags := setFlag (twc s c.val).flags 0 }
        else { cmdFields v (twc s c.val) with act := 1, tries := 0, begun := !(twc s c.val).busBusy && !alertDue s c.val } := by
  have hexec : exec (.go a c v) s = .next (windowWrite a true true 0x12 (c.val * 0x400 + 8) v.toNat (fun s =>
      if goRefused s c.val v then refuseTw c.val (setTwc c.val { twc s c.val with result := 6 } s)
      else beginTw c.val (setTwc c.val { cmdFields v (twc s c.val) with act := 1, begun := false, tries := 0 } s)) s) := by
    show execGo a c v s = _
    rw [execGo, hr]
  rw [hexec]
  refine twWrite_logged h _ _ _ fun u hu => ?_
  rw [hu.keeps (fun w => goRefused w c.val v), hu.keeps (fun w => twc w c.val)]
  split
  · exact refuseTw_only (setTwc_only ..)
  · have hbegin := beginTw_only (setTwc_only c.val { cmdFields v (twc s c.val) with act := 1, begun := false, tries := 0 } u)
    rw [hu.keeps (fun w => prmB w (P.TWB_ALERT_AUTO c.val)), hu.keeps (fun w => twQuiet w c.val)] at hbegin
    exact hbegin

theorem exec_twbClear {a : Acc} {c : Fin 8} {s : State} (h : s.accessible a) (hr : twRight s a.principal c.val = true) (hc : c.val < 2)
    (hrun : (twc s c.val).run = true) (hact : (twc s c.val).act = 0) (hq : twQuiet s c.val = false) (v : Word32) :
    ∃ t, exec (.twbClear a c v) s = .next t ∧ t = { s.logged t with twcs := t.twcs } ∧ (∀ k, k ≠ c.val → twc t k = twc s k) ∧ twc t c.val = if 2 ≤ (twc s c.val).stuck then
      { cmdFields v (twc s c.val) with flags := setFlag (twc s c.val).flags 5, nCureBad := (twc s c.val).nCureBad + 1 } else { cmdFields v (twc s c.val) with act := 4 } := by
  have hexec : exec (.twbClear a c v) s = .next (windowWrite a true true 0x12 (c.val * 0x400 + 8) v.toNat (fun s =>
      if 2 ≤ c.val ∨ (twc s c.val).run = false ∨ (twc s c.val).act ≠ 0 ∨ twQuiet s c.val = true then refuseTw c.val s
      else beginClear c.val (setTwc c.val (cmdFields v (twc s c.val)) s)) s) := by
    show execTwbClear a c v s = _
    rw [execTwbClear, hr]
  rw [hexec]
  refine twWrite_logged h _ _ _ fun u hu => ?_
  rw [hu.keeps (fun w => twc w c.val), hu.keeps (fun w => twQuiet w c.val), if_neg (by simp [hrun, hact, hq, hc])]
  exact beginClear_only (setTwc_only ..)

theorem cutTw_of_act_ne {c result : Nat} {s : State} (h : (twc s c).act ≠ 1) : cutTw c result s = s := if_neg h

/-- R448: a transaction cut off has its result and has TW_DONE raised. -/
theorem cutTw_cut {c : Nat} {s : State} (h : (twc s c).act = 1) (result : Nat) : ∃ n e y, cutTw c result s =
    setTwc c y { s with freeCtr := n, evnt.inflight := s.evnt.inflight ++ [⟨565 + 4 * c, e, none⟩] } ∧ y = { twc s c with
      act := 0, begun := false, tries := 0, result := result, bytes := y.bytes, busBusy := true
      nDone := (twc s c).nDone + b2n (result == 1), nAddr := (twc s c).nAddr + b2n (result == 2), nData := (twc s c).nData + b2n (result == 3)
      nLostEnd := (twc s c).nLostEnd + b2n (result == 4) } := by
  rw [cutTw, if_pos h]
  exact ⟨_, _, _, rfl, rfl⟩

theorem twbReset_window {a : Acc} {c : Fin 8} {s : State} (hr : twRight s a.principal c.val = true) (v : Word32) :
    exec (.twbReset a c v) s = .next (windowWrite a true true 0x12 (c.val * 0x400 + 8) v.toNat (fun s =>
      if c.val < 2 ∨ twQuiet s c.val = true then refuseTw c.val s
      else setTwc c.val { cmdFields v (twc (cutTw c.val 7 s) c.val) with act := 3 } (cutTw c.val 7 s)) s) := by
  show execTwbReset a c v s = _
  rw [execTwbReset, hr]

theorem exec_twbReset_idle {a : Acc} {c : Fin 8} {s : State} (h : s.accessible a) (hr : twRight s a.principal c.val = true) (hc : 2 ≤ c.val)
    (hq : twQuiet s c.val = false) (hact : (twc s c.val).act ≠ 1) (v : Word32) :
    ∃ t, exec (.twbReset a c v) s = .next t ∧ t = setTwc c.val { cmdFields v (twc s c.val) with act := 3 } (s.logged t) := by
  rw [twbReset_window hr]
  obtain ⟨u, hlog, hw⟩ := windowWrite_right a true 0x12 (c.val * 0x400 + 8) v.toNat (fun s =>
    if c.val < 2 ∨ twQuiet s c.val = true then refuseTw c.val s
    else setTwc c.val { cmdFields v (twc (cutTw c.val 7 s) c.val) with act := 3 } (cutTw c.val 7 s)) s h
  have hu : twc u c.val = twc s c.val := hlog.keeps (fun w => twc w c.val)
  have hcut : cutTw c.val 7 u = u := cutTw_of_act_ne (by rwa [hu])
  refine ⟨_, rfl, ?_⟩
  rw [hw, if_neg (not_or.2 ⟨by omega, by rw [hlog.keeps (fun w => twQuiet w c.val), hq]; decide⟩), hcut, hu]
  obtain ⟨_, _, _, _, _, _, rfl⟩ := hlog
  rfl

theorem exec_twbReset_cut {a : Acc} {c : Fin 8} {s : State} (h : s.accessible a) (hr : twRight s a.principal c.val = true) (hc : 2 ≤ c.val)
    (hq : twQuiet s c.val = false) (hact : (twc s c.val).act = 1) (v : Word32) :
    ∃ t, exec (.twbReset a c v) s = .next t ∧ (twc t c.val).act = 3 ∧ (twc t c.val).result = 7 ∧ (twc t c.val).busBusy = true ∧ (twc t c.val).addr = field v.toNat 7 1 ∧
      ∃ e, t.evnt.inflight = s.evnt.inflight ++ [⟨565 + 4 * c.val, e, none⟩] := by
  rw [twbReset_window hr]
  obtain ⟨u, hlog, hw⟩ := windowWrite_right a true 0x12 (c.val * 0x400 + 8) v.toNat (fun s =>
    if c.val < 2 ∨ twQuiet s c.val = true then refuseTw c.val s
    else setTwc c.val { cmdFields v (twc (cutTw c.val 7 s) c.val) with act := 3 } (cutTw c.val 7 s)) s h
  have hu : twc u c.val = twc s c.val := hlog.keeps (fun w => twc w c.val)
  obtain ⟨n, e, y, hcut, hy⟩ := cutTw_cut (by rwa [hu]) 7
  refine ⟨_, rfl, ?_⟩
  rw [hw, if_neg (not_or.2 ⟨by omega, by rw [hlog.keeps (fun w => twQuiet w c.val), hq]; decide⟩), hcut, twc_setTwc_self, twc_setTwc_self, hy]
  refine ⟨rfl, rfl, rfl, rfl, e, ?_⟩
  simp only [setTwc_evnt]
  rw [hlog.keeps (fun w => w.evnt.inflight)]

/-! ### The end of a transaction (R449, R450) -/

/-- Bytes laid one after another from 0 on replace the ones there. -/
theorem foldl_set_get (g : List Byte) (m : Map Byte) (i : Nat) :
    ((List.range g.length).foldl (fun m i => m.set 0 i (g.getD i 0)) m).get 0 i = if h : i < g.length then g[i] else m.get 0 i := by
  suffices h : ∀ n, ((List.range n).foldl (fun m i => m.set 0 i (g.getD i 0)) m).get 0 i = if i < n then g.getD i 0 else m.get 0 i by
    rw [h]
    split <;> simp_all
  intro n
  induction n with
  | zero => simp
  | succ n ih =>
    rw [List.range_succ, List.foldl_append, List.foldl_cons, List.foldl_nil, Map.get_set, ih]
    grind

theorem exec_twDone {c : Fin 8} {s : State} (hact : (twc s c.val).act = 1) (hb : (twc s c.val).begun = true) (r : Fin 3) (n : Nat) (d : List Byte) {g : List Byte}
    (hg : g = if r = 0 then d.take (twc s c.val).rlen else []) :
    ∃ t, exec (.twDone c r n d) s = .next t ∧ (twc t c.val).act = 0 ∧ (twc t c.val).result = r.val + 1 ∧ (twc t c.val).bytes = min n (twc s c.val).wlen + g.length ∧ (twc t c.val).busBusy = true ∧
      (∀ i, (twc t c.val).rx.get 0 i = if h : i < g.length then g[i] else (twc s c.val).rx.get 0 i) ∧
      t.evnt.inflight = s.evnt.inflight ++ [⟨565 + 4 * c.val, r.val + 1 + 16 * (min n (twc s c.val).wlen + g.length), none⟩] ∧
      t = { s with twcs := t.twcs, evnt.inflight := t.evnt.inflight } := by
  have hexec : exec (.twDone c r n d) s = .next (endTw c.val (r.val + 1) (min n (twc s c.val).wlen + g.length)
      (setTwc c.val { twc s c.val with rx := (List.range g.length).foldl (fun m i => m.set 0 i (g.getD i 0)) (twc s c.val).rx } s)) := by
    show execTwDone c r n d s = _
    rw [execTwDone, if_neg (by simp [hact, hb]), hg]
  refine ⟨_, hexec, ?_⟩
  generalize hu : setTwc c.val { twc s c.val with rx := _ } s = u
  have hrx : (twc u c.val).rx = (List.range g.length).foldl (fun m i => m.set 0 i (g.getD i 0)) (twc s c.val).rx := by rw [← hu, twc_setTwc_self]
  have hend (t : State) (m k : Nat) : twc (endTw c.val m k t) c.val = { twc t c.val with
      act := 0, begun := false, tries := 0, result := m, bytes := k, busBusy := true, nDone := (twc t c.val).nDone + b2n (m == 1)
      nAddr := (twc t c.val).nAddr + b2n (m == 2), nData := (twc t c.val).nData + b2n (m == 3), nLostEnd := (twc t c.val).nLostEnd + b2n (m == 4) } := twc_setTwc_self ..
  rw [hend]
  refine ⟨rfl, rfl, rfl, rfl, fun i => ?_, ?_, ?_⟩
  · rw [← foldl_set_get, ← hrx]
  · subst hu
    rfl
  · subst hu
    rfl

/-! ### Lost arbitration (R449) -/

/-- R449: a loss sets ARB_LOST, is counted and raised. -/
theorem lost_only (c b : Nat) (s : State) :
    TwOnly c (raise (566 + 4 * c) b s) (raise (twSource c 1) b (setTwc c { twc s c with flags := setFlag (twc s c).flags 1, nLost := (twc s c).nLost + 1 } s))
      { twc s c with flags := setFlag (twc s c).flags 1, nLost := (twc s c).nLost + 1 } := by
  rw [show twSource c 1 = 566 + 4 * c by unfold twSource; omega]
  exact setTwc_only c _ (raise (566 + 4 * c) b s)

/-- A channel changed and an event raised: the state in full. -/
theorem TwOnly.raised {c src arg : Nat} {s t : State} {x : Twc} (h : TwOnly c (raise src arg s) t x) :
    t = { s with twcs := t.twcs, evnt.inflight := s.evnt.inflight ++ [⟨src, arg, none⟩] } := by
  conv_lhs => rw [h.only]
  rfl

theorem TwOnly.raise {c : Nat} {s t : State} {x : Twc} (h : TwOnly c s t x) (src arg : Nat) : TwOnly c (raise src arg s) (Machine.raise src arg t) x where
  only := by
    conv_lhs => rw [h.only]
    rfl
  other := h.other
  here := h.here

theorem execTwArbLost_retried {c : Fin 8} {s : State} (hact : (twc s c.val).act = 1) (hb : (twc s c.val).begun = true) (b : Nat) :
    ∃ t, TwOnly c.val (raise (566 + 4 * c.val) b s) t { twc s c.val with
        flags := setFlag (twc s c.val).flags 1, nLost := (twc s c.val).nLost + 1, tries := (twc s c.val).tries + 1, busBusy := true, begun := false } ∧
      exec (.twArbLost c b) s = .next (if prmN s (P.TWB_RETRY c.val) < (twc s c.val).tries + 1 then cutTw c.val 4 t else t) := by
  have hlost := lost_only c.val b s
  generalize ht : raise (twSource c.val 1) b (setTwc c.val { twc s c.val with flags := setFlag (twc s c.val).flags 1, nLost := (twc s c.val).nLost + 1 } s) = t at hlost
  have hexec : exec (.twArbLost c b) s = .next (if prmN t (P.TWB_RETRY c.val) < (twc s c.val).tries + 1
      then cutTw c.val 4 (setTwc c.val { twc t c.val with tries := (twc s c.val).tries + 1, busBusy := true, begun := false } t)
      else setTwc c.val { twc t c.val with tries := (twc s c.val).tries + 1, busBusy := true, begun := false } t) := by
    subst ht
    show execTwArbLost c b s = _
    rw [execTwArbLost, if_neg (by simp [hact, hb])]
    rfl
  rw [hexec, hlost.here, hlost.keeps (fun u => prmN u (P.TWB_RETRY c.val))]
  exact ⟨_, hlost.trans (setTwc_only ..), rfl⟩

theorem exec_twArbLost_again {c : Fin 8} {s : State} (hact : (twc s c.val).act = 1) (hb : (twc s c.val).begun = true) (b : Nat)
    (htries : (twc s c.val).tries + 1 ≤ prmN s (P.TWB_RETRY c.val)) :
    ∃ t, exec (.twArbLost c b) s = .next t ∧ t = { s with twcs := t.twcs, evnt.inflight := s.evnt.inflight ++ [⟨566 + 4 * c.val, b, none⟩] } ∧ (∀ k, k ≠ c.val → twc t k = twc s k) ∧
      twc t c.val = { twc s c.val with
        flags := setFlag (twc s c.val).flags 1, nLost := (twc s c.val).nLost + 1, tries := (twc s c.val).tries + 1, busBusy := true, begun := false } := by
  obtain ⟨t, ht, hexec⟩ := execTwArbLost_retried hact hb b
  exact ⟨t, by rw [hexec, if_neg (Nat.not_lt.2 htries)], ht.raised, ht.other, ht.here⟩

theorem exec_twArbLost_ends {c : Fin 8} {s : State} (hact : (twc s c.val).act = 1) (hb : (twc s c.val).begun = true) (b : Nat)
    (htries : prmN s (P.TWB_RETRY c.val) < (twc s c.val).tries + 1) :
    ∃ t, exec (.twArbLost c b) s = .next t ∧ (twc t c.val).act = 0 ∧ (twc t c.val).result = 4 ∧ hasFlag (twc t c.val).flags 1 = true ∧ (twc t c.val).nLostEnd = (twc s c.val).nLostEnd + 1 := by
  obtain ⟨t, ht, hexec⟩ := execTwArbLost_retried hact hb b
  obtain ⟨n, e, y, hcut, hy⟩ := cutTw_cut (by rw [ht.here]; exact hact) 4
  refine ⟨_, by rw [hexec, if_pos htries, hcut], ?_⟩
  rw [twc_setTwc_self, hy, ht.here]
  refine ⟨rfl, rfl, ?_, rfl⟩
  simp [hasFlag, setFlag]

theorem exec_twArbLost_alert {c : Fin 8} {s : State} (hact : (twc s c.val).act ≤ 1) (hb : (twc s c.val).begun = false) (hbus : (twc s c.val).busBusy = false)
    (hdue : alertDue s c.val = true) (b : Nat) :
    ∃ t, exec (.twArbLost c b) s = .next t ∧ t = { s with twcs := t.twcs, evnt.inflight := s.evnt.inflight ++ [⟨566 + 4 * c.val, b, none⟩] } ∧
      (twc t c.val).nLost = (twc s c.val).nLost + 1 ∧ (twc t c.val).busBusy = true ∧ (twc t c.val).act = (twc s c.val).act ∧
      ((twc s c.val).alertTries + 1 ≤ prmN s (P.TWB_RETRY c.val) → (twc t c.val).alertTries = (twc s c.val).alertTries + 1 ∧ (twc t c.val).episode = (twc s c.val).episode) ∧
      (prmN s (P.TWB_RETRY c.val) < (twc s c.val).alertTries + 1 → (twc t c.val).alertTries = 0 ∧ (twc t c.val).episode = (twc s c.val).episode + 1 ∧ (twc t c.val).nLostEnd = (twc s c.val).nLostEnd + 1) := by
  have hlost := lost_only c.val b s
  generalize ht : raise (twSource c.val 1) b (setTwc c.val { twc s c.val with flags := setFlag (twc s c.val).flags 1, nLost := (twc s c.val).nLost + 1 } s) = t at hlost
  have hexec : exec (.twArbLost c b) s = .next (alertLost c.val t) := by
    show execTwArbLost c b s = _
    rw [execTwArbLost, if_pos (.inr hb), if_pos (by simp [hdue, hact, hbus]), ← ht]
  have hset : TwOnly c.val t (alertLost c.val t) _ := setTwc_only ..
  rw [hlost.here, hlost.keeps (fun u => prmN u (P.TWB_RETRY c.val))] at hset
  have hall := hlost.trans hset
  refine ⟨_, hexec, hall.raised, ?_⟩
  rw [hall.here]
  refine ⟨rfl, rfl, rfl, fun h => ?_, fun h => ?_⟩
  · have hnot : ¬ prmN (raise (566 + 4 * c.val) b s) (P.TWB_RETRY c.val) < (twc s c.val).alertTries + 1 := Nat.not_lt.2 h
    simp only [hnot, decide_false]
    exact ⟨rfl, rfl⟩
  · have hlast : prmN (raise (566 + 4 * c.val) b s) (P.TWB_RETRY c.val) < (twc s c.val).alertTries + 1 := h
    simp only [hlast, decide_true]
    exact ⟨rfl, rfl, rfl⟩

/-! ### Holds of the bus and their cure (R450, R451) -/

/-- R450: what a hold makes of the channel: its transaction is cut off and the hold is recorded, counted, raised and logged. -/
def heldTw (c k : Nat) (f : Word32 → Word32) (s : State) : State :=
  logDevice (twSource c 2) 0x0702 0 (c + 256 * k) (raise (twSource c 2) k (setTwc c { twc (cutTw c 5 s) c with
    stuck := k, flags := f (twc (cutTw c 5 s) c).flags, nHolds := (twc (cutTw c 5 s) c).nHolds + 1, busBusy := true } (cutTw c 5 s)))

/-- R448: a cut leaves the log, the parameters and the holds counted, and gives a transaction its result. -/
theorem cutTw_spec (c result : Nat) (s : State) : (twc (cutTw c result s) c).nHolds = (twc s c).nHolds ∧ (cutTw c result s).sys = s.sys ∧
    (∀ id, prmB (cutTw c result s) id = prmB s id) ∧ twQuiet (cutTw c result s) c = twQuiet s c ∧ ((twc s c).act = 1 → (twc (cutTw c result s) c).result = result) := by
  by_cases h : (twc s c).act = 1
  · obtain ⟨n, e, y, hcut, hy⟩ := cutTw_cut h result
    rw [hcut, twc_setTwc_self]
    refine ⟨?_, rfl, fun _ => rfl, rfl, fun _ => ?_⟩
    · rw [hy]
    · rw [hy]
  · rw [cutTw_of_act_ne h]
    exact ⟨rfl, rfl, fun _ => rfl, rfl, fun hact => absurd hact h⟩

theorem heldTw_spec (c k : Nat) (f : Word32 → Word32) (s : State) : (twc (heldTw c k f s) c).stuck = k ∧ (twc (heldTw c k f s) c).nHolds = (twc s c).nHolds + 1 ∧
    (heldTw c k f s).sys.log.next = s.sys.log.next + 1 ∧ ⟨567 + 4 * c, k, none⟩ ∈ (heldTw c k f s).evnt.inflight ∧ twQuiet (heldTw c k f s) c = twQuiet s c ∧
    (∀ id, prmB (heldTw c k f s) id = prmB s id) ∧ ((twc s c).act = 1 → (twc (heldTw c k f s) c).result = 5) := by
  obtain ⟨hholds, hsys, hprm, hquiet, hresult⟩ := cutTw_spec c 5 s
  unfold heldTw
  have hnext (e : LogEntry) (u : State) : (logNow e u).sys.log.next = u.sys.log.next + 1 := logCommit_next ..
  generalize hu : setTwc c _ (cutTw c 5 s) = u
  have htwc : twc u c = { twc (cutTw c 5 s) c with
      stuck := k, flags := f (twc (cutTw c 5 s) c).flags, nHolds := (twc (cutTw c 5 s) c).nHolds + 1, busBusy := true } := by rw [← hu, twc_setTwc_self]
  have hlog := logDevice_only (twSource c 2) 0x0702 0 (c + 256 * k) (raise (twSource c 2) k u)
  rw [hlog.keeps (fun v => twc v c), hlog.keeps (fun v => v.evnt.inflight), hlog.keeps (fun v => twQuiet v c), show twc (raise (twSource c 2) k u) c = twc u c from rfl, htwc]
  refine ⟨rfl, congrArg (· + 1) hholds, ?_, ?_, ?_, fun id => ?_, hresult⟩
  · refine (hnext _ _).trans ?_
    rw [show (raise (twSource c 2) k u).sys = s.sys by rw [← hu]; exact hsys]
  · rw [show 567 + 4 * c = twSource c 2 by unfold twSource; omega]
    exact List.mem_append_right _ (List.mem_singleton.2 rfl)
  · rw [← hu]
    exact hquiet
  · rw [hlog.keeps (fun v => prmB v id), ← hu]
    exact hprm id

/-- R450: a hold cuts off the transaction, is recorded, raised and logged, and is cured as the policy has it. -/
theorem exec_twTimeout {c : Fin 8} {s : State} (hrun : (twc s c.val).run = true) (hact : (twc s c.val).act < 2) {sda scl : Bool} (hline : (sda || scl) = true) (st : Bool) :
    ∃ t, exec (.twTimeout c sda scl st) s = .next t ∧ (twc t c.val).stuck = b2n sda + 2 * b2n scl ∧ (twc t c.val).nHolds = (twc s c.val).nHolds + 1 ∧ t.sys.log.next = s.sys.log.next + 1 ∧
      ⟨567 + 4 * c.val, b2n sda + 2 * b2n scl, none⟩ ∈ t.evnt.inflight ∧ ((twc s c.val).act = 1 → (twc t c.val).result = 5) ∧
      (2 ≤ c.val → twQuiet s c.val = false → (prmB s (P.TWB_RST_AUTO c.val) || st) = true → (twc t c.val).act = 3) := by
  have hexec : ∃ u, u = heldTw c.val (b2n sda + 2 * b2n scl) (fun x => setFlagIf sda (setFlagIf scl x 2) 3) s ∧
      exec (.twTimeout c sda scl st) s = if twQuiet u c.val then .next u
        else if c.val < 2 then .next (if prm u (P.TWB_CLEAR_POLICY c.val) = 1 then beginClear c.val u else u)
        else .next (if prmB u (P.TWB_RST_AUTO c.val) || st then setTwc c.val { twc u c.val with act := 3 } u else u) := by
    refine ⟨_, rfl, ?_⟩
    show execTwTimeout c sda scl st s = _
    rw [execTwTimeout, if_neg (by simp [hrun, hline, hact])]
    rfl
  obtain ⟨u, hu, hexec⟩ := hexec
  obtain ⟨hstuck, hholds, hnext, hraised, hquiet, hprm, hresult⟩ := heldTw_spec c.val (b2n sda + 2 * b2n scl) (fun x => setFlagIf sda (setFlagIf scl x 2) 3) s
  rw [← hu] at hstuck hholds hnext hraised hquiet hprm hresult
  have hcure : ∃ t y, exec (.twTimeout c sda scl st) s = .next t ∧ TwOnly c.val u t y ∧ y.stuck = (twc u c.val).stuck ∧ y.nHolds = (twc u c.val).nHolds ∧
      y.result = (twc u c.val).result ∧ (2 ≤ c.val → twQuiet s c.val = false → (prmB s (P.TWB_RST_AUTO c.val) || st) = true → y.act = 3) := by
    have hself : TwOnly c.val u u (twc u c.val) := ⟨rfl, fun _ _ => rfl, rfl⟩
    rw [hexec, hquiet, hprm]
    by_cases hq : twQuiet s c.val = true
    · exact ⟨u, _, if_pos hq, hself, rfl, rfl, rfl, fun _ hq' _ => by simp [hq] at hq'⟩
    rw [if_neg hq]
    by_cases hc : c.val < 2
    · rw [if_pos hc]
      split
      · refine ⟨_, _, rfl, beginClear_only hself, ?_, ?_, ?_, fun h => absurd hc (Nat.not_lt.2 h)⟩
        all_goals split <;> rfl
      · exact ⟨u, _, rfl, hself, rfl, rfl, rfl, fun h => absurd hc (Nat.not_lt.2 h)⟩
    · rw [if_neg hc]
      split
      · exact ⟨_, _, rfl, setTwc_only .., rfl, rfl, rfl, fun _ _ _ => rfl⟩
      next hoff => exact ⟨u, _, rfl, hself, rfl, rfl, rfl, fun _ _ h => absurd h hoff⟩
  obtain ⟨t, y, ht, honly, hys, hyn, hyr, hya⟩ := hcure
  refine ⟨t, ht, ?_, ?_, ?_, ?_, fun h => ?_, fun h hq hr => ?_⟩
  · rw [honly.here, hys, hstuck]
  · rw [honly.here, hyn, hholds]
  · rw [honly.keeps (fun v => v.sys.log.next), hnext]
  · rw [honly.keeps (fun v => v.evnt.inflight)]
    exact hraised
  · rw [honly.here, hyr, hresult h]
  · rw [honly.here, hya h hq hr]

theorem exec_cureDone {c : Fin 8} {s : State} (h : 3 ≤ (twc s c.val).act) (f : Bool) : exec (.cureDone c f) s = .next (setTwc c.val { twc s c.val with
    act := 0, stuck := if f = true then 0 else (twc s c.val).stuck, flags := setFlag (twc s c.val).flags (if f = true then 4 else 5)
    nCured := (twc s c.val).nCured + b2n f, nCureBad := (twc s c.val).nCureBad + b2n (!f) } s) := by
  show execCureDone c f s = _
  rw [execCureDone, if_neg (by omega)]

/-! ### Alerts and a free bus (R452, R453) -/

theorem exec_twAlert_read {c : Fin 8} {s : State} (hrun : (twc s c.val).run = true) (hauto : prmB s (P.TWB_ALERT_AUTO c.val) = true) (hact : (twc s c.val).act ≤ 1)
    (hb : (twc s c.val).begun = false) (hstop : (twc s c.val).alertStop = false) (hbus : (twc s c.val).busBusy = false) (hq : twQuiet s c.val = false)
    (hroom : (twc s c.val).fifo.length < 8) (d : Fin 128) :
    ∃ t, exec (.twAlert c true (some d)) s = .next t ∧ (twc t c.val).fifo = (twc s c.val).fifo ++ [d.val] ∧
      (twc t c.val).episode = (twc s c.val).episode + 1 ∧ (twc t c.val).alertStop = decide (16 ≤ (twc s c.val).episode + 1) ∧
      t.evnt.inflight = s.evnt.inflight ++ [⟨568 + 4 * c.val, d.val, none⟩] ∧ t = { s with twcs := t.twcs, evnt.inflight := t.evnt.inflight } := by
  have hpin := setTwc_only c.val { twc s c.val with alertPin := true } s
  generalize ht : setTwc c.val { twc s c.val with alertPin := true } s = t at hpin
  have hdue : alertDue t c.val = true := by
    rw [alertDue_eq hpin]
    simp [hrun, hauto, hstop, hq]
  have hexec : exec (.twAlert c true (some d)) s = .next (alertRead c.val (some d) t) := by
    show execTwAlert c true (some d) s = _
    rw [execTwAlert, if_neg (by decide)]
    dsimp only
    rw [ht, if_pos (by simp [hdue, hact, hb, hbus])]
  have hread : ∃ x, TwOnly c.val (raise (568 + 4 * c.val) d.val t) (alertRead c.val (some d) t) x ∧ x.fifo = (twc s c.val).fifo ++ [d.val] ∧
      x.episode = (twc s c.val).episode + 1 ∧ x.alertStop = decide (16 ≤ (twc s c.val).episode + 1) := by
    unfold alertRead
    rw [hpin.here]
    dsimp only
    rw [if_pos hroom, show twSource c.val 3 = 568 + 4 * c.val by unfold twSource; omega]
    exact ⟨_, setTwc_only c.val _ (raise (568 + 4 * c.val) d.val t), rfl, rfl, rfl⟩
  obtain ⟨x, hx, hfifo, hepisode, hstops⟩ := hread
  refine ⟨_, hexec, ?_, ?_, ?_, ?_, ?_⟩
  · rw [hx.here, hfifo]
  · rw [hx.here, hepisode]
  · rw [hx.here, hstops]
  · rw [hx.keeps (fun u => u.evnt.inflight), ← hpin.keeps (fun u => u.evnt.inflight)]
    rfl
  · have hall := ((hpin.raise (568 + 4 * c.val) d.val).trans hx).raised
    rw [hx.keeps (fun u => u.evnt.inflight), show (raise (568 + 4 * c.val) d.val t).evnt.inflight = s.evnt.inflight ++ [⟨568 + 4 * c.val, d.val, none⟩] by
      rw [← hpin.keeps (fun u => u.evnt.inflight)]
      rfl]
    exact hall

theorem exec_twAlert_ends (c : Fin 8) (d : Option (Fin 128)) (s : State) :
    ∃ t, exec (.twAlert c false d) s = .next t ∧ t = { s with twcs := t.twcs } ∧ (∀ k, k ≠ c.val → twc t k = twc s k) ∧ twc t c.val = { twc s c.val with
    alertPin := false, episode := 0, alertTries := 0, alertStop := false, begun := (twc s c.val).begun || ((twc s c.val).act == 1 && !(twc s c.val).busBusy) } := by
  obtain ⟨honly, hother, hhere⟩ := beginTw_only (setTwc_only c.val { twc s c.val with alertPin := false, episode := 0, alertTries := 0, alertStop := false } s)
  refine ⟨_, rfl, honly, hother, hhere.trans ?_⟩
  simp

theorem exec_twAlertRead {a : Acc} {c : Fin 8} {s : State} (h : s.accessible a) {d : Nat} {ds : List Nat} (hf : (twc s c.val).fifo = d :: ds) :
    exec (.twAlertRead a c) s = .next (setTwc c.val { twc s c.val with fifo := ds } { s with core.rdata := (2 ^ 31 + 2 ^ 24 * ds.length + d) % 2 ^ 32 }) := by
  show execTwAlertRead a c s = _
  rw [execTwAlertRead, windowRead_permitted h]
  simp only [hf]
  have htwc (r : Nat) : twc { s with core.rdata := r } c.val = twc s c.val := rfl
  simp only [htwc, hf, List.drop_succ_cons, List.drop_zero]

theorem exec_busFree {c : Fin 8} {s : State} (hrun : (twc s c.val).run = true) :
    ∃ t, exec (.busFree c) s = .next t ∧ t = { s with twcs := t.twcs } ∧ (∀ k, k ≠ c.val → twc t k = twc s k) ∧ twc t c.val = { twc s c.val with
    busBusy := false, begun := (twc s c.val).begun || ((twc s c.val).act == 1 && !alertDue s c.val) } := by
  obtain ⟨honly, hother, hhere⟩ := beginTw_only (setTwc_only c.val { twc s c.val with busBusy := false } s)
  refine ⟨beginTw c.val (setTwc c.val { twc s c.val with busBusy := false } s), ?_, honly, hother, hhere.trans ?_⟩
  · show execBusFree c s = _
    rw [execBusFree, if_pos hrun]
  · simp [alertDue]

/-- Settles O39: each command by the lemma of its name above. -/
theorem twoWireCommands : Obligations.TwoWireCommands := by
  unfold Obligations.TwoWireCommands
  exact ⟨fun _ _ v _ h hr => exec_go h hr v, fun _ _ v _ h hr hc hrun hact hq => exec_twbClear h hr hc hrun hact hq v,
    fun _ _ v _ h hr hc hq hact => exec_twbReset_idle h hr hc hq hact v, fun _ _ v _ h hr hc hq hact => exec_twbReset_cut h hr hc hq hact v,
    fun _ r n d _ _ hact hb hg => exec_twDone hact hb r n d hg, fun _ b _ hact hb htries => exec_twArbLost_again hact hb b htries,
    fun _ b _ hact hb hbus hdue => exec_twArbLost_alert hact hb hbus hdue b, fun _ b _ hact hb htries => exec_twArbLost_ends hact hb b htries,
    fun _ _ _ st _ hrun hact hline => exec_twTimeout hrun hact hline st, fun _ f _ h => exec_cureDone h f,
    fun _ d _ hrun hauto hact hb hstop hbus hq hroom => exec_twAlert_read hrun hauto hact hb hstop hbus hq hroom d, exec_twAlert_ends,
    fun _ _ _ _ _ h hf => exec_twAlertRead h hf, fun _ _ hrun => exec_busFree hrun⟩

end Sys2Proof.Machine
end

section
/-! PROOFS. The check units and the errors of their memories (R404 to R411). -/
namespace Sys2Proof.Machine
open Sys2Proof

/-! ### Units without a job -/

/-- R408: the end of a job waits for a unit that has one. -/
theorem endCrcJob_of_none {k : Nat} {s : State} (h : (crcUnit s k).job = none) : endCrcJob k s = s := by
  simp only [endCrcJob, h]

/-- R408: with no job that waits none begins. -/
theorem pumpCrcJobs_of_nil {s : State} (h : s.chk.jobs = []) : pumpCrcJobs s = s := by
  simp only [pumpCrcJobs, h]

theorem feedWord_nil {x : CrcUnit} (h : x.input = []) : feedWord x = x := by
  simp only [feedWord, h]

/-- R406: the next word gives its bytes up to the limit. -/
theorem feedWord_cons {x : CrcUnit} {w : QWord} {ws : List QWord} (h : x.input = w :: ws) {n : Nat} (hn : n = if x.limit = 0 then 8 else min 8 (x.limit - x.count)) :
    feedWord x = { x with
      input := ws, state := crcFeed (crcPreset x.preset) x.state ((leBytes 8 w.val).take n), count := (x.count + n) % 2 ^ 32, bytes := x.bytes + n
      reached := x.reached || (x.limit != 0 && decide (x.count + n = x.limit)), errMark := x.errMark || (w.err && n != 0) } := by
  subst hn
  simp only [feedWord, h]

theorem feedWord_job (x : CrcUnit) : (feedWord x).job = x.job := by
  unfold feedWord
  split <;> rfl

/-- R406: a unit without a job takes its next word, and nothing else changes. -/
theorem exec_crcFeed_idle {u : Fin 8} {s : State} (hjob : (crcUnit s u.val).job = none) (hjobs : s.chk.jobs = []) :
    exec (.crcFeed u) s = .next (setCrcUnit u.val (feedWord (crcUnit s u.val)) s) := by
  show execCrcFeed u s = _
  rw [execCrcFeed, endCrcJob_of_none (by rw [crcUnit_setCrcUnit_self, feedWord_job, hjob])]
  exact congrArg _ (pumpCrcJobs_of_nil hjobs)

/-! ### Presets, states and their captures (R405 to R407) -/

theorem exec_preset {a : Acc} {u : Fin 8} {s : State} (ha : s.accessible a) (hr : crcRight s a.principal u.val = true) (v : Word32) :
    ∃ t, exec (.preset a u v) s = .next t ∧ t = setCrcUnit u.val (if crcBusy s u.val = true then { crcUnit s u.val with refused := true, nRefused := (crcUnit s u.val).nRefused + 1 }
      else { crcUnit s u.val with preset := v.toNat % 4, state := (crcPreset (v.toNat % 4)).init, count := 0, reached := false, errMark := false, cfgRsv := v.toNat / 4 }) (s.logged t) := by
  obtain ⟨u', hlog, hw⟩ := windowWrite_right a true 0x15 (u.val * 0x40) v.toNat
    (crcWrite u.val (fun x => { crcInit (v.toNat % 4) x with cfgRsv := v.toNat / 4 })) s ha
  refine ⟨crcWrite u.val (fun x => { crcInit (v.toNat % 4) x with cfgRsv := v.toNat / 4 }) u', ?_, ?_⟩
  · show execPreset a u v s = _
    rw [execPreset, hr, hw]
  · rw [hlog.eq_logged]
    rfl

theorem exec_init {a : Acc} {u : Fin 8} {s : State} (ha : s.accessible a) (hr : crcRight s a.principal u.val = true) :
    exec (.init a u) s = .next (setCrcUnit u.val (if crcBusy s u.val = true then { crcUnit s u.val with refused := true, nRefused := (crcUnit s u.val).nRefused + 1 }
      else { crcUnit s u.val with state := (crcPreset (crcUnit s u.val).preset).init, count := 0, reached := false, errMark := false }) s) := by
  show execInit a u s = _
  rw [execInit, hr, windowWrite_unlogged ha]
  rfl

/-- R407: at a boundary the capture keeps state, result and count as they stand. -/
theorem toBoundary_at {x : CrcUnit} (h : x.count % 64 = 0) : ∀ n, toBoundary n x = x
  | 0 => rfl
  | _ + 1 => if_pos (.inl h)

/-- R407: the capture of a unit, taken at the next boundary. -/
def captured (k : Nat) (s : State) : State :=
  setCrcUnit k { toBoundary 8 (crcUnit s k) with
    saved := { state := (toBoundary 8 (crcUnit s k)).state, result := crcUnitResult (toBoundary 8 (crcUnit s k)), count := (toBoundary 8 (crcUnit s k)).count } } s

theorem captured_at {k : Nat} {s : State} (h : (crcUnit s k).count % 64 = 0) :
    captured k s = setCrcUnit k { crcUnit s k with saved := { state := (crcUnit s k).state, result := crcUnitResult (crcUnit s k), count := (crcUnit s k).count } } s := by
  rw [captured, toBoundary_at h]

theorem exec_ckStateCapture {a : Acc} {u : Fin 8} {x : CrcUnit} {s : State} (ha : s.accessible a) (hx : x = crcUnit s u.val) (hcount : x.count % 64 = 0) (hjob : x.job = none) :
    exec (.ckStateCapture a u) s = .next (setCrcUnit u.val { x with saved := { state := x.state, result := crcResult (crcPreset x.preset) x.state, count := x.count } }
      { s with core.rdata := x.state % 2 ^ 32 }) := by
  subst hx
  have hrun : exec (.ckStateCapture a u) s = .next (endCrcJob u.val (captured u.val { s with core.rdata := (crcUnit (captured u.val s) u.val).saved.state % 2 ^ 32 % 2 ^ 32 })) :=
    congrArg (fun t => Host.Outcome.next (endCrcJob u.val t)) (windowRead_permitted ha ..)
  rw [hrun, captured_at hcount, captured_at (by exact hcount), crcUnit_setCrcUnit_self, Nat.mod_mod]
  exact congrArg _ (endCrcJob_of_none (by rw [crcUnit_setCrcUnit_self]; exact hjob))

/-- R407: a unit with a half of its state laid by a restore. -/
def restored (hi : Bool) (value : Nat) (x : CrcUnit) : CrcUnit :=
  let v := (if hi then value * 2 ^ 32 + x.state % 2 ^ 32 else x.state / 2 ^ 32 * 2 ^ 32 + value) % 2 ^ (crcPreset x.preset).width
  { x with state := v, saved.state := if hi then v / 2 ^ 32 * 2 ^ 32 + x.saved.state % 2 ^ 32 else x.saved.state / 2 ^ 32 * 2 ^ 32 + v % 2 ^ 32 }

theorem exec_ckStateRestore {a : Acc} {u : Fin 8} {x : CrcUnit} {s : State} (ha : s.accessible a) (hr : crcRight s a.principal u.val = true)
    (hx : x = crcUnit s u.val) (hbusy : crcBusy s u.val = false) (hi : Bool) (v : Word32) :
    ∃ y, exec (.ckStateRestore a u hi v) s = .next (setCrcUnit u.val y s) ∧
      y.state = (if hi then v.toNat * 2 ^ 32 + x.state % 2 ^ 32 else x.state / 2 ^ 32 * 2 ^ 32 + v.toNat) % 2 ^ (crcPreset x.preset).width ∧
      y = { x with state := y.state, saved.state := y.saved.state } := by
  subst hx
  have hrun : exec (.ckStateRestore a u hi v) s = .next (crcWrite u.val (restored hi v.toNat) s) := by
    show execCkStateRestore a u hi v s = _
    rw [execCkStateRestore, hr, windowWrite_unlogged ha]
    rfl
  rw [hrun, crcWrite, if_neg (by rw [hbusy]; decide)]
  exact ⟨_, rfl, rfl, rfl⟩

/-! ### Errors of the SRAM (R404, R411) -/

theorem exec_chkEccCe (m : Fin 9) (i : Word32) (s : State) : ∃ t, exec (.chkEccCe m i) s = .next t ∧ t.chk.ce = s.chk.ce + 1 ∧ t.chk.ue = s.chk.ue ∧ t.mem = s.mem ∧
    t.chk.ecc = (if s.chk.ecc.valid = true ∧ s.chk.ecc.uncorr = true then s.chk.ecc else ⟨true, false, m.val, i.toNat⟩) ∧
    ∃ v, t.evnt.inflight = s.evnt.inflight ++ [⟨555, v, none⟩] := by
  refine ⟨_, rfl, ?_⟩
  rw [recordEcc_only]
  refine ⟨rfl, rfl, rfl, ?_, _, rfl⟩
  show (recordEcc false m.val i.toNat { s with chk.ce := s.chk.ce + 1 }).chk.ecc = _
  simp only [recordEcc, Bool.not_false, Bool.and_true, Bool.and_eq_true]
  split <;> rfl

/-- What an uncorrectable error loses outside the coding memory: nothing of the memory, the counts, the record, the log or the events. -/
theorem eccEffect_keeps {m : Nat} (hm : m ≠ 7) (p : Nat × Nat) (s : State) :
    (eccEffect m p s).chk.ue = s.chk.ue ∧ (eccEffect m p s).chk.ce = s.chk.ce ∧ (eccEffect m p s).chk.ecc = s.chk.ecc ∧
      (eccEffect m p s).sys = s.sys ∧ (eccEffect m p s).evnt.inflight = s.evnt.inflight := by
  have hprof : ∀ c col, (profEcc c col s).chk = s.chk ∧ (profEcc c col s).sys = s.sys ∧ (profEcc c col s).evnt = s.evnt := by
    intro c col
    unfold profEcc
    split
    · exact ⟨rfl, rfl, rfl⟩
    · split <;> exact ⟨rfl, rfl, rfl⟩
  unfold eccEffect
  split
  · exact ⟨rfl, rfl, rfl, rfl, rfl⟩
  · split
    · exact ⟨rfl, rfl, rfl, rfl, rfl⟩
    · split
      · obtain ⟨hchk, hsys, hevnt⟩ := hprof p.1 p.2
        rw [hchk, hsys, hevnt]
        exact ⟨rfl, rfl, rfl, rfl, rfl⟩
      · exact ⟨rfl, rfl, rfl, rfl, rfl⟩

/-- R404: an error of the queue pool marks its word. -/
theorem eccEffect_queue (p : Nat × Nat) (s : State) :
    (queue (eccEffect 4 p s) p.1).words = (queue s p.1).words.mapIdx (fun k w => if k = p.2 then { w with err := true } else w) := by
  show (queue (setQueue p.1 _ s) p.1).words = _
  rw [queue_setQueue_self]

theorem exec_chkEccUe {m : Fin 9} (hm : m.val ≠ 7) (i : Word32) (p : Nat × Nat) (s : State) :
    ∃ t, exec (.chkEccUe m i p) s = .next t ∧ t.chk.ue = s.chk.ue + 1 ∧ t.chk.ce = s.chk.ce ∧ t.mem = s.mem ∧
    t.chk.ecc = ⟨true, true, m.val, i.toNat⟩ ∧ t.sys.log.next = s.sys.log.next + 1 ∧ (∃ v, t.evnt.inflight = s.evnt.inflight ++ [⟨556, v, none⟩]) ∧
    (m.val = 4 → (queue t p.1).words = (queue s p.1).words.mapIdx (fun k w => if k = p.2 then { w with err := true } else w)) := by
  refine ⟨_, rfl, ?_⟩
  rw [recordEcc_uncorr]
  have hlog := logDevice_only 556 0x0701 0 (m.val + i.toNat * 256) (raiseOpen 556 { s with chk.ue := s.chk.ue + 1, chk.ecc := ⟨true, true, m.val, i.toNat⟩ })
  have hnext : (logDevice 556 0x0701 0 (m.val + i.toNat * 256) (raiseOpen 556 { s with chk.ue := s.chk.ue + 1, chk.ecc := ⟨true, true, m.val, i.toNat⟩ })).sys.log.next = s.sys.log.next + 1 :=
    logCommit_next ..
  have hchk := hlog.keeps State.chk
  have hmem := hlog.keeps State.mem
  have hevnt := hlog.keeps State.evnt
  have hqdma := hlog.keeps State.qdma
  dsimp only
  generalize logDevice .. = u at hchk hmem hevnt hqdma hnext ⊢
  obtain ⟨hue, hce, hecc, hsys, hin⟩ := eccEffect_keeps hm p u
  refine ⟨?_, ?_, ?_, ?_, ?_, ?_, ?_⟩
  · rw [hue, hchk]; rfl
  · rw [hce, hchk]; rfl
  · rw [eccEffect_mem, hmem]; rfl
  · rw [hecc, hchk]; rfl
  · rw [hsys, hnext]
  · exact ⟨_, by rw [hin, hevnt]; rfl⟩
  · intro h4
    rw [h4, eccEffect_queue, queue, hqdma]
    rfl

theorem exec_chkEccHiRead {a : Acc} {s : State} (ha : s.accessible a) : exec (.chkEccHiRead a) s = .next { s with
    chk.ecc := { index := s.chk.ecc.index }, core.rdata := (2 ^ 31 * b2n s.chk.ecc.valid + 2 ^ 30 * b2n s.chk.ecc.uncorr + s.chk.ecc.memory) % 2 ^ 32 } :=
  congrArg Host.Outcome.next (windowRead_permitted ha ..)

/-- Settles O36. -/
theorem crcUnitCommands : Obligations.CrcUnitCommands := by
  unfold Obligations.CrcUnitCommands
  refine ⟨fun a u v s ha hr => exec_preset ha hr v, fun a u s ha hr => exec_init ha hr, ?_, ?_, fun a u x s ha hx hc hj => exec_ckStateCapture ha hx hc hj,
    fun a u hi v x s ha hr hx hb => exec_ckStateRestore ha hr hx hb hi v, exec_chkEccCe, fun m i p s hm => exec_chkEccUe hm i p s, fun a s ha => exec_chkEccHiRead ha⟩
  · rintro u _ w ws n s rfl hin hjob hjobs hn
    rw [exec_crcFeed_idle hjob hjobs, feedWord_cons hin hn]
  · intro u s hin hjob hjobs
    rw [exec_crcFeed_idle hjob hjobs, feedWord_nil hin]

end Sys2Proof.Machine
end

section
/-! PROOFS. The rules of the queues: what a change of one leaves, and the commands of their windows (R380 to R383, R390). -/
namespace Sys2Proof.Machine
open Sys2Proof

/-! ### What a change of a queue leaves of the channels -/

/-- A channel that is noted keeps all but whether its level has been reached. -/
theorem noteLevel_chan (sz : Nat → Nat) (c k : Nat) (d : Qdma) :
    (noteLevel sz c d).chans.get {} k = { d.chans.get {} k with above := ((noteLevel sz c d).chans.get {} k).above } := by
  unfold noteLevel
  dsimp only
  split
  · by_cases hk : k = c
    · subst hk
      simp only [Map.get_set_self]
    · simp only [Map.get_set, if_neg hk]
  · rfl

theorem foldl_noteLevel_chan (sz : Nat → Nat) (cs : List Nat) (k : Nat) (d : Qdma) :
    (cs.foldl (fun d c => noteLevel sz c d) d).chans.get {} k = { d.chans.get {} k with above := ((cs.foldl (fun d c => noteLevel sz c d) d).chans.get {} k).above } := by
  induction cs generalizing d with
  | nil => rfl
  | cons c cs ih =>
    rw [List.foldl_cons, ih, noteLevel_chan]

/-- The engine's turn and the supervisor's transfers stay. -/
theorem foldl_noteLevel_turn (sz : Nat → Nat) (cs : List Nat) (d : Qdma) :
    (cs.foldl (fun d c => noteLevel sz c d) d).rr = d.rr ∧ (cs.foldl (fun d c => noteLevel sz c d) d).sup = d.sup := by
  have hnote : ∀ c d, (noteLevel sz c d).rr = d.rr ∧ (noteLevel sz c d).sup = d.sup := by
    intro c d
    unfold noteLevel
    dsimp only
    split <;> exact ⟨rfl, rfl⟩
  induction cs generalizing d with
  | nil => exact ⟨rfl, rfl⟩
  | cons c cs ih =>
    rw [List.foldl_cons, (ih _).1, (ih _).2]
    exact hnote c d

/-- R391: the channels of a queue notice its level, and that is all they notice. -/
theorem chan_setQueue (n c : Nat) (x : Queue) (s : State) : chan (setQueue n x s) c = { chan s c with above := (chan (setQueue n x s) c).above } :=
  foldl_noteLevel_chan ..

theorem setQueue_rr (n : Nat) (x : Queue) (s : State) : (setQueue n x s).qdma.rr = s.qdma.rr := (foldl_noteLevel_turn ..).1
theorem setQueue_sup (n : Nat) (x : Queue) (s : State) : (setQueue n x s).qdma.sup = s.qdma.sup := (foldl_noteLevel_turn ..).2

/-! ### The consumer of a queue, and its fill -/

/-- The consumer of a queue is known by its place and its channel. -/
theorem consumerOf_congr {s t : State} {q : Nat} (h : (queue t q).chanCons = (queue s q).chanCons) : consumerOf t q = consumerOf s q := by
  simp only [consumerOf, h]

theorem consumerOf_setQueue {s : State} {q : Nat} {x : Queue} (h : x.chanCons = (queue s q).chanCons) : consumerOf (setQueue q x s) q = consumerOf s q :=
  consumerOf_congr (by rw [queue_setQueue_self, h])

/-- R382: the events of a fill that goes from `old` to `new`. -/
def readyEvents (s : State) (q old new : Nat) : List InFlight :=
  if consumerOf s q = 0 ∧ old < prmN s (P.QUEUE_READY_MARK q) ∧ prmN s (P.QUEUE_READY_MARK q) ≤ new then [⟨378 + 2 * (q / 16), q, none⟩] else []

theorem readyEvents_setQueue {q : Nat} {x : Queue} {s : State} (h : x.chanCons = (queue s q).chanCons) (old new : Nat) :
    readyEvents (setQueue q x s) q old new = readyEvents s q old new := by
  rw [readyEvents, consumerOf_setQueue h]
  rfl

theorem readyCheck_eq (q old : Nat) (s : State) :
    readyCheck q old s = { s with evnt.inflight := s.evnt.inflight ++ readyEvents s q old (queue s q).words.length } := by
  simp only [readyCheck, readyEvents]
  split
  · rfl
  · rw [List.append_nil]

/-- R381: words that come whole join the queue, and a fill that reaches its mark is raised. -/
theorem queueAppend_eq (q : Nat) (ws : List QWord) (s : State) :
    queueAppend q ws s = { setQueue q { queue s q with words := (queue s q).words ++ ws, pushed := (queue s q).pushed + ws.length } s with
      evnt.inflight := s.evnt.inflight ++ readyEvents s q (queue s q).words.length ((queue s q).words.length + ws.length) } := by
  rw [queueAppend, readyCheck_eq, readyEvents_setQueue, queue_setQueue_self, List.length_append]
  · rfl
  · rfl

/-! ### Pushes (R381) -/

/-- No packet ends in a queue that is not a mailbox. -/
theorem serveMail_of_lt {q : Nat} (h : q < 1016) (t : State) : serveMail q t = t := by
  rw [serveMail, if_neg]
  simp only [List.any_eq_true, not_exists, mailQueue, Bool.and_eq_true, beq_iff_eq]
  omega

theorem takeQPushHi_room {a : Acc} {q : Nat} {x : Queue} {s : State} (ha : s.accessible a) (hr : pushRight s a.principal q = true) (hx : x = queue s q)
    (hprod : producer s q = 0) (hskip : s.sys.mailSkip.contains q = false) (hroom : x.words.length < queueSize s q) (v : Word32) :
    takeQPushHi a q v s = queueAppend q [⟨x.pushLo + v.toNat * 2 ^ 32, x.pushEnd, x.pushErr⟩] (setQueue q { x with pushEnd := false, pushErr := false } s) := by
  subst hx
  rw [takeQPushHi, hr, windowWrite_unlogged ha, if_neg (by omega), if_neg (by rw [hskip]; decide), if_neg (by omega)]

theorem takeQPushHi_full {a : Acc} {q : Nat} {x : Queue} {s : State} (ha : s.accessible a) (hr : pushRight s a.principal q = true) (hx : x = queue s q)
    (hprod : producer s q = 0) (hskip : s.sys.mailSkip.contains q = false) (hsize : queueSize s q ≠ 0) (hfull : queueSize s q ≤ x.words.length) (v : Word32) :
    takeQPushHi a q v s = setQueue q { x with flags := setFlag x.flags 0, dropped := x.dropped + 1, pushEnd := false, pushErr := false } s := by
  subst hx
  rw [takeQPushHi, hr, windowWrite_unlogged ha, if_neg (by omega), if_neg (by rw [hskip]; decide), if_pos hfull]

/-- R381: a push to a queue with room reaches that queue, what its channels notice and the event of its fill. -/
theorem takeQPushHi_spec {a : Acc} {q : Nat} {x : Queue} {s : State} (ha : s.accessible a) (hr : pushRight s a.principal q = true) (hx : x = queue s q)
    (hprod : producer s q = 0) (hskip : s.sys.mailSkip.contains q = false) (hroom : x.words.length < queueSize s q) (v : Word32) :
    ∃ t, takeQPushHi a q v s = t ∧
      queue t q = { x with words := x.words ++ [⟨x.pushLo + v.toNat * 2 ^ 32, x.pushEnd, x.pushErr⟩], pushed := x.pushed + 1, pushEnd := false, pushErr := false } ∧
      (∀ k, k ≠ q → queue t k = queue s k) ∧ (∀ c, chan t c = { chan s c with above := (chan t c).above }) ∧
      t = { s with qdma := t.qdma, evnt.inflight := s.evnt.inflight ++ readyEvents s q x.words.length (x.words.length + 1) } := by
  refine ⟨_, rfl, ?_⟩
  rw [takeQPushHi_room ha hr hx hprod hskip hroom v, queueAppend_eq, queue_setQueue_self]
  subst hx
  refine ⟨queue_setQueue_self .., fun k hk => ?_, fun c => ?_, ?_⟩
  · show queue (setQueue q _ (setQueue q _ s)) k = _
    rw [queue_setQueue, if_neg hk, queue_setQueue, if_neg hk]
  · exact (chan_setQueue ..).trans (by rw [chan_setQueue]; rfl)
  · rw [readyEvents_setQueue]
    · rfl
    · rfl

/-! ### Pops (R381) -/

/-- R381: a queue from which a window has popped what it holds. -/
def popped (n : Nat) (s : State) : State :=
  match popWords s n with
  | [] => setQueue n { queue s n with flags := setFlag (queue s n).flags 1, popValid := false, popHi := 0, popEnd := false, popErr := false } s
  | w :: ws => setQueue n { queue s n with words := ws, popHi := w.val / 2 ^ 32, popEnd := w.endm, popErr := w.err, popValid := true, tail := (queue s n).tail && !ws.isEmpty } s

theorem popped_word {n : Nat} {s : State} {w : QWord} {ws : List QWord} (h : popWords s n = w :: ws) :
    popped n s = setQueue n { queue s n with words := ws, popHi := w.val / 2 ^ 32, popEnd := w.endm, popErr := w.err, popValid := true, tail := (queue s n).tail && !ws.isEmpty } s := by
  rw [popped, h]

theorem popped_empty {n : Nat} {s : State} (h : popWords s n = []) :
    popped n s = setQueue n { queue s n with flags := setFlag (queue s n).flags 1, popValid := false, popHi := 0, popEnd := false, popErr := false } s := by
  rw [popped, h]

/-- R381: the low half that a pop returns. -/
def popShown (n : Nat) (s : State) : Nat :=
  match popWords s n with
  | w :: _ => if consumerOf s n = 0 then w.val else 0
  | [] => 0

theorem exec_qPopLo {a : Acc} {q : Fin 1024} {s : State} (ha : s.accessible a) (hr : popRight s a.principal q.val = true) (hcons : consumerOf s q.val = 0) :
    exec (.qPopLo a q) s = .next (popped q.val { s with core.rdata := popShown q.val s % 2 ^ 32 }) := by
  have hrun (u : State) (hu : consumerOf u q.val = 0) : (if consumerOf u q.val ≠ 0 then refuseQueue q.val u else popped q.val u) = popped q.val u := if_neg (not_not.mpr hu)
  show execQPopLo a q s = _
  rw [execQPopLo, hr, windowRead_permitted ha]
  exact congrArg _ (hrun { s with core.rdata := popShown q.val s % 2 ^ 32 } hcons)

theorem exec_qPopLo_word {a : Acc} {q : Fin 1024} {s : State} (ha : s.accessible a) (hr : popRight s a.principal q.val = true) (hcons : consumerOf s q.val = 0)
    {w : QWord} {ws : List QWord} (hsize : queueSize s q.val ≠ 0) (hw : (queue s q.val).words = w :: ws) :
    exec (.qPopLo a q) s = .next (setQueue q.val { queue s q.val with
      words := ws, popHi := w.val / 2 ^ 32, popEnd := w.endm, popErr := w.err, popValid := true, tail := (queue s q.val).tail && !ws.isEmpty } { s with core.rdata := w.val % 2 ^ 32 }) := by
  have hpop : popWords s q.val = w :: ws := (if_neg hsize).trans hw
  have hshown : popShown q.val s = w.val := by simp only [popShown, hpop, hcons, if_true]
  rw [exec_qPopLo ha hr hcons, hshown]
  exact congrArg _ (popped_word hpop)

theorem exec_qPopLo_empty {a : Acc} {q : Fin 1024} {s : State} (ha : s.accessible a) (hr : popRight s a.principal q.val = true) (hcons : consumerOf s q.val = 0)
    (hempty : queueSize s q.val = 0 ∨ (queue s q.val).words = []) :
    exec (.qPopLo a q) s = .next (setQueue q.val { queue s q.val with flags := setFlag (queue s q.val).flags 1, popValid := false, popHi := 0, popEnd := false, popErr := false }
      { s with core.rdata := 0 }) := by
  have hpop : popWords s q.val = [] := by
    unfold popWords
    split
    · rfl
    · next h => exact hempty.resolve_left h
  have hshown : popShown q.val s = 0 := by simp only [popShown, hpop]
  rw [exec_qPopLo ha hr hcons, hshown]
  exact congrArg _ (popped_empty hpop)

/-! ### Flushes (R383, R393) -/

/-- R383: a queue with its words flushed; a unit part-way through a packet leaves it cut. -/
def flushed (mid : Bool) (q : Nat) (s : State) : Queue :=
  { queue s q with
    words := [], tail := false, flags := setFlagIf (mid && producer s q == 2) (queue s q).flags 3, dropped := (queue s q).dropped + b2n (mid && producer s q == 2) }

/-- R393: the bursts under way for a queue are cut with it. -/
def cutBursts (left : Nat) (x : Queue) (s : State) : State :=
  let s := match x.chanCons with | some c => flushSource left c s | none => s
  match x.chanProd with | some c => flushDest left c s | none => s

theorem exec_flush {a : Acc} {q : Fin 1024} {s : State} (ha : s.accessible a) (hq : q.val < 1016)
    (hr : writeRight a.principal (prmN s (P.QUEUE_OWNER q.val)) (prmB s (P.QUEUE_SECURE q.val)) = true) (mid : Bool) (left : Nat) :
    ∃ u, LogOnly s u ∧ exec (.flush a q mid left) s = .next (cutBursts left (queue s q.val) (setQueue q.val (flushed mid q.val s) u)) := by
  have hright : (decide (q.val < 1016) && writeRight a.principal (prmN s (P.QUEUE_OWNER q.val)) (prmB s (P.QUEUE_SECURE q.val))) = true := by simp [hq, hr]
  obtain ⟨u, hlog, hw⟩ := windowWrite_right a true 0x10 (q.val * 0x40 + 0x0C) 1 (fun s => cutBursts left (queue s q.val) (setQueue q.val (flushed mid q.val s) s)) s ha
  refine ⟨u, hlog, ?_⟩
  have hdrop : ∀ (b : Bool) (n : Nat), (if b = true then n + 1 else n) = n + b2n b := by
    intro b n
    cases b <;> rfl
  show execFlush a q mid left s = _
  simp only [execFlush, hright, hdrop]
  refine congrArg _ (hw.trans ?_)
  rw [show flushed mid q.val u = flushed mid q.val s by rw [hlog.eq_logged]; rfl, show queue u q.val = queue s q.val from hlog.keeps (queue · q.val)]

theorem flushSource_idle {left c : Nat} {s : State} (h : (chan s c).bursts = []) : flushSource left c s = s := by
  simp only [flushSource, h, List.reverse_nil]

theorem flushDest_idle {left c : Nat} {s : State} (h : (chan s c).bursts = []) : flushDest left c s = s := by
  simp only [flushDest, h]

/-- A channel without a burst has none to cut. -/
theorem cutBursts_idle {left : Nat} {x : Queue} {s : State} (h : ∀ c, x.chanCons = some c ∨ x.chanProd = some c → (chan s c).bursts = []) : cutBursts left x s = s := by
  have hsource : (match x.chanCons with | some c => flushSource left c s | none => s) = s := by
    split
    · next c hc => exact flushSource_idle (h c (.inl hc))
    · rfl
  simp only [cutBursts, hsource]
  split
  · next c hc => exact flushDest_idle (h c (.inr hc))
  · rfl

theorem chan_setQueue_bursts (n c : Nat) (x : Queue) (s : State) : (chan (setQueue n x s) c).bursts = (chan s c).bursts := by
  rw [chan_setQueue]

/-- R393: the bursts for a flushed queue are discarded; the words already carried stay counted. -/
theorem flushDest_cons {left c : Nat} {b : Burst} {bs : List Burst} {s : State} (h : (chan s c).bursts = b :: bs) :
    flushDest left c s = setQueue ((chan s c).dst % 1024) { queue s ((chan s c).dst % 1024) with pushed := (queue s ((chan s c).dst % 1024)).pushed + carried left b }
      (setChan c { chan s c with
        bursts := (b :: bs).map (fun b => { b with words := [], keep := 0, flushed := true }), withdraw := true, nFlush := (chan s c).nFlush + 1
        nWritten := (chan s c).nWritten + 8 * carried left b } s) := by
  simp only [flushDest, h]

/-- R393: the filler that takes the place of the words not yet carried. -/
def filler (left : Nat) (x : Chan) (b : Burst) : List QWord :=
  (List.range (b.keep - carried left b)).map (fun i => ⟨0, x.dstKind == 1 && carried left b + i + 1 == b.keep, false⟩)

theorem flushSource_concat {left c : Nat} {b : Burst} {bs : List Burst} {s : State} (h : (chan s c).bursts = bs ++ [b]) :
    flushSource left c s = setChan c { chan s c with
        bursts := bs ++ [{ b with words := b.words.take (carried left b) ++ filler left (chan s c) b ++ b.words.drop b.keep, flushed := true }], withdraw := true
        nFlush := (chan s c).nFlush + 1 } s := by
  simp only [flushSource, h, List.reverse_append, List.reverse_cons, List.reverse_nil, List.nil_append, List.singleton_append, List.reverse_reverse]
  rfl

theorem filler_zero (left : Nat) (x : Chan) (b : Burst) : ∀ w ∈ filler left x b, QWord.val w = 0 := by
  simp only [filler, List.mem_map, List.mem_range]
  rintro _ ⟨_, _, rfl⟩
  rfl

theorem exec_flush_idle {a : Acc} {q : Fin 1024} {x : Queue} {s : State} (ha : s.accessible a) (hq : q.val < 1016)
    (hr : writeRight a.principal (prmN s (P.QUEUE_OWNER q.val)) (prmB s (P.QUEUE_SECURE q.val)) = true) (hx : x = queue s q.val)
    (hidle : ∀ c, x.chanCons = some c ∨ x.chanProd = some c → (chan s c).bursts = []) (mid : Bool) (left : Nat) :
    ∃ t, exec (.flush a q mid left) s = .next t ∧ t = setQueue q.val (flushed mid q.val s) (s.logged t) := by
  subst hx
  obtain ⟨u, hlog, hexec⟩ := exec_flush ha hq hr mid left
  rw [cutBursts_idle] at hexec
  · refine ⟨_, hexec, ?_⟩
    conv_lhs => rw [hlog.eq_logged]
    rfl
  · intro c hc
    rw [chan_setQueue_bursts, show chan u c = chan s c from hlog.keeps (chan · c)]
    exact hidle c hc

theorem exec_flush_dest {a : Acc} {q : Fin 1024} {c : Nat} {b : Burst} {bs : List Burst} {s : State} (ha : s.accessible a) (hq : q.val < 1016)
    (hr : writeRight a.principal (prmN s (P.QUEUE_OWNER q.val)) (prmB s (P.QUEUE_SECURE q.val)) = true) (hcons : (queue s q.val).chanCons = none)
    (hprod : (queue s q.val).chanProd = some c) (hdst : (chan s c).dst % 1024 = q.val) (hb : (chan s c).bursts = b :: bs) (mid : Bool) (left : Nat) :
    ∃ t, exec (.flush a q mid left) s = .next t ∧ (queue t q.val).words = [] ∧ (queue t q.val).pushed = (queue s q.val).pushed + carried left b ∧
      chan t c = { chan s c with
        bursts := (b :: bs).map (fun b => { b with words := [], keep := 0, flushed := true }), withdraw := true, nFlush := (chan s c).nFlush + 1
        nWritten := (chan s c).nWritten + 8 * carried left b, above := (chan t c).above } := by
  obtain ⟨u, hlog, hexec⟩ := exec_flush ha hq hr mid left
  have hchan : chan (setQueue q.val (flushed mid q.val s) u) c = { chan s c with above := (chan (setQueue q.val (flushed mid q.val s) u) c).above } := by
    rw [chan_setQueue, show chan u c = chan s c from hlog.keeps (chan · c)]
  generalize hv : setQueue q.val (flushed mid q.val s) u = v at hexec hchan
  have hvb : (chan v c).bursts = b :: bs := by rw [hchan]; exact hb
  have hvd : (chan v c).dst % 1024 = q.val := by rw [hchan]; exact hdst
  have hqueue : queue v q.val = flushed mid q.val s := by rw [← hv, queue_setQueue_self]
  have hcut : cutBursts left (queue s q.val) v = flushDest left c v := by simp only [cutBursts, hcons, hprod]
  rw [hcut, flushDest_cons hvb, hvd, hqueue] at hexec
  refine ⟨_, hexec, ?_, ?_, ?_⟩
  · rw [queue_setQueue_self]; rfl
  · rw [queue_setQueue_self]; rfl
  · rw [chan_setQueue, chan_setChan_self, hchan]

theorem exec_flush_source {a : Acc} {q : Fin 1024} {c : Nat} {b : Burst} {bs : List Burst} {s : State} (ha : s.accessible a) (hq : q.val < 1016)
    (hr : writeRight a.principal (prmN s (P.QUEUE_OWNER q.val)) (prmB s (P.QUEUE_SECURE q.val)) = true) (hcons : (queue s q.val).chanCons = some c)
    (hprod : (queue s q.val).chanProd = none) (hb : (chan s c).bursts = bs ++ [b]) (mid : Bool) (left : Nat) :
    ∃ t, exec (.flush a q mid left) s = .next t ∧ (queue t q.val).words = [] ∧
      chan t c = { chan s c with
        bursts := bs ++ [{ b with words := b.words.take (carried left b) ++ filler left (chan s c) b ++ b.words.drop b.keep, flushed := true }], withdraw := true
        nFlush := (chan s c).nFlush + 1, above := (chan t c).above } := by
  obtain ⟨u, hlog, hexec⟩ := exec_flush ha hq hr mid left
  have hchan : chan (setQueue q.val (flushed mid q.val s) u) c = { chan s c with above := (chan (setQueue q.val (flushed mid q.val s) u) c).above } := by
    rw [chan_setQueue, show chan u c = chan s c from hlog.keeps (chan · c)]
  generalize hv : setQueue q.val (flushed mid q.val s) u = v at hexec hchan
  have hvb : (chan v c).bursts = bs ++ [b] := by rw [hchan]; exact hb
  have hqueue : queue v q.val = flushed mid q.val s := by rw [← hv, queue_setQueue_self]
  have hcut : cutBursts left (queue s q.val) v = flushSource left c v := by simp only [cutBursts, hcons, hprod]
  rw [hcut, flushSource_concat hvb] at hexec
  refine ⟨_, hexec, congrArg Queue.words hqueue, ?_⟩
  rw [chan_setChan_self, hchan]
  rfl

/-! ### Packets of units, and time-outs (R382, R390) -/

theorem exec_unitQueuePush_room {q : Fin 1024} {ws : List Nat} {x : Queue} {s : State} (hp : producer s q.val = 2) (hx : x = queue s q.val)
    (hroom : x.words.length + ws.length ≤ queueSize s q.val) :
    exec (.unitQueuePush q ws) s = .next { setQueue q.val { x with
        words := x.words ++ ws.mapIdx (fun i v => ⟨v, i + 1 == ws.length, false⟩), pushed := x.pushed + ws.length } s with
      evnt.inflight := s.evnt.inflight ++ readyEvents s q.val x.words.length (x.words.length + ws.length) } := by
  subst hx
  show execUnitQueuePush q ws s = _
  rw [execUnitQueuePush, if_pos hp, unitPush, if_neg (by omega), queueAppend_eq, List.length_mapIdx]

theorem exec_unitQueuePush_full {q : Fin 1024} {ws : List Nat} {s : State} (hp : producer s q.val = 2) (hfull : queueSize s q.val < (queue s q.val).words.length + ws.length) :
    exec (.unitQueuePush q ws) s = .next (setQueue q.val { queue s q.val with dropped := (queue s q.val).dropped + 1 } s) := by
  show execUnitQueuePush q ws s = _
  rw [execUnitQueuePush, if_pos hp, unitPush, if_pos hfull]

theorem exec_queueTimeout {q : Fin 1024} {x : Queue} {s : State} (hx : x = queue s q.val) (hw : x.words ≠ []) (ht : prm s (P.QUEUE_TIMEOUT q.val) ≠ 0) :
    exec (.queueTimeout q) s = .next { setQueue q.val { x with flags := setFlag x.flags 2, timeouts := x.timeouts + 1, tail := x.chanCons.isSome } s with
      evnt.inflight := s.evnt.inflight ++ ⟨378 + 2 * (q.val / 16) + 1, q.val, none⟩ :: (if consumerOf s q.val = 0 then [⟨378 + 2 * (q.val / 16), q.val, none⟩] else []) } := by
  subst hx
  show execQueueTimeout q s = _
  rw [execQueueTimeout, if_neg (by simp [hw, ht])]
  refine congrArg _ ?_
  have hcons : ∀ x, x.chanCons = (queue s q.val).chanCons → consumerOf (raise (378 + 2 * (q.val / 16) + 1) q.val (setQueue q.val x s)) q.val = consumerOf s q.val :=
    fun _ => consumerOf_setQueue
  rw [hcons]
  swap
  · rfl
  split
  · simp only [raiseReady, raise, List.append_assoc, List.singleton_append, setQueue_evnt]
  · rfl

/-- Settles O34. -/
theorem queueCommands : Obligations.QueueCommands := by
  unfold Obligations.QueueCommands
  refine ⟨?push, ?full, ?pop, fun a q x s ha hr hx hcons hempty => ?_, fun a q mid left x s ha hq hr hx hidle => ?_, fun a q mid left c b bs s ha hq hr hcons hprod hdst hb => exec_flush_dest ha hq hr hcons hprod hdst hb mid left,
    ?source, fun q ws x s hp hx hroom => ⟨_, exec_unitQueuePush_room hp hx hroom, rfl⟩, fun q ws s hp hfull => exec_unitQueuePush_full hp hfull,
    fun q x s hx hw ht => ⟨_, exec_queueTimeout hx hw ht, rfl⟩⟩
  case push =>
    intro a q v x s ha hr hx hprod hskip hroom
    obtain ⟨t, htake, hqueue, hothers, hchans, hrest⟩ := takeQPushHi_spec ha hr hx hprod hskip hroom v
    exact ⟨t, congrArg (fun u => Host.Outcome.next (serveMail q.val u)) htake, fun hq => serveMail_of_lt hq t, hqueue, hothers, hchans, hrest⟩
  case full =>
    intro a q v x s ha hr hx hprod hskip hsize hfull
    exact ⟨congrArg (fun u => Host.Outcome.next (serveMail q.val u)) (takeQPushHi_full ha hr hx hprod hskip hsize hfull v), serveMail_of_lt⟩
  case pop =>
    rintro a q w ws _ s ha hr rfl hcons hsize hw
    exact exec_qPopLo_word ha hr hcons hsize hw
  case source =>
    intro a q mid left c b bs s ha hq hr hcons hprod hb
    obtain ⟨t, hexec, hwords, hchan⟩ := exec_flush_source ha hq hr hcons hprod hb mid left
    exact ⟨t, filler left (chan s c) b, hexec, hwords, by rw [filler, List.length_map, List.length_range], filler_zero left _ b, hchan⟩
  · subst hx
    exact exec_qPopLo_empty ha hr hcons hempty
  · obtain ⟨t, hexec, ht⟩ := exec_flush_idle ha hq hr hx hidle mid left
    subst hx
    exact ⟨t, hexec, ht⟩

end Sys2Proof.Machine
end

section
/-! PROOFS. A channel that ends while moves of the supervisor wait for the idle channel 63 (R386, R391). -/
namespace Sys2Proof.Machine
open Sys2Proof

/-- A device with channel 0 waiting and a move of the supervisor that waits, though channel 63 is idle. -/
def waitingMove : State :=
  { State.reset with
    qdma.chans := [(0, { state := 1 })]
    qdma.sup := [⟨0, 0, 0⟩] }

/-- The channel's end begins the supervisor's move, which raises an event of its own. -/
theorem withdrawChan_waitingMove {u : State} (h : u.qdma = waitingMove.qdma) (f : Chan → Chan) :
    (withdrawChan 0 (descWrite 0 f u)).evnt.inflight = u.evnt.inflight ++ [⟨508, 0, none⟩, ⟨551, 63, none⟩] := by
  cases u
  subst h
  exact List.append_assoc ..

/-- A STOP of channel 0 then raises two events. -/
theorem exec_stop_waitingMove (v : Word32) :
    ∃ t, exec (.stop ⟨.sup, 0⟩ ⟨0, v⟩) waitingMove = .next t ∧ t.evnt.inflight.length = waitingMove.evnt.inflight.length + 2 := by
  obtain ⟨u, hlog, hw⟩ := windowWrite_right ⟨.sup, 0⟩ true 0x10 (0x10000 + 0 * 0x40 + 0x18) (setFlag v 30).toNat
    (fun s => withdrawChan 0 (descWrite 0 (ctrlFields v) s)) waitingMove (.inl (by decide))
  refine ⟨_, congrArg Host.Outcome.next hw, ?_⟩
  rw [withdrawChan_waitingMove (hlog.keeps State.qdma), hlog.keeps State.evnt, List.length_append]
  rfl

/-- Refutes O35: a STOP of a channel other than 63 also begins the moves of the supervisor that wait while channel 63 is idle, and each raises its event. -/
theorem not_channelCommands : ¬ Obligations.ChannelCommands := by
  unfold Obligations.ChannelCommands
  rintro ⟨-, -, hStop, -⟩
  obtain ⟨t, hexec, -, -, hends⟩ := hStop ⟨.sup, 0⟩ 0 0 waitingMove (.inl (by decide)) rfl
  obtain ⟨-, hevents, -⟩ := hends rfl rfl (.inl (by decide))
  obtain ⟨t', hexec', hlen⟩ := exec_stop_waitingMove 0
  cases Host.Outcome.next.inj (hexec.symm.trans hexec')
  rw [hevents, List.length_append] at hlen
  exact absurd hlen (by simp)

end Sys2Proof.Machine
end

section
/-! PROOFS. What a loop over numbered parts leaves of each, and what the measures of the cap step reach (R465, R467). -/
namespace Sys2Proof.Machine
open Sys2Proof

/-- A loop that changes the part of its number alone changes each part that it names once. -/
theorem forEach_parts {ι β : Type} {part : State → Nat → β} {key : ι → Nat} {act : ι → State → State} {g : Nat → β → β}
    (hat : ∀ i s, part (act i s) (key i) = g (key i) (part s (key i))) (hother : ∀ i j s, j ≠ key i → part (act i s) j = part s j)
    {is : List ι} (hnd : (is.map key).Nodup) (s : State) (j : Nat) :
    part (forEach is act s) j = if j ∈ is.map key then g j (part s j) else part s j := by
  induction is generalizing s with
  | nil => rfl
  | cons i is ih =>
    obtain ⟨hi, hnd⟩ := List.nodup_cons.mp hnd
    show part (forEach is act (act i s)) j = _
    rw [ih hnd]
    by_cases hj : j = key i
    · subst hj
      rw [if_neg hi, if_pos (by simp), hat]
    · rw [hother i j s hj]
      simp [hj]

/-- A loop over the first `n` numbers. -/
theorem forEach_range_parts {β : Type} {part : State → Nat → β} {act : Nat → State → State} {g : Nat → β → β}
    (hat : ∀ i s, part (act i s) i = g i (part s i)) (hother : ∀ i j s, j ≠ i → part (act i s) j = part s j) (n : Nat) (s : State) (j : Nat) :
    part (forEach (List.range n) act s) j = if j < n then g j (part s j) else part s j := by
  rw [forEach_parts (key := id) hat hother (by simpa using List.nodup_range)]
  simp

/-- R466: the state of the thermal control follows the cap step and the measures. -/
theorem mildState_only (s : State) : ∃ h n, mildState s = { s with ht := h, thrm.state := n } := by
  unfold mildState setThermal
  split
  · generalize (if s.thrm.cap = 0 ∧ s.thrm.measures = [] then 0 else 1) = n
    split
    · exact ⟨s.ht, s.thrm.state, rfl⟩
    · exact ⟨_, _, rfl⟩
  · exact ⟨s.ht, s.thrm.state, rfl⟩

/-- R467: the cap step takes its value, and an event tells of a change. -/
theorem updateCap_only (s : State) :
    ∃ h n f es, updateCap s = { s with ht := h, thrm.state := n, thrm.cap := capStep s, thrm.flags := f, evnt.inflight := s.evnt.inflight ++ es } := by
  unfold updateCap
  dsimp only
  split
  · next hk =>
    obtain ⟨h, n, hm⟩ := mildState_only s
    refine ⟨h, n, s.thrm.flags, [], hm.trans ?_⟩
    rw [hk, List.append_nil]
  · obtain ⟨h, n, hm⟩ := mildState_only (raise 557 (capStep s) { s with thrm.cap := capStep s, thrm.flags := setFlagIf (s.thrm.cap == 0) s.thrm.flags 0 })
    exact ⟨h, n, _, _, hm⟩

/-- R465: a rise of θ that is not too soon. -/
theorem riseTheta_only {s : State} {limited : Bool} (h : limited = true → s.thrm.lastRise = none) :
    ∃ h n f es, riseTheta limited s = { s with
      ht := h, thrm.state := n, thrm.cap := capStep { s with thrm.theta := min 7 (s.thrm.theta + 1) }, thrm.flags := f, evnt.inflight := s.evnt.inflight ++ es
      thrm.theta := min 7 (s.thrm.theta + 1), thrm.lastRise := some (monoNs s), thrm.nRises := s.thrm.nRises + b2n (decide (s.thrm.theta < 7)) } := by
  have hrise : riseTheta limited s = updateCap { s with
      thrm.theta := min 7 (s.thrm.theta + 1), thrm.lastRise := some (monoNs s), thrm.nRises := s.thrm.nRises + b2n (decide (s.thrm.theta < 7)) } := by
    cases limited with
    | false => rfl
    | true =>
      simp only [riseTheta, h rfl]
      rfl
  obtain ⟨x, n, f, es, hcap⟩ := updateCap_only { s with
    thrm.theta := min 7 (s.thrm.theta + 1), thrm.lastRise := some (monoNs s), thrm.nRises := s.thrm.nRises + b2n (decide (s.thrm.theta < 7)) }
  exact ⟨x, n, f, es, hrise.trans hcap⟩

end Sys2Proof.Machine
end

section
/-! PROOFS. The memory controller (R358 to R376). -/
namespace Sys2Proof.Machine
open Sys2Proof

/-! ### What a grant leaves -/

/-- A step of channel `c` that leaves its counts and scrub list, the other channels, and the state outside the controller, the events and the log. -/
structure ChannelOnly (c : Nat) (s t : State) : Prop where
  reads : (memChan t c).reads = (memChan s c).reads
  writes : (memChan t c).writes = (memChan s c).writes
  scrubs : (memChan t c).scrubs = (memChan s c).scrubs
  others : ∀ k, k ≠ c → memChan t k = memChan s k
  rest : t = { s with sys := t.sys, netw := t.netw, twin := t.twin, evnt := t.evnt, freeCtr := t.freeCtr, memc := t.memc }

theorem ChannelOnly.keeps {β : Type} (π : State → β) {c : Nat} {s t : State} (h : ChannelOnly c s t)
    (hπ : ∀ a b d e f g, π { s with sys := a, netw := b, twin := d, evnt := e, freeCtr := f, memc := g } = π s := by exact fun _ _ _ _ _ _ => rfl) : π t = π s := by
  rw [h.rest]
  exact hπ ..

theorem ChannelOnly.refl (c : Nat) (s : State) : ChannelOnly c s s := ⟨rfl, rfl, rfl, fun _ _ => rfl, rfl⟩

theorem ChannelOnly.trans {c : Nat} {s t u : State} (h : ChannelOnly c s t) (k : ChannelOnly c t u) : ChannelOnly c s u :=
  ⟨k.reads.trans h.reads, k.writes.trans h.writes, k.scrubs.trans h.scrubs, fun n hn => (k.others n hn).trans (h.others n hn), by rw [k.rest, h.rest]⟩

theorem ChannelOnly.set {c : Nat} {s : State} {x : MemChan} (hr : x.reads = (memChan s c).reads) (hw : x.writes = (memChan s c).writes) (hs : x.scrubs = (memChan s c).scrubs) :
    ChannelOnly c s (setMemChan c x s) :=
  ⟨by rw [memChan_setMemChan_self, hr], by rw [memChan_setMemChan_self, hw], by rw [memChan_setMemChan_self, hs], fun k hk => by rw [memChan_setMemChan, if_neg hk], rfl⟩

theorem ChannelOnly.log {c : Nat} {s t : State} (h : LogOnly s t) : ChannelOnly c s t := by
  rw [h.eq_logged]
  exact ⟨rfl, rfl, rfl, fun _ _ => rfl, rfl⟩

theorem askUrgent_counts (u : Urgency) (x : MemChan) : (askUrgent u x).reads = x.reads ∧ (askUrgent u x).writes = x.writes ∧ (askUrgent u x).scrubs = x.scrubs := by
  unfold askUrgent
  split <;> exact ⟨rfl, rfl, rfl⟩

theorem askUrgent_eq (u : Urgency) (x : MemChan) : askUrgent u x = { x with urgent := x.urgent ++ (if x.urgent.contains u then [] else [u]) } := by
  unfold askUrgent
  split
  · rw [List.append_nil]
  · rfl

/-- R369: a channel that throttles a requester raises and logs it. -/
theorem noteRow_channelOnly {c : Nat} (a b d e f n : Nat) {x : MemChan} {s : State} (hr : x.reads = (memChan s c).reads) (hw : x.writes = (memChan s c).writes)
    (hs : x.scrubs = (memChan s c).scrubs) : ChannelOnly c s (logDeviceN a b d e f (raiseOpen n (setMemChan c x s))) :=
  have hset : ChannelOnly c s (setMemChan c x s) := .set hr hw hs
  have hraise : ChannelOnly c s (raiseOpen n (setMemChan c x s)) := ⟨hset.reads, hset.writes, hset.scrubs, hset.others, rfl⟩
  hraise.trans (.log (logDeviceN_only ..))

theorem activate_channelOnly (c b row req : Nat) (s : State) : ChannelOnly c s (activate c b row req s) := by
  have hask (u : Urgency) (x : MemChan) := askUrgent_counts u x
  unfold activate
  dsimp only
  generalize trackRow row req (bank (memChan s c) b).rows = k
  generalize hx : setBank b _ (memChan s c) = x
  have hset : ChannelOnly c s (setMemChan c (if Config.raaLimit < (bank (memChan s c) b).raa + 1 then askUrgent (.rfm b) x else x) s) := by
    obtain ⟨hreads, hwrites, hscrubs⟩ : x.reads = (memChan s c).reads ∧ x.writes = (memChan s c).writes ∧ x.scrubs = (memChan s c).scrubs := by
      rw [← hx]
      exact ⟨rfl, rfl, rfl⟩
    obtain ⟨hreads', hwrites', hscrubs'⟩ := hask (.rfm b) x
    split
    · exact .set (hreads'.trans hreads) (hwrites'.trans hwrites) (hscrubs'.trans hscrubs)
    · exact .set hreads hwrites hscrubs
  generalize setMemChan c _ s = t at hset ⊢
  obtain ⟨hreads, hwrites, hscrubs⟩ := hask (.rfm b) (memChan t c)
  split
  · exact hset.trans (noteRow_channelOnly _ _ _ _ _ _ hreads hwrites hscrubs)
  · exact hset

theorem openRow_channelOnly (c addr req : Nat) (s : State) : ChannelOnly c s (openRow c addr req s) := by
  unfold openRow
  split
  · exact .refl c s
  · exact activate_channelOnly ..

theorem useCheck_channelOnly (c addr : Nat) (w : Bool) (s : State) : ChannelOnly c s (useCheck c addr w s) := .set rfl rfl rfl

/-- A grant of `t` counted in channel `c`, with the memory it leaves. -/
structure Granted (c : Nat) (t : MemTxn) (m : Memory) (s u : State) : Prop where
  reads : (memChan u c).reads = (memChan s c).reads + b2n (!t.write)
  writes : (memChan u c).writes = (memChan s c).writes + b2n t.write
  qdma : u.qdma = s.qdma
  ports : u.ports = s.ports
  mem : u.mem = m

/-- R358, R376: the count of a grant and of the bytes of its slice. -/
def countGrant (c : Nat) (t : MemTxn) (s : State) : State :=
  let u := setMemChan c { memChan s c with
    reads := (memChan s c).reads + b2n (!t.write), writes := (memChan s c).writes + b2n t.write, slots := (memChan s c).slots.set 0 t.req 0 } s
  if t.req < 8 then setRtp t.req { rtp u t.req with bytes := (rtp u t.req).bytes + 64 } u else u

theorem countGrant_granted (c : Nat) (t : MemTxn) (s : State) : Granted c t s.mem s (countGrant c t s) := by
  unfold countGrant
  dsimp only
  generalize hu : setMemChan c _ s = u
  have hset : Granted c t s.mem s u := by
    rw [← hu]
    exact ⟨by rw [memChan_setMemChan_self], by rw [memChan_setMemChan_self], rfl, rfl, rfl⟩
  split
  · exact ⟨hset.reads, hset.writes, hset.qdma, hset.ports, hset.mem⟩
  · exact hset

theorem countGrant_bad (c : Nat) (t : MemTxn) (s : State) : (countGrant c t s).badBlocks = s.badBlocks := by
  unfold countGrant
  dsimp only
  split <;> rfl

/-- What a write that is granted does after its count. -/
def grantWrite (c : Nat) (t : MemTxn) (s : State) : State :=
  let u := if t.req = 13 ∨ t.req = 14 then { s with mem := s.mem.store t.addr t.data } else s
  if t.size = 64 then { u with badBlocks := u.badBlocks.filter (· ≠ t.addr / 64 * 64) } else if u.badBlocks.contains (t.addr / 64 * 64) then memUe c t u else u

theorem grantWrite_granted {c : Nat} {t : MemTxn} {s u : State} (hbad : u.badBlocks.contains (t.addr / 64 * 64) = false) (h : Granted c t s.mem s u) :
    Granted c t (if t.req = 13 ∨ t.req = 14 then s.mem.store t.addr t.data else s.mem) s (grantWrite c t u) := by
  unfold grantWrite
  dsimp only
  generalize hv : (if t.req = 13 ∨ t.req = 14 then { u with mem := u.mem.store t.addr t.data } else u) = v
  have hstore : Granted c t (if t.req = 13 ∨ t.req = 14 then s.mem.store t.addr t.data else s.mem) s v ∧ v.badBlocks = u.badBlocks := by
    rw [← hv, ← h.mem]
    split
    · exact ⟨⟨h.reads, h.writes, h.qdma, h.ports, rfl⟩, rfl⟩
    · exact ⟨⟨h.reads, h.writes, h.qdma, h.ports, rfl⟩, rfl⟩
  obtain ⟨hstore, hblocks⟩ := hstore
  rw [if_neg (show ¬ v.badBlocks.contains (t.addr / 64 * 64) = true by rw [hblocks, hbad]; decide)]
  by_cases hsize : t.size = 64
  · rw [if_pos hsize]
    exact ⟨hstore.reads, hstore.writes, hstore.qdma, hstore.ports, hstore.mem⟩
  · rw [if_neg hsize]
    exact hstore

/-- What a read that is granted does after its count. -/
def grantRead (c : Nat) (t : MemTxn) (s : State) : State :=
  let (kind, u) := readKind t.flips (returnReads t.req (t.addr / 64 * 64) s)
  if kind = 2 ∨ u.badBlocks.contains (t.addr / 64 * 64) then memUe c t u
  else if kind = 1 then memCe c (t.addr / 64 * 64) t.req (grant.markCheck c t u)
  else u

theorem grantRead_good {c : Nat} {t : MemTxn} {s : State} (hflips : t.flips = []) (hbad : s.badBlocks.contains (t.addr / 64 * 64) = false) :
    grantRead c t s = returnReads t.req (t.addr / 64 * 64) s := by
  have hgood : ¬ (0 = 2 ∨ (returnReads t.req (t.addr / 64 * 64) s).badBlocks.contains (t.addr / 64 * 64) = true) := by
    rw [show (returnReads t.req (t.addr / 64 * 64) s).badBlocks = s.badBlocks from rfl, hbad]
    decide
  rw [grantRead, hflips]
  exact if_neg hgood

theorem grant_eq (c : Nat) (t : MemTxn) (s : State) :
    grant c t s = if t.write = true then grantWrite c t (countGrant c t (useCheck c t.addr t.write (openRow c t.addr t.req s)))
      else grantRead c t (countGrant c t (useCheck c t.addr t.write (openRow c t.addr t.req s))) := rfl

/-- R358: a grant without an error counts one read or write; a core's write stores its bytes. -/
theorem grant_spec {c : Nat} {t : MemTxn} {s : State} (hflips : t.flips = []) (hbad : s.badBlocks.contains (t.addr / 64 * 64) = false) :
    (memChan (grant c t s) c).reads = (memChan s c).reads + b2n (!t.write) ∧ (memChan (grant c t s) c).writes = (memChan s c).writes + b2n t.write ∧
      (grant c t s).qdma = s.qdma ∧ (grant c t s).ports = s.ports ∧
      (grant c t s).mem = if t.write = true ∧ (t.req = 13 ∨ t.req = 14) then s.mem.store t.addr t.data else s.mem := by
  have hopen := (openRow_channelOnly c t.addr t.req s).trans (useCheck_channelOnly c t.addr t.write _)
  rw [grant_eq]
  generalize useCheck c t.addr t.write (openRow c t.addr t.req s) = u at *
  have hreads := hopen.reads
  have hwrites := hopen.writes
  have hqdma := hopen.keeps State.qdma
  have hports := hopen.keeps State.ports
  have hmem := hopen.keeps State.mem
  have hblocks := hopen.keeps State.badBlocks
  rw [← hblocks] at hbad
  rw [← hreads, ← hwrites, ← hqdma, ← hports, ← hmem]
  have hcount := countGrant_granted c t u
  split
  · next hw =>
    obtain ⟨h1, h2, h3, h4, h5⟩ := grantWrite_granted (by rw [countGrant_bad]; exact hbad) hcount
    exact ⟨h1, h2, h3, h4, by simpa only [hw, true_and] using h5⟩
  · next hw =>
    rw [grantRead_good hflips (by rw [countGrant_bad]; exact hbad), if_neg (fun h => hw h.1)]
    exact ⟨hcount.reads, hcount.writes, hcount.qdma, hcount.ports, hcount.mem⟩

/-! ### The arrival of transactions (R358, R359) -/

/-- R358: a transaction within one block stays whole. -/
theorem splitTxn_single {t : MemTxn} (hpos : 0 < t.size) (hfit : t.addr % 64 + t.size ≤ 64) : splitTxn t = [{ t with len := t.size }] := by
  have hcount : (t.addr % 64 + t.size + 63) / 64 = 1 := by omega
  have hlast : min (t.addr + t.size) (t.addr / 64 * 64 + 64 * (0 + 1)) - t.addr = t.size := by omega
  have hdata : t.data.take t.size = t.data := by
    by_cases h : t.data = []
    · rw [h, List.take_nil]
    · rw [MemTxn.size, if_neg h, List.take_length]
  rw [splitTxn, hcount]
  show [_] = _
  simp only [if_pos, hlast, Nat.sub_self, List.drop_zero, hdata]

theorem splitTxn_size (t : MemTxn) : ({ t with len := t.size } : MemTxn).size = t.size := by
  simp only [MemTxn.size]
  split <;> rfl

/-- R359: with nothing that waits, an arrival of nothing changes nothing of a channel. -/
theorem fillQueue_nil {x : MemChan} (hb : x.blocked = []) : fillQueue x = x := by
  simp only [fillQueue, hb, List.take_nil, List.drop_nil, List.append_nil]
  cases x
  cases hb
  rfl

/-- R359: what has come waits in the queue of the channel. -/
def arrivedAt (c : Nat) (ts : List MemTxn) (s : State) : State :=
  let u := arrive c ts s
  setMemChan c { memChan u c with slots := (memChan u c).steps.map (fun p => (p.1, (memChan u c).slots.get 0 p.1 + 1)) } u

/-- R361: a channel issues urgent work, or grants the transaction that comes first. -/
def serveChannel (c : Nat) (s : State) : State :=
  match (if (memChan s c).state = 0 then (memChan s c).urgent else []) with
  | u :: us => setMemChan c (issueUrgent u { memChan s c with urgent := us }) s
  | [] => match chooseTxn s c ((memChan s c).queue.map (aged s)) with
    | some (i, t) => grant c t (setMemChan c (fillQueue { memChan s c with queue := (memChan s c).queue.eraseIdx i }) s)
    | none => s

theorem exec_memoryTransaction (ch : Fin 16) (ts : List MemTxn) (s : State) : exec (.memoryTransaction ch ts) s = .next (serveChannel ch.val (arrivedAt ch.val ts s)) := by
  show execMemoryTransaction ch ts s = _
  unfold execMemoryTransaction serveChannel
  dsimp only
  rw [← arrivedAt]
  generalize arrivedAt ch.val ts s = t
  generalize (if (memChan t ch.val).state = 0 then (memChan t ch.val).urgent else []) = us
  cases us with
  | cons u us => rfl
  | nil =>
    generalize hc : chooseTxn t ch.val ((memChan t ch.val).queue.map (aged t)) = o
    cases o <;> rfl

theorem serveChannel_urgent {c : Nat} {s : State} {u : Urgency} {us : List Urgency} (hstate : (memChan s c).state = 0) (hu : (memChan s c).urgent = u :: us) :
    serveChannel c s = setMemChan c (issueUrgent u { memChan s c with urgent := us }) s := by
  simp only [serveChannel, hstate, hu, if_true]

theorem serveChannel_granted {c i : Nat} {t : MemTxn} {s : State} (hu : (memChan s c).urgent = []) (ht : chooseTxn s c ((memChan s c).queue.map (aged s)) = some (i, t)) :
    serveChannel c s = grant c t (setMemChan c (fillQueue { memChan s c with queue := (memChan s c).queue.eraseIdx i }) s) := by
  simp only [serveChannel, hu, ite_self, ht]

theorem serveChannel_idle {c : Nat} {s : State} (hu : (memChan s c).urgent = []) (hq : (memChan s c).queue = []) : serveChannel c s = s := by
  simp only [serveChannel, hu, ite_self, hq]
  rfl

theorem fillQueue_counts (x : MemChan) : (fillQueue x).reads = x.reads ∧ (fillQueue x).writes = x.writes := ⟨rfl, rfl⟩

/-- An arrival reaches the channel and the order of the reads. -/
theorem arrivedAt_only (c : Nat) (ts : List MemTxn) (s : State) :
    arrivedAt c ts s = { s with memc.chans := (arrivedAt c ts s).memc.chans, memc.reads := (arrivedAt c ts s).memc.reads } := rfl

theorem memChan_arrivedAt (c : Nat) (ts : List MemTxn) (s : State) :
    memChan (arrivedAt c ts s) c = { memChan (arrive c ts s) c with
      slots := (memChan (arrive c ts s) c).steps.map (fun p => (p.1, (memChan (arrive c ts s) c).slots.get 0 p.1 + 1)) } := memChan_setMemChan_self ..

theorem memChan_arrive (c : Nat) (ts : List MemTxn) (s : State) :
    memChan (arrive c ts s) c = fillQueue { memChan s c with
      blocked := (memChan s c).blocked ++ ((ts.flatMap splitTxn).filter (fun t => (locOf s t.addr).chan == c && decide (t.addr < dramEnd))).map (fun t => ⟨t, monoNs s⟩) } :=
  memChan_setMemChan_self ..

/-- Nothing that arrives leaves the order of the reads. -/
theorem arrivedAt_nil_reads (c : Nat) (s : State) : arrivedAt c [] s = { s with memc.chans := (arrivedAt c [] s).memc.chans } := by
  conv_lhs => rw [arrivedAt_only]
  rw [show (arrivedAt c [] s).memc.reads = s.memc.reads from List.append_nil _]

/-- R359: one transaction that comes to an empty channel waits alone. -/
theorem memChan_arrivedAtAt_single {c : Nat} {t : MemTxn} {s : State} (hch : (locOf s t.addr).chan = c) (hq : (memChan s c).queue = []) (hb : (memChan s c).blocked = [])
    (hpos : 0 < t.size) (hfit : t.addr % 64 + t.size ≤ 64) (hend : t.addr < dramEnd) :
    memChan (arrivedAt c [t] s) c = { memChan s c with
      queue := [⟨{ t with len := t.size }, monoNs s⟩]
      slots := (memChan s c).steps.map (fun p => (p.1, (memChan s c).slots.get 0 p.1 + 1)) } := by
  rw [memChan_arrivedAt, memChan_arrive]
  have hone : (([t].flatMap splitTxn).filter (fun t => (locOf s t.addr).chan == c && decide (t.addr < dramEnd))) = [{ t with len := t.size }] := by
    rw [List.flatMap_singleton, splitTxn_single hpos hfit, List.filter_cons_of_pos]
    · rfl
    · simp [hch, hend]
  rw [hone]
  generalize memChan s c = x at hq hb
  cases x
  cases hq
  cases hb
  rfl

/-- R358: a single transaction that no step, panic or training holds back is chosen. -/
theorem chooseTxn_single {c : Nat} {t : MemTxn} {s : State} (hstate : (memChan s c).state = 0) (htrain : (memChan s c).train = 0)
    (hstep : (memChan s c).steps.get 0 t.req = 0) (hpanic : t.req ≠ 16 ∨ anyPanic s = false) : chooseTxn s c [t] = some (0, t) := by
  have hmay : mayGrant s c [] t = true := by
    have hcalm : (t.req == 16 && anyPanic s) = false := by
      rcases hpanic with h | h <;> simp [h]
    simp [mayGrant, hstate, htrain, hstep, hcalm]
  simp [chooseTxn, hmay]

/-- The time that a transaction has waited changes nothing else of it. -/
theorem aged_same (s : State) (t : MemTxn) (n m : Nat) : (aged s ⟨{ t with len := n }, m⟩).req = t.req ∧ (aged s ⟨{ t with len := n }, m⟩).write = t.write ∧
    (aged s ⟨{ t with len := n }, m⟩).addr = t.addr ∧ (aged s ⟨{ t with len := n }, m⟩).data = t.data ∧ (aged s ⟨{ t with len := n }, m⟩).flips = t.flips :=
  ⟨rfl, rfl, rfl, rfl, rfl⟩

theorem exec_memoryTransaction_single {ch : Fin 16} {t : MemTxn} {s : State} (hch : (locOf s t.addr).chan = ch.val) (hstate : (memChan s ch.val).state = 0)
    (htrain : (memChan s ch.val).train = 0) (hq : (memChan s ch.val).queue = []) (hb : (memChan s ch.val).blocked = []) (hu : (memChan s ch.val).urgent = [])
    (hpos : 0 < t.size) (hfit : t.addr % 64 + t.size ≤ 64) (hend : t.addr < dramEnd) (hstep : (memChan s ch.val).steps.get 0 t.req = 0)
    (hpanic : t.req ≠ 16 ∨ anyPanic s = false) (hflips : t.flips = []) (hbad : s.badBlocks.contains (t.addr / 64 * 64) = false) :
    ∃ u, exec (.memoryTransaction ch [t]) s = .next u ∧ (memChan u ch.val).reads = (memChan s ch.val).reads + b2n (!t.write) ∧
      (memChan u ch.val).writes = (memChan s ch.val).writes + b2n t.write ∧ u.qdma = s.qdma ∧ u.ports = s.ports ∧
      u.mem = if t.write = true ∧ (t.req = 13 ∨ t.req = 14) then s.mem.store t.addr t.data else s.mem := by
  have hx := memChan_arrivedAtAt_single hch hq hb hpos hfit hend
  have hmem : (arrivedAt ch.val [t] s).mem = s.mem := rfl
  have hqdma : (arrivedAt ch.val [t] s).qdma = s.qdma := rfl
  have hports : (arrivedAt ch.val [t] s).ports = s.ports := rfl
  have hblocks : (arrivedAt ch.val [t] s).badBlocks = s.badBlocks := rfl
  have hcalm : t.req ≠ 16 ∨ anyPanic (arrivedAt ch.val [t] s) = false := hpanic
  rw [exec_memoryTransaction]
  generalize arrivedAt ch.val [t] s = v at hx hmem hqdma hports hblocks hcalm
  have hone : (memChan v ch.val).queue.map (aged v) = [aged v ⟨{ t with len := t.size }, monoNs s⟩] := by rw [hx]; rfl
  obtain ⟨hreq, hwrite, haddr, hdata, hflips'⟩ := aged_same v t t.size (monoNs s)
  generalize aged v ⟨{ t with len := t.size }, monoNs s⟩ = t' at hone hreq hwrite haddr hdata hflips'
  have hchoose : chooseTxn v ch.val ((memChan v ch.val).queue.map (aged v)) = some (0, t') := by
    rw [hone]
    refine chooseTxn_single ?_ ?_ ?_ (by rw [hreq]; exact hcalm)
    · rw [hx]; exact hstate
    · rw [hx]; exact htrain
    · rw [hx, hreq]; exact hstep
  rw [serveChannel_granted (by rw [hx]; exact hu) hchoose]
  obtain ⟨hreads, hwrites, hqdma', hports', hmem'⟩ := grant_spec (c := ch.val) (t := t')
    (s := setMemChan ch.val (fillQueue { memChan v ch.val with queue := (memChan v ch.val).queue.eraseIdx 0 }) v) (hflips'.trans hflips)
    (by rw [haddr]; rw [← hblocks] at hbad; exact hbad)
  rw [memChan_setMemChan_self, (fillQueue_counts _).1, hwrite] at hreads
  rw [memChan_setMemChan_self, (fillQueue_counts _).2, hwrite] at hwrites
  rw [setMemChan_mem, hreq, hwrite, haddr, hdata, hmem] at hmem'
  refine ⟨_, rfl, hreads.trans ?_, hwrites.trans ?_, hqdma'.trans hqdma, hports'.trans hports, hmem'⟩
  · rw [hx]
  · rw [hx]

theorem memChan_arrivedAt_nil {c : Nat} {s : State} (hb : (memChan s c).blocked = []) :
    memChan (arrivedAt c [] s) c = { memChan s c with slots := (memChan s c).steps.map (fun p => (p.1, (memChan s c).slots.get 0 p.1 + 1)) } := by
  have harrive : memChan (arrive c [] s) c = memChan s c := by
    rw [memChan_arrive]
    show fillQueue { memChan s c with blocked := (memChan s c).blocked ++ [] } = _
    rw [List.append_nil]
    exact fillQueue_nil hb
  rw [memChan_arrivedAt, harrive]

theorem exec_memoryTransaction_none {ch : Fin 16} {s : State} (hq : (memChan s ch.val).queue = []) (hb : (memChan s ch.val).blocked = []) (hu : (memChan s ch.val).urgent = []) :
    ∃ u, exec (.memoryTransaction ch []) s = .next u ∧ u = { s with memc.chans := u.memc.chans } ∧ memChan u ch.val = { memChan s ch.val with
      slots := (memChan s ch.val).steps.map (fun p => (p.1, (memChan s ch.val).slots.get 0 p.1 + 1)) } := by
  have hx := memChan_arrivedAt_nil hb
  refine ⟨arrivedAt ch.val [] s, ?_, arrivedAt_nil_reads .., hx⟩
  rw [exec_memoryTransaction, serveChannel_idle (by rw [hx]; exact hu) (by rw [hx]; exact hq)]

/-- What a channel with nothing new keeps while its queue fills. -/
theorem memChan_arrivedAt_keeps (c : Nat) (s : State) :
    (memChan (arrivedAt c [] s) c).state = (memChan s c).state ∧ (memChan (arrivedAt c [] s) c).urgent = (memChan s c).urgent ∧
    (memChan (arrivedAt c [] s) c).forced = (memChan s c).forced ∧ (memChan (arrivedAt c [] s) c).banks = (memChan s c).banks ∧
    (memChan (arrivedAt c [] s) c).reads = (memChan s c).reads ∧ (memChan (arrivedAt c [] s) c).writes = (memChan s c).writes := by
  rw [memChan_arrivedAt, memChan_arrive]
  exact ⟨rfl, rfl, rfl, rfl, rfl, rfl⟩

theorem bank_setBank_self (b : Nat) (y : Bank) (x : MemChan) : bank (setBank b y x) b = y := Map.get_set_self ..

/-- R364: a refresh that is forced is owed no more, and closes the row. -/
theorem issueUrgent_refresh (b : Nat) (x : MemChan) :
    (issueUrgent (.refresh b) x).urgent = x.urgent ∧ (issueUrgent (.refresh b) x).forced = x.forced + 1 ∧ (bank (issueUrgent (.refresh b) x) b).owed = (bank x b).owed - 1 ∧
      (bank (issueUrgent (.refresh b) x) b).row = none ∧ (issueUrgent (.refresh b) x).reads = x.reads ∧ (issueUrgent (.refresh b) x).writes = x.writes := by
  have hbank : bank (issueUrgent (.refresh b) x) b = { refreshed (bank x b) with owed := (bank x b).owed - 1 } := bank_setBank_self ..
  rw [hbank]
  exact ⟨rfl, rfl, rfl, rfl, rfl, rfl⟩

theorem exec_memoryTransaction_refresh {ch b : Fin 16} {us : List Urgency} {s : State} (hstate : (memChan s ch.val).state = 0) (hu : (memChan s ch.val).urgent = .refresh b.val :: us) :
    ∃ u, exec (.memoryTransaction ch []) s = .next u ∧ u = { s with memc.chans := u.memc.chans } ∧ (memChan u ch.val).urgent = us ∧
      (memChan u ch.val).forced = (memChan s ch.val).forced + 1 ∧ (bank (memChan u ch.val) b.val).owed = (bank (memChan s ch.val) b.val).owed - 1 ∧ (bank (memChan u ch.val) b.val).row = none ∧
      (memChan u ch.val).reads = (memChan s ch.val).reads ∧ (memChan u ch.val).writes = (memChan s ch.val).writes := by
  obtain ⟨hstate', hurgent, hforced, hbanks, hreads, hwrites⟩ := memChan_arrivedAt_keeps ch.val s
  have honly := arrivedAt_nil_reads ch.val s
  rw [exec_memoryTransaction, serveChannel_urgent (hstate'.trans hstate) (hurgent.trans hu)]
  refine ⟨_, rfl, ?_, ?_⟩
  · generalize arrivedAt ch.val [] s = v at honly
    rw [honly]
    rfl
  · rw [memChan_setMemChan_self]
    have hbank : bank (memChan s ch.val) b.val = bank { memChan (arrivedAt ch.val [] s) ch.val with urgent := us } b.val := by
      rw [bank, bank, ← hbanks]
    rw [← hforced, hbank, ← hreads, ← hwrites]
    exact issueUrgent_refresh ..

/-! ### Refresh, rates and disturbance windows (R363, R364, R369) -/

theorem exec_refreshInterval (ch bk : Fin 16) (burst idle : Bool) (s : State) : exec (.refreshInterval ch bk burst idle) s = .next (setMemChan ch.val
    (if (memChan s ch.val).state ≠ 0 then setBank bk.val { bank (memChan s ch.val) bk.val with owed := min 8 ((bank (memChan s ch.val) bk.val).owed + 1) } (memChan s ch.val)
     else if burst = true then
       (if 7 ≤ (bank (memChan s ch.val) bk.val).owed then
          { setBank bk.val { bank (memChan s ch.val) bk.val with owed := 8 } (memChan s ch.val) with
            urgent := (memChan s ch.val).urgent ++ (if (memChan s ch.val).urgent.contains (.refresh bk.val) then [] else [.refresh bk.val]) }
        else { setBank bk.val { bank (memChan s ch.val) bk.val with owed := (bank (memChan s ch.val) bk.val).owed + 1 } (memChan s ch.val) with postponed := (memChan s ch.val).postponed + 1 })
     else { setBank bk.val { bank (memChan s ch.val) bk.val with
                row := none, raa := (bank (memChan s ch.val) bk.val).raa - Config.raaRefresh
                owed := if 0 < (bank (memChan s ch.val) bk.val).owed then (bank (memChan s ch.val) bk.val).owed - 1
                        else if idle = true then max (-8) ((bank (memChan s ch.val) bk.val).owed - 1) else (bank (memChan s ch.val) bk.val).owed } (memChan s ch.val) with
              urgent := (memChan s ch.val).urgent.filter (· ≠ .refresh bk.val) }) s) := by
  show execRefreshInterval ch bk burst idle s = _
  unfold execRefreshInterval
  dsimp only
  by_cases hstate : (memChan s ch.val).state ≠ 0
  · rw [if_pos hstate, if_pos hstate]
  · rw [if_neg hstate, if_neg hstate]
    cases burst with
    | false => rfl
    | true =>
      rw [if_neg (by decide), if_pos rfl]
      by_cases howed : 7 ≤ (bank (memChan s ch.val) bk.val).owed
      · rw [if_pos (by omega), if_pos howed, askUrgent_eq]
        rfl
      · rw [if_neg (by omega), if_neg howed, min_eq_right (by omega)]

/-- R363: the rate of a package is that of its four channels. -/
def setRates (pkg : Fin 4) (rate : Nat) (s : State) : State :=
  forEach (List.range 4) (fun k s => setMemChan (4 * pkg.val + k) { memChan s (4 * pkg.val + k) with rate := rate } s) s

theorem setRates_only (pkg : Fin 4) (rate : Nat) (s : State) : setRates pkg rate s = { s with memc.chans := (setRates pkg rate s).memc.chans } := by
  obtain ⟨m, h⟩ := forEach_rel (R := fun s t : State => ∃ m, t = { s with memc.chans := m }) (fun s => ⟨s.memc.chans, rfl⟩)
    (by rintro _ _ _ ⟨_, rfl⟩ ⟨m, rfl⟩; exact ⟨m, rfl⟩) (List.range 4)
    (fun k s => setMemChan (4 * pkg.val + k) { memChan s (4 * pkg.val + k) with rate := rate } s) (fun _ _ => ⟨_, rfl⟩) s
  rw [setRates, h]

theorem memChan_setRates (pkg : Fin 4) (rate : Nat) (s : State) (c : Nat) :
    memChan (setRates pkg rate s) c = if c / 4 = pkg.val then { memChan s c with rate := rate } else memChan s c := by
  have hkeys : c ∈ (List.range 4).map (fun k => 4 * pkg.val + k) ↔ c / 4 = pkg.val := by
    simp only [List.mem_map, List.mem_range]
    constructor
    · rintro ⟨k, hk, rfl⟩
      omega
    · intro h
      exact ⟨c % 4, by omega, by omega⟩
  rw [setRates, forEach_parts (part := memChan) (key := fun k => 4 * pkg.val + k) (g := fun _ x => { x with rate := rate })]
  · simp only [hkeys]
  · intro i s
    rw [memChan_setMemChan_self]
  · intro i j s hj
    rw [memChan_setMemChan, if_neg hj]
  · exact List.nodup_range.map (fun a b h => by simpa using h)

theorem exec_mr4Read_hot {s : State} (h : s.thrm.lastRise = none) (pkg : Fin 4) (rate : Nat) :
    ∃ t, exec (.mr4Read pkg rate true) s = .next t ∧ t.thrm.theta = min 7 (s.thrm.theta + 1) ∧
    t.thrm.lastRise = some (monoNs s) ∧ (∃ v, s.evnt.inflight ++ [⟨377, v, none⟩] = t.evnt.inflight.take (s.evnt.inflight.length + 1)) ∧
    ∀ c, memChan t c = if c / 4 = pkg.val then { memChan s c with rate := rate } else memChan s c := by
  have hrates := memChan_setRates pkg rate s
  have honly := setRates_only pkg rate s
  refine ⟨riseTheta true (raiseOpen 377 (setRates pkg rate s)), rfl, ?_⟩
  generalize setRates pkg rate s = v at hrates honly
  have hlast : (raiseOpen 377 v).thrm.lastRise = none := by rw [honly]; exact h
  obtain ⟨x, n, f, es, hrise⟩ := riseTheta_only (limited := true) (fun _ => hlast)
  rw [hrise]
  refine ⟨?_, ?_, ⟨Config.free v.freeCtr % 2 ^ 64, ?_⟩, hrates⟩
  · rw [honly]; rfl
  · rw [honly]; rfl
  · have hevents : s.evnt.inflight ++ [⟨377, Config.free v.freeCtr % 2 ^ 64, none⟩] = (raiseOpen 377 v).evnt.inflight := by rw [honly]; rfl
    rw [hevents]
    refine (List.take_left' ?_).symm
    rw [← hevents, List.length_append]
    rfl

theorem exec_rhWindowEnd (ch : Fin 16) (s : State) :
    ∃ x, exec (.rhWindowEnd ch) s = .next (setMemChan ch.val x s) ∧ x = { memChan s ch.val with steps := x.steps, hit := [], banks := x.banks } ∧
    x.steps = (memChan s ch.val).steps.filter (fun p => (memChan s ch.val).hit.contains p.1) ∧ ∀ p ∈ x.banks, p.2.rows = [] ∧ ∃ q ∈ (memChan s ch.val).banks, p = (q.1, { q.2 with rows := [] }) := by
  refine ⟨_, rfl, rfl, rfl, fun p hp => ?_⟩
  obtain ⟨q, hq, hpq⟩ := List.mem_filterMap.mp hp
  dsimp only at hpq
  split at hpq
  · exact absurd hpq (by simp)
  · cases hpq
    exact ⟨rfl, q, hq, rfl⟩

theorem exec_mcErrHiRead {a : Acc} {s : State} (ha : s.accessible a) (ch : Fin 16) : exec (.mcErrHiRead a ch) s = .next (setMemChan ch.val
      { memChan s ch.val with errValid := false, errUn := false, errReq := 0, errAddr := (memChan s ch.val).errAddr % 2 ^ 32 }
      { s with core.rdata := (2 ^ 31 * b2n (memChan s ch.val).errValid + 2 ^ 30 * b2n (memChan s ch.val).errUn + 2 ^ 22 * (memChan s ch.val).errReq +
          (memChan s ch.val).errAddr / 2 ^ 32 % 16) % 2 ^ 32 }) :=
  congrArg Host.Outcome.next (windowRead_permitted ha ..)

/-- Settles O33. -/
theorem memoryController : Obligations.MemoryController := by
  unfold Obligations.MemoryController
  exact ⟨fun ch t s hch hstate htrain hq hb hu hpos hfit hend hstep hpanic hflips hbad =>
      exec_memoryTransaction_single hch hstate htrain hq hb hu hpos hfit hend hstep hpanic hflips hbad,
    fun ch s hq hb hu => exec_memoryTransaction_none hq hb hu, fun ch b us s hstate hu => exec_memoryTransaction_refresh hstate hu, exec_refreshInterval,
    fun pkg rate s => ⟨setRates pkg rate s, rfl, setRates_only pkg rate s, memChan_setRates pkg rate s⟩, fun pkg rate s h => exec_mr4Read_hot h pkg rate, fun s => rfl,
    exec_rhWindowEnd, fun a ch s ha => exec_mcErrHiRead ha ch⟩

end Sys2Proof.Machine
end

section
/-! PROOFS. The slices of the real-time ports, their panic and the retraining of channels (R365, R366, R370, R376). -/
namespace Sys2Proof.Machine
open Sys2Proof

/-! ### Lags and panic -/

/-- R370: a port with the lag of a slice noted; the held stream goes on as soon as the slices have room. -/
def lagNoted (s : State) (r c lag : Nat) : Rtp :=
  { rtp s r with
    lags := (rtp s r).lags.set 0 c lag, peak := max (rtp s r).peak lag
    held := (rtp s r).held && sliceOver (lagBytes s r { rtp s r with lags := (rtp s r).lags.set 0 c lag }) }

theorem exec_memPanic_over {r : Fin 8} {lag : Nat} {s : State} (hlag : prmN s (P.MEMC_PANIC_LEVEL (16 + r.val)) < lag) (hpanic : (rtp s r.val).panic = none) (ch : Fin 16) :
    exec (.memPanic r ch lag) s = .next (raiseOpen 374 (setRtp r.val { lagNoted s r.val ch.val lag with panic := some (monoNs s), panics := (rtp s r.val).panics + 1 } s)) :=
  if_pos ⟨hlag, hpanic⟩

theorem exec_memPanic_within {r : Fin 8} {lag : Nat} {s : State} (h : lag ≤ prmN s (P.MEMC_PANIC_LEVEL (16 + r.val)) ∨ (rtp s r.val).panic ≠ none) (ch : Fin 16) :
    exec (.memPanic r ch lag) s = .next (setRtp r.val (lagNoted s r.val ch.val lag) s) :=
  if_neg fun ⟨hlag, hpanic⟩ => h.elim (fun h => absurd hlag (by omega)) (fun h => h hpanic)

/-- R370: the lags of a whole reading stand as they come. -/
theorem lags_whole {lags : List Nat} (h : lags.length = 16) (m : Map Nat) : (List.range 16).map (fun i => lags[i]?.getD (m.get 0 i)) = lags := by
  refine List.ext_getElem (by simp [h]) fun i hi hi' => ?_
  simp [List.getElem?_eq_getElem hi']

/-- R370: the lags that are not 0, each under its number. -/
def nonzeroLags (lags : List Nat) : Map Nat := (List.range 16).filterMap (fun i => if lags[i]?.getD 0 = 0 then none else some (i, lags[i]?.getD 0))

theorem nonzeroLags_spec {lags : List Nat} : ∀ p ∈ nonzeroLags lags, lags[p.1]? = some p.2 := by
  intro p hp
  obtain ⟨i, -, hi⟩ := List.mem_filterMap.mp hp
  split at hi
  · exact absurd hi (by simp)
  · next hne =>
    cases hi
    cases h : lags[i]? with
    | none => exact absurd (by rw [h]; rfl) hne
    | some l => rfl

theorem exec_panicExit {r : Fin 8} {lags : List Nat} (hlen : lags.length = 16) (s : State) :
    exec (.panicExit r lags) s = .next (match (rtp s r.val).panic with
      | some t => if lags.all (fun l => decide (2 * l < prmN s (P.MEMC_PANIC_LEVEL (16 + r.val)))) then
          setRtp r.val { rtp s r.val with lags := nonzeroLags lags, panic := none, held := false, panicNs := (rtp s r.val).panicNs + (monoNs s - t) } s else s
      | none => s) := by
  show execPanicExit r lags s = _
  unfold execPanicExit
  dsimp only
  rw [lags_whole hlen]
  cases (rtp s r.val).panic with
  | none => rfl
  | some t =>
    dsimp only
    split <;> rfl

/-! ### Target read-ahead (R365) -/

/-- R365: a port's target read-ahead of the channel with number `c`. -/
theorem rtp_forAhead {f : Nat → Map Nat → Map Nat} (s : State) (r : Nat) :
    rtp (forEach readPorts (fun r s => setRtp r { rtp s r with ahead := f r (rtp s r).ahead } s) s) r =
      if r ∈ readPorts then { rtp s r with ahead := f r (rtp s r).ahead } else rtp s r := by
  rw [forEach_parts (part := rtp) (key := id) (g := fun r x => { x with ahead := f r x.ahead })]
  · rfl
  · intro i s
    exact rtp_setRtp_self ..
  · intro i j s hj
    rw [rtp_setRtp]
    exact if_neg hj
  · decide

theorem raiseAhead_only (c : Nat) (s : State) : raiseAhead c s = { s with memc.rtps := (raiseAhead c s).memc.rtps } := rfl
theorem usualAhead_only (c : Nat) (s : State) : usualAhead c s = { s with memc.rtps := (usualAhead c s).memc.rtps } := rfl

/-- R365: the target read-ahead rises to the port's cover. -/
theorem rtp_raiseAhead (c : Nat) (s : State) (r : Nat) :
    rtp (raiseAhead c s) r = if r ∈ readPorts then { rtp s r with ahead := (rtp s r).ahead.set 0 c (cover s r) } else rtp s r :=
  rtp_forAhead (f := fun r m => m.set 0 c (cover s r)) s r

/-! ### Retraining (R365, R366) -/

theorem exec_retrainStart {ch : Fin 16} {s : State} (hasked : (s.bkgd.wants.contains ch.val = true ∧ burnishSuspended s = false) ∨ retrainTest s ch.val = true)
    (hpanic : anyPanic s = false) (hlags : ∀ r < 8, ∀ p ∈ (rtp s r).lags, p.2 < 25) (hfree : ∀ k < 16, (memChan s k).train = 0) (hstate : (memChan s ch.val).state = 0) :
    exec (.retrainStart ch) s = .next (setMemChan ch.val { memChan s ch.val with train := 1, again := false } { raiseAhead ch.val s with bkgd.nRetrain := s.bkgd.nRetrain + 1 }) := by
  refine if_pos ⟨?_, ?_, ?_, hstate⟩
  · rcases hasked with ⟨h, h'⟩ | h
    · rw [h, h']; rfl
    · rw [h, Bool.or_true]
  · simp only [hpanic, Bool.not_false, Bool.true_and, List.all_eq_true, List.mem_range, decide_eq_true_eq]
    exact hlags
  · simp only [List.all_eq_true, List.mem_range, beq_iff_eq]
    exact hfree

theorem exec_retrainStart_busy {ch : Fin 16} {s : State} (h : anyPanic s = true ∨ ∃ k < 16, (memChan s k).train ≠ 0) : exec (.retrainStart ch) s = .next s := by
  refine if_neg fun ⟨_, hcalm, hfree, _⟩ => ?_
  rcases h with h | ⟨k, hk, htrain⟩
  · rw [h, Bool.not_true, Bool.false_and] at hcalm
    exact Bool.false_ne_true hcalm
  · simp only [List.all_eq_true, List.mem_range, beq_iff_eq] at hfree
    exact htrain (hfree k hk)

theorem exec_retrainReadAheadFull {ch : Fin 16} {s : State} (htrain : (memChan s ch.val).train = 1) (hpanic : anyPanic s = false) :
    ∃ x, exec (.retrainReadAheadFull ch) s = .next (setMemChan ch.val x s) ∧ x = { memChan s ch.val with train := 3, state := 1, banks := x.banks } ∧ ∀ p ∈ x.banks, p.2.row = none := by
  refine ⟨_, if_pos ⟨htrain, hpanic⟩, rfl, fun p hp => ?_⟩
  obtain ⟨q, -, hq⟩ := List.mem_filterMap.mp hp
  dsimp only at hq
  split at hq
  · exact absurd hq (by simp)
  · cases hq
    rfl

/-- R366: a channel after its training: it operates, and no bank owes a refresh. -/
def resumed (eye : Bool) (x : MemChan) : MemChan :=
  { x with
    train := 0, state := 0, urgent := x.urgent.filter (fun u => match u with | .refresh _ => false | .rfm _ => true), trained := x.trained + b2n eye, failed := x.failed + b2n (!eye)
    banks := x.banks.filterMap (fun p => let y := if 0 < p.2.owed then { refreshed p.2 with owed := 0 } else p.2; if y = {} then none else some (p.1, y)) }

theorem resumed_owed (eye : Bool) (x : MemChan) : ∀ p ∈ (resumed eye x).banks, p.2.owed ≤ 0 := by
  intro p hp
  obtain ⟨q, -, hq⟩ := List.mem_filterMap.mp hp
  have howed : (if 0 < q.2.owed then { refreshed q.2 with owed := 0 } else q.2).owed ≤ 0 := by
    split
    · exact le_refl _
    · next h => exact not_lt.mp h
  dsimp only at hq
  generalize (if 0 < q.2.owed then { refreshed q.2 with owed := 0 } else q.2) = y at hq howed
  split at hq
  · exact absurd hq (by simp)
  · cases hq
    exact howed

/-- R366: what the end of a training notes among the tasks. -/
def noteTraining (c : Nat) (s : State) : State :=
  let s := { s with bkgd.wants := s.bkgd.wants.filter (· ≠ c), bkgd.retrainedNs := s.bkgd.retrainedNs.insert c (monoNs s),
                    bkgd.retrainTemp := s.bkgd.retrainTemp.insert c (site s (15 + c / 4)).reading }
  let t := s.bkgd.tasks.get {} 5
  if s.bkgd.wants = [] then { s with bkgd.tasks := s.bkgd.tasks.set {} 5 { t with doneNs := nowNs s } } else s

theorem noteTraining_only (c : Nat) (s : State) : noteTraining c s = { s with bkgd := (noteTraining c s).bkgd } := by
  unfold noteTraining
  dsimp only
  split <;> rfl

theorem noteTraining_wants (c : Nat) (s : State) : (noteTraining c s).bkgd.wants = s.bkgd.wants.filter (· ≠ c) := by
  unfold noteTraining
  dsimp only
  split <;> rfl

theorem exec_retrainDone {ch : Fin 16} {s : State} (h : (memChan s ch.val).train = 3) (eye : Bool) :
    exec (.retrainDone ch eye) s = .next (let t := noteTraining ch.val (setMemChan ch.val (resumed eye (memChan s ch.val)) (usualAhead ch.val s)); if eye then t else raiseOpen 376 t) :=
  if_neg (not_not.mpr h)

theorem exec_retrainDone_spec {ch : Fin 16} {s : State} (h : (memChan s ch.val).train = 3) (eye : Bool) :
    ∃ t, exec (.retrainDone ch eye) s = .next t ∧
    (memChan t ch.val).train = 0 ∧ (memChan t ch.val).state = 0 ∧ (memChan t ch.val).trained = (memChan s ch.val).trained + b2n eye ∧
    (memChan t ch.val).failed = (memChan s ch.val).failed + b2n (!eye) ∧ (∀ p ∈ (memChan t ch.val).banks, p.2.owed ≤ 0) ∧
    t.bkgd.wants = s.bkgd.wants.filter (· ≠ ch.val) ∧ t.mem = s.mem ∧ t.qdma = s.qdma ∧ (eye = true → t.evnt = s.evnt) := by
  have honly := noteTraining_only ch.val (setMemChan ch.val (resumed eye (memChan s ch.val)) (usualAhead ch.val s))
  have hwants := noteTraining_wants ch.val (setMemChan ch.val (resumed eye (memChan s ch.val)) (usualAhead ch.val s))
  have hexec := exec_retrainDone h eye
  generalize noteTraining ch.val (setMemChan ch.val (resumed eye (memChan s ch.val)) (usualAhead ch.val s)) = v at honly hwants hexec
  have hchan : memChan v ch.val = resumed eye (memChan s ch.val) := by
    rw [honly]
    exact memChan_setMemChan_self ..
  have hrest : v.mem = s.mem ∧ v.qdma = s.qdma ∧ v.evnt = s.evnt := by
    rw [honly, usualAhead_only]
    exact ⟨rfl, rfl, rfl⟩
  obtain ⟨hmem, hqdma, hevnt⟩ := hrest
  cases eye with
  | true => exact ⟨v, hexec, by rw [hchan]; rfl, by rw [hchan]; rfl, by rw [hchan]; rfl, by rw [hchan]; rfl, by rw [hchan]; exact resumed_owed _ _, hwants, hmem, hqdma, fun _ => hevnt⟩
  | false =>
    have hraise : memChan (raiseOpen 376 v) ch.val = resumed false (memChan s ch.val) := hchan
    exact ⟨raiseOpen 376 v, hexec, by rw [hraise]; rfl, by rw [hraise]; rfl, by rw [hraise]; rfl, by rw [hraise]; rfl, by rw [hraise]; exact resumed_owed _ _, hwants, hmem, hqdma, fun h => absurd h (by decide)⟩

theorem exec_rtpStatusRead {a : Acc} {s : State} (ha : s.accessible a) (r : Fin 8) : exec (.rtpStatusRead a r) s = .next (setRtp r.val { rtp s r.val with peak := 0 }
    { s with core.rdata := (2 ^ 24 * min 255 (rtp s r.val).peak + 2 ^ 16 * min 255 ((rtp s r.val).lags.foldl (fun m p => max m p.2) 0) +
        2 * b2n (rtp s r.val).overflow + b2n (rtp s r.val).panic.isSome) % 2 ^ 32 }) :=
  congrArg Host.Outcome.next (windowRead_permitted ha ..)

/-- Settles O46. -/
theorem panicAndRetraining : Obligations.PanicAndRetraining := by
  unfold Obligations.PanicAndRetraining
  refine ⟨fun r ch lag s hlag hpanic => exec_memPanic_over hlag hpanic ch, fun r ch lag s h => exec_memPanic_within h ch, ?ends, ?stays, ?overflow, ?start,
    fun ch s h => exec_retrainStart_busy h, fun ch s htrain hpanic => exec_retrainReadAheadFull htrain hpanic, ?abandoned, fun ch eye s h => exec_retrainDone_spec h eye,
    fun a r s ha => exec_rtpStatusRead ha r⟩
  case ends =>
    intro r lags t0 s hlen hpanic hbelow
    refine ⟨{ rtp s r.val with lags := nonzeroLags lags, panic := none, held := false, panicNs := (rtp s r.val).panicNs + (monoNs s - t0) }, ?_, rfl, rfl, nonzeroLags_spec⟩
    rw [exec_panicExit hlen, hpanic]
    refine congrArg Host.Outcome.next (if_pos ?_)
    simpa only [List.all_eq_true, decide_eq_true_eq] using hbelow
  case stays =>
    intro r lags s hlen h
    rw [exec_panicExit hlen]
    refine congrArg Host.Outcome.next ?_
    split
    · next t ht =>
      refine if_neg ?_
      obtain ⟨l, hl, hover⟩ := h.resolve_left (by rw [ht]; simp)
      simp only [List.all_eq_true, decide_eq_true_eq, not_forall]
      exact ⟨l, hl, by omega⟩
    · rfl
  case overflow =>
    intro f s
    show execElasticOverflow f s = _
    simp only [execElasticOverflow, sliceOver, decide_eq_true_eq]
  case start =>
    intro ch s hasked hpanic hlags hfree hstate
    refine ⟨_, exec_retrainStart hasked hpanic hlags hfree hstate, ?_⟩
    have honly := raiseAhead_only ch.val s
    have hrtp := rtp_raiseAhead ch.val s
    generalize raiseAhead ch.val s = v at honly hrtp
    have hchans (k : Nat) : memChan { v with bkgd.nRetrain := s.bkgd.nRetrain + 1 } k = memChan s k := by rw [honly]; rfl
    refine ⟨memChan_setMemChan_self .., by rw [honly]; rfl, fun k hk => ?_, fun r hr => ?_, fun r => ?_, by rw [honly]; rfl, by rw [honly]; rfl⟩
    · rw [memChan_setMemChan, if_neg hk, hchans]
    · show Map.get 0 (rtp v r).ahead ch.val = _
      rw [hrtp, if_pos hr]
      exact Map.get_set_self ..
    · show rtp v r = { rtp s r with ahead := (rtp v r).ahead }
      rw [hrtp]
      split <;> rfl
  case abandoned =>
    intro ch s htrain hpanic
    exact ⟨if_neg fun h => absurd h.2 (by rw [hpanic]; decide), if_pos ⟨htrain, hpanic⟩⟩

end Sys2Proof.Machine
end

section
/-! PROOFS. Background work (R373, R404, R478 to R492). -/
namespace Sys2Proof.Machine
open Sys2Proof

/-! ### Scrubbing of DRAM (R373, R483) -/

/-- The check of a block that no transaction asks for, counted in its channel. -/
def scrubbed (c addr : Nat) (s : State) : State :=
  let u := useCheck c addr false (openRow c addr 16 s)
  setMemChan c { memChan u c with reads := (memChan u c).reads + 1, scrubs := (memChan u c).scrubs.filter (· ≠ addr) } { u with bkgd.nScrub := u.bkgd.nScrub + 1 }

theorem scrubbed_spec (c addr : Nat) (s : State) :
    (memChan (scrubbed c addr s) c).reads = (memChan s c).reads + 1 ∧ (memChan (scrubbed c addr s) c).scrubs = (memChan s c).scrubs.filter (· ≠ addr) ∧
      (scrubbed c addr s).bkgd = { s.bkgd with nScrub := s.bkgd.nScrub + 1 } ∧ (scrubbed c addr s).mem = s.mem ∧ (scrubbed c addr s).ports = s.ports ∧
      (scrubbed c addr s).badBlocks = s.badBlocks ∧ ∀ k, k ≠ c → memChan (scrubbed c addr s) k = memChan s k := by
  have hopen := (openRow_channelOnly c addr 16 s).trans (useCheck_channelOnly c addr false _)
  unfold scrubbed
  dsimp only
  generalize useCheck c addr false (openRow c addr 16 s) = u at hopen
  rw [memChan_setMemChan_self, hopen.reads, hopen.scrubs]
  refine ⟨rfl, rfl, ?_, hopen.keeps State.mem, hopen.keeps State.ports, hopen.keeps State.badBlocks, fun k hk => ?_⟩
  · rw [← hopen.keeps State.bkgd]
    rfl
  · rw [memChan_setMemChan, if_neg hk]
    exact hopen.others k hk

theorem exec_dramScrub_good {s : State} {addr c : Nat} (haddr : addr = s.bkgd.scrub / 64 * 64) (hc : c = (locOf s addr).chan) (hon : taskOn s 1 = true)
    (hburnish : burnishSuspended s = false) (hpanic : anyPanic s = false) (hstate : (memChan s c).state = 0)
    (hidle : chooseTxn s c ((memChan s c).queue.map (aged s)) = none) (hend : addr + 64 < dramEnd) (hgood : s.badBlocks.contains addr = false) :
    exec (.dramScrub none []) s = .next { scrubbed c addr s with bkgd.scrub := addr + 64 } := by
  subst haddr hc
  have hmay : ¬ (!(taskOn s 1 && !burnishSuspended s) || anyPanic s || (memChan s (locOf s (s.bkgd.scrub / 64 * 64)).chan).state != 0 || decide (dramEnd ≤ s.bkgd.scrub / 64 * 64) ||
      (chooseTxn s (locOf s (s.bkgd.scrub / 64 * 64)).chan ((memChan s (locOf s (s.bkgd.scrub / 64 * 64)).chan).queue.map (aged s))).isSome) = true := by
    simp only [hon, hburnish, hpanic, hstate, hidle, show ¬ dramEnd ≤ s.bkgd.scrub / 64 * 64 by omega]
    decide
  have hblocks := (scrubbed_spec (locOf s (s.bkgd.scrub / 64 * 64)).chan (s.bkgd.scrub / 64 * 64) s).2.2.2.2.2.1
  have hclean : ¬ (0 = 2 ∨ (scrubbed (locOf s (s.bkgd.scrub / 64 * 64)).chan (s.bkgd.scrub / 64 * 64) s).badBlocks.contains (s.bkgd.scrub / 64 * 64) = true) := by
    rw [hblocks, hgood]
    decide
  have hkept (v : State) (hv : ¬ (0 = 2 ∨ v.badBlocks.contains (s.bkgd.scrub / 64 * 64) = true)) (w w' : State) :
      (if 0 = 2 ∨ v.badBlocks.contains (s.bkgd.scrub / 64 * 64) = true then w else if 0 = 1 then w' else v) = v := (if_neg hv).trans (if_neg (by decide))
  have hnext (v : State) : (if s.bkgd.scrub / 64 * 64 + 64 < dramEnd then { v with bkgd.scrub := s.bkgd.scrub / 64 * 64 + 64 } else taskDone 1 { v with bkgd.scrub := 0 }) =
      { v with bkgd.scrub := s.bkgd.scrub / 64 * 64 + 64 } := if_pos hend
  exact (if_neg hmay).trans (congrArg Host.Outcome.next ((hnext _).trans (by rw [← hkept _ hclean]; rfl)))

/-! ### Scrubbing of SRAM (R404, R484) -/

/-- R404: the calibration of every strip without its bad entries. -/
def stripsRestored (s : State) : State := forEach (List.range 16) (fun i s => setStrip i { strip s i with soft := [], bad := [] } s) s

theorem stripsRestored_only (s : State) : ∃ m, stripsRestored s = { s with strips := m } :=
  forEach_rel (R := fun s t : State => ∃ m, t = { s with strips := m }) (fun s => ⟨s.strips, rfl⟩) (by rintro _ _ _ ⟨_, rfl⟩ ⟨m, rfl⟩; exact ⟨m, rfl⟩) (List.range 16)
    (fun i s => setStrip i { strip s i with soft := [], bad := [] } s) (fun _ _ => ⟨_, rfl⟩) s

theorem strip_stripsRestored (s : State) {i : Nat} (hi : i < 16) : strip (stripsRestored s) i = { strip s i with soft := [], bad := [] } := by
  rw [stripsRestored, forEach_range_parts (part := strip) (g := fun _ x => { x with soft := [], bad := [] }), if_pos hi]
  · intro i s
    exact strip_setStrip_self ..
  · intro i j s hj
    rw [strip_setStrip]
    exact if_neg hj

/-- R484: what a run notes of the words corrected and restored. -/
def sramNoted (n restored : Nat) (s : State) : State :=
  taskDone 2 { s with bkgd.nSram := s.bkgd.nSram + n, bkgd.nRestored := s.bkgd.nRestored + restored }

theorem sramNoted_strips (n restored : Nat) (s : State) : (sramNoted n restored s).strips = s.strips := rfl

theorem strip_sramNoted (n restored : Nat) (s : State) (i : Nat) : strip (sramNoted n restored s) i = strip s i := by
  rw [strip, strip, sramNoted_strips]

theorem exec_sramScrub_eq (n : Nat) (s : State) : exec (.sramScrub n []) s =
    .next (sramNoted n (((List.range 16).map (fun i => (strip s i).bad.length)).sum + s.chk.copies.length) (stripsRestored { s with chk.copies := [] })) := by
  show execSramScrub n [] s = _
  unfold execSramScrub
  extract_lets s1 r c s2 s3 b
  have hs3 : s3 = stripsRestored { s with chk.copies := [] } := rfl
  have hs1 : s1 = s := rfl
  clear_value s3 s1
  subst hs1
  have hr : r = ((List.range 16).map (fun i => (strip s1 i).bad.length)).sum + s1.chk.copies.length := by
    simp only [r, List.length_nil, Nat.add_zero]
  clear_value r
  rw [← hs3, hr]
  rfl

theorem exec_sramScrub (n : Nat) (s : State) : ∃ t, exec (.sramScrub n []) s = .next t ∧ (∀ i, i < 16 → (strip t i).bad = [] ∧ (strip t i).soft = []) ∧ t.bkgd.nSram = s.bkgd.nSram + n ∧
    t.bkgd.nRestored = s.bkgd.nRestored + ((List.range 16).map (fun i => (strip s i).bad.length)).sum + s.chk.copies.length ∧ t.chk.copies = [] ∧ (task t 2).doneNs = nowNs s ∧ t.evnt = s.evnt ∧ t.mem = s.mem := by
  have hstrips (i : Nat) := strip_stripsRestored { s with chk.copies := [] } (i := i)
  obtain ⟨m, honly⟩ := stripsRestored_only { s with chk.copies := [] }
  have hexec := exec_sramScrub_eq n s
  rw [Nat.add_assoc]
  generalize ((List.range 16).map (fun i => (strip s i).bad.length)).sum + s.chk.copies.length = r at hexec ⊢
  generalize stripsRestored { s with chk.copies := [] } = v at hstrips honly hexec
  refine ⟨_, hexec, fun i hi => ?_, ?_⟩
  · rw [strip_sramNoted, hstrips i hi]
    exact ⟨rfl, rfl⟩
  · rw [honly]
    exact ⟨rfl, rfl, rfl, congrArg Task.doneNs (task_setTask_self ..), rfl, rfl⟩

/-! ### Eyes, snapshots, wear (R485, R490, R491) -/

theorem exec_eyeTracking {h v n : Nat} {s : State} (hh : h < 256) (hv : v < 256) (hon : taskOn s 4 = true) (hburnish : burnishSuspended s = false) (hn : nextEyeLane s = some n) :
    ∃ t, exec (.eyeTracking h v) s = .next t ∧ t.bkgd.eyeLane = n ∧ t.bkgd.eyes.get 0 n = h * 256 + v ∧ t.bkgd.nEyes = s.bkgd.nEyes + 1 ∧
      t.evnt.inflight = s.evnt.inflight ++ (if h < prmN s P.BKGD_EYE_MIN then [⟨562, n, none⟩] else []) ∧ t.lanes = s.lanes := by
  have hraise (u : State) (he : u.evnt = s.evnt) (hp : prmN u P.BKGD_EYE_MIN = prmN s P.BKGD_EYE_MIN) :
      raiseIf (decide (h < prmN u P.BKGD_EYE_MIN)) 562 n u =
        { u with evnt.inflight := s.evnt.inflight ++ (if h < prmN s P.BKGD_EYE_MIN then [⟨562, n, none⟩] else []) } := by
    rw [raiseIf, hp, ← he]
    by_cases hlow : h < prmN s P.BKGD_EYE_MIN
    · simp only [hlow, decide_true, if_true, raise]
    · simp only [hlow, decide_false, Bool.false_eq_true, if_false, List.append_nil]
  show ∃ t, execEyeTracking h v s = .next t ∧ _
  rw [execEyeTracking, if_neg (by rw [hon]; decide), if_neg (by rw [hburnish]; decide), hn]
  rw [Nat.min_eq_right (by omega : h ≤ 255), Nat.min_eq_right (by omega : v ≤ 255)]
  exact ⟨_, congrArg Host.Outcome.next (hraise (setTask 4 _ { s with bkgd.eyeLane := n, bkgd.eyes := s.bkgd.eyes.set 0 n (h * 256 + v), bkgd.nEyes := s.bkgd.nEyes + 1 }) rfl rfl),
    rfl, Map.get_set_self .., rfl, rfl, rfl⟩

/-- What a table of the values that are not 0 gives for its numbers. -/
theorem get_nonzero {β : Type} (f : Nat → Nat) (g : Nat → β) (d : β) (hz : ∀ p, f p = 0 → g p = d) (ks : List Nat) (p : Nat) :
    Map.get d (ks.filterMap (fun p => if f p = 0 then none else some (p, g p))) p = if p ∈ ks then g p else d := by
  induction ks with
  | nil => rfl
  | cons k ks ih =>
    by_cases hf : f k = 0
    · have hnone : (if f k = 0 then none else some (k, g k)) = none := if_pos hf
      rw [List.filterMap_cons, hnone, ih]
      by_cases hpk : p = k
      · subst hpk
        rw [hz p hf, ite_self, ite_self]
      · simp [hpk]
    · have hsome : (if f k = 0 then none else some (k, g k)) = some (k, g k) := if_neg hf
      rw [List.filterMap_cons, hsome]
      by_cases hpk : p = k
      · subst hpk
        simp [Map.get]
      · simp only [Map.get, ih, List.mem_cons, hpk, false_or, if_false]

/-- R490: the snapshot and the counts that the next one goes on from, kept before it is fed. -/
def snapped (s : State) : State :=
  { s with
    bkgd.latest := snapshotBytes s, bkgd.snapshots := s.bkgd.snapshots + 1, bkgd.overdue := 0
    bkgd.lost := (List.range 16).filterMap (fun p => if lossLines s p = 0 then none else some (p, (lossLines s p : Int))) }

theorem teleSnap_only (s : State) : ∃ fl, teleSnap s = taskDone 7 { snapped s with netw.flows := fl } := by
  obtain ⟨fl, h⟩ := feed_only { product := 11, source := 0xFF, epoch := s.sys.epoch, firstId := s.bkgd.snapshots, chunks := [.bytes (snapshotBytes s)], last := true, refNs := nowNs s } (snapped s)
  exact ⟨fl, congrArg (taskDone 7) h⟩

theorem exec_teleSnap (s : State) : ∃ t, exec .teleSnap s = .next t ∧ t.bkgd.latest = snapshotBytes s ∧ t.bkgd.snapshots = s.bkgd.snapshots + 1 ∧ t.bkgd.overdue = 0 ∧ (task t 7).doneNs = nowNs s ∧
    (∀ p, p < 16 → t.bkgd.lost.get 0 p = lossLines s p) ∧ t.ports = s.ports ∧ t.mem = s.mem := by
  obtain ⟨fl, h⟩ := teleSnap_only s
  refine ⟨_, congrArg Host.Outcome.next h, rfl, rfl, rfl, congrArg Task.doneNs (task_setTask_self ..), fun p hp => ?_, rfl, rfl⟩
  refine (get_nonzero (lossLines s) (fun p => (lossLines s p : Int)) 0 (fun p h => by rw [h]; rfl) (List.range 16) p).trans ?_
  rw [if_pos (List.mem_range.mpr hp)]

/-! ### Quads, strips and the store (R478, R479, R491, R492) -/

theorem exec_quadBias {q : Nat} {qs : List Nat} {s : State} (ha : arming s = true) (hq : quadsToBias s = q :: qs) :
    exec .quadBias s = .next { s with thrm.biased := (s.thrm.biased ++ [q]).insertionSort (· ≤ ·) } := by
  show execQuadBias s = _
  rw [execQuadBias, ha, hq]

theorem exec_stripUngate {i : Nat} {q : List Nat} {s : State} (hu : s.thrm.ungateQ = i :: q) (hi : i < 16) (hd : stripDuty s < 16) :
    exec .stripUngate s = .next { s with thrm.ungateQ := q, thrm.ungated := (i :: s.thrm.ungated).dedup.insertionSort (· ≤ ·) } := by
  have hlow : (if stripDuty { s with thrm.ungateQ := q } = 16 then s.thrm.low.filter (· ≠ i) else s.thrm.low) = s.thrm.low := if_neg (by exact Nat.ne_of_lt hd)
  show execStripUngate s = _
  rw [execStripUngate, hu]
  dsimp only
  rw [if_pos hi, hlow]

/-- The store goes on with an operation that has begun. -/
theorem pumpStore_begun {x : StoreOp} {xs : List StoreOp} {s : State} (ho : s.stor.ops = x :: xs) (hb : x.begun = true) : pumpStore s = s := by
  rw [pumpStore, ho]
  show (match s.stor.ops with | x :: _ => if x.begun then s else pumpStoreN (xs.length + 1) (beginOp x s) | [] => s) = s
  rw [ho]
  exact if_pos hb

/-- R491: the erase of block `b` counted on its wear. -/
def eraseNoted (b : Nat) (s : State) : State := { s with stor.wear := s.stor.wear.set 0 b (eraseCount s b + 1) }

theorem eraseCount_eraseNoted (b : Nat) (s : State) : eraseCount (eraseNoted b s) b = eraseCount s b + 1 := by
  show Map.get 0 (Map.set 0 s.stor.wear b (eraseCount s b + 1)) b = _
  exact Map.get_set_self ..

theorem nextBlock_allowed {x : StoreOp} {s : State} (h : storeInhibited s = false) : nextBlock x s = setHead x s := if_neg (by rw [h]; decide)

theorem exec_storeBlockDone_erased {x : StoreOp} {b : Nat} {rest : List Nat} {s : State} (ho : s.stor.ops = [x]) (hb : x.begun = true) (ht : x.todo = b :: rest)
    (herased : x.erased = false) (herase : x.erase = false) (hwear : eraseCount s b + 1 < prmN s P.STOR_WEAR_LIMIT) (hi : storeInhibited s = false) :
    exec (.storeBlockDone true) s = .next { s with stor.wear := s.stor.wear.set 0 b (eraseCount s b + 1), stor.ops := [{ x with erased := true }] } := by
  have hgood : (true && decide (eraseCount (eraseNoted b s) b < prmN (eraseNoted b s) P.STOR_WEAR_LIMIT)) = true := by
    rw [eraseCount_eraseNoted, Bool.true_and, decide_eq_true_eq]
    exact hwear
  have hhead : setHead { x with erased := true } (eraseNoted b s) = { eraseNoted b s with stor.ops := [{ x with erased := true }] } := by
    rw [setHead, show (eraseNoted b s).stor.ops = [x] from ho]
    rfl
  have hrun : pumpStore (nextBlock { x with erased := true } (eraseNoted b s)) = { eraseNoted b s with stor.ops := [{ x with erased := true }] } := by
    rw [nextBlock_allowed (by exact hi), hhead]
    exact pumpStore_begun rfl hb
  show execStoreBlockDone true s = _
  rw [execStoreBlockDone, ho]
  obtain ⟨_, _, _, _, _, _, _, _, _, _, _, _, _, _, _, _⟩ := x
  cases hb
  cases ht
  cases herased
  cases herase
  exact (if_pos hgood).trans (congrArg Host.Outcome.next hrun)

theorem exec_pendingCompletion {item : Nat} {y : StoreOp} {s : State} (hi : storeInhibited s = false) (hitem : itemState (storeItem s item) = 2) (ho : s.stor.ops = [y])
    (hy : y.item ≠ item) (hb : y.begun = true) : exec (.pendingCompletion item) s = .next { s with stor.ops := [y, { why := .pending, item := item }] } := by
  have hqueue : queueStore { why := .pending, item := item } s = { s with stor.ops := [y, { why := .pending, item := item }] } := by rw [queueStore, ho]; rfl
  show execPendingCompletion item s = _
  rw [execPendingCompletion, if_pos ⟨hi, hitem, by simp [ho, hy]⟩, hqueue]
  exact congrArg _ (pumpStore_begun rfl hb)

/-- R491: with nothing to move a run only notes its completion. -/
theorem startWear_nothing {s : State} (h : wearMove s = none) : startWear s = taskDone 6 s := by
  unfold startWear
  rw [h]

/-- Settles O28. -/
theorem backgroundTasks : Obligations.BackgroundTasks := by
  unfold Obligations.BackgroundTasks
  refine ⟨?scrub, exec_sramScrub, fun h v n s hh hv hon hburnish hn => exec_eyeTracking hh hv hon hburnish hn, ?retrain, fun s hon hburnish ho hmove => ?_,
    fun src dst s hon hburnish ho hi hmove => exec_wearLevelling_idle hon hburnish ho (startWear_moves ho hi hmove), exec_teleSnap, fun q qs s ha hq => exec_quadBias ha hq,
    fun i q s hu hi hd => exec_stripUngate hu hi hd, fun x b rest s ho hb ht herased herase hwear hi => exec_storeBlockDone_erased ho hb ht herased herase hwear hi,
    fun item y s hi hitem ho hy hb => exec_pendingCompletion hi hitem ho hy hb⟩
  case scrub =>
    intro s hon hburnish hpanic hstate hidle hend hgood
    obtain ⟨hreads, hscrubs, hbkgd, hmem, hports, hblocks, hothers⟩ := scrubbed_spec (locOf s (s.bkgd.scrub / 64 * 64)).chan (s.bkgd.scrub / 64 * 64) s
    exact ⟨_, _, rfl, exec_dramScrub_good rfl rfl hon hburnish hpanic hstate hidle hend hgood, hreads, hscrubs,
      congrArg (fun x : Bkgd => { x with scrub := s.bkgd.scrub / 64 * 64 + 64 }) hbkgd, hmem, hports, hblocks, hothers⟩
  case retrain =>
    intro s hon hburnish hwants
    show execRetrainPeriod none s = _
    simp only [execRetrainPeriod, hon, hburnish, hwants, Bool.true_eq_false, if_false, List.isEmpty_nil, Bool.not_true, Bool.or_false, Bool.false_eq_true]
  · exact exec_wearLevelling_idle hon hburnish ho (startWear_nothing hmove)

end Sys2Proof.Machine
end

section
/-! PROOFS. What the fall of a device leaves of its sensors, its power domains and the claim line (R331, R473 to R475). -/
namespace Sys2Proof.Machine
open Sys2Proof

/-- The readings, the counts of the thermal control, the power domains and the line of the claim. -/
def heat (s : State) : Map Site × Nat × Nat × Boot × Bool := (s.thrm.sites, s.thrm.nHard, s.thrm.state, s.boot, s.twin.driving)

/-! ### Replies of deferred commands -/

theorem startJoin_heat (s : State) : heat (startJoin s) = heat s := by
  unfold startJoin
  split
  · rfl
  · split
    · rfl
    · exact sendSeq_keeps heat ..

theorem shadowDiverge_heat (s : State) : heat (shadowDiverge s) = heat s := by
  unfold shadowDiverge
  split
  · dsimp only
    split
    · exact startJoin_heat _
    · rfl
  · rfl

theorem replyDiverge_heat (s : State) : heat (replyDiverge s) = heat s :=
  (shadowDiverge_heat _).trans ((logDevice_only ..).keeps heat)

theorem unitPush_heat (q : Nat) (ws : List Nat) (s : State) : heat (unitPush q ws s).2 = heat s := by
  unfold unitPush
  dsimp only
  split
  · rfl
  · rw [queueAppend_eq]
    rfl

theorem emit_heat (r : Reply) (s : State) : heat (emit r s) = heat s := by
  unfold emit
  dsimp only
  split
  · exact unitPush_heat ..
  · rfl
  · unfold htReply
    split <;> rfl
  · exact sendSeq_keeps heat ..

theorem sendReply_heat (r : Reply) (s : State) : heat (sendReply r s) = heat s := by
  unfold sendReply
  split
  · rfl
  · exact emit_heat r s

theorem cacheReply_heat (n : Nat) (x : Cached) (s : State) : heat (cacheReply n x s) = heat s := by
  unfold cacheReply
  split <;> rfl

theorem replyDeferred_heat (d : Deferred) (status : Nat) (params : List Byte) (more : Bool) (s : State) : heat (replyDeferred d status params more s) = heat s := by
  unfold replyDeferred
  dsimp only
  split
  · rfl
  · generalize hu : cacheReply d.session _ _ = u
    have hcache : heat u = heat s := by
      rw [← hu]
      exact cacheReply_heat ..
    have hsent (r : Reply) : heat (if (d.quiet && status == 0) = true then u else sendReply r u) = heat s := by
      split
      · exact hcache
      · exact (sendReply_heat r u).trans hcache
    split
    · exact (replyDiverge_heat _).trans (hsent _)
    · exact hsent _

theorem endDeferred_heat (d : Deferred) (status : Nat) (params : List Byte) (more : Bool) (value : Nat) (s : State) : heat (endDeferred d status params more value s) = heat s := by
  refine (replyDeferred_heat ..).trans ?_
  split
  · exact (logCommit_only ..).keeps heat
  · rfl

theorem failDeferred_heat (d : Deferred) (ds : List Detail) (s : State) : heat (failDeferred d ds s) = heat s := by
  refine (endDeferred_heat ..).trans ?_
  split <;> rfl

/-! ### The end of a Cinch, of the claim and of the data (R331, R473) -/

theorem afterCinch_heat (s : State) : heat (afterCinch s) = heat s := by
  unfold afterCinch
  split
  · rfl
  · split
    · exact sendSeq_keeps heat ..
    · exact startJoin_heat _

theorem disarmCams_heat (e : Nat) (s : State) : heat (disarmCams e s) = heat s :=
  forEach_keeps heat (fun p s => by dsimp only; split <;> rfl) s

theorem abandonCinch_heat (status : Nat) (ds : List Detail) (s : State) : heat (abandonCinch status ds s) = heat s := by
  unfold abandonCinch
  split
  · next c _ =>
    split
    · dsimp only
      refine (afterCinch_heat _).trans ?_
      split
      · exact (failDeferred_heat ..).trans (disarmCams_heat ..)
      · exact disarmCams_heat ..
    · rfl
  · rfl

theorem endEyeScans_heat (n : Nat) (s : State) : heat (endEyeScans n s) = heat s :=
  forEach_keeps heat (fun _ _ => failDeferred_heat ..) s

theorem cutData_heat (s : State) : heat (cutData s) = heat s := by
  have hscans : heat (forEach (List.range 64) endEyeScans s) = heat s := forEach_keeps heat endEyeScans_heat s
  unfold cutData
  generalize forEach (List.range 64) endEyeScans s = u at hscans
  exact hscans

/-- The release of the claim keeps the readings, the counts and the domains. -/
theorem releaseClaim_heat (s : State) : heat (releaseClaim s) = (s.thrm.sites, s.thrm.nHard, s.thrm.state, s.boot, false) := by
  by_cases hd : s.twin.driving = true
  · obtain ⟨u, hquiet, hclock⟩ := releaseClaim_released hd
    exact (hquiet.only.keeps heat).trans (hclock.keeps heat)
  · rw [releaseClaim, if_neg hd]
    exact congrArg (fun b => (s.thrm.sites, s.thrm.nHard, s.thrm.state, s.boot, b)) (Bool.eq_false_iff.mpr hd)

theorem setThermal_state (n : Nat) (s : State) : (setThermal n s).thrm.state = n := by
  unfold setThermal
  split
  · next h => exact h
  · rfl

theorem setThermal_keeps {β : Type} (π : State → β) (n : Nat) (s : State) (h : ∀ u x n, π { u with ht := x, thrm.state := n } = π u := by exact fun _ _ _ => rfl) :
    π (setThermal n s) = π s := by
  unfold setThermal
  split
  · rfl
  · exact h s _ n

end Sys2Proof.Machine
end

section
/-! PROOFS. The thermal control (R462 to R475). -/
namespace Sys2Proof.Machine
open Sys2Proof

/-! ### The stops (R473, R475) -/

/-- R475: a hard stop keeps the readings, is counted, releases the line and loses DRAM. -/
theorem hardStop_spec (cause k : Nat) (s : State) : (hardStop cause k s).thrm.sites = s.thrm.sites ∧ (hardStop cause k s).thrm.nHard = s.thrm.nHard + 1 ∧
    (hardStop cause k s).thrm.state = 4 ∧ (hardStop cause k s).mem = [] ∧ (hardStop cause k s).twin.driving = false ∧ (hardStop cause k s).thrm.trip.map Trip.cause = some cause := by
  have hheat : heat (cutData (releaseClaim (abandonCinch 0x0505 (refuseFree 0x0505) s))) = (s.thrm.sites, s.thrm.nHard, s.thrm.state, s.boot, false) := by
    have hcinch := abandonCinch_heat 0x0505 (refuseFree 0x0505) s
    rw [cutData_heat, releaseClaim_heat]
    generalize abandonCinch 0x0505 (refuseFree 0x0505) s = u at hcinch
    simp only [heat, Prod.mk.injEq] at hcinch ⊢
    obtain ⟨hsites, hn, hstate, hboot, -⟩ := hcinch
    exact ⟨hsites, hn, hstate, hboot, trivial⟩
  unfold hardStop
  generalize cutData (releaseClaim (abandonCinch 0x0505 (refuseFree 0x0505) s)) = u at hheat
  simp only [heat, Prod.mk.injEq] at hheat
  obtain ⟨hsites, hn, -, -, hdriving⟩ := hheat
  dsimp only
  generalize hv : { u with mem := [], badBlocks := [], memc := {}, sys.log.entries := [], sys.log.mirror := [], thrm.trip := some ⟨cause, k, tHot u, false⟩, thrm.nHard := u.thrm.nHard + 1, thrm.byCommand := false, thrm.rearmed := false, thrm.stopStep := 0, boot.domains := min u.boot.domains 3, boot.clusterA := false, boot.clusterB := false, boot.clocks := u.boot.clocks &&& 3 } = v
  have hkept : (raise 559 1 (setThermal 4 v)).thrm.state = 4 := setThermal_state 4 v
  refine ⟨(setThermal_keeps (fun t => t.thrm.sites) 4 v).trans ?_, (setThermal_keeps (fun t => t.thrm.nHard) 4 v).trans ?_, hkept, (setThermal_keeps State.mem 4 v).trans ?_,
    (setThermal_keeps (fun t => t.twin.driving) 4 v).trans ?_, (setThermal_keeps (fun t => t.thrm.trip.map Trip.cause) 4 v).trans ?_⟩
  · rw [← hv]; exact hsites
  · rw [← hv]; exact congrArg (· + 1) hn
  · rw [← hv]
  · rw [← hv]; exact hdriving
  · rw [← hv]; rfl

theorem beginStop_sites (c : Bool) (s : State) : (beginStop c s).thrm.sites = s.thrm.sites := by
  unfold beginStop
  dsimp only
  generalize hu : setThermal 2 _ = u
  have hsites : u.thrm.sites = s.thrm.sites := by
    rw [← hu]
    exact setThermal_keeps (fun t => t.thrm.sites) ..
  exact (congrArg Prod.fst (abandonCinch_heat 0x0505 (refuseFree 0x0505) (raise 559 0 u))).trans hsites

theorem orderlyReached_sites (s : State) : (orderlyReached s).thrm.sites = s.thrm.sites := by
  unfold orderlyReached
  dsimp only
  split
  · exact beginStop_sites ..
  · exact (hardStop_spec ..).1

/-! ### θ and the cap step (R465, R467) -/

/-- What a rise of θ that is not too soon makes of the state. -/
structure Risen (s t : State) : Prop where
  theta : t.thrm.theta = min 7 (s.thrm.theta + 1)
  cap : t.thrm.cap = capStep t
  last : t.thrm.lastRise = some (monoNs s)
  sites : t.thrm.sites = s.thrm.sites
  above : t.thrm.above = s.thrm.above
  nRiseEv : t.thrm.nRiseEv = s.thrm.nRiseEv
  events : ∀ e ∈ s.evnt.inflight, e ∈ t.evnt.inflight

theorem riseTheta_risen (s : State) : Risen s (riseTheta false s) := by
  obtain ⟨_, _, _, es, h⟩ := riseTheta_only (s := s) (limited := false) (fun h => absurd h (by decide))
  rw [h]
  exact ⟨rfl, rfl, rfl, rfl, rfl, rfl, fun e he => List.mem_append_left es he⟩

/-! ### Readings (R462 to R464) -/

/-- R462: a reading of every site. -/
def sitesRead (codes : List Int) (s : State) : State :=
  forEach (List.range 24) (fun k s =>
    match codes[k]? with
    | some c => setSite k { site s k with reading := c, sum := (site s k).sum + c, n := (site s k).n + 1 } s
    | none => s) s

/-- R463 to R475: what the readings lead to. -/
def readingsJudged (was : Int) (s : State) : State :=
  match (countingSites s).find? (fun k => decide (1920 ≤ (site s k).reading)) with
  | some k => if s.thrm.state = 4 then s else hardStop 0 k s
  | none =>
    let hot := throttleHot s
    let s := if hot && !s.thrm.above then riseTheta false { s with thrm.above := true } else { s with thrm.above := hot }
    let rearm : Int := 16 * prmN s P.THRM_REARM_TJ
    if s.thrm.state < 2 ∧ (16 * prmN s P.THRM_ORDERLY_TJ : Nat) ≤ tHot s then orderlyReached s
    else if 3 ≤ s.thrm.state ∧ s.thrm.rearmed = false ∧ tHot s < rearm then
      if s.thrm.byCommand && decide (was < rearm) then { s with thrm.rearmed := true } else raiseOpen 560 { s with thrm.rearmed := true }
    else s

theorem exec_sensorReading (codes : List Int) (s : State) : exec (.sensorReading codes) s = .next (readingsJudged (tHot s) (sitesRead codes s)) := by
  show execSensorReading codes s = _
  unfold execSensorReading readingsJudged
  dsimp only
  generalize hv : forEach (List.range 24) _ s = v
  rw [show sitesRead codes s = v from hv]
  cases (countingSites v).find? (fun k => decide (1920 ≤ (site v k).reading)) with
  | some k => rfl
  | none =>
    dsimp only
    generalize (if (throttleHot v && !v.thrm.above) = true then riseTheta false { v with thrm.above := true } else { v with thrm.above := throttleHot v }) = u
    split
    · rfl
    · split <;> rfl

theorem sitesRead_only (codes : List Int) (s : State) : ∃ m, sitesRead codes s = { s with thrm.sites := m } :=
  forEach_rel (R := fun s t : State => ∃ m, t = { s with thrm.sites := m }) (fun s => ⟨s.thrm.sites, rfl⟩) (by rintro _ _ _ ⟨_, rfl⟩ ⟨m, rfl⟩; exact ⟨m, rfl⟩) (List.range 24)
    (fun k s =>
      match codes[k]? with
      | some c => setSite k { site s k with reading := c, sum := (site s k).sum + c, n := (site s k).n + 1 } s
      | none => s) (fun k s => by dsimp only; split; exact ⟨_, rfl⟩; exact ⟨s.thrm.sites, rfl⟩) s

theorem site_sitesRead {codes : List Int} (hlen : codes.length = 24) (s : State) {k : Nat} (hk : k < codes.length) :
    site (sitesRead codes s) k = { site s k with reading := codes[k], sum := (site s k).sum + codes[k], n := (site s k).n + 1 } := by
  rw [sitesRead, forEach_range_parts (part := site) (g := fun i x => match codes[i]? with
    | some c => { x with reading := c, sum := x.sum + c, n := x.n + 1 }
    | none => x), if_pos (by omega), List.getElem?_eq_getElem hk]
  · intro i s
    dsimp only
    split <;> simp [*]
  · intro i j s hj
    dsimp only
    split
    · rw [site_setSite]
      exact if_neg hj
    · rfl

theorem readingsJudged_sites (was : Int) (s : State) : (readingsJudged was s).thrm.sites = s.thrm.sites := by
  unfold readingsJudged
  split
  · split
    · rfl
    · exact (hardStop_spec ..).1
  · dsimp only
    generalize hu : (if (throttleHot s && !s.thrm.above) = true then riseTheta false { s with thrm.above := true } else { s with thrm.above := throttleHot s }) = u
    have hsites : u.thrm.sites = s.thrm.sites := by
      rw [← hu]
      split
      · exact (riseTheta_risen _).sites
      · rfl
    split
    · exact (orderlyReached_sites u).trans hsites
    · split
      · split <;> exact hsites
      · exact hsites

theorem site_congr {s t : State} (h : t.thrm.sites = s.thrm.sites) (k : Nat) : site t k = site s k := by rw [site, site, h]

theorem healthySites_congr {s t : State} (h : ∀ k < 24, (site t k).faulty = (site s k).faulty) : healthySites t = healthySites s :=
  List.filter_congr fun k hk => by rw [h k (List.mem_range.mp hk)]

/-- R467: the cap step follows the sites, θ and λ. -/
theorem capStep_congr {s t : State} (hsites : t.thrm.sites = s.thrm.sites) (htheta : t.thrm.theta = s.thrm.theta) (hlambda : t.thrm.lambda = s.thrm.lambda) :
    capStep t = capStep s := by
  have hhealthy : healthySites t = healthySites s := healthySites_congr fun k _ => by rw [site_congr hsites]
  simp only [capStep, hhealthy, htheta, hlambda]

theorem countingSites_congr {s t : State} (h : healthySites t = healthySites s) : countingSites t = countingSites s := by rw [countingSites, countingSites, h]

theorem countingSites_lt {s : State} {k : Nat} (h : k ∈ countingSites s) : k < 24 := by
  unfold countingSites at h
  dsimp only at h
  split at h
  · exact List.mem_range.mp h
  · exact List.mem_range.mp (List.mem_filter.mp h).1

theorem exec_sensorReading_sites {codes : List Int} (hlen : codes.length = 24) (s : State) : ∃ t, exec (.sensorReading codes) s = .next t ∧ ∀ k (hk : k < codes.length),
    (site t k).reading = codes[k] ∧ (site t k).sum = (site s k).sum + codes[k] ∧ (site t k).n = (site s k).n + 1 := by
  refine ⟨_, exec_sensorReading codes s, fun k hk => ?_⟩
  rw [site_congr (readingsJudged_sites ..), site_sitesRead hlen s hk]
  exact ⟨rfl, rfl, rfl⟩

/-- R473: a site that counts at 120 °C or more trips the device. -/
theorem exec_sensorReading_trips {codes : List Int} {k : Nat} (hk : k < codes.length) {s : State} (hlen : codes.length = 24) (hall : healthySites s = List.range 24)
    (hhot : 1920 ≤ codes[k]) (hstate : s.thrm.state ≠ 4) : ∃ t j, exec (.sensorReading codes) s = .next t ∧ t = hardStop 0 j (sitesRead codes s) := by
  have hcount : countingSites (sitesRead codes s) = List.range 24 := by
    have hhealthy : healthySites (sitesRead codes s) = List.range 24 := by
      rw [← hall]
      exact healthySites_congr fun k hk => by rw [site_sitesRead hlen s (by omega)]
    rw [countingSites, hhealthy]
    rfl
  have hstate' : ¬ (sitesRead codes s).thrm.state = 4 := by
    obtain ⟨m, h⟩ := sitesRead_only codes s
    rw [h]
    exact hstate
  have hfound : ((countingSites (sitesRead codes s)).find? (fun k => decide (1920 ≤ (site (sitesRead codes s) k).reading))).isSome = true := by
    rw [List.find?_isSome]
    refine ⟨k, by rw [hcount]; exact List.mem_range.mpr (by omega), ?_⟩
    rw [site_sitesRead hlen s hk]
    simpa using hhot
  obtain ⟨j, hj⟩ := Option.isSome_iff_exists.mp hfound
  refine ⟨_, j, exec_sensorReading codes s, ?_⟩
  rw [readingsJudged, hj]
  exact if_neg hstate'

/-- R463: where every site reads the same, that is the hottest. -/
theorem tHot_uniform {s : State} {c : Int} (h : ∀ k < 24, (site s k).reading = c) : tHot s = c := by
  have hfold : ∀ (ks : List Nat) (m : Nat × Int), (∀ k ∈ ks, k < 24) → m.2 = c →
      (ks.foldl (fun m k => if m.2 < (site s k).reading then (k, (site s k).reading) else m) m).2 = c := by
    intro ks
    induction ks with
    | nil => exact fun _ _ hm => hm
    | cons k ks ih =>
      intro m hks hm
      rw [List.foldl_cons, if_neg (by rw [hm, h k (hks k List.mem_cons_self)]; exact lt_irrefl c)]
      exact ih m (fun j hj => hks j (List.mem_cons_of_mem k hj)) hm
  refine hfold _ _ (fun k hk => countingSites_lt hk) ?_
  cases hl : countingSites s with
  | nil => exact h 0 (by decide)
  | cons k ks => exact h k (countingSites_lt (by rw [hl]; exact List.mem_cons_self))

theorem prmN_congr {s t : State} (h : t.sys = s.sys) (p : Nat) : prmN t p = prmN s p := by rw [prmN, prmN, prm, prm, h]

/-- R473, R475: what readings below the trip lead to once θ has followed them. -/
def limitsJudged (was : Int) (s : State) : State :=
  if s.thrm.state < 2 ∧ (16 * prmN s P.THRM_ORDERLY_TJ : Nat) ≤ tHot s then orderlyReached s
  else if 3 ≤ s.thrm.state ∧ s.thrm.rearmed = false ∧ tHot s < 16 * (prmN s P.THRM_REARM_TJ : Int) then
    if s.thrm.byCommand && decide (was < 16 * (prmN s P.THRM_REARM_TJ : Int)) then { s with thrm.rearmed := true } else raiseOpen 560 { s with thrm.rearmed := true }
  else s

/-- R464: θ follows the readings. -/
def throttleJudged (s : State) : State :=
  if throttleHot s && !s.thrm.above then riseTheta false { s with thrm.above := true } else { s with thrm.above := throttleHot s }

/-- R475: below ORDERLY_TJ the limits leave θ and the cap step. -/
theorem limitsJudged_below {was : Int} {s : State} (h : tHot s < 16 * (prmN s P.THRM_ORDERLY_TJ : Int)) (hcap : s.thrm.cap = capStep s) :
    (limitsJudged was s).thrm.theta = s.thrm.theta ∧ (limitsJudged was s).thrm.above = s.thrm.above ∧ (limitsJudged was s).thrm.cap = capStep (limitsJudged was s) := by
  have hrearmed : s.thrm.cap = capStep { s with thrm.rearmed := true } := hcap.trans (capStep_congr rfl rfl rfl).symm
  unfold limitsJudged
  rw [if_neg (fun hover => absurd hover.2 (by simpa using h))]
  split
  · split
    · exact ⟨rfl, rfl, hrearmed⟩
    · exact ⟨rfl, rfl, hrearmed.trans (capStep_congr (s := { s with thrm.rearmed := true }) (t := raiseOpen 560 { s with thrm.rearmed := true }) rfl rfl rfl).symm⟩
  · exact ⟨rfl, rfl, hcap⟩

theorem throttleJudged_rises {s : State} (hhot : throttleHot s = true) (habove : s.thrm.above = false) :
    throttleJudged s = riseTheta false { s with thrm.above := true } := if_pos (by rw [hhot, habove]; rfl)

theorem readingsJudged_cool {was : Int} {s : State} (h : (countingSites s).find? (fun k => decide (1920 ≤ (site s k).reading)) = none) :
    readingsJudged was s = limitsJudged was (throttleJudged s) := by
  rw [readingsJudged, h]
  rfl

/-- R464, R465: readings that reach THROTTLE_TJ below ORDERLY_TJ raise θ. -/
theorem readingsJudged_throttles {was c : Int} {s : State} (hread : ∀ k < 24, (site s k).reading = c) (habove : s.thrm.above = false)
    (hthrottle : 16 * (prmN s P.THRM_THROTTLE_TJ : Int) ≤ c) (horderly : c < 16 * (prmN s P.THRM_ORDERLY_TJ : Int)) (htrip : c < 1920) :
    (readingsJudged was s).thrm.theta = min 7 (s.thrm.theta + 1) ∧ (readingsJudged was s).thrm.above = true ∧ (readingsJudged was s).thrm.cap = capStep (readingsJudged was s) := by
  have hcool : (countingSites s).find? (fun k => decide (1920 ≤ (site s k).reading)) = none := by
    rw [List.find?_eq_none]
    intro k hk
    rw [hread k (countingSites_lt hk)]
    simpa using htrip
  have hhot : throttleHot s = true := by
    rw [throttleHot, tHot_uniform hread]
    simpa using hthrottle
  rw [readingsJudged_cool hcool, throttleJudged_rises hhot habove]
  obtain ⟨h, n, f, es, hrise⟩ := riseTheta_only (s := { s with thrm.above := true }) (limited := false) (fun h => absurd h (by decide))
  have hsys : (riseTheta false { s with thrm.above := true }).sys = s.sys := by rw [hrise]
  obtain ⟨htheta, hcap, -, hsites, habove', -, -⟩ := riseTheta_risen { s with thrm.above := true }
  generalize riseTheta false { s with thrm.above := true } = u at hsys htheta hcap hsites habove'
  have hread' (k : Nat) (hk : k < 24) : (site u k).reading = c := by
    rw [site_congr (s := s) hsites]
    exact hread k hk
  obtain ⟨htheta', habove'', hcap'⟩ := limitsJudged_below (was := was) (s := u) (by rw [tHot_uniform hread', prmN_congr hsys]; exact horderly) hcap
  exact ⟨htheta'.trans htheta, habove''.trans habove', hcap'⟩

theorem exec_sensorReading_throttles {c : Int} {s : State} (habove : s.thrm.above = false) (hthrottle : 16 * (prmN s P.THRM_THROTTLE_TJ : Int) ≤ c)
    (horderly : c < 16 * (prmN s P.THRM_ORDERLY_TJ : Int)) (htrip : c < 1920) :
    ∃ t, exec (.sensorReading (List.replicate 24 c)) s = .next t ∧ t.thrm.theta = min 7 (s.thrm.theta + 1) ∧ t.thrm.above = true ∧ t.thrm.cap = capStep t := by
  refine ⟨_, exec_sensorReading _ s, ?_⟩
  obtain ⟨m, honly⟩ := sitesRead_only (List.replicate 24 c) s
  have hread (k : Nat) (hk : k < 24) : (site (sitesRead (List.replicate 24 c) s) k).reading = c := by
    rw [site_sitesRead (List.length_replicate ..) s (by rw [List.length_replicate]; exact hk)]
    exact List.getElem_replicate ..
  generalize sitesRead (List.replicate 24 c) s = v at honly hread
  have htheta : v.thrm.theta = s.thrm.theta := by rw [honly]
  rw [← htheta]
  refine readingsJudged_throttles hread (by rw [honly]; exact habove) ?_ ?_ htrip
  · rw [prmN_congr (s := s) (by rw [honly])]
    exact hthrottle
  · rw [prmN_congr (s := s) (by rw [honly])]
    exact horderly

/-! ### The rise window (R466) -/

/-- R466: a site whose sum of readings has become its mean and its rise. -/
def siteMeant (x : Site) : Site :=
  if x.n = 0 then x
  else { x with sum := 0, n := 0, mean := some ((x.sum : Rat) / 16 / x.n), rise := match x.mean with | some p => ((x.sum : Rat) / 16 / x.n - p) * 1000 | none => 0 }

/-- R466: the end of the window for every site. -/
def sitesMeant (s : State) : State :=
  forEach (List.range 24) (fun k s =>
    let x := site s k
    if x.n = 0 then s
    else
      let m : Rat := (x.sum : Rat) / 16 / x.n
      setSite k { x with sum := 0, n := 0, mean := some m, rise := match x.mean with | some p => (m - p) * 1000 | none => 0 } s) s

theorem sitesMeant_only (s : State) : ∃ m, sitesMeant s = { s with thrm.sites := m } := by
  unfold sitesMeant
  refine forEach_rel (R := fun s t : State => ∃ m, t = { s with thrm.sites := m }) (fun s => ⟨s.thrm.sites, rfl⟩) (by rintro _ _ _ ⟨_, rfl⟩ ⟨m, rfl⟩; exact ⟨m, rfl⟩) _ _ (fun k s => ?_) s
  dsimp only
  split
  · exact ⟨s.thrm.sites, rfl⟩
  · exact ⟨_, rfl⟩

theorem site_sitesMeant (s : State) {k : Nat} (hk : k < 24) : site (sitesMeant s) k = siteMeant (site s k) := by
  rw [sitesMeant, forEach_range_parts (part := site) (g := fun _ => siteMeant), if_pos hk]
  · intro i s
    unfold siteMeant
    dsimp only
    split
    · rfl
    · exact site_setSite_self ..
  · intro i j s hj
    dsimp only
    split
    · rfl
    · rw [site_setSite]
      exact if_neg hj

/-- R466: the first site that rises above its limit. -/
def fastSite (s : State) : Option Nat :=
  (List.range 24).find? (fun k => prmN s (P.THRM_RISE_LIMIT k) != 0 && decide ((prmN s (P.THRM_RISE_LIMIT k) : Rat) < (site s k).rise))

/-- R466: a rise above its limit is raised, and θ rises. -/
def riseRaised (k : Nat) (s : State) : State :=
  riseTheta false (raise 558 k { s with thrm.flags := setFlag s.thrm.flags 1, thrm.lastRiseEv := some (monoNs s), thrm.nRiseEv := s.thrm.nRiseEv + 1 })

theorem exec_riseWindow_none {s : State} (h : fastSite (sitesMeant s) = none) : exec .riseWindow s = .next (sitesMeant s) := by
  show execRiseWindow s = _
  unfold execRiseWindow
  dsimp only
  generalize hv : forEach (List.range 24) _ s = v
  rw [show sitesMeant s = v from hv] at h ⊢
  rw [← fastSite, h]

theorem exec_riseWindow_fast {s : State} {k : Nat} (h : fastSite (sitesMeant s) = some k) (hlast : (sitesMeant s).thrm.lastRiseEv = none) :
    exec .riseWindow s = .next (riseRaised k (sitesMeant s)) := by
  show execRiseWindow s = _
  unfold execRiseWindow
  dsimp only
  generalize hv : forEach (List.range 24) _ s = v
  rw [show sitesMeant s = v from hv] at h hlast ⊢
  rw [← fastSite, h, hlast]
  rfl

theorem exec_riseWindow_calm {s : State} (h : ∀ k, k < 24 → prmN s (P.THRM_RISE_LIMIT k) = 0) :
    ∃ t, exec .riseWindow s = .next t ∧ t.thrm.theta = s.thrm.theta ∧ t.evnt = s.evnt ∧ ∀ k, k < 24 → (site s k).n ≠ 0 →
    site t k = { site s k with
      sum := 0, n := 0, mean := some (((site s k).sum : Rat) / 16 / (site s k).n)
      rise := match (site s k).mean with | some p => (((site s k).sum : Rat) / 16 / (site s k).n - p) * 1000 | none => 0 } := by
  obtain ⟨m, honly⟩ := sitesMeant_only s
  have hfast : fastSite (sitesMeant s) = none := by
    rw [fastSite, List.find?_eq_none]
    intro k hk
    rw [prmN_congr (s := s) (by rw [honly]), h k (List.mem_range.mp hk)]
    exact Bool.false_ne_true
  refine ⟨_, exec_riseWindow_none hfast, by rw [honly], by rw [honly], fun k hk hn => ?_⟩
  rw [site_sitesMeant s hk, siteMeant, if_neg hn]

theorem exec_riseWindow_rises {k : Nat} {s : State} (hk : k < 24) (hn : ∀ j, j < 24 → (site s j).n = 0) (hbelow : ∀ j, j < k → prmN s (P.THRM_RISE_LIMIT j) = 0)
    (hlimit : prmN s (P.THRM_RISE_LIMIT k) ≠ 0) (hrise : (prmN s (P.THRM_RISE_LIMIT k) : Rat) < (site s k).rise) (hlast : s.thrm.lastRiseEv = none) :
    ∃ t, exec .riseWindow s = .next t ∧ t.thrm.theta = min 7 (s.thrm.theta + 1) ∧ ⟨558, k, none⟩ ∈ t.evnt.inflight ∧ t.thrm.nRiseEv = s.thrm.nRiseEv + 1 := by
  obtain ⟨m, honly⟩ := sitesMeant_only s
  have hsite (j : Nat) (hj : j < 24) : site (sitesMeant s) j = site s j := by rw [site_sitesMeant s hj, siteMeant, if_pos (hn j hj)]
  have hprm (p : Nat) : prmN (sitesMeant s) p = prmN s p := prmN_congr (by rw [honly]) p
  have hfast : fastSite (sitesMeant s) = some k := by
    rw [fastSite, List.find?_range_eq_some]
    refine ⟨?_, List.mem_range.mpr hk, fun j hj => ?_⟩
    · rw [hprm, hsite k hk]
      simp [hlimit, hrise]
    · rw [hprm, hbelow j hj]
      rfl
  have hexec := exec_riseWindow_fast hfast (by rw [honly]; exact hlast)
  generalize sitesMeant s = v at honly hexec
  have hrisen := riseTheta_risen (raise 558 k { v with thrm.flags := setFlag v.thrm.flags 1, thrm.lastRiseEv := some (monoNs v), thrm.nRiseEv := v.thrm.nRiseEv + 1 })
  refine ⟨_, hexec, hrisen.theta.trans ?_, hrisen.events _ ?_, hrisen.nRiseEv.trans ?_⟩
  · rw [honly]
    rfl
  · exact List.mem_append_right _ List.mem_cons_self
  · rw [honly]
    rfl

/-! ### The cross-check of the sites (R468) -/

/-- R468: whether a reading lies too far from the median. -/
def farFrom (m : Rat) (k : Nat) (x : Site) : Bool := decide ((128 : Rat) < |(x.reading : Rat) - m| - Config.siteGradient k)

/-- R468: a site judged. -/
def siteChecked (m : Rat) (k : Nat) (x : Site) : Site :=
  let y := if farFrom m k x then { x with bad := x.bad + 1, good := 0 } else { x with good := x.good + 1, bad := 0 }
  { y with faulty := if 3 ≤ y.bad then true else if 10 ≤ y.good then false else y.faulty }

theorem siteChecked_spec (m : Rat) (k : Nat) (x : Site) : (siteChecked m k x).bad = (if farFrom m k x then x.bad + 1 else 0) ∧
    (siteChecked m k x).good = (if farFrom m k x then 0 else x.good + 1) ∧ (siteChecked m k x).reading = x.reading := by
  unfold siteChecked
  dsimp only
  split <;> exact ⟨rfl, rfl, rfl⟩

theorem crossCheck_eq (m : Rat) (k : Nat) (s : State) : crossCheck m k s = if (siteChecked m k (site s k)).faulty = (site s k).faulty then setSite k (siteChecked m k (site s k)) s
    else logDevice 0x3FF 0x0702 0 k { setSite k (siteChecked m k (site s k)) s with thrm.flags := setFlagIf (siteChecked m k (site s k)).faulty s.thrm.flags 4 } := rfl

/-- A judgement reaches the sites, the flags and the log. -/
theorem crossCheck_only (m : Rat) (k : Nat) (s : State) : ∃ f u, crossCheck m k s = ({ setSite k (siteChecked m k (site s k)) s with thrm.flags := f } : State).logged u := by
  rw [crossCheck_eq]
  split
  · exact ⟨s.thrm.flags, s, rfl⟩
  · exact ⟨_, _, (logDevice_only ..).eq_logged⟩

theorem site_crossCheck_self (m : Rat) (k : Nat) (s : State) : site (crossCheck m k s) k = siteChecked m k (site s k) := by
  obtain ⟨f, u, h⟩ := crossCheck_only m k s
  rw [h]
  exact site_setSite_self ..

theorem site_crossCheck_other (m : Rat) {k j : Nat} (h : j ≠ k) (s : State) : site (crossCheck m k s) j = site s j := by
  obtain ⟨f, u, hk⟩ := crossCheck_only m k s
  rw [hk]
  exact (site_setSite ..).trans (if_neg h)

theorem nowNs_congr {s t : State} (h : t.tk = s.tk) : nowNs t = nowNs s := by rw [nowNs, nowNs, h]

theorem crossCheck_clock (m : Rat) (k : Nat) (s : State) : (crossCheck m k s).tk = s.tk := by
  obtain ⟨f, u, h⟩ := crossCheck_only m k s
  rw [h]
  rfl

theorem exec_siteCrossCheck {m : Rat} {s : State} (hm : m = medianOf ((countingSites s).map (fun k => (site s k).reading))) :
    ∃ t, exec .siteCrossCheck s = .next t ∧ (t.bkgd.tasks.get {} 3).doneNs = nowNs s ∧
    t.thrm.cap = capStep t ∧ ∀ k, k < 24 → ∃ b : Bool, b = decide ((128 : Rat) < |((site s k).reading : Rat) - m| - Config.siteGradient k) ∧
      (site t k).bad = (if b then (site s k).bad + 1 else 0) ∧ (site t k).good = (if b then 0 else (site s k).good + 1) ∧ (site t k).reading = (site s k).reading := by
  have hsites (k : Nat) (hk : k < 24) : site (forEach (List.range 24) (crossCheck m) s) k = siteChecked m k (site s k) := by
    rw [forEach_range_parts (part := site) (site_crossCheck_self m) (fun i j s hj => site_crossCheck_other m hj s), if_pos hk]
  have hclock : (forEach (List.range 24) (crossCheck m) s).tk = s.tk := forEach_keeps State.tk (crossCheck_clock m) s
  have hexec : exec .siteCrossCheck s = .next (taskDone 3 (updateCap (forEach (List.range 24) (crossCheck m) s))) := by
    rw [hm]
    rfl
  generalize forEach (List.range 24) (crossCheck m) s = v at hsites hclock hexec
  obtain ⟨x, n, f, es, hcap⟩ := updateCap_only v
  have htk : (updateCap v).tk = s.tk := by rw [hcap, ← hclock]
  have hstep : (updateCap v).thrm.cap = capStep v := by rw [hcap]
  have hthrm : (updateCap v).thrm.sites = v.thrm.sites ∧ (updateCap v).thrm.theta = v.thrm.theta ∧ (updateCap v).thrm.lambda = v.thrm.lambda := by
    rw [hcap]
    exact ⟨rfl, rfl, rfl⟩
  obtain ⟨hs, htheta, hlambda⟩ := hthrm
  generalize updateCap v = u at hexec htk hstep hs htheta hlambda
  refine ⟨_, hexec, ?_, ?_, fun k hk => ⟨_, rfl, ?_⟩⟩
  · exact (congrArg Task.doneNs (task_setTask_self ..)).trans (nowNs_congr htk)
  · exact hstep.trans (capStep_congr (s := v) (t := taskDone 3 u) hs htheta hlambda).symm
  · rw [site_congr (s := v) (t := taskDone 3 u) hs, hsites k hk]
    exact siteChecked_spec ..

/-! ### Steps of θ, and the power estimate (R465, R467) -/

theorem exec_thetaStepPeriod {s : State} (h : throttleHot s = true) :
    ∃ t, exec .thetaStepPeriod s = .next t ∧ t.thrm.theta = min 7 (s.thrm.theta + 1) ∧ t.thrm.cap = capStep t ∧ t.thrm.lastRise = some (monoNs s) :=
  have hrisen := riseTheta_risen s
  ⟨_, congrArg Host.Outcome.next (if_pos h), hrisen.theta, hrisen.cap, hrisen.last⟩

theorem exec_thetaRecover {s : State} (h : recoverCool s = true) (htheta : 0 < s.thrm.theta) :
    ∃ t, exec .thetaRecover s = .next t ∧ t.thrm.theta = s.thrm.theta - 1 ∧ t.thrm.cap = capStep t := by
  obtain ⟨x, n, f, es, hcap⟩ := updateCap_only { s with thrm.theta := s.thrm.theta - 1 }
  have hrun : exec .thetaRecover s = .next (updateCap { s with thrm.theta := s.thrm.theta - 1 }) :=
    congrArg Host.Outcome.next (if_pos (by rw [h, decide_eq_true htheta]; rfl))
  refine ⟨_, hrun, ?_, ?_⟩
  · rw [hcap]
  · have hstep : (updateCap { s with thrm.theta := s.thrm.theta - 1 }).thrm.cap = capStep { s with thrm.theta := s.thrm.theta - 1 } := by rw [hcap]
    refine hstep.trans (capStep_congr ?_ ?_ ?_).symm
    · rw [hcap]
    · rw [hcap]
    · rw [hcap]

/-- R467: the estimate kept. -/
def estimated (s : State) : State := { s with thrm.estMw := (estimate s).floor.toNat, thrm.nMsLow := s.thrm.nMsLow + b2n (decide (stripDuty s < 16)) }

theorem exec_powerEstimate_within {s : State} (h : estimate s ≤ capMw s.thrm.cap) (hm : s.thrm.measures = []) : exec .powerEstimate s = .next (estimated s) := by
  show execPowerEstimate s = _
  unfold execPowerEstimate
  dsimp only
  rw [if_neg (not_lt.mpr h), if_neg (fun hrelease => hrelease.1 hm)]
  rfl

theorem exec_powerEstimate_burnish {s : State} (h : capMw s.thrm.cap < estimate s) (hi : hasIncrement s 1 = true) : exec .powerEstimate s = .next (mildState (applyMeasure 1 (estimated s))) := by
  have hfirst : [1, 2, 3, 4].find? (hasIncrement (estimated s)) = some 1 := List.find?_cons_of_pos hi
  show execPowerEstimate s = _
  unfold execPowerEstimate
  dsimp only
  rw [if_pos h]
  generalize hm : [1, 2, 3, 4].find? (hasIncrement _) = m
  cases hm.symm.trans hfirst
  rfl

/-- R467: the Burnish measure holds background work back. -/
theorem mildState_burnish_spec (s : State) : ∃ mw, (mildState (applyMeasure 1 s)).thrm.estMw = s.thrm.estMw ∧ (mildState (applyMeasure 1 s)).thrm.measures = (1, mw) :: s.thrm.measures ∧
    (mildState (applyMeasure 1 s)).thrm.nApplied = s.thrm.nApplied + 1 := by
  obtain ⟨x, n, hmild⟩ := mildState_only (applyMeasure 1 s)
  rw [hmild]
  exact ⟨_, rfl, rfl, rfl⟩

/-! ### The steps of an orderly stop (R475) -/

/-- R475: every memory channel in self-refresh. -/
def selfRefreshed (s : State) : State := forEach (List.range 16) (fun c s => setMemChan c { memChan s c with state := 2 } s) s

theorem selfRefreshed_thrm (s : State) : (selfRefreshed s).thrm = s.thrm :=
  forEach_keeps State.thrm (f := fun c s => setMemChan c { memChan s c with state := 2 } s) (fun _ _ => rfl) s

theorem memChan_selfRefreshed (s : State) {c : Nat} (hc : c < 16) : memChan (selfRefreshed s) c = { memChan s c with state := 2 } := by
  rw [selfRefreshed, forEach_range_parts (part := memChan) (g := fun _ x => { x with state := 2 }), if_pos hc]
  · intro i s
    exact memChan_setMemChan_self ..
  · intro i j s hj
    rw [memChan_setMemChan]
    exact if_neg hj

theorem exec_orderlyStopStep_refresh {s : State} (hstate : s.thrm.state = 2) (hstep : s.thrm.stopStep = 4) :
    ∃ t, exec .orderlyStopStep s = .next t ∧ t.thrm.stopStep = 5 ∧ ∀ c, c < 16 → memChan t c = { memChan s c with state := 2 } := by
  have hrun : exec .orderlyStopStep s = .next (selfRefreshed { s with thrm.stopStep := 5 }) := by
    show execOrderlyStopStep s = _
    unfold execOrderlyStopStep
    rw [if_neg (not_not.mpr hstate), hstep]
    rfl
  refine ⟨_, hrun, congrArg Thrm.stopStep (selfRefreshed_thrm _), fun c hc => ?_⟩
  rw [memChan_selfRefreshed _ hc]
  rfl

/-- R475: power off leaves the device stopped with memory as it was. -/
theorem powerOff_spec (s : State) : (powerOff s).thrm.state = 3 ∧ (powerOff s).twin.driving = false ∧ (powerOff s).boot.domains = min 5 s.boot.domains := by
  have hcut : heat (cutData (releaseClaim s)) = (s.thrm.sites, s.thrm.nHard, s.thrm.state, s.boot, false) := (cutData_heat _).trans (releaseClaim_heat s)
  unfold powerOff
  dsimp only
  generalize cutData (releaseClaim s) = u at hcut
  simp only [heat, Prod.mk.injEq] at hcut
  obtain ⟨-, -, -, hboot, hdriving⟩ := hcut
  generalize hv : setThermal 3 _ = v
  have hends : heat (forEach (v.sys.deferred.filter (fun d => d.opcode == 0x0A04)) (fun d s => endDeferred d 0 [] false 0 s) v) = heat v :=
    forEach_keeps heat (fun _ _ => endDeferred_heat ..) v
  generalize forEach (v.sys.deferred.filter (fun d => d.opcode == 0x0A04)) (fun d s => endDeferred d 0 [] false 0 s) v = w at hends
  simp only [heat, Prod.mk.injEq] at hends
  obtain ⟨-, -, hstate, hboot', hdriving'⟩ := hends
  refine ⟨?_, ?_, ?_⟩
  · rw [hstate, ← hv]
    exact setThermal_state ..
  · rw [hdriving', ← hv]
    exact (setThermal_keeps (fun t => t.twin.driving) ..).trans hdriving
  · rw [hboot', ← hv]
    refine (congrArg Boot.domains (setThermal_keeps State.boot ..)).trans ?_
    rw [← hboot]

theorem exec_orderlyStopStep_off {s : State} (hstate : s.thrm.state = 2) (hstep : s.thrm.stopStep = 5) :
    ∃ t, exec .orderlyStopStep s = .next t ∧ t.thrm.state = 3 ∧ t.twin.driving = false ∧ t.boot.domains = min 5 s.boot.domains ∧ t.mem = s.mem := by
  have hrun : exec .orderlyStopStep s = .next (powerOff { s with thrm.stopStep := 6 }) := by
    show execOrderlyStopStep s = _
    unfold execOrderlyStopStep
    rw [if_neg (not_not.mpr hstate), hstep]
    rfl
  obtain ⟨hoff, hdriving, hdomains⟩ := powerOff_spec { s with thrm.stopStep := 6 }
  exact ⟨_, hrun, hoff, hdriving, hdomains, powerOff_mem _⟩

/-- Settles O29. -/
theorem thermalEvents : Obligations.ThermalEvents := by
  unfold Obligations.ThermalEvents
  refine ⟨fun codes s hlen => exec_sensorReading_sites hlen s, ?trips, fun c s _ habove hthrottle horderly htrip => exec_sensorReading_throttles habove hthrottle horderly htrip,
    fun s h => exec_riseWindow_calm h, fun k s hk hn hbelow hlimit hrise hlast => exec_riseWindow_rises hk hn hbelow hlimit hrise hlast, fun m s hm => exec_siteCrossCheck hm,
    fun s h => exec_thetaStepPeriod h, fun s h htheta => exec_thetaRecover h htheta, fun s h hm => exec_powerEstimate_within h hm, ?burnish,
    fun s hstate hstep => exec_orderlyStopStep_refresh hstate hstep, fun s hstate hstep => exec_orderlyStopStep_off hstate hstep⟩
  case trips =>
    intro codes k hk s hlen hall hhot hstate
    obtain ⟨t, j, hexec, rfl⟩ := exec_sensorReading_trips hk hlen hall hhot hstate
    obtain ⟨-, hn, hstop, hmem, hdriving, htrip⟩ := hardStop_spec 0 j (sitesRead codes s)
    refine ⟨_, hexec, hstop, hmem, hdriving, htrip, hn.trans ?_⟩
    obtain ⟨m, honly⟩ := sitesRead_only codes s
    rw [honly]
  case burnish =>
    intro s h hi
    obtain ⟨mw, hest, hmeasures, happlied⟩ := mildState_burnish_spec (estimated s)
    exact ⟨_, mw, exec_powerEstimate_burnish h hi, hest, hmeasures, happlied⟩

end Sys2Proof.Machine
end

section
/-! PROOFS. Joining the pair (R345, R352, R353). -/
namespace Sys2Proof.Machine
open Sys2Proof

/-! ### Messages of the join in and out of their order (R338) -/

/-- R338: a message in its order acts on the state that it has been received in. -/
theorem acceptMsg_inOrder {m : MsgHdr} {s : State} (h : s.inOrder m) (act : State → State) : acceptMsg m act s = act (s.received m) := by
  rw [acceptMsg, if_neg (not_not.mpr h.1), if_pos h.2]
  rfl

/-- R338: any other is answered by a NAK. -/
theorem acceptMsg_outOfOrder {m : MsgHdr} {s : State} (hlink : s.twin.link = 2) (h : m.mseq ≠ (processAck m.ack s).twin.rxExpect) (act : State → State) :
    acceptMsg m act s = sendNak (processAck m.ack s) := by
  rw [acceptMsg, if_neg (not_not.mpr hlink), if_neg h]

theorem exec_join_outOfOrder {m : MsgHdr} {s : State} (hlink : s.twin.link = 2) (h : m.mseq ≠ (processAck m.ack s).twin.rxExpect) (items : List JoinItem) (a b : Nat) :
    ∀ i ∈ ([.joinReq m, .joinData m items, .joinDone m a b] : List Instr), exec i s = .next (serveAll (sendNak (processAck m.ack s))) := by
  have hnak (act : State → State) := congrArg serveAll (acceptMsg_outOfOrder hlink h act)
  intro i hi
  simp only [List.mem_cons, List.not_mem_nil, or_false] at hi
  rcases hi with rfl | rfl | rfl
  · exact congrArg Host.Outcome.next (hnak _)
  · exact congrArg Host.Outcome.next (hnak _)
  · exact congrArg Host.Outcome.next (hnak _)

/-! ### Requests (R345) -/

theorem exec_joinReq {m : MsgHdr} {s : State} (h : s.inOrder m) :
    exec (.joinReq m) s = .next (serveAll (if holdsClaim (s.received m) = true then serveJoin (s.received m) else if (s.received m).twin.state = 8 then s.received m else startJoin (s.received m))) :=
  congrArg (fun t => Host.Outcome.next (serveAll t)) (acceptMsg_inOrder h _)

/-- R345: the Active whose peer joins. -/
def servingJoin (s : State) : State := { s with twin.join := some { joiner := false, phase := 2 }, twin.rejoin := false, twin.state := if s.twin.state = 3 then 2 else s.twin.state }

theorem serveJoin_free {s : State} (hsame : sameUnitId s = false) (hcinch : s.sys.cinch = none) : serveJoin s = sendItems (configItems s) (servingJoin s) := by
  rw [serveJoin, if_neg (by rw [hsame]; decide), if_neg (by rw [hcinch]; decide)]
  rfl

theorem serveJoin_pending {s : State} {c : Cinch} (hsame : sameUnitId s = false) (hcinch : s.sys.cinch = some c) : serveJoin s = { s with twin.rejoin := true } := by
  rw [serveJoin, if_neg (by rw [hsame]; decide), if_pos (by rw [hcinch]; rfl)]

/-! ### Items (R353) -/

theorem exec_joinData {m : MsgHdr} {s : State} (h : s.inOrder m) (items : List JoinItem) : exec (.joinData m items) s = .next (serveAll (forEach items joinItem (s.received m))) :=
  congrArg (fun t => Host.Outcome.next (serveAll t)) (acceptMsg_inOrder h _)

theorem joinItem_none {s : State} (h : s.twin.join = none) (i : JoinItem) : joinItem i s = s := by
  rw [joinItem, h]

/-- No item of a device that does not join has an effect. -/
theorem forEach_joinItem_none {s : State} (h : s.twin.join = none) (items : List JoinItem) : forEach items joinItem s = s :=
  forEach_eq_self fun i _ => joinItem_none h i

/-- What an item does to a joiner. -/
theorem joinItem_joiner {s : State} {j : Join} (hj : s.twin.join = some j) (h : j.joiner = true) (i : JoinItem) :
    joinItem i s = match i with
    | .scalar id v => { s with twin.join := some { j with vals := Map.insert j.vals id v } }
    | .table id off data => { s with twin.join := some { j with tabs := Map.insert j.tabs id (layBytes off data ((j.tabs.find? id).getD [])) } }
    | .epoch e => if j.phase < 3 then applyJoin j e s else s
    | .portStart p line => { s with twin.join := some { j with frames := Map.insert j.frames p line } }
    | .stitchedLine n => { s with twin.join := some { j with line := some n }, stch.next := n, stch.globalLine := n, stch.frame := n / stitchedLen s.sys.applied, stch.lineInFrame := 0 }
    | .flowStart f seq first => setFlow f { flow s f with joinFrom := some (seq, first), fill := none, closed := [] } { s with twin.joinFlows := Map.insert s.twin.joinFlows f seq }
    | .shading p m0 m1 => setStrip p { strip s p with preset := some ((j.frames.find? p).getD 0, m0, m1) } s
    | .portState c x => if captureLate s j (prmN s (P.PROF_SRC c)) then failJoin s else setProf c x { s with twin.join := some { j with caps := c :: j.caps } }
    | .stitchedState profs objs next lists =>
      if stitchedLate s j then failJoin s
      else finishJoin j (forEach lists (fun l s => setPc l.1 { pc s l.1 with list := l.2 } s) (forEach profs (fun p s => setProf p.1 p.2 s) { s with segm.objs := objs, segm.next := next })) := by
  rw [joinItem, hj]
  exact (if_neg (by rw [h]; decide)).trans (by cases i <;> rfl)

/-! ### The end of a join (R345, R353) -/

/-- R345: with no deferred command none ends with the join. -/
theorem endTwinCommands_none {s : State} (h : s.sys.deferred = []) (op status : Nat) : endTwinCommands op status s = s := by
  rw [endTwinCommands, h]
  rfl

/-- The fields of the pair that entering a state keeps. -/
theorem setTwin_keeps {β : Type} (π : State → β) (n : Nat) (driving : Bool) (s : State)
    (hc : ∀ u tk e c h, π { u with tk := tk, evnt.inflight := e, freeCtr := c, ht := h } = π u := by exact fun _ _ _ _ _ => rfl)
    (he : π (entered n driving s) = π s := by rfl) : π (setTwin n driving s) = π s :=
  ((setTwin_clockOnly n driving s).keeps π hc).trans he

/-- R353: a joiner that is in step. -/
def joinedUp (j : Join) (s : State) : State :=
  sendSeq 0x42 (joinDoneMsg 0 0) { setTwin 5 false s with twin.join := none, twin.joinsOk := s.twin.joinsOk + 1, twin.joinBase := some (j.frames, j.line.getD 0) }

theorem joinedUp_keeps {β : Type} (π : State → β) (j : Join) (s : State)
    (hs : ∀ u a b n w, π { u with twin.sent := a, twin.replay := b, twin.txNext := n, twin.waiting := w } = π u := by exact fun _ _ _ _ _ => rfl)
    (hj : ∀ u n b, π { u with twin.join := none, twin.joinsOk := n, twin.joinBase := b } = π u := by exact fun _ _ _ => rfl)
    (hc : ∀ u tk e c h, π { u with tk := tk, evnt.inflight := e, freeCtr := c, ht := h } = π u := by exact fun _ _ _ _ _ => rfl)
    (he : π (entered 5 false s) = π s := by rfl) : π (joinedUp j s) = π s :=
  (sendSeq_keeps π _ _ _ hs).trans ((hj ..).trans (setTwin_keeps π 5 false s hc he))

/-- With nothing deferred and no digests of its own a joiner only comes in step. -/
theorem finishJoin_alone {j : Join} {s : State} (hdeferred : s.sys.deferred = []) (hown : s.twin.own = []) : finishJoin j s = joinedUp j s := by
  have hdeferred' : (joinedUp j s).sys.deferred = [] := (joinedUp_keeps (fun t => t.sys.deferred) j s).trans hdeferred
  have hown' : (joinedUp j s).twin.own = [] := (joinedUp_keeps (fun t => t.twin.own) j s).trans hown
  unfold finishJoin
  dsimp only
  rw [← joinedUp, endTwinCommands_none hdeferred', hown']
  rfl

theorem joinedUp_state (j : Join) (s : State) : (joinedUp j s).twin.state = 5 ∧ (joinedUp j s).twin.join = none ∧ (joinedUp j s).twin.joinsOk = s.twin.joinsOk + 1 ∧
    (joinedUp j s).twin.joinBase = some (j.frames, j.line.getD 0) := by
  refine ⟨?_, ?_, ?_, ?_⟩
  · exact (sendSeq_keeps (fun t => t.twin.state) ..).trans ((setTwin_clockOnly 5 false s).keeps (fun t => t.twin.state))
  · exact sendSeq_keeps (fun t => t.twin.join) ..
  · exact sendSeq_keeps (fun t => t.twin.joinsOk) ..
  · exact sendSeq_keeps (fun t => t.twin.joinBase) ..

/-- R353: the state of the stitched side that a joiner takes. -/
def stitchedTaken (profs : List (Nat × Prof)) (objs : List Obj) (next : Nat) (lists : List (Nat × List PcEntry)) (s : State) : State :=
  forEach lists (fun l s => setPc l.1 { pc s l.1 with list := l.2 } s) (forEach profs (fun p s => setProf p.1 p.2 s) { s with segm.objs := objs, segm.next := next })

theorem stitchedTaken_keeps {β : Type} (π : State → β) (profs : List (Nat × Prof)) (objs : List Obj) (next : Nat) (lists : List (Nat × List PcEntry)) (s : State)
    (hpc : ∀ n x u, π (setPc n x u) = π u := by exact fun _ _ _ => rfl) (hprof : ∀ c x u, π (setProf c x u) = π u := by exact fun _ _ _ => rfl) :
    π (stitchedTaken profs objs next lists s) = π { s with segm.objs := objs, segm.next := next } :=
  (forEach_keeps π (f := fun (l : Nat × List PcEntry) (s : State) => setPc l.1 { pc s l.1 with list := l.2 } s) (fun _ _ => hpc ..) _).trans
    (forEach_keeps π (f := fun (p : Nat × Prof) (s : State) => setProf p.1 p.2 s) (fun _ _ => hprof ..) _)

theorem joinItem_stitchedState {s : State} {j : Join} (hj : s.twin.join = some j) (h : j.joiner = true) {profs : List (Nat × Prof)} {objs : List Obj} {next : Nat}
    {lists : List (Nat × List PcEntry)} (hlate : stitchedLate s j = false) (hdeferred : s.sys.deferred = []) (hown : s.twin.own = []) :
    joinItem (.stitchedState profs objs next lists) s = joinedUp j (stitchedTaken profs objs next lists s) := by
  rw [joinItem_joiner hj h]
  dsimp only
  rw [if_neg (by rw [hlate]; decide), ← stitchedTaken]
  refine finishJoin_alone ?_ ?_
  · rw [stitchedTaken_keeps (fun t => t.sys.deferred)]
    exact hdeferred
  · rw [stitchedTaken_keeps (fun t => t.twin.own)]
    exact hown

theorem exec_joinData_stitchedState {m : MsgHdr} {s : State} (h : s.inOrder m) {j : Join} (hj : (s.received m).twin.join = some j) (hjoiner : j.joiner = true)
    {profs : List (Nat × Prof)} {objs : List Obj} {next : Nat} {lists : List (Nat × List PcEntry)} (hlate : stitchedLate (s.received m) j = false)
    (hdeferred : (s.received m).sys.deferred = []) (hown : (s.received m).twin.own = []) :
    ∃ t, exec (.joinData m [.stitchedState profs objs next lists]) s = .next (serveAll t) ∧ t.twin.state = 5 ∧ t.twin.join = none ∧ t.twin.joinsOk = (s.received m).twin.joinsOk + 1 ∧
        t.twin.joinBase = some (j.frames, j.line.getD 0) ∧ t.segm.objs = objs ∧ t.segm.next = next := by
  refine ⟨joinedUp j (stitchedTaken profs objs next lists (s.received m)), ?_, ?_⟩
  · rw [exec_joinData h]
    exact congrArg (fun t => Host.Outcome.next (serveAll t)) (joinItem_stitchedState hj hjoiner hlate hdeferred hown)
  · have hsegm := stitchedTaken_keeps State.segm profs objs next lists (s.received m)
    have hjoins := stitchedTaken_keeps (fun t => t.twin.joinsOk) profs objs next lists (s.received m)
    generalize stitchedTaken profs objs next lists (s.received m) = v at hsegm hjoins
    obtain ⟨hstate, hjoin, hok, hbase⟩ := joinedUp_state j v
    have hsegm' : (joinedUp j v).segm = v.segm := joinedUp_keeps State.segm j v
    rw [hsegm', hsegm]
    exact ⟨hstate, hjoin, hok.trans (congrArg (· + 1) hjoins), hbase, rfl, rfl⟩

/-! ### JOIN_DONE -/

theorem exec_joinDone_served {m : MsgHdr} {s : State} (h : s.inOrder m) {j : Join} (hj : (s.received m).twin.join = some j) (hjoiner : j.joiner = false)
    (hclaim : holdsClaim (s.received m) = true) (st d : Nat) : exec (.joinDone m st d) s = .next (serveAll (if st ≠ 0 then failJoin (s.received m)
      else endTwinCommands 0x0802 0 (raiseOpen 370 { s.received m with
        twin.join := none, twin.joinsOk := (s.received m).twin.joinsOk + 1, twin.state := 3, twin.unhealthyPeer := false }))) := by
  refine congrArg (fun t => Host.Outcome.next (serveAll t)) ((acceptMsg_inOrder h _).trans ?_)
  rw [hj]
  exact if_neg (by rw [hjoiner, hclaim]; decide)

/-- R345: an Active whose join fails. -/
theorem failJoin_active {s : State} {j : Join} (hj : s.twin.join = some j) (hjoiner : j.joiner = false) :
    failJoin s = endTwinCommands 0x0802 0x0905 { s with twin.join := none, twin.joinsBad := s.twin.joinsBad + 1 } := by
  simp only [failJoin, endJoin, hj, hjoiner, Bool.false_eq_true, if_false]

/-! ### Alignment (R353) -/

theorem exec_joinAlignment_near {cs : List JoinCounts} {j : Join} {s : State} (hj : s.twin.join = some j) (hjoiner : j.joiner = true) (hphase : j.phase = 3) (hlocked : s.tk.state = 2)
    (hnear : ∀ c ∈ cs, c.timeDeltaNs.natAbs ≤ prmN s P.TWIN_ALIGN_TOL) (hevery : ∀ p < 16, (port s p).run = true → ∃ c ∈ cs, c.port = p) :
    exec (.joinAlignment cs) s = .next (forEach cs alignPort { s with twin.join := some { j with phase := 4 } }) := by
  have hnear' : cs.all (fun c => decide (c.timeDeltaNs.natAbs ≤ prmN s P.TWIN_ALIGN_TOL)) = true := by
    simpa only [List.all_eq_true, decide_eq_true_eq] using hnear
  have hevery' : (List.range 16).all (fun p => !(port s p).run || cs.any (fun c => c.port == p)) = true := by
    rw [List.all_eq_true]
    intro p hp
    cases hrun : (port s p).run with
    | false => rfl
    | true => simpa using hevery p (List.mem_range.mp hp) hrun
  show execJoinAlignment cs s = _
  simp only [execJoinAlignment, hj, hjoiner, hphase, hlocked, hnear', hevery']
  rfl

theorem exec_joinAlignment_far {cs : List JoinCounts} {s : State} (h : s.twin.join = none ∨ s.tk.state ≠ 2 ∨ ∃ c ∈ cs, prmN s P.TWIN_ALIGN_TOL < c.timeDeltaNs.natAbs) :
    exec (.joinAlignment cs) s = .next s := by
  show execJoinAlignment cs s = _
  unfold execJoinAlignment
  split
  · next j hj =>
    dsimp only
    refine if_neg fun hall => ?_
    simp only [Bool.and_eq_true, List.all_eq_true, decide_eq_true_eq, beq_iff_eq] at hall
    obtain ⟨⟨⟨-, hlocked⟩, hnear⟩, -⟩ := hall
    rcases h with h | h | ⟨c, hc, hfar⟩
    · rw [hj] at h
      cases h
    · exact h hlocked
    · exact absurd (hnear c hc) (by omega)
  · rfl

/-! ### Captures (R353) -/

/-- What a snapshot leaves as it was, read by any projection. -/
theorem sendSnapshot_keeps {β : Type} (π : State → β) (items : List JoinItem) (s : State)
    (hs : ∀ u a b n w, π { u with twin.sent := a, twin.replay := b, twin.txNext := n, twin.waiting := w } = π u := by exact fun _ _ _ _ _ => rfl)
    (hq : ∀ u q e, π { u with qdma := q, evnt.inflight := e } = π u := by exact fun _ _ _ => rfl) : π (sendSnapshot items s) = π s := by
  obtain ⟨q, e, h⟩ := supMove_only (supAddr 3) (supAddr 4) ((items.flatMap joinMsgs).map List.length).sum s
  refine (forEach_keeps π (fun _ _ => sendSeq_keeps π _ _ _ hs) _).trans ?_
  rw [h]
  exact hq s q e

theorem exec_joinCapture {j : Join} {s : State} (hj : s.twin.join = some j) (hjoiner : j.joiner = false) (stitched : Bool) :
    exec (.joinCapture stitched) s = .next (if stitched then sendSnapshot (stitchedItems s) { s with twin.join := some { j with lineCap := true } }
      else if s.tk.state ≠ 2 then failJoin s else sendSnapshot (portItems s) { s with twin.join := some { j with caps := List.range 16 } }) := by
  show execJoinCapture stitched s = _
  simp only [execJoinCapture, hj, hjoiner, Bool.false_eq_true, if_false]
  cases stitched with
  | true => rfl
  | false =>
    simp only [Bool.false_eq_true, if_false]
    split <;> rfl

/-! ### Retries and time-outs (R345, R352) -/

/-- R345: a joiner that asks for the join. -/
def asking (s : State) : State :=
  { s with
    twin.state := 4, twin.join := some { joiner := true }, twin.own := [], twin.theirs := [], twin.stamps := [], twin.joinBase := none, twin.joinFlows := [], twin.release := []
    twin.skipHb := [], twin.retry := false, twin.rejoin := false }

theorem startJoin_asks {s : State} (hlink : s.twin.link = 2) (hpeer : s.twin.peer.isSome = true) (hsame : sameUnitId s = false) : startJoin s = sendSeq 0x40 [] (asking s) := by
  rw [startJoin, if_neg (by simp [hsame, hlink]), if_neg (by simpa using Option.isSome_iff_ne_none.mp hpeer)]
  rfl

theorem exec_joinRetry {s : State} (hretry : s.twin.retry = true) (hauto : prmB s P.TWIN_AUTO_REJOIN = true) (hclaim : holdsClaim s = false) (hstate : s.twin.state ≠ 8)
    (hlink : s.twin.link = 2) (hpeer : s.twin.peer.isSome = true) (hsame : sameUnitId s = false) : exec .joinRetry s = .next (sendSeq 0x40 [] (asking { s with twin.retry := false })) := by
  refine congrArg Host.Outcome.next ((if_pos ?_).trans (startJoin_asks hlink hpeer hsame))
  simp [hretry, hauto, hclaim, hstate]

theorem exec_joinRetry_not {s : State} (h : s.twin.retry = false ∨ prmB s P.TWIN_AUTO_REJOIN = false ∨ holdsClaim s = true ∨ s.twin.state = 8) : exec .joinRetry s = .next s := by
  refine congrArg Host.Outcome.next (if_neg fun hall => ?_)
  simp only [Bool.and_eq_true, Bool.not_eq_true', bne_iff_ne] at hall
  obtain ⟨⟨⟨hretry, hauto⟩, hclaim⟩, hstate⟩ := hall
  rcases h with h | h | h | h
  · exact Bool.false_ne_true (h.symm.trans hretry)
  · exact Bool.false_ne_true (h.symm.trans hauto)
  · exact Bool.false_ne_true (hclaim.symm.trans h)
  · exact hstate h

/-- R352: a joiner whose join fails with nothing deferred tells the Active, and tries again where AUTO_REJOIN allows it. -/
theorem endJoin_joiner {s : State} {j : Join} (hj : s.twin.join = some j) (hjoiner : j.joiner = true) (hdeferred : s.sys.deferred = []) :
    ∃ v, endJoin s = logDevice 0x3FF 0x0905 0 0 (sendSeq 0x42 (joinDoneMsg 0x0905 v)
      { s with freeCtr := s.freeCtr + 1, twin.join := none, twin.joinsBad := s.twin.joinsBad + 1, twin.retry := prmB s P.TWIN_AUTO_REJOIN }) := by
  refine ⟨Config.free s.freeCtr, ?_⟩
  have hend : endTwinCommands 0x0802 0x0905 { s with twin.join := none, twin.joinsBad := s.twin.joinsBad + 1 } = { s with twin.join := none, twin.joinsBad := s.twin.joinsBad + 1 } :=
    endTwinCommands_none (s := { s with twin.join := none, twin.joinsBad := s.twin.joinsBad + 1 }) hdeferred ..
  simp only [endJoin, hj, hend, hjoiner, if_true]
  rfl

/-- What the end of such a join leaves as it was, read by any projection. -/
theorem endJoin_keeps {β : Type} (π : State → β) {s : State} {j : Join} (hj : s.twin.join = some j) (hjoiner : j.joiner = true) (hdeferred : s.sys.deferred = [])
    (hl : ∀ u v, π (State.logged u v) = π u := by exact fun _ _ => rfl)
    (hs : ∀ u a b n w, π { u with twin.sent := a, twin.replay := b, twin.txNext := n, twin.waiting := w } = π u := by exact fun _ _ _ _ _ => rfl) :
    π (endJoin s) = π { s with freeCtr := s.freeCtr + 1, twin.join := none, twin.joinsBad := s.twin.joinsBad + 1, twin.retry := prmB s P.TWIN_AUTO_REJOIN } := by
  obtain ⟨v, h⟩ := endJoin_joiner hj hjoiner hdeferred
  rw [h]
  exact ((logDevice_only ..).keeps π (hl _)).trans (sendSeq_keeps π _ _ _ hs)

theorem exec_joinAlignmentTimeout {j : Join} {s : State} (hj : s.twin.join = some j) (hjoiner : j.joiner = true) (hphase : j.phase < 4) :
    exec .joinAlignmentTimeout s = .next (setTwin 6 false (endJoin s)) := by
  show execJoinAlignmentTimeout s = _
  simp only [execJoinAlignmentTimeout, failJoin, hj, hjoiner, hphase, decide_true, Bool.and_true, if_true]

theorem exec_joinAlignmentTimeout_spec {j : Join} {s : State} (hj : s.twin.join = some j) (hjoiner : j.joiner = true) (hphase : j.phase < 4) (hdeferred : s.sys.deferred = []) :
    ∃ t, exec .joinAlignmentTimeout s = .next t ∧ t.twin.state = 6 ∧
    t.twin.join = none ∧ t.twin.joinsBad = s.twin.joinsBad + 1 ∧ t.twin.retry = prmB s P.TWIN_AUTO_REJOIN ∧ t.mem = s.mem :=
  ⟨_, exec_joinAlignmentTimeout hj hjoiner hphase, (setTwin_clockOnly 6 false _).keeps (fun t => t.twin.state),
    (setTwin_keeps (fun t => t.twin.join) ..).trans (endJoin_keeps (fun t => t.twin.join) hj hjoiner hdeferred),
    (setTwin_keeps (fun t => t.twin.joinsBad) ..).trans (endJoin_keeps (fun t => t.twin.joinsBad) hj hjoiner hdeferred),
    (setTwin_keeps (fun t => t.twin.retry) ..).trans (endJoin_keeps (fun t => t.twin.retry) hj hjoiner hdeferred),
    (setTwin_keeps State.mem ..).trans (endJoin_keeps State.mem hj hjoiner hdeferred)⟩

/-- Settles O55: each message of the join in order, its items one by one, then captures, retries and time-outs. -/
theorem joiningThePair : Obligations.JoiningThePair := by
  unfold Obligations.JoiningThePair
  refine ⟨fun m s items a b hlink h => exec_join_outOfOrder hlink h items a b, ?request, ?data, ?idle, ?done,
    fun cs j s hj hjoiner hphase hlocked hnear hevery => exec_joinAlignment_near hj hjoiner hphase hlocked hnear hevery, fun cs s h => exec_joinAlignment_far h, ?capture, ?unlocked, ?alone,
    ?retry, fun s h => exec_joinRetry_not h, fun j s hj hjoiner hphase hdeferred _ => exec_joinAlignmentTimeout_spec hj hjoiner hphase hdeferred, ?quiet⟩
  case request =>
    intro m s h
    refine ⟨fun hclaim hcinch hsame => ⟨servingJoin (s.received m), ?_, rfl, rfl, rfl, rfl⟩, fun c hclaim hcinch hsame => ?_, fun hclaim hstate => ?_, fun hclaim hstate => ?_⟩
    · rw [exec_joinReq h, if_pos hclaim, serveJoin_free hsame hcinch]
    · rw [exec_joinReq h, if_pos hclaim, serveJoin_pending hsame hcinch]
    · rw [exec_joinReq h, if_neg (by rw [hclaim]; decide), if_neg hstate]
    · rw [exec_joinReq h, if_neg (by rw [hclaim]; decide), if_pos hstate]
  case data =>
    intro m j s h hj hjoiner
    have hone (i : JoinItem) {t : State} (ht : joinItem i (s.received m) = t) : exec (.joinData m [i]) s = .next (serveAll t) := by
      rw [exec_joinData h, ← ht]
      rfl
    refine ⟨fun id v => hone _ (joinItem_joiner hj hjoiner _), fun e he => hone _ ((joinItem_joiner hj hjoiner _).trans (if_pos he)), fun p line => hone _ (joinItem_joiner hj hjoiner _),
      fun f seq first => hone _ (joinItem_joiner hj hjoiner _), fun c x hlate => hone _ ((joinItem_joiner hj hjoiner _).trans (if_neg (by rw [hlate]; decide))),
      fun profs objs next lists hlate hdeferred hown => exec_joinData_stitchedState h hj hjoiner hlate hdeferred hown⟩
  case idle =>
    intro m items s h hj
    rw [exec_joinData h, forEach_joinItem_none hj]
  case done =>
    intro m st d j s h hj hjoiner hclaim
    refine ⟨fun hst => ⟨raiseOpen 370 { s.received m with twin.join := none, twin.joinsOk := (s.received m).twin.joinsOk + 1, twin.state := 3, twin.unhealthyPeer := false },
      ?_, rfl, rfl, rfl, rfl, rfl⟩, fun hst => ?_⟩
    · rw [exec_joinDone_served h hj hjoiner hclaim, if_neg (not_not.mpr hst)]
    rw [exec_joinDone_served h hj hjoiner hclaim, if_pos hst, failJoin_active hj hjoiner]
  case capture =>
    intro stitched j s hj hjoiner hlocked
    have hrun : exec (.joinCapture stitched) s = .next (sendSnapshot (if stitched = true then stitchedItems s else portItems s)
        { s with twin.join := some (if stitched = true then { j with lineCap := true } else { j with caps := List.range 16 }) }) := by
      rw [exec_joinCapture hj hjoiner]
      cases stitched with
      | true => rfl
      | false => exact congrArg Host.Outcome.next (if_neg (not_not.mpr (hlocked.resolve_left (by decide))))
    exact ⟨_, hrun, rfl, sendSnapshot_keeps (fun t => t.twin.join) .., sendSnapshot_keeps State.ports .., sendSnapshot_keeps (fun t => t.twin.state) ..⟩
  case unlocked =>
    intro j s hj hjoiner hlocked
    rw [exec_joinCapture hj hjoiner]
    exact congrArg Host.Outcome.next (if_pos hlocked)
  case alone =>
    intro stitched s hj
    show execJoinCapture stitched s = _
    simp only [execJoinCapture, hj]
  case retry =>
    intro s hretry hauto hclaim hstate hlink hpeer hsame
    exact ⟨_, exec_joinRetry hretry hauto hclaim hstate hlink hpeer hsame, sendSeq_keeps (fun t => t.twin.state) .., sendSeq_keeps (fun t => t.twin.join) ..,
      sendSeq_keeps (fun t => t.twin.own) .., sendSeq_keeps (fun t => t.twin.theirs) .., sendSeq_keeps (fun t => t.twin.stamps) .., sendSeq_keeps (fun t => t.twin.retry) ..,
      sendSeq_keeps State.sys ..⟩
  case quiet =>
    intro s hj
    show execJoinAlignmentTimeout s = _
    simp only [execJoinAlignmentTimeout, hj]

end Sys2Proof.Machine
end
